-- ==== Sys2Proof/Word.lean ====
section
/-! DEFINITION. The word and byte types of the hub, and the plainest arithmetic on them
(spec 00, R6 to R9). -/

namespace Sys2Proof

/-- A 32-bit word: four bytes, least significant byte first (R7, R8). -/
abbrev Word := BitVec 32

/-- One byte. -/
abbrev Byte := BitVec 8

end Sys2Proof
end

