-- ==== Sys2Proof/Machine/Types.lean ====
section
/-! DEFINITION. The packet and frame records that commands carry and queues hold. -/

namespace Sys2Proof.Machine

/-- A command packet as the port receiver read it (R61): opcode, tag, the REPLY and CHAIN flags, the
HOST field, whether a reserved flag bit was set, the port that carried it (0 HP0, 1 HP1) and the
parameter words. -/
structure Pkt where
  op : Nat
  tag : Nat
  reply : Bool
  chain : Bool
  hostField : Nat
  rsvd : Bool
  port : Nat
  params : List Word
  deriving DecidableEq, Repr

/-- A reply packet before it is laid out in bytes (R62). -/
structure Reply where
  op : Nat
  tag : Nat
  status : Nat
  isAsync : Bool
  chainAbort : Bool
  host : Nat
  logged : Bool
  port : Bool
  words : List Word
  deriving DecidableEq, Repr

/-- One call of an opcode: the host, the port that carried it, its tag, the REPLY flag, the place `f` in the tick of the grants the call makes
(units of 0.25 ns before the next tick, R342), and the parameter words. -/
structure Call where
  host : Nat
  port : Nat
  tag : Nat
  reply : Bool
  f : Nat
  params : List Word
  deriving DecidableEq, Repr

end Sys2Proof.Machine
end

