-- ==== Sys2Proof/Syntax.lean ====
section
/-! DEFINITION. The commands the hub takes: one constructor for each row of spec/opcode_table.json,
in the table's order. An opcode's operand is the call Salter serves (R64); every other command
carries what the outside supplies at that step. -/

namespace Sys2Proof

open Sys2Proof.Machine (Call)

/-- One command. -/
inductive Instr where
  /-- PKT_WRITE (R64): a packet write: port 0 is HP0 with the command byte `op` and the select of `host`, port 1 is HP1; the bytes that follow. -/
  | pktWrite (port host op : Nat) (bytes : List Nat)
  /-- PKT_READ (R60): a packet read of `len` bytes. -/
  | pktRead (port host len : Nat)
  /-- QUEUE_STATUS (R57): HP0 operation 3. -/
  | queueStatus (host : Nat)
  /-- MEM_READ (R58): HP0 operation 4, `len` bytes clocked; f is the place in the tick. -/
  | memRead (host addr len f : Nat)
  /-- MEM_WRITE (R546): HP0 operation 5. -/
  | memWrite (host addr : Nat) (bytes : List Nat) (f : Nat)
  /-- SALTER_TAKE_PACKET (R600): Salter serves the next host's queue. -/
  | salterTakePacket (f : Nat)
  /-- CHAIN_TIMEOUT (R77): 10 ms without the rest of a chain. -/
  | chainTimeout (host : Nat)
  /-- SYS_NOP (R83): the opcode SYS_NOP. -/
  | sysNop (c : Call)
  /-- SYS_IDENT (R84): the opcode SYS_IDENT. -/
  | sysIdent (c : Call)
  /-- SYS_SESSION_OPEN (R85): the opcode SYS_SESSION_OPEN. -/
  | sysSessionOpen (c : Call)
  /-- SYS_SESSION_CLOSE (R86): the opcode SYS_SESSION_CLOSE. -/
  | sysSessionClose (c : Call)
  /-- REG_READ (R88): the opcode REG_READ. -/
  | regRead (c : Call)
  /-- REG_WRITE (R88): the opcode REG_WRITE. -/
  | regWrite (c : Call)
  /-- SET_HOST_SLEEP (R89): the opcode SET_HOST_SLEEP. -/
  | setHostSleep (c : Call)
  /-- SYS_FLOOR (R90): the opcode SYS_FLOOR. -/
  | sysFloor (c : Call)
  /-- SYS_SHUTDOWN (R91): the opcode SYS_SHUTDOWN. -/
  | sysShutdown (c : Call)
  /-- SHUTDOWN_ENTRY (R91): the hub enters SHUTDOWN after the reply was read. -/
  | shutdownEntry
  /-- SYS_RESET (R92): the opcode SYS_RESET. -/
  | sysReset (c : Call)
  /-- HOST_RESET (R92): the reset that SYS_RESET scheduled. -/
  | hostReset (bootsel : Bool)
  /-- CFG_COMMIT (R93): the opcode CFG_COMMIT. -/
  | cfgCommit (c : Call)
  /-- SNAPSHOT (R561): the opcode SNAPSHOT. -/
  | snapshot (c : Call)
  /-- SYS_STATUS (R95): the opcode SYS_STATUS. -/
  | sysStatus (c : Call)
  /-- CHAN_READ (R132): the opcode CHAN_READ. -/
  | chanRead (c : Call)
  /-- CHAN_WRITE (R117): the opcode CHAN_WRITE. -/
  | chanWrite (c : Call)
  /-- CHAN_COMMIT (R119): the opcode CHAN_COMMIT. -/
  | chanCommit (c : Call)
  /-- CHAN_START (R126): the opcode CHAN_START. -/
  | chanStart (c : Call)
  /-- CHAN_STOP (R126): the opcode CHAN_STOP. -/
  | chanStop (c : Call)
  /-- CHAN_STATUS (R133): the opcode CHAN_STATUS. -/
  | chanStatus (c : Call)
  /-- DESCRIPTOR_APPLY (R119): the channel reaches its boundary. -/
  | descriptorApply (chan : Nat)
  /-- STREAMED_BOUNDARY_TIMEOUT (R112): 10 ms have passed without a boundary. -/
  | streamedBoundaryTimeout (chan : Nat)
  /-- SCRIPT_WRITE (R177): the opcode SCRIPT_WRITE. -/
  | scriptWrite (c : Call)
  /-- SCRIPT_READ (R177): the opcode SCRIPT_READ. -/
  | scriptRead (c : Call)
  /-- PORT_STATUS (R178): the opcode PORT_STATUS. -/
  | portStatus (c : Call)
  /-- TABLE_WINDOW_WRITE (R116): a write to the Channel Table window. -/
  | tableWindowWrite (host addr : Nat) (bytes : List Nat)
  /-- SCRIPT_WINDOW_WRITE (R159): a write to the script window. -/
  | scriptWindowWrite (host addr : Nat) (bytes : List Nat)
  /-- SEED_WINDOW_WRITE (R235): a write to the seed array or the template memory. -/
  | seedWindowWrite (host addr : Nat) (bytes : List Nat)
  /-- ACQUISITION_START (R158): a poll grid instant of the channel, or its trigger with the LATE and GAP it passes on. -/
  | acquisitionStart (chan : Nat) (late gap : Bool)
  /-- TRANSACTION_START (R160): the port starts its next transaction; sda is the number of SCL pulses bus recovery needed, 0 for none, 10 where it failed. -/
  | transactionStart (port f : Nat) (sda : Nat)
  /-- ATTEMPT_END (R163): the attempt ends with the R164 cause (0 success), the bytes read and, after PARITY or SHORT_READ, the GETSTATUS result plus 65,536, or 0 for a NACK. -/
  | attemptEnd (port cause : Nat) (bytes : List Nat) (aux : Nat)
  /-- RETRY_GAP (R163): the retry gap ends. -/
  | retryGap (port : Nat)
  /-- POST_DELAY (R160): the post delay ends. -/
  | postDelay (port : Nat)
  /-- BUS_WAIT_TIMEOUT (R144): a waiting acquisition has waited its limit. -/
  | busWaitTimeout (port : Nat)
  /-- FOREIGN_SELECT_ASSERT (R146): the foreign select input is asserted. -/
  | foreignSelectAssert (port : Nat)
  /-- FOREIGN_SELECT_RELEASE (R144): the foreign select input is released. -/
  | foreignSelectRelease (port : Nat)
  /-- BUS_FREE (R144): the bus-free time has passed. -/
  | busFree (port : Nat)
  /-- TARGET_FRAME (R148): the release of select line ends a target-role frame of whole bytes and `bits` more bits. -/
  | targetFrame (port line f : Nat) (bytes : List Nat) (bits : Nat)
  /-- BUS_INITIALISATION (R170): bus initialisation ends; found holds, for each table entry, 0 or 1 plus the BCR, DCR and PID of the target that answered for it. -/
  | busInitialisation (port : Nat) (found : List Nat)
  /-- IBI (R172): an in-band interrupt with its payload. -/
  | ibi (port addr f : Nat) (bytes : List Nat)
  /-- HOT_JOIN (R171): a hot join request; found holds BCR, DCR and PID of each target that asks for an address. -/
  | hotJoin (port : Nat) (found : List Nat)
  /-- STRETCH (R174): SCL held low beyond the limit. -/
  | stretch (port : Nat)
  /-- STREAM_WATCHDOG (R127): the watchdog period of a STREAMED channel ends. -/
  | streamWatchdog (chan : Nat)
  /-- REMOTE_PERIOD_END (R416): an output period of a REMOTE channel ends. -/
  | remotePeriodEnd (chan : Nat)
  /-- EVENT_PIN_EDGE (R512): an edge on an event pin. -/
  | eventPinEdge (pin f : Nat) (rise : Bool)
  /-- COMPOSE_STAMP (R345): Salter composes the stamp of the latch's oldest stage. -/
  | composeStamp (latch : Nat)
  /-- PRE_STAGE_OUTPUT (R214): the bits of one pre-stage output, each with the differential input in nV at it, and the voltage of the excitation output named as REF, in nV. -/
  | preStageOutput (input f : Nat) (bits : List (Nat × Int)) (exc : Nat)
  /-- AFE_BLANK_END (R196): the start blank of a PDM or AIN input ends. -/
  | afeBlankEnd (input : Nat)
  /-- EXC_LIMIT (R188): an excitation output limits its current. -/
  | excLimit (exc : Nat)
  /-- EXC_SETTLED (R187): an excitation output has settled; 4 is the reference. -/
  | excSettled (exc : Nat)
  /-- ENGINE_UNIT (R204): the Tower engine completes one input unit. -/
  | engineUnit
  /-- OUTPUT_HANDOFF (R17): the oldest output leaves the Tower's output port. -/
  | outputHandoff
  /-- CRYSTALLISER_OUTPUT (R246): the Crystalliser processes its oldest output. -/
  | crystalliserOutput
  /-- SEED_CRC_CHECK (R258): the background check of one seed. -/
  | seedCrcCheck (seed : Nat)
  /-- SEED_WRITE (R263): the opcode SEED_WRITE. -/
  | seedWrite (c : Call)
  /-- SEED_READ (R263): the opcode SEED_READ. -/
  | seedRead (c : Call)
  /-- SEED_ARM (R264): the opcode SEED_ARM. -/
  | seedArm (c : Call)
  /-- SEED_DISARM (R256): the opcode SEED_DISARM. -/
  | seedDisarm (c : Call)
  /-- SEED_RESET (R256): the opcode SEED_RESET. -/
  | seedReset (c : Call)
  /-- TPL_WRITE (R263): the opcode TPL_WRITE. -/
  | tplWrite (c : Call)
  /-- SVC_CONFIG (R273): the opcode SVC_CONFIG. -/
  | svcConfig (c : Call)
  /-- SVC_STATUS (R295): the opcode SVC_STATUS. -/
  | svcStatus (c : Call)
  /-- SERVICE_INPUT (R291): the second core processes the oldest service input. -/
  | serviceInput
  /-- TREND_PERIOD_END (R280): an hour or day period of TREND ends. -/
  | trendPeriodEnd (chan : Nat) (day : Bool)
  /-- WAKE_REQUEST (R289): the WAKE service takes the oldest wake request. -/
  | wakeRequest
  /-- WAKE_GAP_END (R289): GAP after a wake pulse ends. -/
  | wakeGapEnd (host : Nat)
  /-- WAKE_LIMIT_HOUR (R289): a TB0 hour ends. -/
  | wakeLimitHour (host : Nat)
  /-- PAN_COMMIT (R311): the Pan writer commits the oldest item. -/
  | panCommit
  /-- TIDE_INTERVAL (R307): TB0 reaches a multiple of the tide interval. -/
  | tideInterval
  /-- PAN_STREAM_CFG (R330): the opcode PAN_STREAM_CFG. -/
  | panStreamCfg (c : Call)
  /-- HARVEST (R331): the opcode HARVEST. -/
  | harvest (c : Call)
  /-- PAN_MARK (R323): the opcode PAN_MARK. -/
  | panMark (c : Call)
  /-- PAN_REWIND (R323): the opcode PAN_REWIND. -/
  | panRewind (c : Call)
  /-- PAN_FLUSH (R333): the opcode PAN_FLUSH. -/
  | panFlush (c : Call)
  /-- PAN_STATUS (R334): the opcode PAN_STATUS. -/
  | panStatus (c : Call)
  /-- DROP_PACKET (R313): a host writes 1 to DROP_PACKET. -/
  | dropPacket (host : Nat)
  /-- PAN_RP_WRITE (R320): a host writes PAN_RPn. -/
  | panRpWrite (host stream value : Nat)
  /-- TB_READ (R366): the opcode TB_READ. -/
  | tbRead (c : Call)
  /-- TB_SET (R367): the opcode TB_SET. -/
  | tbSet (c : Call)
  /-- TB_RESTEP (R354): the opcode TB_RESTEP. -/
  | tbRestep (c : Call)
  /-- TB_ASSIGN (R371): the opcode TB_ASSIGN. -/
  | tbAssign (c : Call)
  /-- TB_VAL_READ (R369): a host reads TB_VALn. -/
  | tbValRead (host tb f : Nat)
  /-- CAPTURE (R369): a host writes the capture command. -/
  | capture (host f : Nat)
  /-- CAPTURE_GROUP_READ (R555): a host reads a register of a capture group. -/
  | captureGroupRead (host addr : Nat)
  /-- CAPTURE_GROUP_TIMEOUT (R555): 100 us have passed since a capture group opened for the host (0 timebases, 1 snapshot, 2 + n timer n). -/
  | captureGroupTimeout (group : Nat) (host : Nat)
  /-- SYNC (R361): a time message SYNC received. -/
  | sync (link f : Nat) (words : List Word)
  /-- PDELAY_REQ (R359): a PDELAY_REQ received. -/
  | pdelayReq (link f : Nat) (words : List Word)
  /-- PDELAY_RESP (R360): a PDELAY_RESP received. -/
  | pdelayResp (link f : Nat) (words : List Word)
  /-- PDELAY_TIMEOUT (R360): no response in time. -/
  | pdelayTimeout (link : Nat)
  /-- DELAY_REQ (R359): a DELAY_REQ received by radio. -/
  | delayReq (f : Nat) (words : List Word)
  /-- DELAY_RESP (R362): a DELAY_RESP received by radio. -/
  | delayResp (words : List Word)
  /-- DELAY_RESP_TIMEOUT (R362): no response in time. -/
  | delayRespTimeout
  /-- SYNC_SEND (R359): the LEADER sends a SYNC. -/
  | syncSend (link f : Nat)
  /-- PDELAY_SEND (R359): the hub sends a PDELAY_REQ. -/
  | pdelaySend (link f : Nat)
  /-- LOSS_TIMEOUT (R351): no accepted measurement for the loss time. -/
  | lossTimeout (tb : Nat)
  /-- LN_WRITE (R376): the opcode LN_WRITE. -/
  | lnWrite (c : Call)
  /-- LN_CANCEL (R390): the opcode LN_CANCEL. -/
  | lnCancel (c : Call)
  /-- LN_START (R377): a start of the entry, by a seed or a task. -/
  | lnStart (entry : Nat)
  /-- LAUNCH_FIRING (R378): T_k of the entry is reached. -/
  | launchFiring (entry : Nat)
  /-- PIN_PULSE_END (R380): the oldest pulse on the pin ends. -/
  | pinPulseEnd (pin : Nat)
  /-- TM_WRITE (R391): the opcode TM_WRITE. -/
  | tmWrite (c : Call)
  /-- TIMER_START (R385): a host writes START to TM_CTLn. -/
  | timerStart (host timer f : Nat)
  /-- TIMER_RESET (R385): a host writes RESET to TM_CTLn. -/
  | timerReset (host timer f : Nat)
  /-- TIMER_CAPTURE (R388): a host writes CAPTURE to TM_CTLn. -/
  | timerCapture (host timer f : Nat)
  /-- TM_CNT_WRITE (R387): a host writes TM_CNTn. -/
  | tmCntWrite (host timer : Nat) (value : Word) (f : Nat)
  /-- TIMER_MATCH (R384): the count reaches MATCH. -/
  | timerMatch (timer : Nat)
  /-- TIMER_END (R384): the count reaches END. -/
  | timerEnd (timer : Nat)
  /-- CAL_SET (R506): the opcode CAL_SET. -/
  | calSet (c : Call)
  /-- CAL_ALARM (R506): the opcode CAL_ALARM. -/
  | calAlarm (c : Call)
  /-- CALENDAR_SECOND (R504): the next calendar second begins. -/
  | calendarSecond
  /-- PLN_MODE (R472): the opcode PLN_MODE. -/
  | plnMode (c : Call)
  /-- PLN_BUDGET (R472): the opcode PLN_BUDGET. -/
  | plnBudget (c : Call)
  /-- PLN_REPORT (R473): the opcode PLN_REPORT. -/
  | plnReport (c : Call)
  /-- LDG_READ (R474): the opcode LDG_READ. -/
  | ldgRead (c : Call)
  /-- LDG_STORE_WRITE (R451): a host writes LDG_STORE. -/
  | ldgStoreWrite (host : Nat) (lo hi : Word)
  /-- STROKE (R443): the converter of a domain makes strokes. -/
  | stroke (dom count : Nat)
  /-- VBAT_MEASUREMENT (R444): the Ledger measures VBAT. -/
  | vbatMeasurement (mv : Nat)
  /-- LEDGER_RECALIBRATION (R445): the recalibration of all domains with the charge in fC of each. -/
  | ledgerRecalibration (charges : List Nat)
  /-- EPOCH_BOUNDARY (R454): a planning epoch boundary. -/
  | epochBoundary
  /-- OVERSPEND_TRIP (R466): the overspend comparator trips. -/
  | overspendTrip
  /-- RESERVE_TRIP (R469): the reserve comparator trips. -/
  | reserveTrip
  /-- RAIL_SLEW_DONE (R30): a rail slew ends. -/
  | railSlewDone (dom : Nat)
  /-- DESCENT (R38): the hub descends to DOZE or STANDBY. -/
  | descent (floor : Nat)
  /-- WAKE_COMPARATOR (R41): TB0 reaches the wake comparator. -/
  | wakeComparator
  /-- FLOOR_WAKE (R479): a wake source brings the hub to ACTIVE. -/
  | floorWake (source : Nat)
  /-- HSLEEP_EDGE (R54): the HSLEEPn pin changes. -/
  | hsleepEdge (host : Nat) (asleep : Bool)
  /-- LEGUS_WAKE (R479): signal on a link wakes the hub. -/
  | legusWake (link : Nat)
  /-- SHUTDOWN_WAKE (R43): an edge on EV0 in SHUTDOWN, with the level after it. -/
  | shutdownWake (level bootsel : Bool)
  /-- POWER_ON (R481): VBAT rises from 0. -/
  | powerOn (bootsel : Bool)
  /-- BROWNOUT (R481): VBAT falls below the brownout threshold. -/
  | brownout (bootsel : Bool)
  /-- PIN (R481): NRST is released after a reset by the pin. -/
  | pin (bootsel : Bool)
  /-- WATCHDOG (R482): a Salter core made no progress for 100 ms. -/
  | watchdog (core : Nat) (bootsel : Bool)
  /-- COLD_BOOT (R484): the boot completes, with the calibrated stroke charge of each domain in fC and the voltage of each I/O bank in mV. -/
  | coldBoot (charges banks : List Nat)
  /-- BROWNOUT_WARNING (R499): VBAT falls below the warning threshold. -/
  | brownoutWarning
  /-- LIFETIME_WRITE (R497): the scheduled write of the lifetime record begins. -/
  | lifetimeWrite
  /-- LIFETIME_WRITE_DONE (R499): the write of the lifetime record ends. -/
  | lifetimeWriteDone
  /-- LIFE_READ (R507): the opcode LIFE_READ. -/
  | lifeRead (c : Call)
  /-- NVS_CFG_SAVE (R494): the opcode NVS_CFG_SAVE. -/
  | nvsCfgSave (c : Call)
  /-- NVS_CFG_SAVE_COMPLETION (R494): the image is written. -/
  | nvsCfgSaveCompletion
  /-- NVS_CFG_SELECT (R494): the opcode NVS_CFG_SELECT. -/
  | nvsCfgSelect (c : Call)
  /-- FW_BEGIN (R488): the opcode FW_BEGIN. -/
  | fwBegin (c : Call)
  /-- FW_DATA (R488): the opcode FW_DATA. -/
  | fwData (c : Call)
  /-- FW_VERIFY (R489): the opcode FW_VERIFY. -/
  | fwVerify (c : Call)
  /-- FW_VERIFY_COMPLETION (R489): the verification ends. -/
  | fwVerifyCompletion
  /-- PROVISION (R491): the opcode PROVISION. -/
  | provision (c : Call)
  /-- KEY_LOAD (R492): the opcode KEY_LOAD. -/
  | keyLoad (c : Call)
  /-- SLT_ROLE (R417): the opcode SLT_ROLE. -/
  | sltRole (c : Call)
  /-- SLT_VIEW (R418): the opcode SLT_VIEW. -/
  | sltView (c : Call)
  /-- SLT_EXPECT (R417): the opcode SLT_EXPECT. -/
  | sltExpect (c : Call)
  /-- SLT_REJOIN (R419): the opcode SLT_REJOIN. -/
  | sltRejoin (c : Call)
  /-- SLT_REJOIN_COMPLETION (R419): an outstanding SLT_REJOIN ends without a LEADER. -/
  | sltRejoinCompletion
  /-- LEG_STATUS (R419): the opcode LEG_STATUS. -/
  | legStatus (c : Call)
  /-- LEGUS_FRAME (R399): a frame received on a link: the bytes of its header and payload, those of its CRC, and whether it ended with ABORT. -/
  | legusFrame (link f : Nat) (bytes crc : List Nat) (abort : Bool)
  /-- ANNOUNCE (R406): an ANNOUNCE accepted by a path (0, 1 a link, 2 the radio), with SRC and VIEW of its frame (R397); by radio there is no VIEW. -/
  | announce (path : Nat) (head : Nat × Nat) (words : List Word)
  /-- VIEW (R405): a VIEW accepted. -/
  | view (path src : Nat) (words : List Word)
  /-- SAMPLES (R416): a SAMPLES frame accepted. -/
  | samples (path src : Nat) (words : List Word)
  /-- ANNOUNCE_INTERVAL (R398): the announce interval elapses. -/
  | announceInterval (f : Nat)
  /-- VIEW_TIMEOUT (R405): no VIEW for 3 intervals. -/
  | viewTimeout
  /-- MEMBER_TIMEOUT (R406): no ANNOUNCE of a member for 3 intervals. -/
  | memberTimeout (hub : Nat)
  /-- SAMPLES_BATCH (R415): the batch time elapses. -/
  | samplesBatch
  /-- LINK_UP (R395): 64 valid symbols. -/
  | linkUp (link : Nat)
  /-- LINK_DOWN (R395): code violations or silence. -/
  | linkDown (link : Nat)
  /-- RF_CONFIG (R438): the opcode RF_CONFIG. -/
  | rfConfig (c : Call)
  /-- RF_TX (R439): the opcode RF_TX. -/
  | rfTx (c : Call)
  /-- RF_TX_COMPLETION (R439): the transmit ends. -/
  | rfTxCompletion (result : Nat)
  /-- RF_RX (R438): the opcode RF_RX. -/
  | rfRx (c : Call)
  /-- RF_CAL (R434): the opcode RF_CAL. -/
  | rfCal (c : Call)
  /-- RF_CAL_COMPLETION (R434): the outstanding RF_CAL ends. -/
  | rfCalCompletion
  /-- RF_STATUS (R439): the opcode RF_STATUS. -/
  | rfStatus (c : Call)
  /-- RADIO_FRAME (R431): a frame received by the radio: its bytes, and those of its FCS or CRC. -/
  | radioFrame (f : Nat) (bytes crc : List Nat) (rssi lqi : Nat)
  /-- IMM_ACK (R423): the hub sends the Imm-Ack that it owes. -/
  | immAck
  /-- ACK_WAIT_EXPIRY (R423): 864 us pass without an Imm-Ack. -/
  | ackWaitExpiry
  /-- XO_START (R433): the crystal is stable. -/
  | xoStart
  /-- SYNTH_LOCK (R433): the synthesiser locks. -/
  | synthLock
  /-- RADIO_CALIBRATION (R434): a calibration that a temperature change asks for starts (none), or one ends, passed or failed. -/
  | radioCalibration (kind : Nat) (ended : Option Bool) (value : Nat)
  /-- TX_WAIT (R435): TX_WAIT passes for the oldest waiting transmit. -/
  | txWait
  /-- LAUNCHED_TX_SYNTH (R436): 62 us before T_k of a RADIO_TX launch, with a frame being received or not. -/
  | launchedTxSynth (entry : Nat) (receiving : Bool)
  /-- LATE_TX (R436): the synthesiser is not locked 2 us before T_k. -/
  | lateTx
  /-- TX_DONE (R433): the last chip is sent. -/
  | txDone
  /-- RX_WINDOW (R438): a receive window opens or closes. -/
  | rxWindow (start : Bool)
  /-- SLUICE_EVENT (R515): the oldest event is granted at the sluice arbiter. -/
  | sluiceEvent
  /-- FILTER_EXPIRY (R516): the filter time of a sluice ends. -/
  | filterExpiry (sluice : Nat)
  /-- SL_FIRE (R518): a host writes SL_FIRE. -/
  | slFire (host sluice : Nat)
  /-- IC_ACK_READ (R532): a host reads IC_ACKh of a target. -/
  | icAckRead (host target : Nat)
  /-- IC_EOI_WRITE (R533): a host writes IC_EOIh. -/
  | icEoiWrite (host target vector : Nat)
  /-- DOORBELL (R529): a host writes IC_DBELLh of a target. -/
  | doorbell (host target value : Nat)
  /-- IBI_REPEAT (R531): HP1 repeats its in-band interrupt. -/
  | ibiRepeat
  /-- FALLBACK (R538): FB_TIMEOUT passes after the wake pulse of a shared source. -/
  | fallback (source : Nat)
  /-- WAKE_PULSE_END (R537): a wake pulse ends. -/
  | wakePulseEnd (target : Nat)
  /-- LOG_READ (R574): the opcode LOG_READ. -/
  | logRead (c : Call)
  /-- LOG_CLEAR (R568): the opcode LOG_CLEAR. -/
  | logClear (c : Call)
  /-- FENCE (R563): the opcode FENCE. -/
  | fence (c : Call)
  /-- UNFENCE (R566): the opcode UNFENCE. -/
  | unfence (c : Call)
  /-- FENCE_STATUS (R574): the opcode FENCE_STATUS. -/
  | fenceStatus (c : Call)
  /-- FENCE_TIMEOUT (R572): a fence is not complete in time. -/
  | fenceTimeout (sel : Nat)
  /-- CHECK_PASS (R557): the configuration check completes a pass. -/
  | checkPass
  /-- PD0_FAULT (R572): an error in PD0 with its fault code, and whether the log passes its own check. -/
  | pd0Fault (code : Nat) (logOk bootsel : Bool)
  /-- SNAP (R561): a host writes the snapshot command. -/
  | snap (host : Nat)
  /-- REGISTER_WRITE (R550): a host writes a register. -/
  | registerWrite (host addr : Nat) (value : Word)
  /-- BLOCK_BOUNDARY_APPLY (R550): the register's block reaches its boundary. -/
  | blockBoundaryApply (addr : Nat)
  /-- CRYSTAL_TICK (R339): the next tick of the 32.768 kHz crystal, with the sense voltages in units of 1 uV. -/
  | crystalTick (sns0 sns1 : Int)
  /-- BROWNOUT_RECOVERY (R499): VBAT rises above the warning threshold. -/
  | brownoutRecovery
  /-- EXC_LIMIT_END (R188): an excitation output ends limiting. -/
  | excLimitEnd (exc : Nat)
  deriving DecidableEq, Repr

end Sys2Proof
end

