-- ==== Sys2Proof/WellFormed.lean ====
section
/-! DEFINITION. Which commands are well formed: every number is one that the outside can supply. A
meaning is total: on an ill-formed command it does nothing or reads the reset value of a table. -/

namespace Sys2Proof

open Sys2Proof.Machine (Call)

/-- Every element is a byte. -/
def wfBytes (l : List Nat) : Bool := l.all (fun b => decide (b < 256))

/-- A call: host, port, an 8-bit tag, a place in the tick, at most 63 parameter words (R61). -/
def wfCall (c : Call) : Bool :=
  decide (c.host < 4) && decide (c.port < 2) && decide (c.tag < 256) && decide (c.f < 122072) && decide (c.params.length < 64)

/-- Is the command well formed? -/
def Instr.wellFormed : Instr → Bool
  | .pktWrite port host op bytes => decide (port < 2) && decide (host < 4) && decide (op < 256) && wfBytes bytes
  | .pktRead port host _ => decide (port < 2) && decide (host < 4)
  | .queueStatus host => decide (host < 4)
  | .memRead host _ _ f => decide (host < 4) && decide (f < 122072)
  | .memWrite host _ bytes f => decide (host < 4) && wfBytes bytes && decide (f < 122072)
  | .salterTakePacket f => decide (f < 122072)
  | .chainTimeout host => decide (host < 4)
  | .sysNop c => wfCall c
  | .sysIdent c => wfCall c
  | .sysSessionOpen c => wfCall c
  | .sysSessionClose c => wfCall c
  | .regRead c => wfCall c
  | .regWrite c => wfCall c
  | .setHostSleep c => wfCall c
  | .sysFloor c => wfCall c
  | .sysShutdown c => wfCall c
  | .shutdownEntry => true
  | .sysReset c => wfCall c
  | .hostReset _ => true
  | .cfgCommit c => wfCall c
  | .snapshot c => wfCall c
  | .sysStatus c => wfCall c
  | .chanRead c => wfCall c
  | .chanWrite c => wfCall c
  | .chanCommit c => wfCall c
  | .chanStart c => wfCall c
  | .chanStop c => wfCall c
  | .chanStatus c => wfCall c
  | .descriptorApply chan => decide (chan < 192)
  | .streamedBoundaryTimeout chan => decide (chan < 192)
  | .scriptWrite c => wfCall c
  | .scriptRead c => wfCall c
  | .portStatus c => wfCall c
  | .tableWindowWrite host _ bytes => decide (host < 4) && wfBytes bytes
  | .scriptWindowWrite host _ bytes => decide (host < 4) && wfBytes bytes
  | .seedWindowWrite host _ bytes => decide (host < 4) && wfBytes bytes
  | .acquisitionStart chan _ _ => decide (chan < 192)
  | .transactionStart port f _ => decide (port < 18) && decide (f < 122072)
  | .attemptEnd port cause bytes _ => decide (port < 18) && decide (cause < 12) && wfBytes bytes
  | .retryGap port => decide (port < 18)
  | .postDelay port => decide (port < 18)
  | .busWaitTimeout port => decide (port < 18)
  | .foreignSelectAssert port => decide (port < 12)
  | .foreignSelectRelease port => decide (port < 12)
  | .busFree port => decide (port < 12)
  | .targetFrame port line f bytes bits => decide (port < 12) && decide (line < 4) && decide (f < 122072) && wfBytes bytes && decide (bits < 8)
  | .busInitialisation port _ => decide (port < 18)
  | .ibi port addr f bytes => decide (port < 18) && decide (addr < 128) && decide (f < 122072) && wfBytes bytes
  | .hotJoin port _ => decide (port < 18)
  | .stretch port => decide (port < 18)
  | .streamWatchdog chan => decide (chan < 192)
  | .remotePeriodEnd chan => decide (chan < 192)
  | .eventPinEdge pinNo f _ => decide (pinNo < 32) && decide (f < 122072)
  | .composeStamp latch => decide (latch < 81)
  | .preStageOutput input f _ _ => decide (input < 24) && decide (f < 122072)
  | .afeBlankEnd input => decide (input < 24)
  | .excLimit exc => decide (exc < 4)
  | .excSettled exc => decide (exc < 5)
  | .engineUnit => true
  | .outputHandoff => true
  | .crystalliserOutput => true
  | .seedCrcCheck seed => decide (seed < 64)
  | .seedWrite c => wfCall c
  | .seedRead c => wfCall c
  | .seedArm c => wfCall c
  | .seedDisarm c => wfCall c
  | .seedReset c => wfCall c
  | .tplWrite c => wfCall c
  | .svcConfig c => wfCall c
  | .svcStatus c => wfCall c
  | .serviceInput => true
  | .trendPeriodEnd chan _ => decide (chan < 192)
  | .wakeRequest => true
  | .wakeGapEnd host => decide (host < 4)
  | .wakeLimitHour host => decide (host < 4)
  | .panCommit => true
  | .tideInterval => true
  | .panStreamCfg c => wfCall c
  | .harvest c => wfCall c
  | .panMark c => wfCall c
  | .panRewind c => wfCall c
  | .panFlush c => wfCall c
  | .panStatus c => wfCall c
  | .dropPacket host => decide (host < 4)
  | .panRpWrite host stream _ => decide (host < 4) && decide (stream < 32)
  | .tbRead c => wfCall c
  | .tbSet c => wfCall c
  | .tbRestep c => wfCall c
  | .tbAssign c => wfCall c
  | .tbValRead host tb f => decide (host < 4) && decide (tb < 4) && decide (f < 122072)
  | .capture host f => decide (host < 4) && decide (f < 122072)
  | .captureGroupRead host _ => decide (host < 4)
  | .captureGroupTimeout group host => decide (group < 66) && decide (host < 4)
  | .sync link f _ => decide (link < 3) && decide (f < 122072)
  | .pdelayReq link f _ => decide (link < 2) && decide (f < 122072)
  | .pdelayResp link f _ => decide (link < 2) && decide (f < 122072)
  | .pdelayTimeout link => decide (link < 2)
  | .delayReq f _ => decide (f < 122072)
  | .delayResp _ => true
  | .delayRespTimeout => true
  | .syncSend link f => decide (link < 3) && decide (f < 122072)
  | .pdelaySend link f => decide (link < 2) && decide (f < 122072)
  | .lossTimeout tb => decide (tb < 4)
  | .lnWrite c => wfCall c
  | .lnCancel c => wfCall c
  | .lnStart entry => decide (entry < 128)
  | .launchFiring entry => decide (entry < 128)
  | .pinPulseEnd pinNo => decide (pinNo < 32)
  | .tmWrite c => wfCall c
  | .timerStart host timer f => decide (host < 4) && decide (timer < 64) && decide (f < 122072)
  | .timerReset host timer f => decide (host < 4) && decide (timer < 64) && decide (f < 122072)
  | .timerCapture host timer f => decide (host < 4) && decide (timer < 64) && decide (f < 122072)
  | .tmCntWrite host timer _ f => decide (host < 4) && decide (timer < 64) && decide (f < 122072)
  | .timerMatch timer => decide (timer < 64)
  | .timerEnd timer => decide (timer < 64)
  | .calSet c => wfCall c
  | .calAlarm c => wfCall c
  | .calendarSecond => true
  | .plnMode c => wfCall c
  | .plnBudget c => wfCall c
  | .plnReport c => wfCall c
  | .ldgRead c => wfCall c
  | .ldgStoreWrite host _ _ => decide (host < 4)
  | .stroke dom _ => decide (dom < 12)
  | .vbatMeasurement mv => decide (mv < 65536)
  | .ledgerRecalibration _ => true
  | .epochBoundary => true
  | .overspendTrip => true
  | .reserveTrip => true
  | .railSlewDone dom => decide (dom < 12)
  | .descent _ => true
  | .wakeComparator => true
  | .floorWake _ => true
  | .hsleepEdge host _ => decide (host < 4)
  | .legusWake link => decide (link < 2)
  | .shutdownWake _ _ => true
  | .powerOn _ => true
  | .brownout _ => true
  | .pin _ => true
  | .watchdog _ _ => true
  | .coldBoot _ _ => true
  | .brownoutWarning => true
  | .lifetimeWrite => true
  | .lifetimeWriteDone => true
  | .lifeRead c => wfCall c
  | .nvsCfgSave c => wfCall c
  | .nvsCfgSaveCompletion => true
  | .nvsCfgSelect c => wfCall c
  | .fwBegin c => wfCall c
  | .fwData c => wfCall c
  | .fwVerify c => wfCall c
  | .fwVerifyCompletion => true
  | .provision c => wfCall c
  | .keyLoad c => wfCall c
  | .sltRole c => wfCall c
  | .sltView c => wfCall c
  | .sltExpect c => wfCall c
  | .sltRejoin c => wfCall c
  | .sltRejoinCompletion => true
  | .legStatus c => wfCall c
  | .legusFrame link f bytes crc _ => decide (link < 2) && decide (f < 122072) && wfBytes bytes && wfBytes crc
  | .announce path head _ => decide (path < 3) && decide (head.1 < 32) && decide (head.2 < 65536)
  | .view path src _ => decide (path < 3) && decide (src < 32)
  | .samples path src _ => decide (path < 3) && decide (src < 32)
  | .announceInterval f => decide (f < 122072)
  | .viewTimeout => true
  | .memberTimeout hub => decide (hub < 32)
  | .samplesBatch => true
  | .linkUp link => decide (link < 2)
  | .linkDown link => decide (link < 2)
  | .rfConfig c => wfCall c
  | .rfTx c => wfCall c
  | .rfTxCompletion result => decide (result < 5)
  | .rfRx c => wfCall c
  | .rfCal c => wfCall c
  | .rfCalCompletion => true
  | .rfStatus c => wfCall c
  | .radioFrame f bytes crc rssi lqi => decide (f < 122072) && wfBytes bytes && wfBytes crc && decide (rssi < 256) && decide (lqi < 256)
  | .immAck => true
  | .ackWaitExpiry => true
  | .xoStart => true
  | .synthLock => true
  | .radioCalibration kind _ _ => decide (kind < 4)
  | .txWait => true
  | .launchedTxSynth entry _ => decide (entry < 128)
  | .lateTx => true
  | .txDone => true
  | .rxWindow _ => true
  | .sluiceEvent => true
  | .filterExpiry sluice => decide (sluice < 64)
  | .slFire host sluice => decide (host < 4) && decide (sluice < 64)
  | .icAckRead host target => decide (host < 4) && decide (target < 4)
  | .icEoiWrite host target vector => decide (host < 4) && decide (target < 4) && decide (vector < 1024)
  | .doorbell host target _ => decide (host < 4) && decide (target < 4)
  | .ibiRepeat => true
  | .fallback _ => true
  | .wakePulseEnd target => decide (target < 4)
  | .logRead c => wfCall c
  | .logClear c => wfCall c
  | .fence c => wfCall c
  | .unfence c => wfCall c
  | .fenceStatus c => wfCall c
  | .fenceTimeout _ => true
  | .checkPass => true
  | .pd0Fault _ _ _ => true
  | .snap host => decide (host < 4)
  | .registerWrite host _ _ => decide (host < 4)
  | .blockBoundaryApply _ => true
  | .crystalTick _ _ => true
  | .brownoutRecovery => true
  | .excLimitEnd exc => decide (exc < 4)

end Sys2Proof
end

