-- ==== Sys2Proof/Config.lean ====
section
/-! DEFINITION. What the spec leaves open: free values and functions that no proof can see through. -/

namespace Sys2Proof.Config

/-- R489: does the image's signature verify against the ROM's key? The spec gives neither the key nor the scheme's parameters (log 1). -/
opaque signatureValid : List Byte → Bool

/-- A value the spec does not state, by the number the step draws from `free` (log 4). -/
opaque freeValue : Nat → Word

/-- The operating rail of PD5, which the AFE sets, and of PD9, which the radio sets (R460): the spec gives no value (log 5). -/
opaque domainRail : Nat → Nat

/-- The hub's unique ID, which SYS_IDENT and ANNOUNCE give (R84, R398): each device has its own (log 6). -/
opaque uid : BitVec 64

/-- Is this die revision B, and not A (R84)? -/
opaque dieIsB : Bool

/-- The minor number of the ROM Salter's version (R84; log 6). Its major number is 3 (R1). -/
opaque salterMinor : BitVec 16

end Sys2Proof.Config
end

