-- ==== Sys2Proof/Machine/Reg.lean ====
section
/-! DEFINITION. The register map of chapter 19 (spec 19_register_map.md, R576 to R580): one name per
register of the map, and for each its address, instances, access type, /P mark, reset value and the
bits a write may change, taken from the register's field table in its own chapter. -/

namespace Sys2Proof.Machine

/-- The access types of R10. -/
inductive Access where
  | ro | rc | w1c | wo | rwb | rwi
  deriving DecidableEq, Repr

/-- The registers of the map (spec 19), each named as the manual names it; an instance number stands
beside it where the map gives several instances. -/
inductive Reg where
  /-- SYS_BOOT -/
  | sysBoot
  /-- SYS_WAKEEN -/
  | sysWakeen
  /-- SYS_WAKESRC -/
  | sysWakesrc
  /-- LDG_ENn -/
  | ldgEn
  /-- LDG_COMMON -/
  | ldgCommon
  /-- LDG_INCOME -/
  | ldgIncome
  /-- LDG_DRAW -/
  | ldgDraw
  /-- LDG_STORE -/
  | ldgStore
  /-- LDG_STAT -/
  | ldgStat
  /-- LDG_SNSn -/
  | ldgSns
  /-- LDG_EVT -/
  | ldgEvt
  /-- LDG_QCALn -/
  | ldgQcal
  /-- LDG_IDLEn -/
  | ldgIdle
  /-- LDG_SCALEn -/
  | ldgScale
  /-- LDG_CHn -/
  | ldgCh
  /-- PLN_CFG -/
  | plnCfg
  /-- PLN_LIMITS -/
  | plnLimits
  /-- PLN_BUDGET -/
  | plnBudget
  /-- PLN_RESERVE -/
  | plnReserve
  /-- PLN_SPENT -/
  | plnSpent
  /-- PLN_RAIL -/
  | plnRail
  /-- PLN_EVT -/
  | plnEvt
  /-- TB_VALn -/
  | tbVal
  /-- TB_CAPCMD -/
  | tbCapcmd
  /-- TB_CAPn -/
  | tbCap
  /-- TB_CAPST -/
  | tbCapst
  /-- TB_STATn -/
  | tbStat
  /-- TB_CTLn -/
  | tbCtl
  /-- TB_RATEn -/
  | tbRate
  /-- TB_OFFSn -/
  | tbOffs
  /-- TB_EVT -/
  | tbEvt
  /-- TB_UTC -/
  | tbUtc
  /-- TB_SYNCCFG -/
  | tbSynccfg
  /-- TB_LINKn -/
  | tbLink
  /-- TB_LATCNT -/
  | tbLatcnt
  /-- LN_EVT -/
  | lnEvt
  /-- TM_EVT -/
  | tmEvt
  /-- LN_CTLn -/
  | lnCtl
  /-- LN_CNTn -/
  | lnCnt
  /-- LN_NEXTn -/
  | lnNext
  /-- TM_CTLn -/
  | tmCtl
  /-- TM_ENDn -/
  | tmEnd
  /-- TM_MATCHn -/
  | tmMatch
  /-- TM_CNTn -/
  | tmCnt
  /-- TM_CAPn -/
  | tmCap
  /-- SL_EVT -/
  | slEvt
  /-- SL_FIRE -/
  | slFire
  /-- SL_PINn -/
  | slPin
  /-- SL_CTLn -/
  | slCtl
  /-- SL_SRCn -/
  | slSrc
  /-- SL_LUTn -/
  | slLut
  /-- SL_TASKAn -/
  | slTaska
  /-- SL_TASKBn -/
  | slTaskb
  /-- SL_OWNn -/
  | slOwn
  /-- SL_CNTn -/
  | slCnt
  /-- SL_STATn -/
  | slStat
  /-- IC_ACKh -/
  | icAck
  /-- IC_EOIh -/
  | icEoi
  /-- IC_TGTCFGh -/
  | icTgtcfg
  /-- IC_STATh -/
  | icStat
  /-- IC_PRIVh -/
  | icPriv
  /-- IC_PRIVCFGh -/
  | icPrivcfg
  /-- IC_DBELLh -/
  | icDbell
  /-- IC_EVT -/
  | icEvt
  /-- IC_SRCs -/
  | icSrc
  /-- IC_SPENDk -/
  | icSpend
  /-- SSPn_CFG -/
  | sspCfg
  /-- SSPn_CLK -/
  | sspClk
  /-- SSPn_TIMING -/
  | sspTiming
  /-- SSPn_EVT -/
  | sspEvt
  /-- SSPn_CNT -/
  | sspCnt
  /-- SSPn_STAT -/
  | sspStat
  /-- I3Cn_CFG -/
  | i3cCfg
  /-- I3Cn_CLK -/
  | i3cClk
  /-- I3Cn_EVT -/
  | i3cEvt
  /-- I3Cn_CNT -/
  | i3cCnt
  /-- I3Cn_LASTST -/
  | i3cLastst
  /-- I3Cn_TGTk -/
  | i3cTgt
  /-- I3Cn_PIDk -/
  | i3cPid
  /-- AFE_AINn_CFG -/
  | afeAinCfg
  /-- AFE_PDMn_CFG -/
  | afePdmCfg
  /-- AFE_PDMCLK -/
  | afePdmclk
  /-- AFE_EXCk -/
  | afeExc
  /-- AFE_EVT -/
  | afeEvt
  /-- AFE_STAT -/
  | afeStat
  /-- TWR_STAT -/
  | twrStat
  /-- TWR_SEGUSE -/
  | twrSeguse
  /-- TWR_MACS -/
  | twrMacs
  /-- TWR_EVT -/
  | twrEvt
  /-- TWR_SATk -/
  | twrSat
  /-- TWR_UNSk -/
  | twrUns
  /-- TWR_CHSTATn -/
  | twrChstat
  /-- TWR_DCESTn -/
  | twrDcest
  /-- CRY_STAT -/
  | cryStat
  /-- CRY_ARMk -/
  | cryArm
  /-- CRY_FENCEDk -/
  | cryFenced
  /-- CRY_EVT -/
  | cryEvt
  /-- CRY_CNT -/
  | cryCnt
  /-- CRY_CORMACS -/
  | cryCormacs
  /-- CRY_TPLRET -/
  | cryTplret
  /-- CRY_SEEDSTATn -/
  | crySeedstat
  /-- CRY_DWELLn -/
  | cryDwell
  /-- CRY_TAKENn -/
  | cryTaken
  /-- CRY_FEATn -/
  | cryFeat
  /-- PAN_TIDE -/
  | panTide
  /-- PAN_CMD -/
  | panCmd
  /-- PAN_EVT -/
  | panEvt
  /-- PAN_FIFOCNT -/
  | panFifocnt
  /-- PAN_CFGn -/
  | panCfg
  /-- PAN_WMn -/
  | panWm
  /-- PAN_WPn -/
  | panWp
  /-- PAN_RPn -/
  | panRp
  /-- PAN_MARKn -/
  | panMark
  /-- PAN_DROPn -/
  | panDrop
  /-- PAN_SEQn -/
  | panSeq
  /-- LEG_CFG -/
  | legCfg
  /-- LEG_SLTSTAT -/
  | legSltstat
  /-- LEG_VIEWINFO -/
  | legViewinfo
  /-- LEG_MEMBERS -/
  | legMembers
  /-- LEG_DIVERGENT -/
  | legDivergent
  /-- LEG_STALE -/
  | legStale
  /-- LEG_OUTLIER -/
  | legOutlier
  /-- LEG_EVT -/
  | legEvt
  /-- LEG_LINKn -/
  | legLink
  /-- LEG_LINKCNTn -/
  | legLinkcnt
  /-- LEG_EXPi -/
  | legExp
  /-- LEG_EXPVAL -/
  | legExpval
  /-- RF_CFG -/
  | rfCfg
  /-- RF_ADDR -/
  | rfAddr
  /-- RF_LASYNC -/
  | rfLasync
  /-- RF_MAC -/
  | rfMac
  /-- RF_STAT -/
  | rfStat
  /-- RF_EVT -/
  | rfEvt
  /-- RF_CNT -/
  | rfCnt
  /-- HP_QSTATn -/
  | hpQstat
  /-- HP_VIOLn -/
  | hpViol
  /-- CHK_CTL -/
  | chkCtl
  /-- CHK_STAT -/
  | chkStat
  /-- CFG_REF -/
  | cfgRef
  /-- CHK_CUR -/
  | chkCur
  /-- CHK_EVT -/
  | chkEvt
  /-- CHK_SUM -/
  | chkSum
  /-- CHK_DRIFTU -/
  | chkDriftu
  /-- CHK_PEND -/
  | chkPend
  /-- CHK_BUSERRh -/
  | chkBuserr
  /-- CHK_BUSCNT -/
  | chkBuscnt
  /-- CHK_CMD -/
  | chkCmd
  /-- SNAP_SEQ -/
  | snapSeq
  /-- SNAP_TB0 -/
  | snapTb0
  /-- LOG_STAT -/
  | logStat
  /-- LOG_LOST -/
  | logLost
  /-- LIFE_CFG -/
  | lifeCfg
  /-- LIFE_STAT -/
  | lifeStat
  /-- LIFE_SEQ -/
  | lifeSeq
  /-- Snapshot holding registers before the pairs -/
  | snapHold
  /-- Snapshot holding registers that are pairs -/
  | snapPair
  /-- Snapshot holding registers after the pairs -/
  | snapHold2
  deriving DecidableEq, Repr

/-- One row of the register map: the base address of the first instance, the stride, the number of
instances, the number of the first, an inner index (of `icount` words or pairs, `istride` apart), whether it is a
64-bit pair, its access type, its /P mark, its reset value, the bits a write may change (`wbits`),
its named RO bits (`robits`), and whether R543 refuses a narrow write because it holds a W1C, an RC
or a self-clearing bit. -/
structure RegRow where
  base : Nat
  stride : Nat
  count : Nat
  first : Nat
  icount : Nat
  istride : Nat
  pair : Bool
  access : Access
  priv : Bool
  reset : Nat
  wbits : List (Nat × Nat)
  robits : List (Nat × Nat)
  noNarrow : Bool
  deriving DecidableEq, Repr

/-- The register map (spec 19), row by row. -/
def Reg.row : Reg → RegRow
  | .sysBoot => ⟨0x40000200, 0x4, 1, 0, 1, 0x4, false, .ro, false, 0x00000000, [], [], false⟩
  | .sysWakeen => ⟨0x40000204, 0x4, 1, 0, 1, 0x4, false, .rwi, true, 0x00000000, [(31, 0)], [], false⟩
  | .sysWakesrc => ⟨0x40000208, 0x4, 1, 0, 1, 0x4, false, .rc, false, 0x00000000, [], [], false⟩
  | .ldgEn => ⟨0x40010000, 0x8, 12, 0, 1, 0x8, true, .ro, false, 0x00000000, [], [], false⟩
  | .ldgCommon => ⟨0x40010060, 0x8, 1, 0, 1, 0x8, true, .ro, false, 0x00000000, [], [], false⟩
  | .ldgIncome => ⟨0x40010068, 0x8, 1, 0, 1, 0x8, true, .ro, false, 0x00000000, [], [], false⟩
  | .ldgDraw => ⟨0x40010070, 0x8, 1, 0, 1, 0x8, true, .ro, false, 0x00000000, [], [], false⟩
  | .ldgStore => ⟨0x40010078, 0x8, 1, 0, 1, 0x8, true, .rwi, true, 0x00000000, [(63, 0)], [], false⟩
  | .ldgStat => ⟨0x40010080, 0x4, 1, 0, 1, 0x4, false, .ro, false, 0x00000000, [], [], false⟩
  | .ldgSns => ⟨0x40010088, 0x4, 2, 0, 1, 0x4, false, .rwb, true, 0x00000000, [(31, 31), (30, 30), (15, 0)], [], false⟩
  | .ldgEvt => ⟨0x40010090, 0x4, 1, 0, 1, 0x4, false, .rc, false, 0x00000000, [], [], false⟩
  | .ldgQcal => ⟨0x40010100, 0x4, 12, 0, 1, 0x4, false, .ro, false, 0x00000000, [], [], false⟩
  | .ldgIdle => ⟨0x40010140, 0x4, 12, 0, 1, 0x4, false, .ro, false, 0x00000000, [], [], false⟩
  | .ldgScale => ⟨0x40010180, 0x4, 12, 0, 1, 0x4, false, .ro, false, 0x00010000, [], [], false⟩
  | .ldgCh => ⟨0x40010400, 0x4, 192, 0, 1, 0x4, false, .ro, false, 0x00000000, [], [], false⟩
  | .plnCfg => ⟨0x40011000, 0x4, 1, 0, 1, 0x4, false, .rwb, true, 0x000C8020, [(31, 13), (12, 5), (1, 0)], [], false⟩
  | .plnLimits => ⟨0x40011004, 0x4, 1, 0, 1, 0x4, false, .rwb, true, 0x00040A55, [(23, 16), (15, 8), (6, 0)], [], false⟩
  | .plnBudget => ⟨0x40011008, 0x8, 1, 0, 1, 0x8, true, .rwb, true, 0x00000000, [(47, 0)], [], false⟩
  | .plnReserve => ⟨0x40011010, 0x8, 1, 0, 1, 0x8, true, .rwi, true, 0x00000000, [(47, 0)], [], false⟩
  | .plnSpent => ⟨0x40011018, 0x8, 1, 0, 1, 0x8, true, .ro, false, 0x00000000, [], [], false⟩
  | .plnRail => ⟨0x40011020, 0x4, 1, 0, 1, 0x4, false, .ro, false, 0x00000000, [], [], false⟩
  | .plnEvt => ⟨0x40011024, 0x4, 1, 0, 1, 0x4, false, .rc, false, 0x00000000, [], [], false⟩
  | .tbVal => ⟨0x40020000, 0x8, 4, 0, 1, 0x8, true, .ro, false, 0x00000000, [], [], false⟩
  | .tbCapcmd => ⟨0x40020040, 0x4, 1, 0, 1, 0x4, false, .wo, false, 0x00000000, [(0, 0)], [], false⟩
  | .tbCap => ⟨0x40020048, 0x8, 4, 0, 1, 0x8, true, .ro, false, 0x00000000, [], [], false⟩
  | .tbCapst => ⟨0x40020068, 0x4, 1, 0, 1, 0x4, false, .ro, false, 0x00000000, [], [], false⟩
  | .tbStat => ⟨0x40020084, 0x4, 3, 1, 1, 0x4, false, .ro, false, 0x00000000, [], [], false⟩
  | .tbCtl => ⟨0x400200A4, 0x4, 3, 1, 1, 0x4, false, .rwb, true, 0x110A0A0A, [(31, 30), (29, 26), (25, 22), (21, 16), (15, 8), (7, 0)], [], false⟩
  | .tbRate => ⟨0x400200C4, 0x4, 3, 1, 1, 0x4, false, .ro, false, 0x00000000, [], [], false⟩
  | .tbOffs => ⟨0x400200E4, 0x4, 3, 1, 1, 0x4, false, .ro, false, 0x00000000, [], [], false⟩
  | .tbEvt => ⟨0x40020100, 0x4, 1, 0, 1, 0x4, false, .rc, false, 0x00000000, [], [], false⟩
  | .tbUtc => ⟨0x40020104, 0x4, 1, 0, 1, 0x4, false, .rwb, true, 0x00000000, [(31, 31), (30, 30), (29, 29), (25, 24), (7, 0)], [], false⟩
  | .tbSynccfg => ⟨0x40020108, 0x4, 1, 0, 1, 0x4, false, .rwb, true, 0x00330000, [(27, 24), (23, 20), (19, 16), (15, 12)], [], false⟩
  | .tbLink => ⟨0x40020120, 0x4, 3, 0, 1, 0x4, false, .rwb, true, 0x00000000, [(31, 16)], [(15, 0)], false⟩
  | .tbLatcnt => ⟨0x40020130, 0x4, 1, 0, 1, 0x4, false, .rc, false, 0x00000000, [], [], false⟩
  | .lnEvt => ⟨0x40030000, 0x4, 1, 0, 1, 0x4, false, .rc, false, 0x00000000, [], [], false⟩
  | .tmEvt => ⟨0x40030004, 0x4, 1, 0, 1, 0x4, false, .rc, false, 0x00000000, [], [], false⟩
  | .lnCtl => ⟨0x40031000, 0x10, 128, 0, 1, 0x10, false, .ro, false, 0x00000000, [], [], false⟩
  | .lnCnt => ⟨0x40031004, 0x10, 128, 0, 1, 0x10, false, .ro, false, 0x00000000, [], [], false⟩
  | .lnNext => ⟨0x40031008, 0x10, 128, 0, 1, 0x10, true, .ro, false, 0x00000000, [], [], false⟩
  | .tmCtl => ⟨0x40032000, 0x20, 64, 0, 1, 0x20, false, .rwi, true, 0x00000000, [(31, 31), (30, 30), (29, 29), (28, 28), (23, 18), (17, 17), (16, 14), (13, 11), (8, 0)], [(27, 26), (25, 25), (24, 24), (10, 10), (9, 9)], true⟩
  | .tmEnd => ⟨0x40032004, 0x20, 64, 0, 1, 0x20, false, .rwi, true, 0x00000000, [(31, 0)], [], false⟩
  | .tmMatch => ⟨0x40032008, 0x20, 64, 0, 1, 0x20, false, .rwi, true, 0x00000000, [(31, 0)], [], false⟩
  | .tmCnt => ⟨0x4003200C, 0x20, 64, 0, 1, 0x20, false, .rwi, true, 0x00000000, [(31, 0)], [], false⟩
  | .tmCap => ⟨0x40032010, 0x20, 64, 0, 1, 0x20, false, .ro, false, 0x00000000, [], [], false⟩
  | .slEvt => ⟨0x40040000, 0x4, 1, 0, 1, 0x4, false, .rc, false, 0x00000000, [], [], false⟩
  | .slFire => ⟨0x40040004, 0x4, 1, 0, 1, 0x4, false, .wo, false, 0x00000000, [(5, 0)], [], false⟩
  | .slPin => ⟨0x40040080, 0x4, 32, 0, 1, 0x4, false, .rwi, true, 0x00000000, [(31, 30), (29, 28), (27, 27), (26, 25)], [(24, 24)], false⟩
  | .slCtl => ⟨0x40041000, 0x20, 64, 0, 1, 0x20, false, .rwb, true, 0x00000000, [(31, 31), (30, 29), (28, 27), (26, 26), (25, 18), (17, 14)], [], false⟩
  | .slSrc => ⟨0x40041004, 0x20, 64, 0, 1, 0x20, false, .rwb, true, 0x00000000, [(31, 31), (30, 29), (28, 20), (10, 9), (8, 0)], [], false⟩
  | .slLut => ⟨0x40041008, 0x20, 64, 0, 1, 0x20, false, .rwb, true, 0x00000000, [(31, 31), (30, 29), (28, 20), (7, 0)], [], false⟩
  | .slTaska => ⟨0x4004100C, 0x20, 64, 0, 1, 0x20, false, .rwb, true, 0x00000000, [(31, 16), (15, 0)], [], false⟩
  | .slTaskb => ⟨0x40041010, 0x20, 64, 0, 1, 0x20, false, .rwb, true, 0x00000000, [(31, 16), (15, 0)], [], false⟩
  | .slOwn => ⟨0x40041014, 0x20, 64, 0, 1, 0x20, false, .rwi, true, 0x00000004, [(31, 31), (2, 0)], [], false⟩
  | .slCnt => ⟨0x40041018, 0x20, 64, 0, 1, 0x20, false, .rc, false, 0x00000000, [], [], false⟩
  | .slStat => ⟨0x4004101C, 0x20, 64, 0, 1, 0x20, false, .ro, false, 0x00000000, [], [], false⟩
  | .icAck => ⟨0x40050000, 0x40, 4, 0, 1, 0x40, false, .rc, false, 0x000003FF, [], [], false⟩
  | .icEoi => ⟨0x40050004, 0x40, 4, 0, 1, 0x40, false, .wo, false, 0x00000000, [(9, 0)], [], false⟩
  | .icTgtcfg => ⟨0x40050008, 0x40, 4, 0, 1, 0x40, false, .rwi, true, 0x00000A0A, [(31, 31), (30, 30), (29, 28), (15, 8), (7, 0)], [], false⟩
  | .icStat => ⟨0x4005000C, 0x40, 4, 0, 1, 0x40, false, .ro, false, 0x000003FF, [], [], false⟩
  | .icPriv => ⟨0x40050010, 0x40, 4, 0, 1, 0x40, false, .ro, false, 0x00000000, [], [], false⟩
  | .icPrivcfg => ⟨0x40050014, 0x40, 4, 0, 1, 0x40, false, .rwi, false, 0x00010008, [(31, 16), (3, 0)], [], false⟩
  | .icDbell => ⟨0x40050018, 0x40, 4, 0, 1, 0x40, false, .wo, false, 0x00000000, [(0, 0)], [], false⟩
  | .icEvt => ⟨0x40050200, 0x4, 1, 0, 1, 0x4, false, .rc, false, 0x00000000, [], [], false⟩
  | .icSrc => ⟨0x40050400, 0x4, 240, 0, 1, 0x4, false, .rwi, true, 0x00000000, [(31, 31), (30, 30), (29, 28), (27, 24), (0, 0)], [(2, 2), (1, 1)], true⟩
  | .icSpend => ⟨0x40050800, 0x4, 8, 0, 1, 0x4, false, .ro, false, 0x00000000, [], [], false⟩
  | .sspCfg => ⟨0x40060000, 0x1000, 12, 0, 1, 0x1000, false, .rwb, true, 0x00000000, [(31, 31), (30, 30), (29, 29), (28, 27), (26, 24), (21, 21), (20, 20), (19, 18), (17, 16), (6, 0)], [], false⟩
  | .sspClk => ⟨0x40060004, 0x1000, 12, 0, 1, 0x1000, false, .rwb, true, 0x0032007D, [(28, 16), (12, 0)], [], false⟩
  | .sspTiming => ⟨0x40060008, 0x1000, 12, 0, 1, 0x1000, false, .rwb, true, 0x0A0A0A0A, [(31, 24), (23, 16), (15, 8), (7, 0)], [], false⟩
  | .sspEvt => ⟨0x40060010, 0x1000, 12, 0, 1, 0x1000, false, .rc, false, 0x00000000, [], [], false⟩
  | .sspCnt => ⟨0x40060014, 0x1000, 12, 0, 1, 0x1000, false, .rc, false, 0x00000000, [], [], false⟩
  | .sspStat => ⟨0x40060018, 0x1000, 12, 0, 1, 0x1000, false, .ro, false, 0x00000000, [], [], false⟩
  | .i3cCfg => ⟨0x40070000, 0x1000, 6, 0, 1, 0x1000, false, .rwb, true, 0x00000000, [(31, 31), (30, 30), (29, 29), (28, 28), (27, 27), (2, 0)], [], false⟩
  | .i3cClk => ⟨0x40070004, 0x1000, 6, 0, 1, 0x1000, false, .rwb, true, 0x007D0A28, [(23, 16), (15, 8), (7, 0)], [], false⟩
  | .i3cEvt => ⟨0x40070010, 0x1000, 6, 0, 1, 0x1000, false, .rc, false, 0x00000000, [], [], false⟩
  | .i3cCnt => ⟨0x40070014, 0x1000, 6, 0, 1, 0x1000, false, .rc, false, 0x00000000, [], [], false⟩
  | .i3cLastst => ⟨0x40070018, 0x1000, 6, 0, 1, 0x1000, false, .ro, false, 0x00000000, [], [], false⟩
  | .i3cTgt => ⟨0x40070040, 0x1000, 6, 0, 8, 0x4, false, .rwb, true, 0x00000000, [(31, 31), (30, 30), (29, 29), (28, 28), (27, 26), (22, 16), (6, 0)], [(25, 25)], false⟩
  | .i3cPid => ⟨0x40070080, 0x1000, 6, 0, 8, 0x8, true, .ro, false, 0x00000000, [], [], false⟩
  | .afeAinCfg => ⟨0x40080040, 0x4, 16, 0, 1, 0x4, false, .rwb, true, 0x00000000, [(31, 31), (30, 30), (29, 27), (26, 24), (23, 21)], [], false⟩
  | .afePdmCfg => ⟨0x40080080, 0x4, 8, 0, 1, 0x4, false, .rwb, true, 0x00000000, [(31, 31), (26, 24)], [], false⟩
  | .afePdmclk => ⟨0x400800A0, 0x4, 1, 0, 1, 0x4, false, .rwi, true, 0x0A300300, [(31, 31), (30, 30), (29, 24), (22, 12), (10, 0)], [], false⟩
  | .afeExc => ⟨0x400800C0, 0x4, 4, 0, 1, 0x4, false, .rwi, true, 0x00000000, [(31, 31), (1, 0)], [], false⟩
  | .afeEvt => ⟨0x40080100, 0x4, 1, 0, 1, 0x4, false, .rc, false, 0x00000000, [], [], false⟩
  | .afeStat => ⟨0x40080104, 0x4, 1, 0, 1, 0x4, false, .ro, false, 0x00000000, [], [], false⟩
  | .twrStat => ⟨0x40090000, 0x4, 1, 0, 1, 0x4, false, .ro, false, 0x00008000, [], [], false⟩
  | .twrSeguse => ⟨0x40090004, 0x4, 1, 0, 1, 0x4, false, .ro, false, 0x00000000, [], [], false⟩
  | .twrMacs => ⟨0x40090008, 0x8, 1, 0, 1, 0x8, true, .ro, false, 0x00000000, [], [], false⟩
  | .twrEvt => ⟨0x40090010, 0x4, 1, 0, 1, 0x4, false, .rc, false, 0x00000000, [], [], false⟩
  | .twrSat => ⟨0x40090020, 0x4, 6, 0, 1, 0x4, false, .rc, false, 0x00000000, [], [], false⟩
  | .twrUns => ⟨0x40090040, 0x4, 6, 0, 1, 0x4, false, .ro, false, 0x00000000, [], [], false⟩
  | .twrChstat => ⟨0x40090400, 0x4, 192, 0, 1, 0x4, false, .ro, false, 0x00000000, [], [], false⟩
  | .twrDcest => ⟨0x40091000, 0x10, 192, 0, 4, 0x4, false, .ro, false, 0x00000000, [], [], false⟩
  | .cryStat => ⟨0x400A0000, 0x4, 1, 0, 1, 0x4, false, .ro, false, 0x00000000, [], [], false⟩
  | .cryArm => ⟨0x400A0010, 0x4, 2, 0, 1, 0x4, false, .ro, false, 0x00000000, [], [], false⟩
  | .cryFenced => ⟨0x400A0018, 0x4, 2, 0, 1, 0x4, false, .ro, false, 0x00000000, [], [], false⟩
  | .cryEvt => ⟨0x400A0020, 0x4, 1, 0, 1, 0x4, false, .rc, false, 0x00000000, [], [], false⟩
  | .cryCnt => ⟨0x400A0024, 0x4, 1, 0, 1, 0x4, false, .rc, false, 0x00000000, [], [], false⟩
  | .cryCormacs => ⟨0x400A0028, 0x8, 1, 0, 1, 0x8, true, .ro, false, 0x00000000, [], [], false⟩
  | .cryTplret => ⟨0x400A0030, 0x4, 1, 0, 1, 0x4, false, .rwi, true, 0x00000000, [(15, 0)], [], false⟩
  | .crySeedstat => ⟨0x400A0400, 0x4, 64, 0, 1, 0x4, false, .ro, false, 0x00000000, [], [], false⟩
  | .cryDwell => ⟨0x400A0500, 0x4, 64, 0, 1, 0x4, false, .ro, false, 0x00000000, [], [], false⟩
  | .cryTaken => ⟨0x400A0600, 0x4, 64, 0, 1, 0x4, false, .ro, false, 0x00000000, [], [], false⟩
  | .cryFeat => ⟨0x400A1000, 0x10, 64, 0, 4, 0x4, false, .ro, false, 0x00000000, [], [], false⟩
  | .panTide => ⟨0x400B0000, 0x4, 1, 0, 1, 0x4, false, .rwb, true, 0x00000003, [(2, 0)], [], false⟩
  | .panCmd => ⟨0x400B0004, 0x4, 1, 0, 1, 0x4, false, .wo, true, 0x00000000, [(0, 0)], [], false⟩
  | .panEvt => ⟨0x400B0010, 0x4, 1, 0, 1, 0x4, false, .rc, false, 0x00000000, [], [], false⟩
  | .panFifocnt => ⟨0x400B0014, 0x4, 1, 0, 1, 0x4, false, .rc, false, 0x00000000, [], [], false⟩
  | .panCfg => ⟨0x400B0100, 0x20, 32, 0, 1, 0x20, false, .rwb, true, 0x00000000, [(31, 31), (30, 30), (29, 28), (27, 27), (15, 0)], [], false⟩
  | .panWm => ⟨0x400B0104, 0x20, 32, 0, 1, 0x20, false, .rwb, true, 0x00000000, [(9, 0)], [], false⟩
  | .panWp => ⟨0x400B0108, 0x20, 32, 0, 1, 0x20, false, .ro, false, 0x00000000, [], [], false⟩
  | .panRp => ⟨0x400B010C, 0x20, 32, 0, 1, 0x20, false, .rwi, false, 0x00000000, [(18, 0)], [], false⟩
  | .panMark => ⟨0x400B0110, 0x20, 32, 0, 1, 0x20, false, .ro, false, 0x00000000, [], [], false⟩
  | .panDrop => ⟨0x400B0114, 0x20, 32, 0, 1, 0x20, false, .rc, false, 0x00000000, [], [], false⟩
  | .panSeq => ⟨0x400B0118, 0x20, 32, 0, 1, 0x20, false, .ro, false, 0x00000000, [], [], false⟩
  | .legCfg => ⟨0x400C0000, 0x4, 1, 0, 1, 0x4, false, .rwb, true, 0x0100000A, [(31, 31), (30, 30), (29, 29), (28, 28), (27, 24), (7, 0)], [], false⟩
  | .legSltstat => ⟨0x400C0004, 0x4, 1, 0, 1, 0x4, false, .ro, false, 0x00000000, [], [], false⟩
  | .legViewinfo => ⟨0x400C0008, 0x4, 1, 0, 1, 0x4, false, .ro, false, 0x03000000, [], [], false⟩
  | .legMembers => ⟨0x400C0010, 0x4, 1, 0, 1, 0x4, false, .ro, false, 0x00000000, [], [], false⟩
  | .legDivergent => ⟨0x400C0014, 0x4, 1, 0, 1, 0x4, false, .ro, false, 0x00000000, [], [], false⟩
  | .legStale => ⟨0x400C0018, 0x4, 1, 0, 1, 0x4, false, .ro, false, 0x00000000, [], [], false⟩
  | .legOutlier => ⟨0x400C001C, 0x4, 1, 0, 1, 0x4, false, .ro, false, 0x00000000, [], [], false⟩
  | .legEvt => ⟨0x400C0020, 0x4, 1, 0, 1, 0x4, false, .rc, false, 0x00000000, [], [], false⟩
  | .legLink => ⟨0x400C0040, 0x8, 2, 0, 1, 0x8, false, .ro, false, 0x00000000, [], [], false⟩
  | .legLinkcnt => ⟨0x400C0044, 0x8, 2, 0, 1, 0x8, false, .rc, false, 0x00000000, [], [], false⟩
  | .legExp => ⟨0x400C0100, 0x4, 32, 0, 1, 0x4, false, .ro, false, 0x00000000, [], [], false⟩
  | .legExpval => ⟨0x400C0180, 0x4, 1, 0, 1, 0x4, false, .ro, false, 0x00000000, [], [], false⟩
  | .rfCfg => ⟨0x400D0000, 0x4, 1, 0, 1, 0x4, false, .rwb, true, 0x00001480, [(31, 30), (29, 24), (12, 8), (7, 0)], [], false⟩
  | .rfAddr => ⟨0x400D0004, 0x4, 1, 0, 1, 0x4, false, .rwb, true, 0xFFFFFFFE, [(31, 16), (15, 0)], [], false⟩
  | .rfLasync => ⟨0x400D0008, 0x4, 1, 0, 1, 0x4, false, .rwb, true, 0xB4E21D6B, [(31, 0)], [], false⟩
  | .rfMac => ⟨0x400D000C, 0x4, 1, 0, 1, 0x4, false, .rwb, true, 0x03324B00, [(31, 31), (30, 30), (29, 29), (28, 27), (26, 24), (23, 16), (15, 8)], [], false⟩
  | .rfStat => ⟨0x400D0010, 0x4, 1, 0, 1, 0x4, false, .ro, false, 0x00000000, [], [], false⟩
  | .rfEvt => ⟨0x400D0014, 0x4, 1, 0, 1, 0x4, false, .rc, false, 0x00000000, [], [], false⟩
  | .rfCnt => ⟨0x400D0018, 0x4, 1, 0, 1, 0x4, false, .rc, false, 0x00000000, [], [], false⟩
  | .hpQstat => ⟨0x400E0040, 0x4, 4, 0, 1, 0x4, false, .ro, false, 0x00000000, [], [], false⟩
  | .hpViol => ⟨0x400E0060, 0x4, 2, 0, 1, 0x4, false, .rc, false, 0x00000000, [], [], false⟩
  | .chkCtl => ⟨0x400F0000, 0x4, 1, 0, 1, 0x4, false, .rwi, true, 0x80000000, [(31, 31), (30, 30)], [], false⟩
  | .chkStat => ⟨0x400F0004, 0x4, 1, 0, 1, 0x4, false, .ro, false, 0x00000000, [], [], false⟩
  | .cfgRef => ⟨0x400F0008, 0x4, 1, 0, 1, 0x4, false, .ro, false, 0x00000000, [], [], false⟩
  | .chkCur => ⟨0x400F000C, 0x4, 1, 0, 1, 0x4, false, .ro, false, 0x00000000, [], [], false⟩
  | .chkEvt => ⟨0x400F0010, 0x4, 1, 0, 1, 0x4, false, .rc, false, 0x00000000, [], [], false⟩
  | .chkSum => ⟨0x400F0014, 0x4, 1, 0, 1, 0x4, false, .w1c, false, 0x00000000, [(30, 0)], [], true⟩
  | .chkDriftu => ⟨0x400F0018, 0x4, 1, 0, 1, 0x4, false, .ro, false, 0x00000000, [], [], false⟩
  | .chkPend => ⟨0x400F001C, 0x4, 1, 0, 1, 0x4, false, .ro, false, 0x00000000, [], [], false⟩
  | .chkBuserr => ⟨0x400F0020, 0x4, 4, 0, 1, 0x4, false, .ro, false, 0x00000000, [], [], false⟩
  | .chkBuscnt => ⟨0x400F0030, 0x4, 1, 0, 1, 0x4, false, .rc, false, 0x00000000, [], [], false⟩
  | .chkCmd => ⟨0x400F0040, 0x4, 1, 0, 1, 0x4, false, .wo, false, 0x00000000, [(0, 0)], [], false⟩
  | .snapSeq => ⟨0x400F1000, 0x4, 1, 0, 1, 0x4, false, .ro, false, 0x00000000, [], [], false⟩
  | .snapTb0 => ⟨0x400F1008, 0x8, 1, 0, 1, 0x8, true, .ro, false, 0x00000000, [], [], false⟩
  | .logStat => ⟨0x400F2000, 0x4, 1, 0, 1, 0x4, false, .ro, false, 0x00000000, [], [], false⟩
  | .logLost => ⟨0x400F2004, 0x4, 1, 0, 1, 0x4, false, .rc, false, 0x00000000, [], [], false⟩
  | .lifeCfg => ⟨0x400F3000, 0x4, 1, 0, 1, 0x4, false, .rwi, true, 0x30200000, [(31, 27), (23, 20)], [], false⟩
  | .lifeStat => ⟨0x400F3004, 0x4, 1, 0, 1, 0x4, false, .ro, false, 0x00000000, [], [], false⟩
  | .lifeSeq => ⟨0x400F3008, 0x4, 1, 0, 1, 0x4, false, .ro, false, 0x00000000, [], [], false⟩
  | .snapHold => ⟨0x400F1010, 0x4, 26, 0, 1, 0x4, false, .ro, false, 0x00000000, [], [], false⟩
  | .snapPair => ⟨0x400F1078, 0x8, 19, 0, 1, 0x8, true, .ro, false, 0x00000000, [], [], false⟩
  | .snapHold2 => ⟨0x400F1110, 0x4, 576, 0, 1, 0x4, false, .ro, false, 0x00000000, [], [], false⟩

/-- Part 0 of the list of registers. -/
def Reg.all0 : List Reg := [.sysBoot, .sysWakeen, .sysWakesrc, .ldgEn, .ldgCommon, .ldgIncome, .ldgDraw, .ldgStore, .ldgStat, .ldgSns, .ldgEvt, .ldgQcal, .ldgIdle, .ldgScale, .ldgCh, .plnCfg, .plnLimits, .plnBudget, .plnReserve, .plnSpent, .plnRail, .plnEvt, .tbVal, .tbCapcmd, .tbCap, .tbCapst, .tbStat, .tbCtl, .tbRate, .tbOffs]
/-- Part 1 of the list of registers. -/
def Reg.all1 : List Reg := [.tbEvt, .tbUtc, .tbSynccfg, .tbLink, .tbLatcnt, .lnEvt, .tmEvt, .lnCtl, .lnCnt, .lnNext, .tmCtl, .tmEnd, .tmMatch, .tmCnt, .tmCap, .slEvt, .slFire, .slPin, .slCtl, .slSrc, .slLut, .slTaska, .slTaskb, .slOwn, .slCnt, .slStat, .icAck, .icEoi, .icTgtcfg, .icStat]
/-- Part 2 of the list of registers. -/
def Reg.all2 : List Reg := [.icPriv, .icPrivcfg, .icDbell, .icEvt, .icSrc, .icSpend, .sspCfg, .sspClk, .sspTiming, .sspEvt, .sspCnt, .sspStat, .i3cCfg, .i3cClk, .i3cEvt, .i3cCnt, .i3cLastst, .i3cTgt, .i3cPid, .afeAinCfg, .afePdmCfg, .afePdmclk, .afeExc, .afeEvt, .afeStat, .twrStat, .twrSeguse, .twrMacs, .twrEvt, .twrSat]
/-- Part 3 of the list of registers. -/
def Reg.all3 : List Reg := [.twrUns, .twrChstat, .twrDcest, .cryStat, .cryArm, .cryFenced, .cryEvt, .cryCnt, .cryCormacs, .cryTplret, .crySeedstat, .cryDwell, .cryTaken, .cryFeat, .panTide, .panCmd, .panEvt, .panFifocnt, .panCfg, .panWm, .panWp, .panRp, .panMark, .panDrop, .panSeq, .legCfg, .legSltstat, .legViewinfo, .legMembers, .legDivergent]
/-- Part 4 of the list of registers. -/
def Reg.all4 : List Reg := [.legStale, .legOutlier, .legEvt, .legLink, .legLinkcnt, .legExp, .legExpval, .rfCfg, .rfAddr, .rfLasync, .rfMac, .rfStat, .rfEvt, .rfCnt, .hpQstat, .hpViol, .chkCtl, .chkStat, .cfgRef, .chkCur, .chkEvt, .chkSum, .chkDriftu, .chkPend, .chkBuserr, .chkBuscnt, .chkCmd, .snapSeq, .snapTb0, .logStat]
/-- Part 5 of the list of registers. -/
def Reg.all5 : List Reg := [.logLost, .lifeCfg, .lifeStat, .lifeSeq, .snapHold, .snapPair, .snapHold2]
/-- Every register of the map. -/
def Reg.all : List Reg := Reg.all0 ++ Reg.all1 ++ Reg.all2 ++ Reg.all3 ++ Reg.all4 ++ Reg.all5

/-- The address of instance `n` (with its inner index folded in: `n = outer * icount + inner`, outer
counted from the row's first number) of a register (R578). -/
def Reg.addr (r : Reg) (n : Nat) : Nat :=
  let w := r.row
  w.base + w.stride * (n / w.icount - w.first) + (if w.icount = 1 then 0 else w.istride * (n % w.icount))

/-- A word of the register map: which register, which instance, and whether it is the high word of
a 64-bit pair. -/
structure RegRef where
  reg : Reg
  inst : Nat
  high : Bool
  deriving DecidableEq, Repr

/-- Does address `a` name a word of register `r` (R577, R578)? -/
def Reg.hit (r : Reg) (a : Nat) : Option RegRef :=
  let w := r.row
  if a < w.base then none else
  let off := a - w.base
  let n := off / w.stride
  let rem := off % w.stride
  let k := rem / w.istride
  let q := rem % w.istride
  if n < w.count && k < w.icount && (q == 0 || (w.pair && q == 4)) then
    some ⟨r, (n + w.first) * w.icount + k, q == 4⟩
  else none

/-- The register word at a word-aligned address, if the map lists one (R576, R577). -/
def regAt (a : Nat) : Option RegRef :=
  if a % 4 = 0 then Reg.all.findSome? (fun r => r.hit a) else none

/-- A word with ones in the listed bit ranges (high, low). -/
def bitsMask (l : List (Nat × Nat)) : Nat :=
  l.foldl (fun m p => m + (2 ^ (p.1 + 1) - 2 ^ p.2)) 0

/-- The reset value of the register word at address `a` (R579); 0 where the map lists none. -/
def resetWord (a : Nat) : Word :=
  match regAt a with
  | some ref =>
    let v := ref.reg.row.reset
    BitVec.ofNat 32 (if ref.high then v / 2 ^ 32 else v)
  | none => 0

end Sys2Proof.Machine
end

