-- ==== Sys2Proof/Machine/Tab.lean ====
section
/-! DEFINITION. Sparse tables: a list of (key, value) pairs, keys strictly rising, no pair whose
value is the table's reset value at that key. Equal tables are equal lists. Register words, channel
records and memory bytes are held this way. -/

namespace Sys2Proof.Machine

/-- A sparse table. -/
abbrev Tab (α : Type) := List (Nat × α)

/-- The value at key `i`; a key the table does not list holds `d i`. -/
def Tab.get {α : Type} (d : Nat → α) : Tab α → Nat → α
  | [], i => d i
  | (k, v) :: t, i => if k = i then v else Tab.get d t i

/-- Drop every pair of key `i`. -/
def Tab.drop {α : Type} (t : Tab α) (i : Nat) : Tab α := t.filter (fun p => decide (p.1 ≠ i))

/-- Set key `i` to `v`, keeping keys rising and dropping a value equal to the reset value. Where keys do not rise, a later pair of the
same key is dropped with it, so that reading key `i` gives `v` of every table. -/
def Tab.set {α : Type} [DecidableEq α] (d : Nat → α) : Tab α → Nat → α → Tab α
  | [], i, v => if v = d i then [] else [(i, v)]
  | (k, w) :: t, i, v =>
    if i < k then (if v = d i then (k, w) :: Tab.drop t i else (i, v) :: (k, w) :: t)
    else if i = k then (if v = d i then Tab.drop t i else (i, v) :: t)
    else (k, w) :: Tab.set d t i v

/-- Change the value at one key by a function. -/
def Tab.mod {α : Type} [DecidableEq α] (d : Nat → α) (t : Tab α) (i : Nat) (f : α → α) : Tab α :=
  t.set d i (f (t.get d i))

/-- Change every listed value, dropping those that become the reset value, and with one the later pairs of its key. -/
def Tab.mapVals {α : Type} [DecidableEq α] (d : Nat → α) (t : Tab α) (f : α → α) : Tab α :=
  match t with
  | [] => []
  | (k, v) :: r => if f v = d k then Tab.drop (Tab.mapVals d r f) k else (k, f v) :: Tab.mapVals d r f

/-- Keys strictly rising, all above the bound. -/
def Tab.rising {α : Type} : Option Nat → Tab α → Bool
  | _, [] => true
  | none, (k, _) :: t => Tab.rising (some k) t
  | some b, (k, _) :: t => decide (b < k) && Tab.rising (some k) t

/-- The canonical form: keys strictly rising and no listed value equal to the reset value. -/
def Tab.wf {α : Type} [DecidableEq α] (d : Nat → α) (t : Tab α) : Bool :=
  Tab.rising none t && t.all (fun p => decide (p.2 ≠ d p.1))

end Sys2Proof.Machine
end

