-- ==== Sys2Proof/Machine/State.lean ====
section
/-! DEFINITION. The hub's state: every register, queue, counter, mode and pin level the spec gives
it, block by block, and the queue of waiting commands. Plain data throughout. -/

namespace Sys2Proof.Machine

/-- Why the machine would stop with a fault. The hub itself never stops: every error of the spec has
an outcome (an event bit, a log entry, a fence, a reset), so no command of this model raises one. -/
inductive Fault where
  /-- Raised by nobody; it stands for a stop of the hub, which the spec does not have. Safe. -/
  | stopped
  deriving DecidableEq, Repr

/-- Why a command would have no meaning. -/
inductive Refusal where
  /-- Raised by an arm of `exec` whose command has no meaning yet; none is left. Safe. -/
  | notModelled (mnemonic : String)
  deriving DecidableEq, Repr

/-! ### Host ports (spec 03) -/

/-- What the hub holds for one host H0–H3: its session's port (R80), its command queue (R71), its reply
queue with the bytes already read of the front reply (R60, R67), the completions held for want of a
slot (R600), its outstanding ACCEPTED commands as (tag, opcode) (R78), the SET_HOST_SLEEP flag and
the level of its HSLEEPn pin (R54), whether the session closes once the PROVISION reply has been read (R56), the high
words latched by low-word reads of 64-bit pairs, by address (R544), and
the slots that the turn in progress keeps for its own replies (R600; 0 between turns). -/
structure HostSt where
  session : Option Nat
  queue : List Pkt
  replies : List Reply
  readPos : Nat
  held : List Reply
  asyncOut : List (Nat × Nat)
  sleepSet : Bool
  pinAsleep : Bool
  closing : Bool
  pairLatch : Tab Word
  due : Nat
  deriving DecidableEq, Repr

/-- A host after a reset: no session, empty queues (R80), awake. -/
def HostSt.reset : HostSt := ⟨none, [], [], 0, [], [], false, false, false, [], 0⟩

/-! ### The bittern log (spec 18, R567 to R569) -/

/-- One log entry; `run` tells two runs of one SOURCE and CODE apart (the wave of a LOOP entry), and
`isOpen` is R569's open mark. -/
structure LogEntry where
  time : Nat
  source : Nat
  code : Nat
  rep : Nat
  run : Nat
  isOpen : Bool
  deriving DecidableEq, Repr

/-! ### Interrupt controller (spec 17) -/

/-- One interrupt target: private pending bits (R528), the stack of (vector, priority), top first
(R532), the two fault vectors due (R535) and whether a wake pulse is running (R537). -/
structure Target where
  pend : BitVec 16
  stack : List (Nat × Nat)
  stackFault : Bool
  logSat : Bool
  pulse : Bool
  deriving DecidableEq, Repr

/-- A target after a reset. -/
def Target.reset : Target := ⟨0, [], false, false, false⟩

/-- One shared source: pending (R528), the target R538 moved it to, and the target whose wake pulse was sent for it
while it stays unacknowledged (R538). -/
structure Src where
  pending : Bool
  moved : Option Nat
  wakeSent : Option Nat
  deriving DecidableEq, Repr

/-- A shared source after a reset. -/
def Src.reset : Src := ⟨false, none, none⟩

/-! ### Sluices and event pins (spec 17) -/

/-- One sluice: held levels of inputs A, B, C (R515), the flip-flop Q, a rise waiting for the
filter, as the wave of its event (R516), HOPS and WAVE of the last output (SL_STATn). -/
structure Sluice where
  levels : BitVec 3
  q : Bool
  filtering : Option Nat
  hops : Nat
  wave : Nat
  deriving DecidableEq, Repr

/-- A sluice after a reset. -/
def Sluice.reset : Sluice := ⟨0, false, none, 0, 0⟩

/-- One event pin EVn: the level the outside or the driver gives it, the level it drives when it
is a launch output, the polarities of the pulses running on it, and a PIN_LEVEL waiting for a pulse to end (R380). -/
structure Pin where
  level : Bool
  drive : Bool
  pulses : List Bool
  after : Option Bool
  deriving DecidableEq, Repr

/-- A pin after a reset: low, nothing driven (DESIGN CHOICE, log 10: the spec gives no outside level). -/
def Pin.reset : Pin := ⟨false, false, [], none⟩

/-- An event raised at an event output: the output number and its kind, 0 where the output gives no
kinds (R510). -/
structure Evt where
  output : Nat
  kind : Nat
  deriving DecidableEq, Repr

/-! ### Timebases (spec 11) -/

/-- A binary floating-point number held exactly: `m * 2 ^ e`. -/
structure Dy where
  m : Int
  e : Int
  deriving DecidableEq, Repr

/-- One disciplined timebase TB1–TB3: its value in units of 2^−32 ns and its rate (R339), its state of
R350, epoch, LOCKED with the two run counts of R353, the learned rate `freq` of R352, the last
measured offset in units of 2^−32 ns (TB_OFFSn) and the TB0 instants, in 1/64 ns, of the last measurement that arrived and the last accepted one
(R351, R352, R367), the last accepted SYNC of each GM as (GM, SEQ, TIME + CORRECTION in 2^−16 ns) (R359), HOPS and GM of the last one
(TB_STATn), and the log of R347 as (tick, rate from the next tick on), newest first. -/
structure Tb where
  v : Int
  r : Int
  state : Nat
  epoch : Nat
  locked : Bool
  lockRun : Nat
  unlockRun : Nat
  freq : Dy
  offs : Int
  measAt : Option Nat
  accAt : Option Nat
  syncs : List (Nat × Nat × Int)
  hops : Nat
  gm : Nat
  rates : List (Nat × Int)
  deriving DecidableEq, Repr

/-- UNSET (R340). -/
def Tb.reset : Tb := ⟨0, 0, 0, 0, false, 0, 0, ⟨0, 0⟩, 0, none, none, [], 0, 0, []⟩

/-- One of the links LG0, LG1 and the radio, as R360 and R362 use it: the link delay (units of 2^−32 ns; none
before the first exchange), the request outstanding as (SEQ, t1 in units of 2^−32 ns), and the sequence number of
the next request. -/
structure TimeLink where
  delay : Option Int
  req : Option (Nat × Int)
  seq : Nat
  deriving DecidableEq, Repr

/-- A link after a reset. -/
def TimeLink.reset : TimeLink := ⟨none, none, 0⟩

/-- A capture of the four timebases: their values in ns and the epochs of TB1–TB3. -/
structure TbCap where
  vals : List Nat
  epochs : List Nat
  deriving DecidableEq, Repr

/-- The timebase block: TB1–TB3 by number, the arrival latches with the stages that wait for their
stamp, each as (n, f), oldest first (R341, R342), the capture group's two stages and OVERRUN (R369, R555),
the links of R360 and R362, the last radio SYNC as (t1, t2) in 2^−32 ns with the count of SYNCs since the last DELAY_REQ (R362), and
the SYNC sequence number sent as LEADER. -/
structure TimeBlk where
  tb : Tab Tb
  latches : Tab (List (Nat × Nat))
  cap : TbCap
  cap2 : Option TbCap
  capOvr : Bool
  links : Tab TimeLink
  radioSync : Option (Int × Int)
  syncCount : Nat
  syncSeq : Nat
  rfSyncAt : Option Nat
  deriving DecidableEq, Repr

/-- The timebase block after a reset: every disciplined timebase UNSET (R340), every latch empty. -/
def TimeBlk.reset : TimeBlk := ⟨[], [], ⟨[0, 0, 0, 0], [0, 0, 0]⟩, none, false, [], none, 0, 0, none⟩

/-! ### Launches and timers (spec 12) -/

/-- One launch entry (R372, R375): its state, the fields of its LN_WRITE (`late` the policy in force, 1–3),
T_0 and the number k of the next period (R374), FIRED and SKIPPED of LN_CNTn, and the firings since the last LN_WRITE (R390). -/
structure Launch where
  state : Nat
  onStart : Bool
  late : Nat
  tb : Nat
  time : Nat
  period : Nat
  rept : Nat
  action : Nat
  allBound : Bool
  arg : Nat
  pinMode : Nat
  width : Nat
  t0 : Int
  k : Nat
  fired : Nat
  skipped : Nat
  firings : Nat
  deriving DecidableEq, Repr

/-- EMPTY (R375). -/
def Launch.reset : Launch := ⟨0, false, 0, 0, 0, 0, 0, 0, false, 0, 0, 0, 0, 0, 0, 0, 0⟩

/-- One timer: state 0 IDLE, 1 RUNNING, 2 ENDED (R384), LATE and GAP (R389), the count from which the present run
counts, the TB0 instant S in 1/64 ns at which it had that count (R385), whether this run has reached MATCH, and the
capture register's two stages with CAP_OVR (R388, R555). -/
structure Timer where
  state : Nat
  late : Bool
  gap : Bool
  count : Nat
  start : Nat
  matched : Bool
  cap : Nat
  cap2 : Option Nat
  capOvr : Bool
  deriving DecidableEq, Repr

/-- IDLE at 0. -/
def Timer.reset : Timer := ⟨0, false, false, 0, 0, false, 0, none, false⟩

/-! ### Samples on the path (spec 01, 11) -/

/-- A stamp: still waiting for its latch (the latch's number, n and f), with the group delay in ns that is to be subtracted, its pre-stage's
when the sample was formed (R193), or composed as a value and the epoch in which it was composed (R345, R346). -/
structure Stamp where
  latch : Option (Nat × Nat × Nat)
  val : Nat
  epoch : Nat
  gd : Rat
  deriving DecidableEq, Repr

/-- A composed stamp. -/
def Stamp.at (v e : Nat) : Stamp := ⟨none, v, e, 0⟩

/-- One input sample in the entry FIFO or the engine (R16, R19): its channel, up to four 24-bit components as
signed numbers, its flags, its stamp, where R205 gives it one from the source its source index g, and the UNSETTLED mark
that a service (R270) or a remote hub (R416) puts on it. -/
structure Sample where
  chan : Nat
  comps : List Int
  gap : Bool
  stale : Bool
  degraded : Bool
  sat : Bool
  late : Bool
  stamp : Stamp
  g : Option Int
  unsettled : Bool := false
  deriving DecidableEq, Repr

/-! ### Channels (spec 04) -/

/-- What the hub holds for one channel beside its table descriptor (R125, R133): state 0 OFF, 1 STOPPED,
2 RUNNING, 3 DEGRADED, 4 FENCED; whether it was OFF when it was fenced (R126); suspended by reserve hold; the
pinned applied copy (R116); DIRTY (R602); TIER and TIER_OFF, a tier change waiting for its boundary, and the tier in
the last plan; LAST_CHECK, FAIL_RUN, OVERFLOW, FAILED, LAST_GOOD; good acquisitions in a row while DEGRADED; the
last good sample's components (R128); a GAP owed to the next accepted sample (R19); a Tower restart owed
at the next boundary, and whether the step that owes it went forward (R601); the count of qualifying pin edges since the last sample (R103); whether the 10 ms
of R112 have passed; alpha of the DC block, as the last application or tier change computed it (R209); and the capture of the last qualifying pin edge (R23). -/
structure Chan where
  state : Nat
  wasOff : Bool
  suspended : Bool
  pinned : Option (List Word)
  dirty : Bool
  tier : Nat
  tierOff : Bool
  tierNext : Option (Nat × Bool)
  lastCheck : Nat
  failRun : Nat
  overflow : Nat
  failed : Nat
  lastGood : Nat
  goodRun : Nat
  lastComps : List Int
  gapOwed : Bool
  restartOwed : Bool
  stepGap : Bool
  edges : Nat
  overdue : Bool
  alpha : Int
  edge : Option Stamp
  deriving DecidableEq, Repr

/-- OFF, as after a cold boot (R98). -/
def Chan.reset : Chan := ⟨0, false, false, none, false, 0, false, none, 0, 0, 0, 0, 0, 0, [], false, false, false, 0, false, 0, none⟩

/-- A CHAN_COMMIT, CHAN_START or CHAN_STOP in progress (R119, R135): the host and packet that sent it, and the
channels it still waits for; `fenced` when one of them was fenced meanwhile (R123); of a CHAN_START, the channels that ran and were
not checked, and whether one of them, stopped meanwhile, failed the check that its start then needed (log 67). -/
structure ChanJob where
  host : Nat
  op : Nat
  tag : Nat
  reply : Bool
  left : List Nat
  fenced : Bool
  unchecked : List Nat
  bad : Bool
  deriving DecidableEq, Repr

/-! ### Serial ports and the poll sequencer (spec 05) -/

/-- An acquisition waiting or running on a port (R158 to R163): its channel, the TB0 instant at which it was due (1/64 ns)
and its priority (R160), its stamp (R128, R162): that instant's, and from then on the capture of the last attempt of the first transaction, the copied script slots (four words each), the
index of the transaction, the failed attempts of it, the phase (0 waiting to start, 1 in a transaction, 2
in RETRY_GAP, 3 in POST_DELAY), the bytes read so far, the source index g, the
LATE and GAP a trigger passes on, and whether a full latch discarded that transaction's edge (R344). -/
structure Acq where
  chan : Nat
  due : Nat
  prio : Nat
  stamp : Stamp
  script : List (List Word)
  idx : Nat
  tries : Nat
  phase : Nat
  bytes : List Byte
  g : Option Int
  late : Bool
  gap : Bool
  lost : Bool
  deriving DecidableEq, Repr

/-- A common command code that an I3C port put on its bus: the code, the target it was directed to (none: broadcast) and its data (R169 to R171). -/
structure Ccc where
  code : Nat
  addr : Option Nat
  data : List Nat
  deriving DecidableEq, Repr

/-- One serial port, 0–11 SSP, 12–17 I3C (R136, R178): the acquisitions it serves, the running one first when its
phase is not 0; the foreign select and whether BUS_FREE has passed since its release (R144); bus initialisation running (R170); the figures of
PORT_STATUS, CUR_SEL, MF_RUN and FRAMES of SSPn_STAT, the failed bus recoveries in a row (R175), whether a mode fault has taken the drive off the
pins (R145), the CCCs of the latest bus operation in the order sent (R169 to R171), and whether the latest hot-join request was acknowledged (R171). -/
structure Port where
  acqs : List Acq
  foreign : Bool
  busFree : Bool
  init : Bool
  lastFail : Nat
  skipped : Nat
  transactions : Nat
  failed : Nat
  recoveries : Nat
  recovRun : Nat
  curSel : Nat
  mfRun : Nat
  frames : Nat
  floating : Bool
  cccs : List Ccc
  joinAck : Bool
  deriving DecidableEq, Repr

/-- A port after a reset. -/
def Port.reset : Port := ⟨[], false, true, false, 0, 0, 0, 0, 0, 0, 0, 0, 0, false, [], false⟩

/-! ### The Tower (spec 07) -/

/-- Per component of a channel (R204): half-band histories by stage, newest first (a stage not yet fed holds []), the phase line (the
same), the DC estimate, the running sum and the count of the output period, and by stage the residues formed since the previous
output (R243). -/
structure TowerComp where
  hist : List (List Int)
  res : List (List Int)
  dline : List Int
  est : Int
  sum : Int
  cnt : Nat
  deriving DecidableEq, Repr

/-- The flags an output carries (R223), with `first` for the first output after a restart (R245). -/
structure OutFlags where
  unsettled : Bool
  gap : Bool
  stale : Bool
  degraded : Bool
  late : Bool
  sat : Bool
  first : Bool
  deriving DecidableEq, Repr

/-- No flag. -/
def OutFlags.none : OutFlags := ⟨false, false, false, false, false, false, false⟩

/-- A Tower output waiting for its stamp or its fan-out (R17, R346): the channel, the components in Q24.8, its flags, the stamp of the
input that completed it, the delay of R212 in 1/256 source periods, T_nom as a fraction of ns where R213 gives it a fixed value, the last input stamps from which it is taken
otherwise, the threshold event codes of the output, whether it is a sample or only carries the LEAVE events of a restart (R220), and by component and stage the residues of R243. -/
structure Output where
  chan : Nat
  comps : List Int
  flags : OutFlags
  stampIn : Stamp
  delay : Int
  tnom : Option (Nat × Nat)
  stamps : List Stamp
  thr : List Nat
  sample : Bool
  res : List (List (List Int))
  deriving DecidableEq, Repr

/-- The Tower state of one channel (R204 to R223): its components, the count of inputs since the restart, whether the DC estimate waits to be seeded (R210),
the nine comparators as (0 OUT, 1 QUAL, 2 IN; run count) (R217), SETTLE_LEFT, the flags gathered since the previous output, the last eight
input stamps, newest first, the stamp of the last output (as its Output without components), whether any output has been formed since the restart, and the
restarts so far. -/
structure TowerCh where
  comps : List TowerComp
  count : Nat
  seed : Bool
  cmps : List (Nat × Nat)
  settle : Nat
  pend : OutFlags
  stamps : List Stamp
  last : Option Output
  fresh : Bool
  restarts : Nat
  deriving DecidableEq, Repr

/-- No Tower state. -/
def TowerCh.reset : TowerCh := ⟨[], 0, true, [], 0, OutFlags.none, [], none, true, 0⟩

/-- A value inside a pre-stage: whether an overloaded bit contributed to it (R184), and whether a saturation did (R214). -/
structure PreVal where
  v : Int
  ovl : Bool
  sat : Bool
  deriving DecidableEq, Repr

/-- One bitstream pre-stage, 0–15 AIN, 16–23 PDM (R214): the histories of its cascaded stages, the count of bits, the blank of R196, and whether the channel has
restarted already for the change that the blank belongs to (R197). -/
structure PreStage where
  hist : List (List PreVal)
  count : Nat
  blank : Bool
  noRestart : Bool
  deriving DecidableEq, Repr

/-- A pre-stage after a reset. -/
def PreStage.reset : PreStage := ⟨[], 0, false, false⟩

/-- The Tower block: the entry FIFO (R18), the channel served last (R21), the channels' state, the outputs held at the output port,
oldest first, the state pool's reserved ranges as (first word, length, channel) in word order (R226), TWR_MACS, the pre-stages. -/
structure TowerBlk where
  entry : List Sample
  lastServed : Nat
  ch : Tab TowerCh
  held : List Output
  pool : List (Nat × Nat × Nat)
  macs : Nat
  pre : Tab PreStage
  deriving DecidableEq, Repr

/-- The Tower after a reset: everything empty; the selection starts at CH0. -/
def TowerBlk.reset : TowerBlk := ⟨[], 191, [], [], [], 0, []⟩

/-! ### Analogue inputs (spec 06) -/

/-- The AFE's state beside its registers: which excitation outputs have settled, and which limit their current (R187, R188); whether the internal
reference has settled, and by input whether the latest bit found the modulator overloaded (R184). -/
structure AfeBlk where
  settled : BitVec 4
  limiting : BitVec 4
  refReady : Bool
  overloaded : BitVec 16
  deriving DecidableEq, Repr

/-- The AFE after a reset. -/
def AfeBlk.reset : AfeBlk := ⟨0, 0, false, 0⟩

/-! ### The Crystalliser (spec 08) -/

/-- One feature unit's runtime (R242, R244): valid, value, updates since the reset (capped at what validity needs), the window of SLOPE, newest first, the accumulator
(LEVEL's L, BAND_RMS's sum, crossings counted), outputs in the present block, the sign of ZERO_CROSS_RATE (0 before either), the
correlator's running sums, the ring position, and the template's sums computed at arming. -/
structure Feat where
  valid : Bool
  value : Int
  upd : Nat
  win : List Int
  acc : Int
  cnt : Nat
  sign : Int
  sx : Int
  sxx : Int
  pos : Nat
  st : Int
  stt : Int
  deriving DecidableEq, Repr

/-- A feature unit after a feature reset (R245). -/
def Feat.reset : Feat := ⟨false, 0, 0, [], 0, 0, 0, 0, 0, 0, 0, 0⟩

/-- One seed's runtime (R249, CRY_SEEDSTATn): armed, state, HELD, CHECK, run counts, dwell, TAKEN, its four units. -/
structure Seed where
  armed : Bool
  state : Nat
  held : Bool
  check : Nat
  run0 : Nat
  run1 : Nat
  dwell : Nat
  taken : Nat
  feats : List Feat
  deriving DecidableEq, Repr

/-- A disarmed seed that never ran. -/
def Seed.reset : Seed :=
  ⟨false, 0, false, 0, 0, 0, 0, 0, [Feat.reset, Feat.reset, Feat.reset, Feat.reset]⟩

/-- A Tower output with its stamp composed, as a destination receives it (R17): channel, components in Q24.8, flags, stamp in the channel's timebase and the
epoch in which it was composed, the stages of the preset that formed it, and its residues. -/
structure Delivered where
  chan : Nat
  comps : List Int
  flags : OutFlags
  stamp : Nat
  epoch : Nat
  stages : Nat
  res : List (List (List Int))
  deriving DecidableEq, Repr

/-- The Crystalliser: seeds, input FIFO, CRY_CORMACS, and the flags of the latest output processed, by channel (R249). -/
structure CryBlk where
  seeds : Tab Seed
  fifo : List Delivered
  macs : Nat
  flags : Tab OutFlags
  deriving DecidableEq, Repr

/-- The Crystalliser after a reset (R237). -/
def CryBlk.reset : CryBlk := ⟨[], [], 0, []⟩

/-! ### Salter services (spec 09)

Instances are numbered in the service order of R266: ORIENT 0–7 are 0–7, TREND 8, MACHINE_STATE 0–15 are 9–24, WEAR 25, TIME 26, WAKE 27. -/

/-- The common state of a service instance (R295): ERROR, OUTPUTS, OVERRUN, instructions in the last planning epoch and in the present one, and a GAP
owed to its next output (R291). -/
structure SvcInst where
  error : Nat
  outputs : Nat
  overrun : Nat
  instr : Nat
  instrNow : Nat
  gapOwed : Bool
  deriving DecidableEq, Repr

/-- An instance after a reset. -/
def SvcInst.reset : SvcInst := ⟨0, 0, 0, 0, 0, false⟩

/-- ORIENT (R276, R277): the quaternion, n, the last gyroscope stamp, the latest accelerometer and magnetometer values with their flags, the flags gathered from
the inputs used since the last output sample, and gyroscope outputs since the restart. -/
structure Orient where
  q : List Dy
  n : Nat
  last : Option Nat
  acc : Option (List Int)
  accFlags : OutFlags
  mag : Option (List Int)
  magFlags : OutFlags
  flags : OutFlags
  seen : Nat
  deriving DecidableEq, Repr

/-- ORIENT after a restart. -/
def Orient.reset : Orient := ⟨[⟨1, 0⟩, ⟨0, 0⟩, ⟨0, 0⟩, ⟨0, 0⟩], 0, none, none, OutFlags.none, none, OutFlags.none, OutFlags.none, 0⟩

/-- An open TREND period of a channel (R279), with the stamp of the newest output counted as (value, timebase, epoch), and the period whose end opened it or the latest one before, as
its number and whether the UTC calendar counts it. -/
structure TrendPeriod where
  count : Nat
  mn : Int
  mx : Int
  sum : Int
  sumsq : Nat
  excluded : Nat
  bins : List Nat
  part : Bool
  flags : OutFlags
  last : Option (Nat × Nat × Nat)
  ended : Option (Nat × Bool)
  deriving DecidableEq, Repr

/-- A period freshly opened at its nominal start. -/
def TrendPeriod.fresh : TrendPeriod := ⟨0, 0, 0, 0, 0, 0, List.replicate 16 0, false, OutFlags.none, none, none⟩

/-- A period opened after its nominal start (PARTIAL), as at boot. -/
def TrendPeriod.reset : TrendPeriod := { TrendPeriod.fresh with part := true }

/-- MACHINE_STATE (R283, R284): state, run count, the previous block's target, the block's sum of squares and outputs, the last x, whether the block
holds an input that discards it, blocks since the restart, the flags of the block's inputs. -/
structure Mach where
  state : Nat
  run : Nat
  prev : Nat
  sum : Nat
  cnt : Nat
  x : Nat
  bad : Bool
  blocks : Nat
  flags : OutFlags
  deriving DecidableEq, Repr

/-- MACHINE_STATE after a restart. -/
def Mach.reset : Mach := ⟨0, 0, 0, 0, 0, 0, false, 0, OutFlags.none⟩

/-- WEAR of one channel (R285): HOURS in seconds with the ticks of the unfinished second, OVER_RANGE, SHOCKS, and whether the next rise
counts. -/
structure Wear where
  hours : Nat
  ticks : Nat
  range : Nat
  shocks : Nat
  disarmed : Bool
  deriving DecidableEq, Repr

/-- No wear counted. -/
def Wear.reset : Wear := ⟨0, 0, 0, 0, false⟩

/-- WAKE's state for one host (R289, R295): whether GAP runs since the last pulse, pulses in this TB0 hour, the vectors of the requests that wait for the end of
GAP and of those held for the next hour, oldest first, and the two counts of SVC_STATUS. -/
structure WakeHost where
  gapRun : Bool
  hourPulses : Nat
  merged : List Nat
  held : List Nat
  pulses : Nat
  heldCount : Nat
  deriving DecidableEq, Repr

/-- WAKE of a host after a reset. -/
def WakeHost.reset : WakeHost := ⟨false, 0, [], [], 0, 0⟩

/-- The services: the parameter blocks as stored and as applied, by instance × 256 + word (R273), the instances, each service's own state, the latest TREND
summaries by channel × 2 + day (R281), the input queue (R291), and the wake requests that wait for WAKE as (host, vector, priority), and
the TREND periods that ended in a floor as (channel, day, number, CAL, TB0 instant in 1/64 ns). -/
structure SvcBlk where
  stored : Tab Word
  applied : Tab Word
  inst : Tab SvcInst
  orient : Tab Orient
  trend : Tab TrendPeriod
  trendLast : Tab (List Word)
  mach : Tab Mach
  wear : Tab Wear
  wake : Tab WakeHost
  queue : List (Nat × Delivered)
  wakeReqs : List (Nat × Nat × Nat)
  trendDue : List (Nat × Bool × Nat × Bool × Nat)
  deriving DecidableEq, Repr

/-- The services after a reset. -/
def SvcBlk.reset : SvcBlk := ⟨[], [], [], [], [], [], [], [], [], [], [], []⟩

/-! ### The Pan (spec 10) -/

/-- An item of the Tower-to-Pan FIFO (R311): record type (R303), source channel, stream, the six flags of R301 beside EPOCH and FAR, the stamp
with its timebase and the epoch in which it was composed, and the payload. -/
structure PanItem where
  type : Nat
  chan : Nat
  stream : Nat
  flags : OutFlags
  stamp : Nat
  tb : Nat
  epoch : Nat
  payload : List Word
  deriving DecidableEq, Repr

/-- One stream (R298): WP, RP, the mark, LOST of PAN_MARKn, SEQ (R307), the records lost since the previous tide mark
(R306), HOLDING and whether a RESUME tide mark is owed (R316), the channels whose next record carries GAP, the stream's
timebase value and epoch in the latest tide mark (R305, R307), whether the watermark was reached and not yet left
(R324), and by channel the records since RP last advanced (R325). -/
structure Stream where
  wp : Nat
  rp : Nat
  mark : Nat
  markValid : Bool
  markLost : Bool
  seq : Nat
  lost : Nat
  holding : Bool
  resumeOwed : Bool
  gaps : List Nat
  tide : Nat
  tideEpoch : Nat
  wmOn : Bool
  counts : Tab Nat
  deriving DecidableEq, Repr

/-- A stream never enabled. -/
def Stream.reset : Stream := ⟨0, 0, 0, false, false, 0, 0, false, false, [], 0, 0, false, []⟩

/-- The Pan: streams, and the Tower-to-Pan FIFO, oldest item first. -/
structure PanBlk where
  streams : Tab Stream
  fifo : List PanItem
  deriving DecidableEq, Repr

/-- The Pan after a reset. -/
def PanBlk.reset : PanBlk := ⟨[], []⟩

/-! ### The saltern (spec 13) -/

/-- A Legus frame without its symbols and CRC (R397): type, originator, hops, sequence number, view epoch, payload words. -/
structure LegFrame where
  type : Nat
  src : Nat
  hops : Nat
  seq : Nat
  view : Nat
  payload : List Word
  deriving DecidableEq, Repr

/-- A symbol that a Legus transmitter puts on its line (R395, R396): K28.5 between frames, K27.7 (SOF), a data byte, K29.7 (EOF), K30.7 (ABORT). -/
inductive LineSym where
  | idle
  | sof
  | data (b : Byte)
  | eof
  | abort
  deriving DecidableEq, Repr

/-- What the hub keeps of another hub, by index: whether it is heard, the fields of its last ANNOUNCE (R398), the SEQ of the last frame accepted from it
(R399), and whether it was a member since its last boot (R408). -/
structure Peer where
  heard : Bool
  req : Nat
  candidate : Bool
  outlier : Bool
  lg0Up : Bool
  lg1Up : Bool
  prio : Nat
  uid : Nat
  cfg : Word
  cmdset : Nat
  salter : Word
  lastSeq : Option Nat
  wasMember : Bool
  deriving DecidableEq, Repr

/-- A hub never heard. -/
def Peer.reset : Peer := ⟨false, 0, false, false, false, false, 0, 0, 0, 0, 0, none, false⟩

/-- One Legus link (R395): up, the neighbour's index, frames sent and received (R419). -/
structure LegLink where
  up : Bool
  nb : Option Nat
  sent : Nat
  received : Nat
  deriving DecidableEq, Repr

/-- A link after a reset. -/
def LegLink.reset : LegLink := ⟨false, none, 0, 0⟩

/-- REMOTE runtime of a channel (R416): the run of failed periods, whether an entry was accepted in this period, whether the source was in good standing at any
time of it, and the arrival instants of the last entries (TB0, 1/64 ns), newest first. -/
structure Remote where
  failed : Nat
  accepted : Bool
  sourceOk : Bool
  times : List Nat
  deriving DecidableEq, Repr

/-- A REMOTE channel before its first period. -/
def Remote.reset : Remote := ⟨0, false, false, []⟩

/-- An SLT_ROLE as applied or waiting (R417): role 0 SOLO, 1 MEMBER, 2 CANDIDATE. -/
structure Role where
  role : Nat
  index : Nat
  prio : Nat
  autoRejoin : Bool
  deriving DecidableEq, Repr

/-- SOLO. -/
def Role.solo : Role := ⟨0, 0, 0, false⟩

/-- The saltern: the role in force and the one that waits for the next view epoch (R34); the membership state (R404); the view
(R398); the LEADER's index, priority and UID; the hub's own flags STALE, DIVERGENT and OUTLIER; the highest epoch heard (R405); whether a
better-ranked candidate was heard in this ELECT; LOCKED seen since the hub entered the view (R413); the peers and links; whether the LEADER's
block is lifted (R403); the outstanding SLT_REJOINs as (host, tag, reply wanted), oldest first; the hub's own frame sequence number; the gathered SAMPLES
entries as words (R415); REMOTE channels; the indices admitted since the latest announce interval (R393); the frames that the latest sending
command put on the links, as (link, frame), in the order in which the transmitters take them (R401); the forwarded copies that it ended with ABORT (R396); whether this hub, not yet
admitted, has heard another hub with its index (R393); and the CFG that it last published in an ANNOUNCE (R409, R418). -/
structure SltBlk where
  role : Role
  waiting : Option Role
  state : Nat
  epoch : Nat
  common : Nat
  members : Word
  divergent : Word
  staleSet : Word
  outliers : Word
  leader : Nat
  leaderPrio : Nat
  leaderUid : Nat
  stale : Bool
  diverged : Bool
  outlier : Bool
  highest : Nat
  better : Bool
  lockedOnce : Bool
  peers : Tab Peer
  links : Tab LegLink
  lifted : Bool
  rejoin : List (Nat × Nat × Bool)
  seq : Nat
  batch : List (List Word)
  remote : Tab Remote
  admitted : List Nat
  sent : List (Nat × LegFrame)
  aborted : List (Nat × LegFrame)
  clash : Bool
  ownCfg : Word
  deriving DecidableEq, Repr

/-- SOLO, no view, COMMON 0x0300. -/
def SltBlk.reset : SltBlk :=
  ⟨Role.solo, none, 0, 0, 0x0300, 0, 0, 0, 0, 0, 0, 0, false, false, false, 0, false, false, [], [], false, [], 0, [], [], [], [], [], false, 0⟩

/-! ### The radio (spec 14) -/

/-- A transmit buffer (R438): ACK_REQ, AUTH, KEY, DST and the event words; empty without words. -/
structure RfBuf where
  ackReq : Bool
  auth : Bool
  key : Nat
  dst : Nat
  words : List Word
  deriving DecidableEq, Repr

/-- An empty transmit buffer. -/
def RfBuf.reset : RfBuf := ⟨false, false, 0, 0, []⟩

/-- A frame to send: the body KIND of R427, DST, content bytes, ACK_REQ, AUTH and KEY, the RF_TX it completes as (host, tag, reply wanted), whether a
launch sends it, its transmissions so far, and its sequence number once sent. -/
structure RfTx where
  kind : Nat
  dst : Nat
  content : List Byte
  ackReq : Bool
  auth : Bool
  key : Nat
  job : Option (Nat × Nat × Bool)
  launched : Bool
  tries : Nat
  seq : Nat
  deriving DecidableEq, Repr

/-- The radio: the state of R433, LOCKED, the result of RF_RX (LISTEN, GUARD), CAL_VALID, RSSI and LQI, the four buffers, the frame in hand, the frames that wait
(R435), the launched frame whose SYNTH entry was made (R436), the Imm-Ack owed, as its sequence number, whether the frame in hand waits for its
Imm-Ack, the next sequence number, the transmit frame counters by key slot (R430), the last counters accepted as (source, key, counter), most
recent first (R431), the outstanding RF_CAL as (host, tag, reply wanted, MASK, PASS, FAIL), calibrations due
(both of the first use at a reset, R434), the calibrations in progress for a temperature change, the bytes of the last frame sent with its FCS or CRC, whether the 32 MHz
crystal runs for the radio (R433), whether one of Salter's receive windows is open (R438), and the transmits that have ended and whose completion is not yet placed, as (result, tries, host, tag, reply wanted). -/
structure RfBlk where
  state : Nat
  locked : Bool
  listen : Nat
  guardTime : Nat
  calValid : Nat
  rssi : Nat
  lqi : Nat
  bufs : Tab RfBuf
  tx : Option RfTx
  wait : List RfTx
  launch : Option RfTx
  ackOwed : Option Nat
  ackWait : Bool
  seq : Nat
  ctr : Tab Nat
  seen : List (Nat × Nat × Nat)
  cal : Option (Nat × Nat × Bool × Nat × Nat × Nat)
  calDue : Nat
  calTemp : Nat
  lastSent : List Byte
  ended : List (Nat × Nat × Nat × Nat × Bool)
  xo : Bool
  window : Bool
  deriving DecidableEq, Repr

/-- The radio after a reset: OFF. -/
def RfBlk.reset : RfBlk :=
  ⟨0, false, 0, 0, 0, 0, 0, [], none, [], none, none, false, 0, [], [], none, 3, 0, [], [], false, false⟩

/-! ### Domains, Ledger and Planner (spec 02, 15) -/

/-- The rail of one domain: 0 off, 1 retention 0.35 V, 2 to 5 the operating rails 0.45 to 1.00 V (R27); and the rail a slew in
progress ends at (R29). -/
structure Dom where
  rail : Nat
  slew : Option Nat
  deriving DecidableEq, Repr

/-- A domain at 0.45 V with no slew. -/
def Dom.reset : Dom := ⟨2, none⟩

/-- What the Ledger holds for one domain: the energy drawn in aJ (R443), the quiet interval in progress as (TB0 instant in 1/64 ns, energy)
and the ended ones of the last 10 minutes as (end, length, energy) (R446), the time powered in this epoch up to
the instant `seen` (R454), the stroke charge in fC with CAL, the idle power in nW, s[d], and whether a recalibration waits for the domain to come up (R445). -/
structure Meter where
  en : Nat
  quiet : Option (Nat × Nat)
  quiets : List (Nat × Nat × Nat)
  on : Nat
  seen : Nat
  q : Nat
  cal : Bool
  idle : Nat
  scale : Rat
  calDue : Bool
  deriving DecidableEq, Repr

/-- A domain's meter after a reset. The trims are 0 (DESIGN CHOICE, log 11: the spec gives no value of 'Trim'; unsafe). -/
def Meter.reset : Meter := ⟨0, some (0, 0), [], 0, 0, 0, false, 0, 1, false⟩

/-- A channel's counts in one epoch, as R458 reads them: acquisitions, XACT, XBYTE, inputs. -/
structure EpochCnt where
  acqs : Nat
  xact : Nat
  xbyte : Nat
  inputs : Nat
  deriving DecidableEq, Repr

/-- Nothing counted. -/
def EpochCnt.reset : EpochCnt := ⟨0, 0, 0, 0⟩

/-- The Ledger: the domains; the accounts in nJ (R449, R451, R454), exact; STORE_VALID; VBAT in mV; the sense inputs that integrate; the tallies by channel × 64 +
slot × 4 + rail (R452: the kind, or 9 and 10 for XACT and XBYTE in PD4; channel 192 for tallies without one); the counts of the present and of the last epoch; whether an epoch was measured;
the energies of LDG_CHn in nJ; the total energy (aJ) at the last boundary, and the common energy of the last epoch; the energy in aJ that the next integration step takes from the store
(R451), and the TB0 instant (1/64 ns) of the last recalibration (R445). -/
structure Ledger where
  dom : Tab Meter
  common : Rat
  income : Rat
  draw : Rat
  store : Rat
  storeValid : Bool
  vbat : Nat
  tally : Tab Nat
  now : Tab EpochCnt
  prev : Tab EpochCnt
  measured : Bool
  ch : Tab Nat
  bound : Tab Nat
  lastCommon : Rat
  lastTotal : Nat
  lastLen : Nat
  owed : Nat
  calAt : Nat
  deriving DecidableEq, Repr

/-- The Ledger after a reset. -/
def Ledger.reset : Ledger := ⟨[], 0, 0, 0, 0, false, 0, [], [], [], false, [], [], 0, 0, 0, 0, 0⟩

/-- The Planner: EPOCH_SEQ, the TB0 instant of the last boundary (1/64 ns) and the instant R457 restarted the epochs from, the epochs left in the window, whether a
window begins at the next boundary (R456), the total energy (aJ) at the window's start, the comparator's limit in nJ above the boundary's total (R466), trips in this epoch, whether
the reserve comparator is ready to trip again (R469), the latest plan: p_a, p, planned tiers by channel (as PLANNED of R473), predicted powers, channels marked EMERG, OVER, OVERLOAD,
EMERGENCY, rails and UTIL; the epoch number at which each channel was lowered (R462), and the epoch energy per second. -/
structure Planner where
  seq : Nat
  bound : Nat
  origin : Nat
  left : Nat
  fresh : Bool
  spentBase : Nat
  limit : Option Rat
  trips : Nat
  reserveReady : Bool
  pa : Rat
  p : Rat
  planned : Tab Nat
  power : Tab Nat
  emerg : List Nat
  isOver : Bool
  overload : Bool
  emergency : Bool
  rails : Nat
  util : Nat
  lowered : Tab Nat
  perSec : Rat
  deriving DecidableEq, Repr

/-- The Planner after a reset: OFF; a window begins at the first boundary. -/
def Planner.reset : Planner :=
  ⟨0, 0, 0, 0, true, 0, none, 0, true, 0, 0, [], [], [], false, false, false, 0, 0, [], 0⟩

/-! ### The non-volatile store, lifetime record and calendar (spec 16) -/

/-- A firmware patch slot (R487 to R490): its image words, LENGTH and IMAGE_CRC as given to FW_BEGIN, whether its content stands
(a reset during its write makes it invalid, R486), pending, and whether it ran last. -/
structure PatchSlot where
  words : List Word
  length : Nat
  crc : Word
  verified : Bool
  pend : Bool
  ranLast : Bool
  deriving DecidableEq, Repr

/-- An empty patch slot. -/
def PatchSlot.reset : PatchSlot := ⟨[], 0, 0, false, false, false⟩

/-- The open firmware transfer (R488): the slot, LENGTH, IMAGE_CRC, the words received, the OFFSET of the previous FW_DATA,
and the FW_VERIFY outstanding as (host, tag, reply wanted). -/
structure FwXfer where
  slot : Nat
  length : Nat
  crc : Word
  words : List Word
  lastOff : Option Nat
  verify : Option (Nat × Nat × Bool)
  deriving DecidableEq, Repr

/-- A configuration image (R493): memory bytes, register words, service parameter words, launch entries, the value written to LDG_STORE, the floor
permission, the SLT_ROLE words and CFG_REF. `intact` is its CRC-32C and format check (R495). -/
structure CfgImage where
  mem : List Host.Cell
  regs : Tab Word
  svc : Tab Word
  launches : Tab Launch
  store : Option Nat
  floor : Nat
  role : List Word
  cfgRef : Word
  bytes : Nat
  intact : Bool
  deriving DecidableEq, Repr

/-- One copy of the lifetime record in the ring (R496, R497): SEQ, its words, whether its CRC passes. -/
structure LifeCopy where
  seq : Nat
  words : Tab Word
  intact : Bool
  deriving DecidableEq, Repr

/-- A calendar alarm (R504, R506): words 0 to 2 of CAL_ALARM. -/
structure Alarm where
  w0 : Word
  w1 : Word
  w2 : Word
  deriving DecidableEq, Repr

/-- An alarm never programmed. -/
def Alarm.reset : Alarm := ⟨0, 0, 0⟩

/-- The calendar (R501 to R503): whether it is valid, UTC seconds since 2000-01-01, whether the inserted second 23:59:60
is running, OFFSET, DST_SHIFT, the DST rules (words 2 and 3 of CAL_SET), summer time in force, the alarms, the tick at which the present second began, and
the change of LEAP that R503 expects, with the LEAP it is expected from. -/
structure Calendar where
  valid : Bool
  utc : Nat
  inLeap : Bool
  offset : Int
  shift : Nat
  dstStart : Word
  dstEnd : Word
  dst : Bool
  alarms : Tab Alarm
  mark : Int
  leapExp : Option (Nat × Int)
  deriving DecidableEq, Repr

/-- The calendar before it is ever set. -/
def Calendar.reset : Calendar := ⟨false, 0, false, 0, 0, 0, 0, false, [], 0, none⟩

/-- The non-volatile store (R485): lifecycle apart, the open firmware transfer, the NVS_CFG_SAVE outstanding as (slot, image, host, tag, reply wanted), the
secure store's host privileges (PROVISION's PRIV field), the host bound to
HP1, LOCK_CFG, LOCK_BOOTSEL, key slots, minimum patch minor version and selected image; the patch slots; the
image slots; the lifetime ring, newest copy first. -/
structure Store where
  xfer : Option FwXfer
  save : Option (Nat × CfgImage × Nat × Nat × Bool)
  privs : Nat
  hp1Host : Nat
  lockCfg : Bool
  lockBootsel : Bool
  keys : Tab (Option (List Byte))
  minMinor : Nat
  selected : Nat
  patches : Tab PatchSlot
  images : Tab (Option CfgImage)
  ring : List LifeCopy
  deriving DecidableEq, Repr

/-- The store as shipped: UNPROVISIONED, nothing stored, no image selected (DESIGN CHOICE, log 12: the spec does not give the factory content). -/
def Store.reset : Store := ⟨none, none, 0, 0, false, false, [], 0, 2, [], [], []⟩

/-- The live lifetime counts (R496): seconds in ACTIVE, DOZE and STANDBY with the ticks not yet a whole second, boot, brownout
and write counts, resets by cause, writes of each NVS sector, energies loaded at boot, SEQ of the newest complete copy, the cause of the last write and the write
in progress, FRESH and COPY_FAIL, the TB0 instant (1/64 ns) up to which scheduled writes are served, and whether the counts have survived a reset in PD0 (R498). -/
structure Life where
  secs : List Nat
  ticks : List Nat
  boots : Nat
  brownouts : Nat
  writes : Nat
  resets : Tab Nat
  nvs : Tab Nat
  base : Tab Nat
  seq : Nat
  cause : Nat
  writing : Option LifeCopy
  fresh : Bool
  copyFail : Bool
  lastAt : Nat
  kept : Bool
  deriving DecidableEq, Repr

/-- Before the first boot. -/
def Life.reset : Life := ⟨[0, 0, 0], [0, 0, 0], 0, 0, 0, [], [], [], 0, 0, none, false, false, 0, false⟩

/-- A write that waits in PD0's wake buffer (R480): the host, the operation (1 PKT_WRITE, 5 MEM_WRITE), the address and the bytes. -/
structure WakeBuf where
  host : Nat
  op : Nat
  addr : Nat
  bytes : List Byte
  deriving DecidableEq, Repr

/-- Power and start-up (R33 to R44, R477 to R484): the phase (0 held in reset, 1 booting, 2 running, 3 SHUTDOWN), the cause and fault code
latched at the reset, the BOOTSEL pin and the level sampled, the floor (0 ACTIVE, 1 DOZE, 2 STANDBY), the floor permission,
reserve hold, a wake source that waits for the wake, the suspension by a brownout warning and whether its write is done and the hub waits, the wake comparator's instant (TB0, 1/64 ns; none when
not loaded), TB0 at the descent, the SHUTDOWN armed by SYS_SHUTDOWN as (host, reply tag, EV0 wake, falling edge), the EV0 wake that holds in SHUTDOWN, the
SYS_RESET scheduled, the wake buffer, RECOVERY, AUTOSTART, PATCH, SLOT and FALLBACK of SYS_BOOT, the I/O bank classes measured at boot (R588), events held in PD0 for a floor (R526), whether reserve hold has stopped the links since the hub last served them (R51), and the banks to be measured again at the first enable of a port or pin (R588). -/
structure Power where
  phase : Nat
  cause : Nat
  fault : Nat
  bootsel : Bool
  floor : Nat
  permit : Nat
  reserveHold : Bool
  wakeReq : Bool
  brownHold : Bool
  brownWait : Bool
  wakeCmp : Option Nat
  descent : Nat
  shutArm : Option (Nat × Nat × Bool × Bool)
  shutWake : Option Bool
  resetArm : Bool
  wakeBuf : Option WakeBuf
  recovery : Bool
  autostart : Nat
  patch : Bool
  slot : Nat
  fallback : Bool
  banks : List Nat
  heldEvents : Tab Nat
  linksLost : Bool
  bankWait : List Nat
  deriving DecidableEq, Repr

/-- The start of a POWER_ON boot: reset just released, booting. The banks are taken as 1.8 V until measured (DESIGN CHOICE, log 10). -/
def Power.reset : Power :=
  ⟨1, 1, 0, false, 0, 0, false, false, false, false, none, 0, none, none, false, none, false, 0, false, 0, false, [1, 1, 1, 1], [], false, []⟩

/-! ### Configuration check and snapshot (spec 18) -/

/-- One check unit (R556): its reference CRC, once a commit or an autostart has taken one; its dirty bit (R558); the CRC of the last pass; whether its drift has
been reported (R559). -/
structure ChkUnit where
  ref : Option Word
  dirty : Bool
  last : Option Word
  drift : Bool
  deriving DecidableEq, Repr

/-- A unit before the first pass. -/
def ChkUnit.reset : ChkUnit := ⟨none, false, none, false⟩

/-- The configuration check: the units by number, the CFG_COMMIT outstanding as (host, tag, reply wanted) (R93). -/
structure Check where
  units : Tab ChkUnit
  commit : Option (Nat × Nat × Bool)
  deriving DecidableEq, Repr

/-- Before the first pass. -/
def Check.reset : Check := ⟨[], none⟩

/-- A configuration snapshot's words (R561) in two stages (R555), SNAP_SEQ and its OVERRUN. -/
structure SnapBlk where
  words : List Word
  second : Option (List Word)
  seq : Nat
  overrun : Bool
  deriving DecidableEq, Repr

/-- No snapshot taken. -/
def SnapBlk.reset : SnapBlk := ⟨[], none, 0, false⟩

/-! ### The hub -/

/-- The whole hub, and the commands that wait, first in, first out. -/
structure State where
  pending : List Instr
  tick : Nat
  sub : Nat
  provisioned : Bool
  free : Nat
  regs : Tab Word
  applied : Tab Word
  mem : List Host.Cell
  hosts : Tab HostSt
  turn : Nat
  sessionNo : Nat
  out : List Byte
  hp1Ibi : Nat
  log : List LogEntry
  logSat : Bool
  fenced : Tab Nat
  runs : List Nat
  check : Check
  snap : SnapBlk
  groups : List (Nat × List Nat)
  targets : Tab Target
  srcs : Tab Src
  sluices : Tab Sluice
  pins : Tab Pin
  evq : List Evt
  wave : Nat
  jobs : List ChanJob
  chans : Tab Chan
  ports : Tab Port
  afe : AfeBlk
  twr : TowerBlk
  cry : CryBlk
  svc : SvcBlk
  pan : PanBlk
  time : TimeBlk
  launches : Tab Launch
  timers : Tab Timer
  slt : SltBlk
  rf : RfBlk
  doms : Tab Dom
  ldg : Ledger
  pln : Planner
  store : Store
  life : Life
  cal : Calendar
  pwr : Power
  deriving DecidableEq, Repr

/-- Right after the release of a POWER_ON reset (R482): every block in its reset state, booting until COLD_BOOT completes, the store as
shipped, nothing pending. -/
def State.reset : State where
  pending := []
  tick := 0
  sub := 0
  provisioned := false
  free := 0
  regs := []
  applied := []
  mem := []
  hosts := []
  turn := 0
  sessionNo := 0
  out := []
  hp1Ibi := 0
  log := []
  logSat := false
  fenced := []
  runs := []
  check := Check.reset
  snap := SnapBlk.reset
  groups := []
  targets := []
  srcs := []
  sluices := []
  pins := []
  evq := []
  wave := 0
  jobs := []
  chans := []
  ports := []
  afe := AfeBlk.reset
  twr := TowerBlk.reset
  cry := CryBlk.reset
  svc := SvcBlk.reset
  pan := PanBlk.reset
  time := TimeBlk.reset
  launches := []
  timers := []
  slt := SltBlk.reset
  rf := RfBlk.reset
  doms := []
  ldg := Ledger.reset
  pln := Planner.reset
  store := Store.reset
  life := Life.reset
  cal := Calendar.reset
  pwr := Power.reset

end Sys2Proof.Machine
end

