-- ==== Sys2Proof/Machine/Access.lean ====
section
/-! DEFINITION. Reading and changing one item of each of the state's tables: one pair of operations per table. -/

namespace Sys2Proof.Machine

/-- The `hosts` table's entry `i`. -/
def State.host (s : State) (i : Nat) : HostSt := s.hosts.get (fun _ => HostSt.reset) i

/-- Put an entry into the `hosts` table. -/
def State.setHost (s : State) (i : Nat) (x : HostSt) : State := { s with hosts := s.hosts.set (fun _ => HostSt.reset) i x }

/-- Change one entry of the `hosts` table. -/
def State.modHost (s : State) (i : Nat) (f : HostSt → HostSt) : State := s.setHost i (f (s.host i))

/-- The `targets` table's entry `i`. -/
def State.target (s : State) (i : Nat) : Target := s.targets.get (fun _ => Target.reset) i

/-- Put an entry into the `targets` table. -/
def State.setTarget (s : State) (i : Nat) (x : Target) : State := { s with targets := s.targets.set (fun _ => Target.reset) i x }

/-- Change one entry of the `targets` table. -/
def State.modTarget (s : State) (i : Nat) (f : Target → Target) : State := s.setTarget i (f (s.target i))

/-- The `srcs` table's entry `i`. -/
def State.src (s : State) (i : Nat) : Src := s.srcs.get (fun _ => Src.reset) i

/-- Put an entry into the `srcs` table. -/
def State.setSrc (s : State) (i : Nat) (x : Src) : State := { s with srcs := s.srcs.set (fun _ => Src.reset) i x }

/-- Change one entry of the `srcs` table. -/
def State.modSrc (s : State) (i : Nat) (f : Src → Src) : State := s.setSrc i (f (s.src i))

/-- The `sluices` table's entry `i`. -/
def State.sluice (s : State) (i : Nat) : Sluice := s.sluices.get (fun _ => Sluice.reset) i

/-- Put an entry into the `sluices` table. -/
def State.setSluice (s : State) (i : Nat) (x : Sluice) : State := { s with sluices := s.sluices.set (fun _ => Sluice.reset) i x }

/-- Change one entry of the `sluices` table. -/
def State.modSluice (s : State) (i : Nat) (f : Sluice → Sluice) : State := s.setSluice i (f (s.sluice i))

/-- The `pins` table's entry `i`. -/
def State.pin (s : State) (i : Nat) : Pin := s.pins.get (fun _ => Pin.reset) i

/-- Put an entry into the `pins` table. -/
def State.setPin (s : State) (i : Nat) (x : Pin) : State := { s with pins := s.pins.set (fun _ => Pin.reset) i x }

/-- Change one entry of the `pins` table. -/
def State.modPin (s : State) (i : Nat) (f : Pin → Pin) : State := s.setPin i (f (s.pin i))

/-- The `chans` table's entry `i`. -/
def State.chan (s : State) (i : Nat) : Chan := s.chans.get (fun _ => Chan.reset) i

/-- Put an entry into the `chans` table. -/
def State.setChan (s : State) (i : Nat) (x : Chan) : State := { s with chans := s.chans.set (fun _ => Chan.reset) i x }

/-- Change one entry of the `chans` table. -/
def State.modChan (s : State) (i : Nat) (f : Chan → Chan) : State := s.setChan i (f (s.chan i))

/-- The `ports` table's entry `i`. -/
def State.port (s : State) (i : Nat) : Port := s.ports.get (fun _ => Port.reset) i

/-- Put an entry into the `ports` table. -/
def State.setPort (s : State) (i : Nat) (x : Port) : State := { s with ports := s.ports.set (fun _ => Port.reset) i x }

/-- Change one entry of the `ports` table. -/
def State.modPort (s : State) (i : Nat) (f : Port → Port) : State := s.setPort i (f (s.port i))

/-- The `launches` table's entry `i`. -/
def State.launch (s : State) (i : Nat) : Launch := s.launches.get (fun _ => Launch.reset) i

/-- Put an entry into the `launches` table. -/
def State.setLaunch (s : State) (i : Nat) (x : Launch) : State := { s with launches := s.launches.set (fun _ => Launch.reset) i x }

/-- Change one entry of the `launches` table. -/
def State.modLaunch (s : State) (i : Nat) (f : Launch → Launch) : State := s.setLaunch i (f (s.launch i))

/-- The `timers` table's entry `i`. -/
def State.timer (s : State) (i : Nat) : Timer := s.timers.get (fun _ => Timer.reset) i

/-- Put an entry into the `timers` table. -/
def State.setTimer (s : State) (i : Nat) (x : Timer) : State := { s with timers := s.timers.set (fun _ => Timer.reset) i x }

/-- Change one entry of the `timers` table. -/
def State.modTimer (s : State) (i : Nat) (f : Timer → Timer) : State := s.setTimer i (f (s.timer i))

/-- The `doms` table's entry `i`. -/
def State.dom (s : State) (i : Nat) : Dom := s.doms.get (fun _ => Dom.reset) i

/-- Put an entry into the `doms` table. -/
def State.setDom (s : State) (i : Nat) (x : Dom) : State := { s with doms := s.doms.set (fun _ => Dom.reset) i x }

/-- Change one entry of the `doms` table. -/
def State.modDom (s : State) (i : Nat) (f : Dom → Dom) : State := s.setDom i (f (s.dom i))

/-- The `twr.ch` table's entry `i`. -/
def State.twrCh (s : State) (i : Nat) : TowerCh := s.twr.ch.get (fun _ => TowerCh.reset) i

/-- Put an entry into the `twr.ch` table. -/
def State.setTwrCh (s : State) (i : Nat) (x : TowerCh) : State := { s with twr := { s.twr with ch := s.twr.ch.set (fun _ => TowerCh.reset) i x } }

/-- Change one entry of the `twr.ch` table. -/
def State.modTwrCh (s : State) (i : Nat) (f : TowerCh → TowerCh) : State := s.setTwrCh i (f (s.twrCh i))

/-- The `twr.pre` table's entry `i`. -/
def State.pre (s : State) (i : Nat) : PreStage := s.twr.pre.get (fun _ => PreStage.reset) i

/-- Put an entry into the `twr.pre` table. -/
def State.setPre (s : State) (i : Nat) (x : PreStage) : State := { s with twr := { s.twr with pre := s.twr.pre.set (fun _ => PreStage.reset) i x } }

/-- Change one entry of the `twr.pre` table. -/
def State.modPre (s : State) (i : Nat) (f : PreStage → PreStage) : State := s.setPre i (f (s.pre i))

/-- The `cry.seeds` table's entry `i`. -/
def State.seed (s : State) (i : Nat) : Seed := s.cry.seeds.get (fun _ => Seed.reset) i

/-- Put an entry into the `cry.seeds` table. -/
def State.setSeed (s : State) (i : Nat) (x : Seed) : State := { s with cry := { s.cry with seeds := s.cry.seeds.set (fun _ => Seed.reset) i x } }

/-- Change one entry of the `cry.seeds` table. -/
def State.modSeed (s : State) (i : Nat) (f : Seed → Seed) : State := s.setSeed i (f (s.seed i))

/-- The `svc.inst` table's entry `i`. -/
def State.svcInst (s : State) (i : Nat) : SvcInst := s.svc.inst.get (fun _ => SvcInst.reset) i

/-- Put an entry into the `svc.inst` table. -/
def State.setSvcInst (s : State) (i : Nat) (x : SvcInst) : State := { s with svc := { s.svc with inst := s.svc.inst.set (fun _ => SvcInst.reset) i x } }

/-- Change one entry of the `svc.inst` table. -/
def State.modSvcInst (s : State) (i : Nat) (f : SvcInst → SvcInst) : State := s.setSvcInst i (f (s.svcInst i))

/-- The `svc.orient` table's entry `i`. -/
def State.orient (s : State) (i : Nat) : Orient := s.svc.orient.get (fun _ => Orient.reset) i

/-- Put an entry into the `svc.orient` table. -/
def State.setOrient (s : State) (i : Nat) (x : Orient) : State := { s with svc := { s.svc with orient := s.svc.orient.set (fun _ => Orient.reset) i x } }

/-- Change one entry of the `svc.orient` table. -/
def State.modOrient (s : State) (i : Nat) (f : Orient → Orient) : State := s.setOrient i (f (s.orient i))

/-- The `svc.trend` table's entry `i`. -/
def State.trend (s : State) (i : Nat) : TrendPeriod := s.svc.trend.get (fun _ => TrendPeriod.reset) i

/-- Put an entry into the `svc.trend` table. -/
def State.setTrend (s : State) (i : Nat) (x : TrendPeriod) : State := { s with svc := { s.svc with trend := s.svc.trend.set (fun _ => TrendPeriod.reset) i x } }

/-- Change one entry of the `svc.trend` table. -/
def State.modTrend (s : State) (i : Nat) (f : TrendPeriod → TrendPeriod) : State := s.setTrend i (f (s.trend i))

/-- The `svc.mach` table's entry `i`. -/
def State.mach (s : State) (i : Nat) : Mach := s.svc.mach.get (fun _ => Mach.reset) i

/-- Put an entry into the `svc.mach` table. -/
def State.setMach (s : State) (i : Nat) (x : Mach) : State := { s with svc := { s.svc with mach := s.svc.mach.set (fun _ => Mach.reset) i x } }

/-- Change one entry of the `svc.mach` table. -/
def State.modMach (s : State) (i : Nat) (f : Mach → Mach) : State := s.setMach i (f (s.mach i))

/-- The `svc.wear` table's entry `i`. -/
def State.wear (s : State) (i : Nat) : Wear := s.svc.wear.get (fun _ => Wear.reset) i

/-- Put an entry into the `svc.wear` table. -/
def State.setWear (s : State) (i : Nat) (x : Wear) : State := { s with svc := { s.svc with wear := s.svc.wear.set (fun _ => Wear.reset) i x } }

/-- Change one entry of the `svc.wear` table. -/
def State.modWear (s : State) (i : Nat) (f : Wear → Wear) : State := s.setWear i (f (s.wear i))

/-- The `svc.wake` table's entry `i`. -/
def State.wakeHost (s : State) (i : Nat) : WakeHost := s.svc.wake.get (fun _ => WakeHost.reset) i

/-- Put an entry into the `svc.wake` table. -/
def State.setWakeHost (s : State) (i : Nat) (x : WakeHost) : State := { s with svc := { s.svc with wake := s.svc.wake.set (fun _ => WakeHost.reset) i x } }

/-- Change one entry of the `svc.wake` table. -/
def State.modWakeHost (s : State) (i : Nat) (f : WakeHost → WakeHost) : State := s.setWakeHost i (f (s.wakeHost i))

/-- The `pan.streams` table's entry `i`. -/
def State.stream (s : State) (i : Nat) : Stream := s.pan.streams.get (fun _ => Stream.reset) i

/-- Put an entry into the `pan.streams` table. -/
def State.setStream (s : State) (i : Nat) (x : Stream) : State := { s with pan := { s.pan with streams := s.pan.streams.set (fun _ => Stream.reset) i x } }

/-- Change one entry of the `pan.streams` table. -/
def State.modStream (s : State) (i : Nat) (f : Stream → Stream) : State := s.setStream i (f (s.stream i))

/-- The `time.tb` table's entry `i`. -/
def State.tb (s : State) (i : Nat) : Tb := s.time.tb.get (fun _ => Tb.reset) i

/-- Put an entry into the `time.tb` table. -/
def State.setTb (s : State) (i : Nat) (x : Tb) : State := { s with time := { s.time with tb := s.time.tb.set (fun _ => Tb.reset) i x } }

/-- Change one entry of the `time.tb` table. -/
def State.modTb (s : State) (i : Nat) (f : Tb → Tb) : State := s.setTb i (f (s.tb i))

/-- The `time.links` table's entry `i`. -/
def State.link (s : State) (i : Nat) : TimeLink := s.time.links.get (fun _ => TimeLink.reset) i

/-- Put an entry into the `time.links` table. -/
def State.setLink (s : State) (i : Nat) (x : TimeLink) : State := { s with time := { s.time with links := s.time.links.set (fun _ => TimeLink.reset) i x } }

/-- Change one entry of the `time.links` table. -/
def State.modLink (s : State) (i : Nat) (f : TimeLink → TimeLink) : State := s.setLink i (f (s.link i))

/-- The `slt.peers` table's entry `i`. -/
def State.peer (s : State) (i : Nat) : Peer := s.slt.peers.get (fun _ => Peer.reset) i

/-- Put an entry into the `slt.peers` table. -/
def State.setPeer (s : State) (i : Nat) (x : Peer) : State := { s with slt := { s.slt with peers := s.slt.peers.set (fun _ => Peer.reset) i x } }

/-- Change one entry of the `slt.peers` table. -/
def State.modPeer (s : State) (i : Nat) (f : Peer → Peer) : State := s.setPeer i (f (s.peer i))

/-- The `slt.links` table's entry `i`. -/
def State.legLink (s : State) (i : Nat) : LegLink := s.slt.links.get (fun _ => LegLink.reset) i

/-- Put an entry into the `slt.links` table. -/
def State.setLegLink (s : State) (i : Nat) (x : LegLink) : State := { s with slt := { s.slt with links := s.slt.links.set (fun _ => LegLink.reset) i x } }

/-- Change one entry of the `slt.links` table. -/
def State.modLegLink (s : State) (i : Nat) (f : LegLink → LegLink) : State := s.setLegLink i (f (s.legLink i))

/-- The `slt.remote` table's entry `i`. -/
def State.remote (s : State) (i : Nat) : Remote := s.slt.remote.get (fun _ => Remote.reset) i

/-- Put an entry into the `slt.remote` table. -/
def State.setRemote (s : State) (i : Nat) (x : Remote) : State := { s with slt := { s.slt with remote := s.slt.remote.set (fun _ => Remote.reset) i x } }

/-- Change one entry of the `slt.remote` table. -/
def State.modRemote (s : State) (i : Nat) (f : Remote → Remote) : State := s.setRemote i (f (s.remote i))

/-- The `rf.bufs` table's entry `i`. -/
def State.rfBuf (s : State) (i : Nat) : RfBuf := s.rf.bufs.get (fun _ => RfBuf.reset) i

/-- Put an entry into the `rf.bufs` table. -/
def State.setRfBuf (s : State) (i : Nat) (x : RfBuf) : State := { s with rf := { s.rf with bufs := s.rf.bufs.set (fun _ => RfBuf.reset) i x } }

/-- Change one entry of the `rf.bufs` table. -/
def State.modRfBuf (s : State) (i : Nat) (f : RfBuf → RfBuf) : State := s.setRfBuf i (f (s.rfBuf i))

/-- The `ldg.dom` table's entry `i`. -/
def State.meter (s : State) (i : Nat) : Meter := s.ldg.dom.get (fun _ => Meter.reset) i

/-- Put an entry into the `ldg.dom` table. -/
def State.setMeter (s : State) (i : Nat) (x : Meter) : State := { s with ldg := { s.ldg with dom := s.ldg.dom.set (fun _ => Meter.reset) i x } }

/-- Change one entry of the `ldg.dom` table. -/
def State.modMeter (s : State) (i : Nat) (f : Meter → Meter) : State := s.setMeter i (f (s.meter i))

/-- The `ldg.now` table's entry `i`. -/
def State.epochNow (s : State) (i : Nat) : EpochCnt := s.ldg.now.get (fun _ => EpochCnt.reset) i

/-- Put an entry into the `ldg.now` table. -/
def State.setEpochNow (s : State) (i : Nat) (x : EpochCnt) : State := { s with ldg := { s.ldg with now := s.ldg.now.set (fun _ => EpochCnt.reset) i x } }

/-- Change one entry of the `ldg.now` table. -/
def State.modEpochNow (s : State) (i : Nat) (f : EpochCnt → EpochCnt) : State := s.setEpochNow i (f (s.epochNow i))

/-- The `ldg.prev` table's entry `i`. -/
def State.epochPrev (s : State) (i : Nat) : EpochCnt := s.ldg.prev.get (fun _ => EpochCnt.reset) i

/-- Put an entry into the `ldg.prev` table. -/
def State.setEpochPrev (s : State) (i : Nat) (x : EpochCnt) : State := { s with ldg := { s.ldg with prev := s.ldg.prev.set (fun _ => EpochCnt.reset) i x } }

/-- Change one entry of the `ldg.prev` table. -/
def State.modEpochPrev (s : State) (i : Nat) (f : EpochCnt → EpochCnt) : State := s.setEpochPrev i (f (s.epochPrev i))

/-- The `store.patches` table's entry `i`. -/
def State.patch (s : State) (i : Nat) : PatchSlot := s.store.patches.get (fun _ => PatchSlot.reset) i

/-- Put an entry into the `store.patches` table. -/
def State.setPatch (s : State) (i : Nat) (x : PatchSlot) : State := { s with store := { s.store with patches := s.store.patches.set (fun _ => PatchSlot.reset) i x } }

/-- Change one entry of the `store.patches` table. -/
def State.modPatch (s : State) (i : Nat) (f : PatchSlot → PatchSlot) : State := s.setPatch i (f (s.patch i))

/-- The `check.units` table's entry `i`. -/
def State.unit (s : State) (i : Nat) : ChkUnit := s.check.units.get (fun _ => ChkUnit.reset) i

/-- Put an entry into the `check.units` table. -/
def State.setUnit (s : State) (i : Nat) (x : ChkUnit) : State := { s with check := { s.check with units := s.check.units.set (fun _ => ChkUnit.reset) i x } }

/-- Change one entry of the `check.units` table. -/
def State.modUnit (s : State) (i : Nat) (f : ChkUnit → ChkUnit) : State := s.setUnit i (f (s.unit i))

end Sys2Proof.Machine
end

