-- ==== Sys2Proof/Machine/Crc.lean ====
section
/-! DEFINITION. The hub's two cyclic redundancy checks: CRC-16 of R63 and CRC-32C of R556. -/

namespace Sys2Proof.Machine

/-- One step of a left-shifting CRC-16 with polynomial 0x1021. -/
def crc16Bit (c : BitVec 16) : BitVec 16 :=
  if c.msb then (c <<< 1) ^^^ 0x1021#16 else c <<< 1

/-- Feed one byte, most significant bit first. -/
def crc16Byte (c : BitVec 16) (b : Byte) : BitVec 16 :=
  let x := c ^^^ (b.setWidth 16 <<< 8)
  crc16Bit (crc16Bit (crc16Bit (crc16Bit (crc16Bit (crc16Bit (crc16Bit (crc16Bit x)))))))

/-- The CRC of R63: initial value 0xFFFF, no reflection, no final XOR. -/
def crc16 (l : List Byte) : BitVec 16 := l.foldl crc16Byte 0xFFFF#16

/-- One step of the FCS of IEEE 802.15.4 (R425): the ITU-T polynomial, right-shifting, 0x8408 (PRESUMED, log 78). -/
def fcsBit (c : BitVec 16) : BitVec 16 := if c.getLsbD 0 then (c >>> 1) ^^^ 0x8408#16 else c >>> 1

/-- Feed one byte, least significant bit first. -/
def fcsByte (c : BitVec 16) (b : Byte) : BitVec 16 :=
  let x := c ^^^ b.setWidth 16
  fcsBit (fcsBit (fcsBit (fcsBit (fcsBit (fcsBit (fcsBit (fcsBit x)))))))

/-- The FCS: initial value 0, no final XOR. -/
def fcs16 (l : List Byte) : BitVec 16 := l.foldl fcsByte 0#16

/-- One step of a right-shifting CRC-32C (Castagnoli polynomial, reflected 0x82F63B78; PRESUMED, log 3). -/
def crc32Bit (c : Word) : Word :=
  if c.getLsbD 0 then (c >>> 1) ^^^ 0x82F63B78#32 else c >>> 1

/-- Feed one byte, least significant bit first. -/
def crc32Byte (c : Word) (b : Byte) : Word :=
  let x := c ^^^ b.setWidth 32
  crc32Bit (crc32Bit (crc32Bit (crc32Bit (crc32Bit (crc32Bit (crc32Bit (crc32Bit x)))))))

/-- CRC-32C: initial value and final XOR all ones. -/
def crc32c (l : List Byte) : Word := ~~~ (l.foldl crc32Byte 0xFFFFFFFF#32)

/-- The bytes of a word, least significant first (R7). -/
def wordBytes (w : Word) : List Byte :=
  [w.extractLsb' 0 8, w.extractLsb' 8 8, w.extractLsb' 16 8, w.extractLsb' 24 8]

/-- The bytes of words in order. -/
def wordsBytes (l : List Word) : List Byte := l.flatMap wordBytes

/-- The number that bytes spell, least significant first. -/
def leNat : List Byte → Nat
  | [] => 0
  | b :: t => b.toNat + 256 * leNat t

/-- The bytes of a number, `n` of them, least significant first. -/
def leBytes : Nat → Nat → List Byte
  | 0, _ => []
  | n + 1, v => BitVec.ofNat 8 v :: leBytes n (v / 256)

/-- The first four bytes as a word. -/
def bytesWord (l : List Byte) : Word := BitVec.ofNat 32 (leNat (l.take 4))

/-- Words from bytes: `n` words. -/
def bytesWords : Nat → List Byte → List Word
  | 0, _ => []
  | n + 1, l => bytesWord l :: bytesWords n (l.drop 4)

end Sys2Proof.Machine
end

