-- ==== Sys2Proof/Machine/Ops.lean ====
section
/-! DEFINITION. The named operations over time, bit fields, register words, memory, the bittern log, fences, interrupts, events and
replies, which every command is written with. -/

namespace Sys2Proof.Machine

/-! ### Outcomes -/

/-- Answer a next state with everything `f` does, but for what no command changes: the queue of waiting commands, TB0's count (only
CRYSTAL_TICK and the resets move it, R337, R338), and PROVISIONED, which is never left (R52). -/
def act (f : State → State) (s : State) : Host.Outcome State Fault Refusal :=
  let t := f s
  .next { t with pending := s.pending, tick := s.tick, provisioned := s.provisioned || t.provisioned }

/-- The same for the commands that move TB0's count. -/
def actClock (f : State → State) (s : State) : Host.Outcome State Fault Refusal :=
  let t := f s
  .next { t with pending := s.pending, provisioned := s.provisioned || t.provisioned }

/-- Do `f` when `c` holds; leave the state alone otherwise. -/
def onlyIf (c : Bool) (f : State → State) (s : State) : State := if c then f s else s

/-! ### Bit fields -/

/-- Bits `hi` down to `lo` of a word, as a number. -/
def bits (w : Word) (hi lo : Nat) : Nat := w.toNat / 2 ^ lo % 2 ^ (hi + 1 - lo)

/-- Bit `i` of a word. -/
def bitAt (w : Word) (i : Nat) : Bool := w.getLsbD i

/-- Put `v` into bits `hi` down to `lo` of a word. -/
def setBits (w : Word) (hi lo v : Nat) : Word :=
  BitVec.ofNat 32 (w.toNat - bits w hi lo * 2 ^ lo + v % 2 ^ (hi + 1 - lo) * 2 ^ lo)

/-- A number as a word. -/
def w32 (n : Nat) : Word := BitVec.ofNat 32 n

/-- An integer as a word, in two's complement. -/
def wInt (n : Int) : Word := BitVec.ofInt 32 n

/-- A bit as a number. -/
def b2n (b : Bool) : Nat := if b then 1 else 0

/-- A number of `n` bits read as two's complement. -/
def signedOf (n v : Nat) : Int := if v < 2 ^ (n - 1) then v else (v : Int) - 2 ^ n

/-- The signed value of bits `hi` down to `lo`. -/
def sbits (w : Word) (hi lo : Nat) : Int := signedOf (hi + 1 - lo) (bits w hi lo)

/-- The low and the high word of a 64-bit number. -/
def pairOf (n : Nat) : List Word := [w32 n, w32 (n / 2 ^ 32)]

/-- Saturate a count at `m`. -/
def satAt (m n : Nat) : Nat := min m n

/-- Parameter word `k` of a call. -/
def Call.word (c : Call) (k : Nat) : Word := c.params.getD k 0

/-- Words `k` and `k + 1` of a call as a 64-bit number, low word first. -/
def Call.pair (c : Call) (k : Nat) : Nat := (c.word k).toNat + 2 ^ 32 * (c.word (k + 1)).toNat

/-- Bits `hi` down to `lo` of parameter word `k`. -/
def Call.fld (c : Call) (k hi lo : Nat) : Nat := bits (c.word k) hi lo

/-! ### Time (spec 11) -/

/-- Units of 1/64 ns in one crystal tick (R337). -/
def tickUnits : Nat := 1953125

/-- TB0 in units of 1/64 ns. -/
def State.tb0u (s : State) : Nat := s.tick * tickUnits + s.sub

/-- TB0 in ns, rounded as R345 rounds. -/
def State.tb0 (s : State) : Nat := (s.tb0u + 32) / 64

/-- Move on to the instant that lies `f` quarter nanoseconds before the next tick (R342); time never runs back. -/
def State.atF (s : State) (f : Nat) : State := { s with sub := max s.sub (tickUnits - 16 * f) }

/-- The present instant as a tick and the quarter nanoseconds up to it; at a tick itself, that tick and 0. -/
def State.nowNF (s : State) : Nat × Nat :=
  if s.sub = 0 then (s.tick, 0) else (s.tick + 1, (tickUnits - s.sub) / 16)

/-- The pair (n, f) that a latch records for an edge at the present instant (R342): the tick after it and the interpolator's count up to it. An edge that is
coincident with a tick and comes after it is recorded with the next tick and the largest count (R343). -/
def State.latchNF (s : State) : Nat × Nat :=
  (s.tick + 1, if s.sub = 0 then 122071 else (tickUnits - s.sub) / 16)

/-- What R339 adds to a timebase of rate `r` at a tick, in units of 2^−32 ns, rounded. -/
def tbInc (r : Int) : Int := (1953125 * 2 ^ 26 * (2 ^ 40 + r) + 2 ^ 39) / 2 ^ 40

/-- The rate of a timebase at tick `n`, from the log of R347. -/
def Tb.rateAt (t : Tb) (n : Nat) : Int :=
  match t.rates.find? (fun p => decide (p.1 < n)) with
  | some p => p.2
  | none => match t.rates.getLast? with
    | some p => p.2
    | none => t.r

/-- Count forward (`now` to a later tick) from `v` at rate `r`. -/
def tbForward (v r : Int) (k : Nat) : Int := v + k * tbInc r

/-- The value of a timebase `k` ticks back from `now`, following the log of R347. -/
def tbBack (t : Tb) : Nat → Nat → Int → Int
  | 0, _, v => v
  | k + 1, now, v => tbBack t k (now - 1) (v - tbInc (t.rateAt now))

/-- The value of a timebase at tick `n`, in its present epoch, in units of 2^−32 ns (R347). -/
def State.tbAt (s : State) (k n : Nat) : Int :=
  let t := s.tb k
  if s.tick ≤ n then tbForward t.v t.r (n - s.tick) else tbBack t (s.tick - n) s.tick t.v

/-- R345: the stamp of the edge (n, f) in timebase `k`; 0 for an UNSET timebase (R340). -/
def State.stampOf (s : State) (k n f : Nat) : Nat :=
  if k = 0 then (4 * (n * tickUnits) - 64 * f + 128) / 256
  else if (s.tb k).state = 0 then 0
  else (((s.tbAt k n * 2 ^ 10 - f * (2 ^ 40 + (s.tb k).rateAt n) + 2 ^ 41) / 2 ^ 42) % 2 ^ 64).toNat

/-- The value of timebase `k` now, in ns (R369, R370). -/
def State.tbNow (s : State) (k : Nat) : Nat := s.stampOf k s.nowNF.1 s.nowNF.2

/-- The value of timebase `k` now, in units of 2^−32 ns, unrounded; timebase 0 is TB0. -/
def State.tbFine (s : State) (k : Nat) : Int :=
  if k = 0 then s.tb0u * 2 ^ 26
  else if (s.tb k).state = 0 then 0
  else
    let (n, f) := s.nowNF
    s.tbAt k n - f * (2 ^ 40 + (s.tb k).rateAt n) / 2 ^ 10

/-- The epoch of timebase `k`; TB0 has none. -/
def State.tbEpoch (s : State) (k : Nat) : Nat := if k = 0 then 0 else (s.tb k).epoch

/-- Is timebase `k` set? -/
def State.tbSet (s : State) (k : Nat) : Bool := k = 0 || (s.tb k).state ≠ 0

/-- Units of 1/64 ns until timebase `k` reaches the value `target`, in units of 2^−32 ns, at its present rate; 0 where it has reached it. -/
def State.untilTb (s : State) (k : Nat) (target : Int) : Nat :=
  let d := target - s.tbFine k
  if d ≤ 0 then 0
  else if k = 0 then (d.toNat + 2 ^ 26 - 1) / 2 ^ 26
  else ((d * 2 ^ 14 + (2 ^ 40 + (s.tb k).r) - 1) / (2 ^ 40 + (s.tb k).r)).toNat

/-- Move on to the instant at which timebase `k` has the value `target`, in units of 2^−32 ns, where that instant lies before the next tick;
`none` where it lies beyond it. An instant already reached changes nothing. -/
def State.toTb (s : State) (k : Nat) (target : Int) : Option State :=
  let u := s.untilTb k target
  if u = 0 then some s else if s.sub + u < tickUnits then some { s with sub := s.sub + u } else none

/-! ### Register words (spec 18, 19) -/

/-- The stored word at a register address. -/
def State.wordAt (s : State) (a : Nat) : Word := s.regs.get resetWord a

/-- Store a register word. -/
def State.setWordAt (s : State) (a : Nat) (v : Word) : State := { s with regs := s.regs.set resetWord a v }

/-- The stored word of a register. -/
def State.reg (s : State) (r : Reg) (n : Nat) : Word := s.wordAt (r.addr n)

/-- Store a register's word. -/
def State.setReg (s : State) (r : Reg) (n : Nat) (v : Word) : State := s.setWordAt (r.addr n) v

/-- A field of a register's stored word. -/
def State.fld (s : State) (r : Reg) (n hi lo : Nat) : Nat := bits (s.reg r n) hi lo

/-- The applied word of an RWB register (R550). -/
def State.app (s : State) (r : Reg) (n : Nat) : Word := s.applied.get resetWord (r.addr n)

/-- The applied word at an address. -/
def State.appAt (s : State) (a : Nat) : Word := s.applied.get resetWord a

/-- Set the applied word at an address. -/
def State.setAppAt (s : State) (a : Nat) (v : Word) : State := { s with applied := s.applied.set resetWord a v }

/-- Set the applied word of an RWB register. -/
def State.setApp (s : State) (r : Reg) (n : Nat) (v : Word) : State := s.setAppAt (r.addr n) v

/-- A field of the applied word. -/
def State.afld (s : State) (r : Reg) (n hi lo : Nat) : Nat := bits (s.app r n) hi lo

/-- A 64-bit pair's stored value. -/
def State.reg64 (s : State) (r : Reg) (n : Nat) : Nat :=
  (s.wordAt (r.addr n)).toNat + 2 ^ 32 * (s.wordAt (r.addr n + 4)).toNat

/-- Store a 64-bit pair. -/
def State.setReg64 (s : State) (r : Reg) (n v : Nat) : State :=
  (s.setWordAt (r.addr n) (w32 v)).setWordAt (r.addr n + 4) (w32 (v / 2 ^ 32))

/-- A 64-bit pair's applied value. -/
def State.app64 (s : State) (r : Reg) (n : Nat) : Nat :=
  (s.appAt (r.addr n)).toNat + 2 ^ 32 * (s.appAt (r.addr n + 4)).toNat

/-! ### Memory (spec 19) -/

/-- The CRC of R101 over a descriptor of zeros (R98): CRC-16 of 60 bytes 0x00. -/
def zeroDescCrc : Nat := (crc16 (List.replicate 60 0)).toNat

/-- What a byte that nothing has written reads as: 0, but for the CRC of a cleared descriptor in W15 of each channel (R98). -/
def memDefault (a : Nat) : Byte :=
  if 0x20000000 ≤ a && a < 0x20003000 && a % 64 = 60 then BitVec.ofNat 8 zeroDescCrc
  else if 0x20000000 ≤ a && a < 0x20003000 && a % 64 = 61 then BitVec.ofNat 8 (zeroDescCrc / 256)
  else 0

/-- Read one byte. -/
def State.rdByte (s : State) (a : Nat) : Byte := Tab.get memDefault s.mem a

/-- Write one byte; the memory keeps its canonical form. -/
def State.wrByte (s : State) (a : Nat) (b : Byte) : State := { s with mem := Tab.set memDefault s.mem a b }

/-- Write bytes from `a` up. -/
def State.wrBytes (s : State) : Nat → List Byte → State
  | _, [] => s
  | a, b :: t => State.wrBytes (s.wrByte a b) (a + 1) t

/-- Read the word at `a`, least significant byte first (R7). -/
def State.rdWord (s : State) (a : Nat) : Word :=
  bytesWord [s.rdByte a, s.rdByte (a + 1), s.rdByte (a + 2), s.rdByte (a + 3)]

/-- Write the word at `a`. -/
def State.wrWord (s : State) (a : Nat) (w : Word) : State := s.wrBytes a (wordBytes w)

/-- Write words from `a` up. -/
def State.wrWords (s : State) : Nat → List Word → State
  | _, [] => s
  | a, w :: t => State.wrWords (s.wrWord a w) (a + 4) t

/-- Read `n` words from `a` up. -/
def State.rdWords (s : State) (a n : Nat) : List Word := (List.range n).map (fun k => s.rdWord (a + 4 * k))

/-- Clear the memory in [lo, hi) to what unwritten memory reads as. -/
def State.clearMem (s : State) (lo hi : Nat) : State :=
  { s with mem := s.mem.filter (fun c => decide (c.1 < lo) || decide (hi ≤ c.1)) }

/-! ### Selectors and fences (R562) -/

/-- The selector of a function: KIND and INDEX (R562). -/
def selOf (kind idx : Nat) : Nat := 256 * kind + idx

/-- Is the function fenced? A function inside a fenced domain is fenced as well (R565). -/
def State.isFenced (s : State) (kind idx : Nat) : Bool := s.fenced.get (fun _ => 0) (selOf kind idx) ≠ 0

/-- The domain that holds a function, as KIND and INDEX name it (R477, R565); 0 where it is in PD0 or only partly in one domain. -/
def funcDomain (kind idx : Nat) : Nat :=
  match kind with
  | 0 => if idx < 6 || (12 ≤ idx && idx < 15) then 3 else 4
  | 2 => 7
  | 3 => 2
  | 4 => 8
  | 5 => 9
  | 6 => 10
  | _ => 0

/-! ### Interrupts (spec 17) -/

/-- Is the host ASLEEP (R54)? -/
def State.asleep (s : State) (h : Nat) : Bool := (s.host h).pinAsleep || (s.host h).sleepSet

/-- Is the bank of target `h` fenced? -/
def State.bankFenced (s : State) (h : Nat) : Bool := s.isFenced 7 h

/-- The target that holds shared source `k`'s pending bit: the one R538 moved it to, or TARGET. -/
def State.srcTarget (s : State) (k : Nat) : Nat := ((s.src k).moved).getD (s.fld .icSrc k 29 28)

/-- Hand a wake request for target `t`, with its vector and priority, to the WAKE service (R537). -/
def State.wakeRequest (s : State) (t vec prio : Nat) : State :=
  { s with svc := { s.svc with wakeReqs := s.svc.wakeReqs ++ [(t, vec, prio)] } }

/-- Raise shared source `k` (R528); `wake` when its producer requests a wake. The wake request passes only under R537. -/
def State.raise (s : State) (k : Nat) (wake : Bool) : State :=
  let cfg := s.reg .icSrc k
  let x := s.src k
  let s1 := s.setSrc k { x with pending := true, moved := if x.pending then x.moved else none }
  let t := bits cfg 29 28
  if (wake || bitAt cfg 30) && bitAt cfg 31 && !s.bankFenced t && s.asleep t then s1.wakeRequest t (0x010 + k) (bits cfg 27 24)
  else s1

/-- Raise private source `p` of target `t` (R528). -/
def State.raisePriv (s : State) (t p : Nat) : State := s.modTarget t (fun x => { x with pend := x.pend ||| (1#16 <<< p) })

/-! ### Raw events and counters (R547) -/

/-- The CHK_SUM bit and the shared source of the block whose raw event register or fault counter this is (R529, R547). -/
def evtBlock : Reg → Nat → Option (Nat × Nat)
  | .sspEvt, n | .sspCnt, n => some (n, 192 + n)
  | .i3cEvt, n | .i3cCnt, n => some (12 + n, 204 + n)
  | .afeEvt, _ => some (18, 210)
  | .twrEvt, _ => some (19, 211)
  | .cryEvt, _ | .cryCnt, _ => some (20, 212)
  | .panEvt, _ | .panFifocnt, _ | .panDrop, _ => some (21, 213)
  | .tbEvt, _ | .tbLatcnt, _ => some (22, 214)
  | .lnEvt, _ | .tmEvt, _ => some (23, 215)
  | .slEvt, _ | .slCnt, _ => some (24, 227)
  | .legEvt, _ | .legLinkcnt, _ => some (25, 216)
  | .rfEvt, _ | .rfCnt, _ => some (26, 217)
  | .ldgEvt, _ => some (27, 218)
  | .plnEvt, _ => some (28, 218)
  | .icEvt, _ => some (29, 228)
  | .chkEvt, _ => some (30, 223)
  | _, _ => none

/-- What R547 makes of a set raw bit: the block's CHK_SUM bit, and its shared source raised. -/
def State.sumRaise (s : State) (r : Reg) (n : Nat) : State :=
  match evtBlock r n with
  | none => s
  | some (b, k) => (s.setReg .chkSum 0 (s.reg .chkSum 0 ||| (1#32 <<< b))).raise k false

/-- Set bit `b` of a raw event register (R547). -/
def State.evt (s : State) (r : Reg) (n b : Nat) : State :=
  (s.setReg r n (s.reg r n ||| (1#32 <<< b))).sumRaise r n

/-- Add `k` to the counter in bits `hi` down to `lo`, saturating at all ones; no interrupt. -/
def State.addCnt (s : State) (r : Reg) (n hi lo k : Nat) : State :=
  s.setReg r n (setBits (s.reg r n) hi lo (min (2 ^ (hi + 1 - lo) - 1) (s.fld r n hi lo + k)))

/-- Count a fault in a saturating counter, which is a raw event as R547 says. -/
def State.countFault (s : State) (r : Reg) (n hi lo k : Nat) : State :=
  if k = 0 then s else (s.addCnt r n hi lo k).sumRaise r n

/-! ### The bittern log (R567 to R571) -/

/-- Codes whose entries are never open (R569). -/
def logNeverOpen (code : Nat) : Bool := [0x01, 0x02, 0x39, 0x32, 0x33, 0x89, 0x8A, 0x8B, 0x8C, 0x8D].contains code

/-- Drop the first informational entry. -/
def dropInfo : List LogEntry → List LogEntry
  | [] => []
  | e :: t => if e.code < 0x80 then t else e :: dropInfo t

/-- TIME of an entry written now (R567). -/
def State.logTime (s : State) : Nat := s.tb0 / 2 ^ 20

/-- Write a new entry (R568). -/
def State.logWrite (s : State) (e : LogEntry) : State :=
  let full := 256 ≤ s.log.length
  let faults := s.log.all (fun x => decide (0x80 ≤ x.code))
  if full && faults then
    if e.code < 0x80 then s.addCnt .logLost 0 15 0 1 else s.addCnt .logLost 0 31 16 1
  else
    let l := (if full then dropInfo s.log else s.log) ++ [e]
    let s1 := { s with log := l }
    let s2 := if 0x80 ≤ e.code then s1.raise 224 false else s1
    if !s.logSat && decide (256 ≤ l.length) && l.all (fun x => decide (0x80 ≤ x.code)) then
      let s3 := ({ s2 with logSat := true }).evt .chkEvt 0 4
      (List.range 4).foldl (fun u t => u.modTarget t (fun x => { x with logSat := true })) s3
    else s2

/-- Add one to the REPEAT of the entries that `p` picks. -/
def bumpLog (p : LogEntry → Bool) (l : List LogEntry) : List LogEntry :=
  l.map (fun e => if p e then { e with rep := min 255 (e.rep + 1) } else e)

/-- Log an error: repeat the open entry of this SOURCE, CODE and run, or write a new one (R569). -/
def State.logRun (s : State) (kind idx code run : Nat) : State :=
  let src := selOf kind idx
  let p := fun e : LogEntry => e.isOpen && e.source == src && e.code == code && e.run == run
  if s.log.any p then { s with log := bumpLog p s.log }
  else s.logWrite ⟨s.logTime, src, code, 0, run, !logNeverOpen code⟩

/-- The same without a run of its own. -/
def State.logErr (s : State) (kind idx code : Nat) : State := s.logRun kind idx code 0

/-- Close the open entries of this SOURCE and CODE: their run has ended (R569). -/
def State.logEnd (s : State) (kind idx code : Nat) : State :=
  { s with log := s.log.map (fun e : LogEntry => if e.source == selOf kind idx && e.code == code then { e with isOpen := false } else e) }

/-- Is there an open entry of this SOURCE and CODE? -/
def State.logOpen (s : State) (kind idx code : Nat) : Bool :=
  s.log.any (fun e => e.isOpen && e.source == selOf kind idx && e.code == code)

/-- An error in a function: in a fenced one it repeats the open fence entry, or writes it anew with the cause (R569); otherwise it is logged
under its own code. -/
def State.errIn (s : State) (kind idx code : Nat) : State :=
  let cause := s.fenced.get (fun _ => 0) (selOf kind idx)
  if cause = 0 then s.logErr kind idx code else s.logErr kind idx cause

/-- What every fence does besides its function's safe state: the fence with its cause, FENCED in CHK_EVT, source 226, a fault entry
(R563). A fenced function stays as it is. -/
def State.fenceMark (s : State) (kind idx cause : Nat) : State :=
  if s.isFenced kind idx then s
  else (((({ s with fenced := s.fenced.set (fun _ => 0) (selOf kind idx) cause }).evt .chkEvt 0 3).raise 226 false).logErr kind idx cause)

/-- What every UNFENCE does: the function is no longer fenced, its runs end, an UNFENCED entry (R569). -/
def State.unfenceMark (s : State) (kind idx : Nat) : State :=
  let src := selOf kind idx
  ({ s with fenced := s.fenced.set (fun _ => 0) src 0,
            log := s.log.map (fun e : LogEntry => if e.source == src then { e with isOpen := false } else e) }).logErr kind idx 0x02

/-! ### Event outputs (R510, R526) -/

/-- Does an enabled sluice name the event output? -/
def State.sluiceNames (s : State) (out : Nat) : Bool :=
  (List.range 64).any (fun n =>
    let ctl := s.app .slCtl n
    let src := s.app .slSrc n
    let lut := s.app .slLut n
    bitAt ctl 31 &&
      (bits src 8 0 == out || (bitAt src 31 && bits src 28 20 == out) || (bitAt lut 31 && bits lut 28 20 == out)))

/-- A wake source in a floor: it is recorded in SYS_WAKESRC, and the wake waits for FLOOR_WAKE (R44, R479). -/
def State.wakeBy (s : State) (b : Nat) : State :=
  if s.pwr.floor = 0 then s
  else { s.setReg .sysWakesrc 0 (s.reg .sysWakesrc 0 ||| (1#32 <<< b)) with pwr := { s.pwr with wakeReq := true } }

/-- Channels, launches and timers are suspended: reserve hold (R47) or a brownout warning (R499). -/
def State.onHold (s : State) : Bool := s.pwr.reserveHold || s.pwr.brownHold

/-- Raise an event output (R510). In a floor the fabric is off: an edge or alarm that an enabled sluice names is held, one per output, and a
further one is merged (R526). -/
def State.raiseEvent (s : State) (out kind : Nat) : State :=
  if s.isFenced 8 11 then s
  else if s.pwr.floor = 0 then { s with evq := s.evq ++ [⟨out, kind⟩] }
  else if !s.sluiceNames out then s
  else if s.pwr.heldEvents.any (fun p => p.1 == out) then s.evt .slEvt 0 4
  else { s with pwr := { s.pwr with heldEvents := s.pwr.heldEvents.set (fun _ => 999) out kind } }

/-! ### Replies (spec 03) -/

/-- Free slots for Salter's replies of a host (R67), but for those that the turn in progress keeps (R600). -/
def HostSt.freeSlots (h : HostSt) : Nat := 16 - (h.replies.filter (fun r => !r.port)).length - h.due

/-- A reply enters the reply queue: the reply-ready source, and HP1's in-band interrupt (R59, R79). -/
def State.enqueueReply (s : State) (h : Nat) (r : Reply) : State :=
  let s1 := (s.modHost h (fun x => { x with replies := x.replies ++ [r] })).raisePriv h 0
  if (s.host h).session = some 1 then { s1 with hp1Ibi := 1 } else s1

/-- Does the reply go out at all (R70)? OK and ACCEPTED are suppressed when REPLY is 0. -/
def replyWanted (want : Bool) (status : Nat) : Bool := want || (status ≠ 0 && status ≠ 1)

/-- Place a completion of an ACCEPTED command: the command is no longer outstanding; with no free slot the completion is held (R78, R600). -/
def State.complete (s : State) (h op tag : Nat) (want : Bool) (status : Nat) (words : List Word) (logged : Bool) : State :=
  let s1 := s.modHost h (fun x => { x with asyncOut := x.asyncOut.erase (tag, op) })
  if replyWanted want status then
    let r : Reply := ⟨op, tag, status, true, false, h, logged, false, words⟩
    let x := s1.host h
    if x.held.isEmpty && 0 < x.freeSlots then s1.enqueueReply h r
    else s1.modHost h (fun y => { y with held := y.held ++ [r] })
  else s1

/-- Held completions take freed slots first (R600). -/
def State.releaseHeld (s : State) (h : Nat) : State :=
  match (s.host h).held with
  | [] => s
  | r :: t =>
    if 0 < (s.host h).freeSlots then (s.modHost h (fun x => { x with held := t })).enqueueReply h r else s

/-- Salter's version: major 3 (R1), and the minor of the running patch, which its image gives in word 1 (R487), or the ROM's (log 6). -/
def State.salterVer (s : State) : Word :=
  let minor := if s.pwr.patch then bits (((s.store.patches.get (fun _ => PatchSlot.reset) s.pwr.slot).words).getD 1 0) 15 0 else Config.salterMinor.toNat
  w32 (3 * 2 ^ 16 + minor)

/-! ### Free values -/

/-- Take the next free value's number. -/
def State.nextFree (s : State) : Nat × State := (s.free, { s with free := s.free + 1 })

/-! ### I/O banks (R588) -/

/-- The class of an I/O bank from its voltage in mV: 0 1.2 V, 1 1.8 V, 2 2.5 V, 3 3.3 V (R588). -/
def bankClass (mv : Nat) : Nat := if mv < 1620 then 0 else if mv < 2250 then 1 else if mv < 2970 then 2 else 3

/-- A port or pin on bank `k` is enabled: a bank that was below 1.0 V at the boot is measured again (R588). No command gives that voltage, so it is a free value (log 48). -/
def State.bankEnabled (s : State) (k : Nat) : State :=
  if !s.pwr.bankWait.contains k then s
  else
    let (n, t) := s.nextFree
    { t with pwr := { t.pwr with banks := t.pwr.banks.set k (bankClass ((Config.freeValue n).toNat % 4096)), bankWait := t.pwr.bankWait.erase k } }

/-! ### Applied descriptors (spec 04) -/

/-- Word `k` of channel `c`'s applied descriptor: the pinned copy where the cache holds one (R116), the table's word otherwise. -/
def State.desc (s : State) (c k : Nat) : Word :=
  match (s.chan c).pinned with
  | some l => l.getD k 0
  | none => s.rdWord (0x20000000 + 64 * c + 4 * k)

/-- A field of the applied descriptor. -/
def State.dfld (s : State) (c k hi lo : Nat) : Nat := bits (s.desc c k) hi lo

/-- The enabled streams. -/
def State.enabledStreams (s : State) : List Nat := (List.range 32).filter (fun n => bitAt (s.app .panCfg n) 31)

/-! ### Activity tallies (R452) -/

/-- The rail of a domain as R452 numbers it: 0 to 3 for 0.45 V to 1.00 V. -/
def State.railIdx (s : State) (d : Nat) : Nat := (s.dom d).rail - 2

/-- aJ in the range of a 48-bit counter of nJ (R443). -/
def energyWrap : Nat := 2 ^ 48 * 10 ^ 9

/-- The quiet interval of a domain ends at the present instant: kept when it lasted at least 200 µs (R446), and a new one begins. -/
def State.endQuiet (s : State) (d : Nat) : State :=
  s.modMeter d (fun m =>
    let q := match m.quiet with
      | some (t0, e0) => if 200000 * 64 ≤ s.tb0u - t0 then (s.tb0u, s.tb0u - t0, (m.en + energyWrap - e0) % energyWrap) :: m.quiets else m.quiets
      | none => m.quiets
    { m with quiet := some (s.tb0u, m.en), quiets := q.filter (fun x => decide (s.tb0u ≤ x.1 + 600000000000 * 64)) })

/-- The place of a kind's tally: XACT and XBYTE are kept apart for PD3 and PD4, where they are performed (R26, R452). -/
def tallySlot (kind d : Nat) : Nat := if d = 4 then kind + 8 else kind

/-- Tally `k` of activity `kind` (0 INSTR, 1 XACT, 2 XBYTE, 3 MAC, 4 PREBIT, 5 SEEDEV, 6 CMAC, 7 PANW, 8 AFEUS) performed in domain `d` for
channel `c` (192: no channel). -/
def State.tallyAdd (s : State) (c kind d k : Nat) : State :=
  if k = 0 then s else
  let s1 := s.endQuiet d
  let i := c * 64 + tallySlot kind d * 4 + s.railIdx d
  { s1 with ldg := { s1.ldg with tally := s1.ldg.tally.mod (fun _ => 0) i (fun x => x + k) } }

end Sys2Proof.Machine
end

