-- ==== Sys2Proof/Machine/OpDef.lean ====
section
/-! DEFINITION. What an opcode is to the shared packet checks of R64: its lengths, privilege, parameter and target checks and its execution. -/

namespace Sys2Proof.Machine

/-- The status codes of R69 that opcodes answer with. -/
def stOk : Nat := 0x00
/-- ACCEPTED. -/
def stAccepted : Nat := 0x01
/-- BAD_LENGTH. -/
def stBadLength : Nat := 0x11
/-- UNKNOWN_OPCODE. -/
def stUnknown : Nat := 0x12
/-- BAD_PARAM. -/
def stBadParam : Nat := 0x13
/-- NOT_PERMITTED. -/
def stNotPermitted : Nat := 0x14
/-- BUSY. -/
def stBusy : Nat := 0x15
/-- FENCED. -/
def stFenced : Nat := 0x16
/-- LATE. -/
def stLate : Nat := 0x17
/-- NO_BUDGET. -/
def stNoBudget : Nat := 0x18
/-- VERSION. -/
def stVersion : Nat := 0x19
/-- DOMAIN_OFF. -/
def stDomainOff : Nat := 0x1B
/-- DIVERGENT. -/
def stDivergent : Nat := 0x1C
/-- INTERNAL. -/
def stInternal : Nat := 0x1F

/-- One opcode: its code, the minimum privilege (0 NORMAL, 1 PRIVILEGED, 2 SECURE), whether it is answered ACCEPTED, check 12 on the
number of words and the call, check 13, check 14 (0 or the status), and the execution with the status and the reply words. -/
structure OpDef where
  code : Nat
  priv : Nat
  async : Bool
  lenOk : Nat → Call → Bool
  valid : State → Call → Bool
  allow : State → Call → Nat
  run : State → Call → State × Nat × List Word

/-- The first status of a list that is not 0: the checks in their order. -/
def firstStatus (l : List (Bool × Nat)) : Nat :=
  match l with
  | [] => 0
  | (c, st) :: t => if c then st else firstStatus t

end Sys2Proof.Machine
end

