-- ==== Sys2Proof/Machine/TowerMath.lean ====
section
/-! DEFINITION. The Tower's arithmetic (spec 07): rounding, saturation, the half-band stages, the phase
interpolator, the DC coefficient and the comparators, as pure functions. -/

namespace Sys2Proof.Machine

/-- rnd(a, b) of R200: halves towards positive infinity. -/
def rnd (a : Int) (b : Nat) : Int :=
  if b = 0 then a else (a + 2 ^ (b - 1)) / 2 ^ b

/-- Limit to a signed range of `w` bits. -/
def satW (w : Nat) (a : Int) : Int :=
  max (-(2 : Int) ^ (w - 1)) (min ((2 : Int) ^ (w - 1) - 1) a)

/-- sat32 of R200. -/
def sat32 (a : Int) : Int := satW 32 a

/-- Integer division rounded to the nearest, halves away from zero. -/
def divAway (a : Int) (b : Nat) : Int :=
  if 0 ≤ a then (2 * a + b) / (2 * b) else -((2 * (-a) + b) / (2 * b))

/-- Half-band stages of a preset, s of R201. -/
def presetStages : Nat → Nat
  | 0 => 6 | 1 => 4 | 2 => 2 | _ => 0

/-- Taps per stage (R201). -/
def presetTaps : Nat → Nat
  | 0 => 23 | 1 => 15 | 2 => 11 | _ => 1

/-- Non-zero taps per stage (R201). -/
def presetNz : Nat → Nat
  | 0 => 13 | 1 => 9 | 2 => 7 | _ => 0

/-- Filter settling S_F in outputs (R203). -/
def presetSettle : Nat → Nat
  | 0 => 22 | 1 => 14 | 2 => 8 | _ => 0

/-- Group delay in source periods (R203). -/
def presetDelay : Nat → Nat
  | 0 => 693 | 1 => 105 | 2 => 15 | _ => 0

/-- The coefficient at an odd offset from the centre tap (R202). -/
def presetSide : Nat → List Int
  | 0 => [41722, -13278, 6645, -3277, 1389, -433]
  | 1 => [41182, -11967, 4221, -668]
  | 2 => [40580, -9345, 1533]
  | _ => []

/-- The taps on one side of the centre, from the centre outwards: each side coefficient at an odd offset, 0 between. -/
def spreadTaps : List Int → List Int
  | [] => []
  | [c] => [c]
  | c :: t => c :: 0 :: spreadTaps t

/-- The coefficient set of a preset, tap 0 first (R202). -/
def presetCoef (p : Nat) : List Int :=
  let side := spreadTaps (presetSide p)
  side.reverse ++ (if p ≤ 2 then [65536] else []) ++ side

/-- Inner product of coefficients and history. -/
def dot : List Int → List Int → Int
  | a :: s, b :: t => a * b + dot s t
  | _, _ => 0

/-- Shift a value into a history of length `n`; an empty history is filled with it (R206). -/
def push {α : Type} (n : Nat) (h : List α) (v : α) : List α :=
  if h.isEmpty then List.replicate n v else (v :: h).take n

/-- Does sat32 change the value? -/
def sats (a : Int) : Bool := decide (sat32 a ≠ a)

/-- The half-band stages from stage `k` (1-based) on: the histories still to feed, the coefficients, the shifts of the stages, the
source index and the value. Answers the histories, the value that left the last stage (none when a
stage formed no output), the MACs, whether a saturation occurred (R204), and for each stage that formed an
output its residue (R243). -/
def runStages (coef : List Int) (nz : Nat) (sh : Nat → Nat) (g : Nat) :
    Nat → List (List Int) → Int → List (List Int) × Option Int × Nat × Bool × List (Option Int)
  | _, [], v => ([], some v, 0, false, [])
  | k, h :: t, v =>
    let h' := push coef.length h v
    if (g / 2 ^ (k - 1)) % 2 = 1 then
      let d := dot coef h'
      let a := rnd d (17 + sh k)
      let res := (h'.getD ((coef.length - 1) / 2) 0 - rnd d 17) / 256
      let (t', o, m, s, r) := runStages coef nz sh g (k + 1) t (sat32 a)
      (h' :: t', o, m + nz, s || sats a, some res :: r)
    else (h' :: t, none, 0, false, none :: t.map (fun _ => none))

/-- The weights w0 to w3 of R211 for DELAY_FRAC = `f`. -/
def lagrange (f : Nat) : Int × Int × Int × Int :=
  let m : Int := f
  -- mu = m / 256; each product of three factors has denominator 256^3; weights are scaled by 65536
  let w (num : Int) (d : Nat) : Int := divAway (num * 65536) (d * 256 ^ 3)
  let w1 := w (m * (m - 512) * (m - 768)) 2
  let w2 := w (-(m * (m - 256) * (m - 768))) 2
  let w3 := w (m * (m - 256) * (m - 512)) 6
  (65536 - w1 - w2 - w3, w1, w2, w3)

/-- The interpolator's output from the phase line (R204): the value and whether it saturated. -/
def interpolate (f di : Nat) (d : List Int) : Int × Bool :=
  let (w0, w1, w2, w3) := lagrange f
  let at' (i : Nat) : Int := d.getD (di + i) 0
  let a := rnd (w0 * at' 0 + w1 * at' 1 + w2 * at' 2 + w3 * at' 3) 16
  (sat32 a, sats a)

/-- pi to 40 decimal places, as a numerator over 10^40. -/
def piNum : Nat := 31415926535897932384626433832795028841971

/-- The corner frequencies of R106, in tenths of a hertz. -/
def cornerTenths : Nat → Nat
  | 0 => 1 | 1 => 10 | 2 => 50 | _ => 200

/-- alpha of R209 for an output period of `num / den` ns. -/
def dcAlpha (corner num den : Nat) : Int :=
  -- 2 pi * fc * T * 65536, with fc in tenths of Hz and T = num / (den * 10^9) s
  let n := 2 * piNum * cornerTenths corner * num * 65536
  let d := 10 ^ 40 * 10 * den * 10 ^ 9
  min ((2 * n + d) / (2 * d) : Nat) 32768

/-- One comparator of R217: state and run count, whether it enters and leaves on this output, and N. Answers the new state and run
count, and 1 for an ENTER event, 2 for a LEAVE event, 0 for none. -/
def cmpStep (st : Nat × Nat) (enter leave : Bool) (minDur : Nat) : (Nat × Nat) × Nat :=
  let n := max minDur 1
  match st.1 with
  | 0 => if enter then (if n = 1 then ((2, 0), 1) else ((1, 1), 0)) else ((0, 0), 0)
  | 1 =>
    if enter then (if n ≤ st.2 + 1 then ((2, 0), 1) else ((1, st.2 + 1), 0)) else ((0, 0), 0)
  | _ => if leave then ((0, 0), 2) else ((2, 0), 0)

end Sys2Proof.Machine
end

