-- ==== Sys2Proof/Machine/Operands.lean ====
section
/-! DEFINITION. The fields of a channel's descriptor (spec 04, R99 to R107), and what follows from them alone. -/

namespace Sys2Proof.Machine

/-- The words of a descriptor. -/
abbrev Desc := Nat → Word

/-- The table's descriptor of channel `c` (R96). -/
def State.tdesc (s : State) (c : Nat) : Desc := fun k => s.rdWord (0x20000000 + 64 * c + 4 * k)

/-- The applied descriptor of channel `c` (R116, R602). -/
def State.ad (s : State) (c : Nat) : Desc := fun k => s.desc c k

/-- W0 ENABLE. -/
def Desc.enable (d : Desc) : Bool := bitAt (d 0) 31
/-- W0 CLASS (R100). -/
def Desc.class (d : Desc) : Nat := bits (d 0) 30 29
/-- W0 ACQ (R101). -/
def Desc.acq (d : Desc) : Nat := bits (d 0) 28 27
/-- The number of components. -/
def Desc.ncomp (d : Desc) : Nat := bits (d 0) 26 25 + 1
/-- W0 PRIO. -/
def Desc.prio (d : Desc) : Nat := bits (d 0) 24 22
/-- W0 FAIL_ACTION (R130). -/
def Desc.failAction (d : Desc) : Nat := bits (d 0) 21 20
/-- W0 FENCE_AFTER. -/
def Desc.fenceAfter (d : Desc) : Nat := bits (d 0) 19 16
/-- W0 TIER_OFF_OK. -/
def Desc.tierOffOk (d : Desc) : Bool := bitAt (d 0) 15
/-- W1 KIND (R102). -/
def Desc.kind (d : Desc) : Nat := bits (d 1) 31 27
/-- W1 UNIT (R103): bits 26:16 of W1. -/
def Desc.unit (d : Desc) : Nat := bits (d 1) 26 16
/-- W4 TB. -/
def Desc.tb (d : Desc) : Nat := bits (d 4) 31 30
/-- W4 LBIND. -/
def Desc.lbind (d : Desc) : Bool := bitAt (d 4) 23
/-- W4 LN. -/
def Desc.ln (d : Desc) : Nat := bits (d 4) 22 16
/-- W4 OFFSET_US. -/
def Desc.offsetUs (d : Desc) : Nat := bits (d 4) 15 0
/-- W5: SHk. -/
def Desc.sh (d : Desc) (k : Nat) : Nat := bits (d 5) (3 * k - 1) (3 * k - 3)
/-- W6 DELAY_INT. -/
def Desc.delayInt (d : Desc) : Nat := bits (d 6) 15 8
/-- W6 DELAY_FRAC. -/
def Desc.delayFrac (d : Desc) : Nat := bits (d 6) 7 0
/-- Is the DC block in use (R106)? -/
def Desc.dcOn (d : Desc) : Bool := d.class == 1 && bitAt (d 7) 2
/-- The source is an AIN or PDM input. -/
def Desc.isAfe (d : Desc) : Bool := d.kind == 18 || d.kind == 19
/-- The pre-stage of an AIN (0–15) or PDM (16–23) source. -/
def Desc.preStage (d : Desc) : Nat := if d.kind = 18 then d.unit % 16 else 16 + d.unit % 8
/-- The source is a serial port. -/
def Desc.isPort (d : Desc) : Bool := decide (d.kind < 18)
/-- The component values' bytes, W2 CWIDTH. -/
def Desc.cwidth (d : Desc) : Nat := bits (d 2) 27 26

/-- The tiers listed in W11, lowest first, as (preset, DIV) (R107). -/
def Desc.tiers (d : Desc) : List (Nat × Nat) :=
  ((List.range 4).map (fun k => (bits (d 11) (8 * k + 7) (8 * k + 6), bits (d 11) (8 * k + 5) (8 * k)))).takeWhile (fun p => p.2 ≠ 0)

/-- Does the channel list tiers? -/
def Desc.tiered (d : Desc) : Bool := !d.tiers.isEmpty

/-- The preset at tier `t` (R107). -/
def Desc.presetAt (d : Desc) (t : Nat) : Nat := if d.tiered then (d.tiers.getD t (0, 1)).1 else bits (d 5) 31 30

/-- DIV at tier `t`. -/
def Desc.divAt (d : Desc) (t : Nat) : Nat := if d.tiered then (d.tiers.getD t (0, 1)).2 else 1

/-- The base period of a POLLED channel at tier `t`, in µs. -/
def Desc.periodAt (d : Desc) (t : Nat) : Nat := (d 3).toNat * d.divAt t

/-- The preset in use. -/
def State.preset (s : State) (c : Nat) : Nat := (s.ad c).presetAt (s.chan c).tier

/-- The tier's base period in use, in µs. -/
def State.period (s : State) (c : Nat) : Nat := (s.ad c).periodAt (s.chan c).tier

/-- The presets a channel may use: W5's and the listed tiers' (R226). -/
def Desc.presets (d : Desc) : List Nat := bits (d 5) 31 30 :: d.tiers.map (·.1)

/-- Words of the state pool that a descriptor needs (R226). -/
def Desc.poolWords (d : Desc) : Nat :=
  let st := d.presets.foldl (fun m p => max m (presetStages p * presetTaps p)) 0
  4 + d.ncomp * (st + d.delayInt + 4 + 4 * b2n d.dcOn)

/-- The modulator or PDM clock rate of a pre-stage, in Hz (R181, R191). -/
def State.bitRate (s : State) (i : Nat) : Nat :=
  if i < 16 then (if bitAt (s.app .afeAinCfg i) 30 then 2048000 else 1024000)
  else 4000 * max 192 (min 1200 (if i < 20 then s.fld .afePdmclk 0 10 0 else s.fld .afePdmclk 0 22 12))

/-- PRE_DEC of a pre-stage (R192). -/
def State.preDec (s : State) (i : Nat) : Nat := if i < 16 then s.afld .afeAinCfg i 26 24 else s.afld .afePdmCfg (i - 16) 26 24

/-- The group delay of a pre-stage in ns (R192). -/
def State.groupDelay (s : State) (i : Nat) : Rat := (7 * (2 ^ s.preDec i - 1) * 10 ^ 9 : Nat) / (max 1 (s.bitRate i) : Nat)

/-- The capture (n, f) in timebase `k`, in ns, not rounded. -/
def State.fineAt (s : State) (k n f : Nat) : Rat :=
  if k = 0 then (n * tickUnits : Nat) / 64 - (f : Rat) / 4
  else (s.tbAt k n : Rat) / 2 ^ 32 - (f : Rat) / 4 * (1 + ((s.tb k).rateAt n : Rat) / 2 ^ 40)

/-- The value of timebase `k` at the TB0 instant `u` (1/64 ns), in units of 2^−32 ns, not rounded. -/
def State.tbFineAt (s : State) (k u : Nat) : Int :=
  if k = 0 then u * 2 ^ 26
  else if (s.tb k).state = 0 then 0
  else
    let n := (u + tickUnits - 1) / tickUnits
    s.tbAt k n - (n * tickUnits - u : Nat) * (2 ^ 40 + (s.tb k).rateAt n) / 2 ^ 14

/-- The stamp of a capture in timebase `k` (R345), less a group delay of `gd` ns (R193). -/
def State.stampAt (s : State) (k n f : Nat) (gd : Rat) : Nat :=
  if gd = 0 then s.stampOf k n f
  else if !s.tbSet k then 0
  else ((s.fineAt k n f - gd + 1 / 2).floor % 2 ^ 64).toNat

/-- A stamp of channel `c` as a value: one that its latch still holds stands for what it would be composed to now. -/
def State.stampVal (s : State) (c : Nat) (x : Stamp) : Nat :=
  match x.latch with
  | none => x.val
  | some (_, n, f) => s.stampAt (s.ad c).tb n f x.gd

/-- T_nom of R213 where the descriptor fixes it, as a fraction of ns; `none` where it is the mean interval of the input stamps. -/
def State.tnomFixed (s : State) (c : Nat) : Option (Nat × Nat) :=
  let d := s.ad c
  if d.isAfe then some (2 ^ s.preDec d.preStage * 10 ^ 9, max 1 (s.bitRate d.preStage))
  else match d.acq with
    | 0 => some (d.periodAt (s.chan c).tier * 1000, 1)
    | 1 => if (d 3).toNat = 0 then none else some ((d 3).toNat * 1000, 1)
    | 3 => if (s.launch d.ln).period = 0 then none else some ((s.launch d.ln).period, 1)
    | _ => none

/-- The mean interval of stamps, newest first, as a fraction of ns (R213); 0 before the second. -/
def meanInterval (l : List Nat) : Nat × Nat :=
  match l with
  | [] | [_] => (0, 1)
  | a :: t => (a - t.getLastD a, t.length)

/-- The settling count S of R221 for channel `c`. -/
def State.settleCount (s : State) (c : Nat) : Nat :=
  let d := s.ad c
  let p := s.preset c
  let dd := 2 ^ presetStages p
  presetSettle p + d.delayInt + (if d.delayFrac = 0 then 0 else 3) + (if d.isAfe then (14 + dd - 1) / dd else 0)

/-- The number of an instance in the service order of R266, from the service code and the instance. -/
def svcNo (code k : Nat) : Nat :=
  match code with
  | 0 => k
  | 1 => 8
  | 2 => 9 + k
  | 3 => 25
  | 4 => 26
  | _ => 27

/-- The service code and the instance of an instance number. -/
def svcCode (i : Nat) : Nat × Nat :=
  if i < 8 then (0, i) else if i = 8 then (1, 0) else if i < 25 then (2, i - 9) else (i - 22, 0)

/-- The service code and instance of a VIRTUAL source (R103). -/
def Desc.service (d : Desc) : Nat × Nat := (d.unit % 8, d.unit / 16 % 16)

/-- Word `w` of an instance's applied parameter block (R272). -/
def State.svcWord (s : State) (i w : Nat) : Word := s.svc.applied.get (fun _ => 0) (256 * i + w)

end Sys2Proof.Machine
end

