-- ==== Sys2Proof/Machine/Tower.lean ====
section
/-! DEFINITION. The Tower (spec 07): the entry FIFO, the engine's unit, restarts, the state pool, output stamps. -/

namespace Sys2Proof.Machine

/-! ### The entry FIFO (R18, R19, R603) -/

/-- Discard an input of channel `c` at the entry: its overflow is counted and GAP owed (R19, R603). -/
def State.entryDrop (s : State) (c : Nat) : State :=
  let s1 := s.modChan c (fun x => { x with overflow := min 65535 (x.overflow + 1), gapOwed := true })
  s1.modTwrCh c (fun t => { t with pend := { t.pend with gap := true } })

/-- A sample reaches the entry FIFO (R19). -/
def State.accept (s0 : State) (x : Sample) : State :=
  let s := s0.modEpochNow x.chan (fun e => { e with inputs := e.inputs + 1 })
  if s.isFenced 8 6 then s.entryDrop x.chan
  else if 32 ≤ s.twr.entry.length then (s.entryDrop x.chan).evt .twrEvt 0 0
  else
    let owed := (s.chan x.chan).gapOwed
    let s1 := s.modChan x.chan (fun y => { y with gapOwed := false })
    { s1 with twr := { s1.twr with entry := s1.twr.entry ++ [{ x with gap := x.gap || owed }] } }

/-- Does the entry FIFO hold an input of the channel? -/
def State.inEntry (s : State) (c : Nat) : Bool := s.twr.entry.any (fun x => x.chan == c)

/-! ### The state pool (R226) -/

/-- Take `need` words from the gaps of `pool`, whose ranges rise from word `at`, for channel `c`: the new pool. -/
def poolTake (c : Nat) : Nat → Nat → List (Nat × Nat × Nat) → List (Nat × Nat × Nat)
  | need, pos, [] => if need = 0 then [] else [(pos, need, c)]
  | need, pos, (a, l, o) :: t =>
    let got := min need (a - pos)
    let rest := (a, l, o) :: poolTake c (need - got) (a + l) t
    if got = 0 then rest else (pos, got, c) :: rest

/-- Words reserved. -/
def State.poolUsed (s : State) : Nat := (s.twr.pool.map (fun r => r.2.1)).sum

/-- Words that nobody holds. -/
def State.poolFree (s : State) : Nat := 32768 - s.poolUsed

/-- Release a channel's words. -/
def State.poolRelease (s : State) (c : Nat) : State :=
  { s with twr := { s.twr with pool := s.twr.pool.filter (fun r => r.2.2 ≠ c) } }

/-- Words a channel holds. -/
def State.poolHeld (s : State) (c : Nat) : Nat := ((s.twr.pool.filter (fun r => r.2.2 == c)).map (fun r => r.2.1)).sum

/-- Reserve a channel's words at an application (R226): the words that it holds are never moved and go only when it becomes OFF, so it takes what it needs beyond them. -/
def State.poolReserve (s : State) (c : Nat) (d : Desc) : State :=
  { s with twr := { s.twr with pool := poolTake c (d.poolWords - s.poolHeld c) 0 s.twr.pool } }

/-! ### Restart (R220 to R225) -/

/-- Raise the events of an output's threshold codes at event output 192 + c (R218, R510). -/
def State.raiseThr (s : State) (c : Nat) (codes : List Nat) : State :=
  if bitAt (s.desc c 10) 4 then codes.foldl (fun u k => u.raiseEvent (192 + c) (if k < 16 then 1 else 2)) s else s

/-- The LEAVE events that a restart owes (R220): they carry UNSETTLED and the stamp of the last output. -/
def State.leaveAll (s : State) (c : Nat) : State :=
  let t := s.twrCh c
  let codes := (List.range 9).filterMap (fun k => if (t.cmps.getD k (0, 0)).1 = 2 then some (16 + k) else none)
  match t.last with
  | none => s
  | some o =>
    if codes.isEmpty then s
    else
      let o' : Output := { o with flags := { OutFlags.none with unsettled := true }, thr := codes, sample := false, res := [] }
      ({ s with twr := { s.twr with held := s.twr.held ++ [o'] } }).raiseThr c codes

/-- A component after a restart: the estimate alone is kept. -/
def TowerComp.restart (x : TowerComp) : TowerComp := ⟨[], [], [], x.est, 0, 0⟩

/-- Restart a channel's Tower state (R220, R221); `keep` says that the DC estimate is kept (R210). -/
def State.twrRestart (s : State) (c : Nat) (keep : Bool) : State :=
  let s1 := s.leaveAll c
  s1.modTwrCh c (fun t =>
    { t with comps := t.comps.map TowerComp.restart, count := 0, seed := t.seed || !keep, cmps := [], settle := s1.settleCount c,
             stamps := [], last := none, fresh := true, restarts := t.restarts + 1 })

/-- Discard a channel's Tower state (R126): its comparators leave first, so that ENTER and LEAVE stay in pairs (log 22). -/
def State.twrDiscard (s : State) (c : Nat) : State :=
  (s.leaveAll c).modTwrCh c (fun t => { TowerCh.reset with restarts := t.restarts + 1 })

/-! ### The engine's unit (R199, R204) -/

/-- What one unit needs of the descriptor. -/
structure StageCfg where
  preset : Nat
  sh : List Nat
  dcOn : Bool
  freeze : Bool
  alpha : Int
  delayInt : Nat
  delayFrac : Nat
  seed : Bool
  g : Nat
  deriving DecidableEq, Repr

/-- The shift after stage `k`. -/
def StageCfg.shAt (f : StageCfg) (k : Nat) : Nat := f.sh.getD (k - 1) 0

/-- The sum of the shifts beyond the last stage (R207). -/
def StageCfg.tail (f : StageCfg) : Nat := (f.sh.drop (presetStages f.preset)).sum

/-- One component of one unit (R204): the new state, the output if one is complete, the MACs, and whether it saturated. -/
def compUnit (f : StageCfg) (x24 : Int) (t : TowerComp) : TowerComp × Option Int × Nat × Bool :=
  let n := presetStages f.preset
  let x := x24 * 256
  let est := if f.dcOn && f.seed then x * 65536 else t.est
  let v0 := if f.dcOn then x - rnd est 16 else x
  let (v, s0) := if f.dcOn then (sat32 v0, sats v0) else (v0, false)
  let sum := if f.dcOn then t.sum + x else t.sum
  let cnt := if f.dcOn then t.cnt + 1 else t.cnt
  let hist := if t.hist.length = n then t.hist else List.replicate n []
  let (h, o, m, s1, r) := runStages (presetCoef f.preset) (presetNz f.preset) f.shAt f.g 1 hist v
  let res := (List.range n).map (fun k => (t.res.getD k []) ++ ((r.getD k none).map (fun z => [z])).getD [])
  match o with
  | none => (⟨h, res, t.dline, est, sum, cnt⟩, none, m, s0 || s1)
  | some v1 =>
    let a := rnd v1 f.tail
    let upd := f.dcOn && !f.freeze && cnt == 2 ^ n
    let est' := if upd then est + f.alpha * (rnd sum n - rnd est 16) else est
    let d := push (f.delayInt + 4) t.dline (sat32 a)
    let (y, s2) := interpolate f.delayFrac f.delayInt d
    (⟨h, res, d, est', 0, 0⟩, some y, m + b2n upd + 4, s0 || s1 || sats a || s2)

/-- The signed 24-bit value of bits 31:8 of a word. -/
def hi24 (w : Word) : Int := sbits w 31 8

/-- Comparator `k` of R216 on the output's integer parts: enabled, enters, leaves. -/
def cmpCond (d : Desc) (v : List Int) (k : Nat) : Bool × Bool × Bool :=
  let hyst : Int := 16 * bits (d 8) 7 0
  if k < 4 then
    let x := v.getD k 0
    (bitAt (d 7) (4 + k) && decide (k < v.length), decide (hi24 (d 8) < x), decide (x < hi24 (d 8) - hyst))
  else if k < 8 then
    let x := v.getD (k - 4) 0
    (bitAt (d 7) (8 + (k - 4)) && decide (k - 4 < v.length), decide (x < hi24 (d 9)), decide (hi24 (d 9) + hyst < x))
  else
    let q := (v.map (fun x => x * x)).sum
    let m : Int := 256 * bits (d 7) 31 16
    let r := max (m - hyst) 0
    (bitAt (d 7) 12, decide (m * m < q), decide (q < r * r))

/-- All nine comparators on one output (R217): their states and the event codes in COMP order (R218). -/
def evalCmps (d : Desc) (v : List Int) (cmps : List (Nat × Nat)) : List (Nat × Nat) × List Nat :=
  let r := (List.range 9).map (fun k =>
    let (en, e, l) := cmpCond d v k
    if en then cmpStep (cmps.getD k (0, 0)) e l (bits (d 9) 7 0) else ((0, 0), 0))
  (r.map (·.1), ((List.range 9).zip (r.map (·.2))).filterMap (fun p =>
    if p.2 = 1 then some p.1 else if p.2 = 2 then some (16 + p.1) else none))

/-- The first of the most urgent requests (R21): highest PRIO, then the first channel after the one served last. -/
def State.pickChan (s : State) : Option Nat :=
  let key := fun c => ((7 - (s.ad c).prio) * 192 + (c + 191 - s.twr.lastServed) % 192)
  (s.twr.entry.map (·.chan)).foldl (fun b c => match b with
    | none => some c
    | some x => if key c < key x then some c else some x) none

/-- Gather an input's flags for the next output (R223). -/
def OutFlags.gather (f : OutFlags) (x : Sample) (sat : Bool) : OutFlags :=
  { f with unsettled := f.unsettled || x.unsettled, gap := f.gap || x.gap, stale := f.stale || x.stale, degraded := f.degraded || x.degraded, late := f.late || x.late,
           sat := f.sat || x.sat || sat }

/-- T_nom as it stands (R213), as a fraction of ns. An input whose stamp its latch still holds counts with that capture, so that the order of the engine and the stamps'
composition does not show (R22). -/
def State.tnomNow (s : State) (c : Nat) : Nat × Nat := (s.tnomFixed c).getD (meanInterval ((s.twrCh c).stamps.map (s.stampVal c)))

/-- alpha of R209 from T_nom as it stands; 0 while T_nom is 0. -/
def State.alphaNow (s : State) (c : Nat) : Int :=
  let (num, den) := s.tnomNow c
  if num = 0 then 0 else dcAlpha (bits (s.desc c 7) 1 0) (num * 2 ^ presetStages (s.preset c)) den

/-- Salter computes alpha at an application and at a tier change (R209). -/
def State.setAlpha (s : State) (c : Nat) : State := s.modChan c (fun x => { x with alpha := s.alphaNow c })

/-- The channel saturated (R208): its bit of TWR_SATk, and SAT_NEW when the bit was clear. -/
def State.markSat (s : State) (c : Nat) : State :=
  if bitAt (s.reg .twrSat (c / 32)) (c % 32) then s
  else (s.setReg .twrSat (c / 32) (s.reg .twrSat (c / 32) ||| (1#32 <<< (c % 32)))).evt .twrEvt 0 1

/-- The unit's configuration for an input of channel `c` with source index `g`: alpha is the one of the last application or tier change, or, where T_nom is the mean interval
of the input stamps, the one of this update (R209). A DC block that a later W7 change put into use has its seed pending from the restart (DESIGN CHOICE, log 68). -/
def State.stageCfg (s : State) (c g : Nat) : StageCfg :=
  let d := s.ad c
  let p := s.preset c
  { preset := p, sh := (List.range 8).map (fun k => d.sh (k + 1)), dcOn := d.dcOn, freeze := bitAt (d 7) 3,
    alpha := if (s.tnomFixed c).isSome then (s.chan c).alpha else s.alphaNow c,
    delayInt := d.delayInt, delayFrac := d.delayFrac, seed := (s.twrCh c).seed, g := g }

/-- Form the output of a completed unit: settling, flags, thresholds, and the output waits at the output port (R212, R217 to R223). -/
def State.formOutput (s : State) (c : Nat) (ys : List Int) (st : Stamp) : State :=
  let d := s.ad c
  let t := s.twrCh c
  let p := s.preset c
  let uns := decide (0 < t.settle) || t.pend.unsettled
  let fl := { t.pend with unsettled := uns, first := t.fresh }
  let thr := d.class == 0 || d.class == 2
  let evalNow := thr && (!uns || bitAt (d 7) 15)
  let (cm, codes) := if evalNow then evalCmps d (ys.map (fun y => y / 256)) t.cmps else (t.cmps, [])
  let o : Output :=
    { chan := c, comps := ys, flags := fl, stampIn := st,
      delay := presetDelay p * 256 + (256 * d.delayInt + d.delayFrac) * 2 ^ presetStages p,
      tnom := s.tnomFixed c, stamps := t.stamps, thr := codes, sample := true, res := t.comps.map (·.res) }
  let s1 := s.setTwrCh c { t with cmps := cm, settle := t.settle - 1, pend := OutFlags.none, last := some o, fresh := false,
                                  comps := t.comps.map (fun x => { x with res := [] }) }
  let s2 := { s1 with twr := { s1.twr with held := s1.twr.held ++ [o] } }
  let s3 := if bitAt (d 10) 3 then s2.raiseEvent c 0 else s2
  let s4 := s3.raiseThr c codes
  if d.isAfe then s4.tallyAdd c 0 2 60 else s4

/-- One unit of a channel (R199, R204). -/
def State.runUnit (s : State) (x : Sample) : State :=
  let c := x.chan
  let d := s.ad c
  let t := s.twrCh c
  let g := (x.g.map Int.toNat).getD t.count
  let s0 := s.setTwrCh c { t with stamps := (x.stamp :: t.stamps).take 8 }
  let f := s0.stageCfg c g
  let rs := (List.range d.ncomp).map (fun k => compUnit f (x.comps.getD k 0) (t.comps.getD k ⟨[], [], [], 0, 0, 0⟩))
  let macs := (rs.map (fun r => r.2.2.1)).sum
  let sat := rs.any (fun r => r.2.2.2)
  let s1 := s0.modTwrCh c (fun u => { u with comps := rs.map (·.1), count := u.count + 1, seed := u.seed && !f.dcOn, pend := u.pend.gather x sat })
  let s2 := { s1 with twr := { s1.twr with macs := (s1.twr.macs + macs) % 2 ^ 64, lastServed := c } }
  let s3 := (if sat then s2.markSat c else s2).tallyAdd c 3 6 macs
  match rs.mapM (fun r => r.2.1) with
  | none => s3
  | some ys => if ys.isEmpty then s3 else s3.formOutput c ys x.stamp

/-- ENGINE_UNIT (R21, R199): the engine takes the oldest input of the channel that R21 selects. -/
def State.engineUnit (s : State) : State :=
  if s.isFenced 8 6 || s.pwr.floor ≠ 0 then s else
  match s.pickChan with
  | none => s
  | some c => match s.twr.entry.find? (fun x => x.chan == c) with
    | none => s
    | some x => ({ s with twr := { s.twr with entry := s.twr.entry.erase x } }).runUnit x

/-! ### Output stamps (R212, R346) -/

/-- The stamp of an output whose stamps are all composed, in ns modulo 2^64; 0 while the channel's timebase is UNSET (R340). -/
def State.outStamp (s : State) (o : Output) : Nat :=
  if !s.tbSet (s.ad o.chan).tb then 0
  else
    let (num, den) := o.tnom.getD (meanInterval (o.stamps.map (s.stampVal o.chan)))
    let q : Int := 256 * den
    let a : Int := o.stampIn.val * q - o.delay * num
    ((2 * a + q) / (2 * q) % 2 ^ 64).toNat

/-- Put a composed stamp in timebase `k` of epoch `e` where the latch's value was awaited. -/
def Stamp.fill (s : State) (k : Nat) (latch : Nat × Nat × Nat) (x : Stamp) : Stamp :=
  if x.latch = some latch then Stamp.at (s.stampAt k latch.2.1 latch.2.2 x.gd) (s.tbEpoch k) else x

/-- Resolve a latch in an output. -/
def Output.fill (s : State) (k : Nat) (latch : Nat × Nat × Nat) (o : Output) : Output :=
  { o with stampIn := o.stampIn.fill s k latch, stamps := o.stamps.map (fun x => x.fill s k latch) }

end Sys2Proof.Machine
end

