-- ==== Sys2Proof/Machine/Energy.lean ====
section
/-! DEFINITION. The Ledger and the Planner (spec 15): strokes, tallies, attribution, predicted power, rails, the plan. -/

namespace Sys2Proof.Machine

/-! ### Metering (R443 to R451) -/

/-- The energy of all twelve domains, in aJ. -/
def State.totalEnergy (s : State) : Nat := ((List.range 12).map (fun d => (s.meter d).en)).sum

/-- The stored energy after adding `x` nJ: it saturates at a signed 64-bit number (R451). -/
def storeAdd (store x : Rat) : Rat := max (-(2 ^ 63 : Rat)) (min (2 ^ 63 - 1 : Rat) (store + x))

/-- The reserve comparator is ready to trip again once LDG_STORE is above PLN_RESERVE (R469). -/
def State.reserveWatch (s : State) : State :=
  if (s.reg64 .plnReserve 0 : Rat) < s.ldg.store then { s with pln := { s.pln with reserveReady := true } } else s

/-- Is sense input `n` integrating (R449)? -/
def State.snsRun (s : State) (n : Nat) : Bool := bitAt (s.app .ldgSns n) 31 && bits (s.app .ldgSns n) 15 0 ≠ 0

/-- A 48-bit counter of nJ has wrapped `n` times: the lifetime record's energy, which has 64 bits, goes on (R496). `k` is the domain, 12 for the income, 13 for the draw. -/
def State.carryEnergy (s : State) (k n : Nat) : State :=
  if n = 0 then s else { s with life := { s.life with base := s.life.base.mod (fun _ => 0) k (fun x => x + n * 2 ^ 48) } }

/-- `count` strokes of the converter of domain `d` (R443, R447); the next integration step takes their energy from the store (R451). -/
def State.strokes (s : State) (d count : Nat) : State :=
  let m := s.meter d
  let e := m.q * s.ldg.vbat * count
  ({ s.setMeter d { m with en := (m.en + e) % energyWrap } with ldg := { (s.setMeter d { m with en := (m.en + e) % energyWrap }).ldg with owed := s.ldg.owed + e } }).carryEnergy
    d ((m.en + e) / energyWrap)

/-- STROKE. -/
def execStroke (dom count : Nat) (s : State) : Host.Outcome State Fault Refusal :=
  act (onlyIf (dom < 12 && (s.dom dom).rail ≠ 0) (fun u => u.strokes dom count)) s

/-- VBAT_MEASUREMENT (R444). -/
def execVbatMeasurement (mv : Nat) (s : State) : Host.Outcome State Fault Refusal :=
  act (fun u => { u with ldg := { u.ldg with vbat := mv % 65536 } }) s

/-- One domain's recalibration (R445, R447), for which an unpowered domain waits; a previous charge of 0 is no result to differ from (log 23). -/
def State.recalDomain (s : State) (d q : Nat) : State :=
  let m := { s.meter d with calDue := decide ((s.dom d).rail = 0) }
  if (s.dom d).rail = 0 then s.setMeter d m
  else if m.q ≠ 0 && decide (m.q < 5 * ((q : Int) - m.q).natAbs) then ((s.setMeter d m).evt .ldgEvt 0 0).logErr 14 1 0x38
  else (s.setMeter d { m with q := q % 2 ^ 20, cal := true }).logEnd 14 1 0x38

/-- The domains one after another, with the charge each result gives. -/
def State.recalAll (s : State) (charges : List Nat) : State := (List.range (min 12 charges.length)).foldl (fun v d => v.recalDomain d (charges.getD d 0)) s

/-- 10 minutes of TB0, in 1/64 ns (R445). -/
def recalPeriod : Nat := 600 * 10 ^ 9 * 64

/-- A recalibration is due: TB0 has passed a multiple of 10 minutes since the last (R445, log 23). -/
def State.recalNow (s : State) : Bool := decide (s.ldg.calAt / recalPeriod < s.tb0u / recalPeriod)

/-- The recalibration of every 10 minutes; before it is due, only of the domains that were without power at their turn and have come up since (R445). -/
def State.recalibrate (s : State) (charges : List Nat) : State :=
  if s.recalNow then ({ s with ldg := { s.ldg with calAt := s.tb0u } }).recalAll charges
  else (List.range (min 12 charges.length)).foldl (fun v d => if (v.meter d).calDue && (v.dom d).rail ≠ 0 then v.recalDomain d (charges.getD d 0) else v) s

/-- LEDGER_RECALIBRATION. -/
def execLedgerRecalibration (charges : List Nat) (s : State) : Host.Outcome State Fault Refusal :=
  act (onlyIf (s.pwr.phase = 2) (fun u => u.recalibrate charges)) s

/-- What one tick of ISNSn adds, in nJ, from its reading in µV (R449). -/
def State.senseEnergy (s : State) (n : Nat) (uv : Int) : Rat :=
  let cfg := s.app .ldgSns n
  let v := max (-100000) (min 100000 uv) * (if bitAt cfg 30 then -1 else 1)
  if v ≤ 0 then 0 else (v : Rat) * s.ldg.vbat * 10000 / (bits cfg 15 0 * 32768)

/-- nJ kept within a 48-bit counter. -/
def wrap48 (x : Rat) : Rat := x - 2 ^ 48 * (x / 2 ^ 48).floor

/-- How often a 48-bit counter wraps on its way to `x` nJ. -/
def wraps48 (x : Rat) : Nat := (x / 2 ^ 48).floor.toNat

/-- What one integration step subtracts from the stored energy, in nJ: the draw of ISNS1 when it is enabled, and otherwise what the domains have drawn since the last step (R451). -/
def State.stepDraw (s : State) (drw : Rat) : Rat := if s.snsRun 1 then drw else (s.ldg.owed : Rat) / 10 ^ 9

/-- The sense inputs' part of a crystal tick (R449, R451). -/
def State.senseTick (s : State) (sns0 sns1 : Int) : State :=
  let beyond := fun (n : Nat) (uv : Int) => s.snsRun n && decide (100000 < uv.natAbs)
  let s0 := if beyond 0 sns0 || beyond 1 sns1 then s.evt .ldgEvt 0 2 else s
  let inc := if s.snsRun 0 then s.senseEnergy 0 sns0 else 0
  let drw := if s.snsRun 1 then s.senseEnergy 1 sns1 else 0
  let l := s0.ldg
  ((({ s0 with ldg := { l with income := wrap48 (l.income + inc), draw := wrap48 (l.draw + drw), owed := 0,
                               store := storeAdd l.store (inc - s.stepDraw drw) } }).carryEnergy
      12 (wraps48 (l.income + inc))).carryEnergy 13 (wraps48 (l.draw + drw))).reserveWatch

/-- A write of LDG_STORE (R451, R470, R476); the register keeps the value written, for an image (R493). -/
def State.ldgStoreWrite (s : State) (v : Nat) : State :=
  (({ s with ldg := { s.ldg with store := signedOf 64 v, storeValid := true } }).setReg64 .ldgStore 0 v).reserveWatch

/-! ### Weights and loads (R27, R230, R261, R452) -/

/-- The weight of an activity kind at a rail, in pJ (R452); AFEUS is tallied in units of 1/64 ns. -/
def weight (kind rail : Nat) : Rat :=
  match kind, rail with
  | 0, 0 => 42 / 10 | 0, 1 => 6 | 0, 2 => 108 / 10 | 0, _ => 168 / 10
  | 1, _ => 10000
  | 2, _ => 600
  | 3, 0 => 35 / 100 | 3, 1 => 50 / 100 | 3, 2 => 90 / 100 | 3, _ => 140 / 100
  | 4, 0 => 37 / 10 | 4, 1 => 65 / 10 | 4, 2 => 116 / 10 | 4, _ => 181 / 10
  | 5, 0 => 60 | 5, 1 => 86 | 5, 2 => 154 | 5, _ => 240
  | 6, 0 => 35 / 100 | 6, 1 => 50 / 100 | 6, 2 => 90 / 100 | 6, _ => 140 / 100
  | 7, _ => 12
  | _, _ => 400 / 64000

/-- Throughput at a rail: Salter instructions per second and core, Tower MAC/s, correlator MAC/s (R27). -/
def throughput (d rail : Nat) : Rat :=
  match d, rail with
  | 2, 0 => 25000000 | 2, 1 => 80000000 | 2, 2 => 170000000 | 2, _ => 240000000
  | 6, 0 => 12000000 | 6, 1 => 48000000 | 6, 2 => 120000000 | 6, _ => 200000000
  | _, 0 => 8000000 | _, 1 => 32000000 | _, 2 => 80000000 | _, _ => 130000000

/-- Time of a seed evaluation at a rail, in s (R262). -/
def seedTime (rail : Nat) : Rat :=
  match rail with
  | 0 => 8 / 10 ^ 7 | 1 => 2 / 10 ^ 7 | 2 => 8 / 10 ^ 8 | _ => 5 / 10 ^ 8

/-- The domain of a serial port (R136, R477). -/
def portDomain (p : Nat) : Nat := if p < 6 || (12 ≤ p && p < 15) then 3 else 4

/-- The domain a kind is performed in for channel `c`. -/
def State.kindDomain (s : State) (c kind : Nat) : Nat :=
  match kind with
  | 0 => 2
  | 1 | 2 => portDomain (s.ad c).kind
  | 3 | 4 => 6
  | 5 | 6 => 7
  | 7 => 8
  | _ => 5

/-- A word of a seed's record (R233). -/
def State.seedWord (s : State) (n k : Nat) : Word := s.rdWord (0x400A8000 + 256 * n + 4 * k)

/-- The pacing channel of a seed (R239). -/
def State.seedPacer (s : State) (n : Nat) : Nat := bits (s.seedWord n 4) 7 0

/-- The armed seeds. -/
def State.armedSeeds (s : State) : List Nat := (List.range 64).filter (fun n => (s.seed n).armed)

/-- The channel and NLEN of each TEMPLATE unit of a seed (R240, R241). -/
def State.templates (s : State) (n : Nat) : List (Nat × Nat) :=
  (List.range 4).filterMap (fun u =>
    let w := s.seedWord n (8 + 4 * u)
    if bitAt w 31 && bits w 30 28 == 4 then some (bits (s.seedWord n (4 + bits w 27 26)) 7 0, bits w 9 0) else none)

/-- The length of an epoch in s (R455). -/
def State.epochLen (s : State) : Rat := (s.afld .plnCfg 0 31 13 : Rat) / 100

/-- Seconds of the last epoch. -/
def State.lastEpoch (s : State) : Rat := max (1 / 100) ((s.ldg.lastLen : Rat) / (64 * 10 ^ 9))

/-- Source inputs per second of channel `c` at tier `t`, as R230 and R461 count them. -/
def State.inputRate (s : State) (c t : Nat) : Rat :=
  let d := s.ad c
  let measured : Rat :=
    if s.ldg.measured then (s.epochPrev c).inputs / s.lastEpoch
    else
      let (num, den) := s.tnomNow c
      if num = 0 then 0 else (den : Rat) * 10 ^ 9 / num
  if d.isAfe then (s.bitRate d.preStage : Rat) / 2 ^ s.preDec d.preStage
  else match d.acq with
    | 0 => if d.periodAt t = 0 then 0 else 10 ^ 6 / (d.periodAt t : Rat)
    | 3 => if (s.launch d.ln).period = 0 then measured else 10 ^ 9 / ((s.launch d.ln).period : Rat)
    | _ => measured

/-- MACs of one output of one component (R230). -/
def outMacs (d : Desc) (p : Nat) : Nat := presetNz p * (2 ^ presetStages p - 1) + 4 + b2n d.dcOn

/-- Outputs per second at tier `t`. -/
def State.outRate (s : State) (c t : Nat) : Rat := s.inputRate c t / 2 ^ presetStages ((s.ad c).presetAt t)

/-- Engine load of a channel at a tier, in MAC/s (R230). -/
def State.macLoad (s : State) (c t : Nat) : Rat := (s.ad c).ncomp * outMacs (s.ad c) ((s.ad c).presetAt t) * s.outRate c t

/-- Acquisitions per second at a tier (R458). -/
def State.acqRate (s : State) (c t : Nat) : Rat :=
  let d := s.ad c
  match d.acq with
  | 0 => s.inputRate c t
  | 3 => if (s.launch d.ln).period = 0 then 0 else s.inputRate c t
  | _ => (s.epochPrev c).acqs / s.lastEpoch

/-- Attempts and bytes of one acquisition before the first one (R458): the totals of the script's slots, or of the default transaction. -/
def State.scriptTotals (s : State) (c : Nat) : Nat × Nat :=
  let d := s.ad c
  let n := bits (d 2) 13 10
  if n = 0 then (1, (if bits (d 1) 15 8 = 0 then 1 else 2) + d.ncomp * d.cwidth)
  else (n, ((List.range n).map (fun k =>
    let w := s.rdWord (0x20010000 + 16 * (bits (d 2) 9 0 + k))
    bits w 15 12 + bits w 6 0)).sum)

/-- A tier set: the channels in it with their tier, −1 for OFF. -/
abbrev TierSet := List (Nat × Int)

/-- Outputs per second of channel `c` in a tier set; a channel outside the set, or at OFF, gives none. -/
def State.rateIn (s : State) (ts : TierSet) (c : Nat) : Rat :=
  match ts.find? (fun p => p.1 == c) with
  | some (_, t) => if t < 0 then 0 else s.outRate c t.toNat
  | none => 0

/-- The correlator load of a seed's TEMPLATE units in a tier set, in MAC/s (R261). -/
def State.corLoad (s : State) (ts : TierSet) (n : Nat) : Rat := ((s.templates n).map (fun q => ((q.2 : Rat) + 2) * s.rateIn ts q.1)).sum

/-- Service instructions per second of the instance that a VIRTUAL channel names, as the last epoch measured them (R271, R453; log 50). -/
def State.svcRate (s : State) (c : Nat) : Rat :=
  ((((List.range 28).filter (fun i => (s.ad c).service == svcCode i)).map (fun i => (s.svcInst i).instr)).sum : Nat) / s.lastEpoch

/-- Predicted rates of every kind of channel `c` at tier `t` of a tier set, per second (R458). -/
def State.predRate (s : State) (ts : TierSet) (c t kind : Nat) : Rat :=
  let d := s.ad c
  let p := s.epochPrev c
  let mean := fun (x : Nat) (y : Nat) => if p.acqs = 0 then (y : Rat) else (x : Rat) / p.acqs
  match kind with
  | 0 => if d.isAfe then 60 * s.outRate c t
         else if d.kind = 22 then s.svcRate c else 2000 * s.acqRate c t
  | 1 => if d.isPort then s.acqRate c t * mean p.xact (s.scriptTotals c).1 else 0
  | 2 => if d.isPort then s.acqRate c t * mean p.xbyte (s.scriptTotals c).2 else 0
  | 3 => s.macLoad c t
  | 4 => if d.isAfe then s.bitRate d.preStage else 0
  | 5 => ((s.armedSeeds.filter (fun n => s.seedPacer n == c)).length : Rat) * s.outRate c t
  | 6 => ((s.armedSeeds.filter (fun n => s.seedPacer n == c)).map (s.corLoad ts)).sum
  | 7 => if bitAt (d 10) 0 then
           let gd := (presetDelay (d.presetAt t) * 256 + (256 * d.delayInt + d.delayFrac) * 2 ^ presetStages (d.presetAt t) : Nat)
           let far := s.inputRate c t * 2 ^ 30 * 256 < (gd : Rat) * 10 ^ 9
           s.outRate c t * (2 + d.ncomp + b2n far)
         else 0
  | _ => if d.kind = 18 then 64000000000 else 0

/-- The rails of PD2, PD6 and PD7 for a tier set, as 0 to 3 (R461), with the utilisations in percent and whether no rail was enough. -/
structure Rails where
  r2 : Nat
  r6 : Nat
  r7 : Nat
  u2 : Nat
  u6 : Nat
  u7 : Nat
  overload : Bool
  deriving DecidableEq, Repr

/-- The rail index of domain `d` under a choice of rails (R460, R461). -/
def Rails.of (r : Rails) (d : Nat) : Nat := if d = 2 then r.r2 else if d = 6 then r.r6 else if d = 7 then r.r7 else 0

/-- The lowest rail with u no more than the limit; 3 and true when there is none (R461). -/
def lowestRail (limit : Rat) (u : Nat → Rat) : Nat × Bool :=
  match (List.range 4).find? (fun r => decide (u r ≤ limit)) with
  | some r => (r, false)
  | none => (3, true)

/-- Does the channel run: RUNNING or DEGRADED (R125), not suspended? -/
def State.running (s : State) (c : Nat) : Bool := (s.chan c).state == 2 || (s.chan c).state == 3

/-- The running channels. -/
def State.runningChans (s : State) : List Nat := (List.range 192).filter (fun c => s.running c)

/-- The channels whose applied ENABLE is 1: every state of R125 but OFF; a FENCED one counts by the state it was fenced in (log 50). -/
def State.enabledChan (s : State) (c : Nat) : Bool :=
  match (s.chan c).state with
  | 0 => false
  | 4 => !(s.chan c).wasOff
  | _ => true

/-- The enabled channels of R462, R464 and R465. -/
def State.enabledChans (s : State) : List Nat := (List.range 192).filter s.enabledChan

/-- The tier in use as a tier of R462. -/
def State.tierInUse (s : State) (c : Nat) : Int := if (s.chan c).tierOff then -1 else (s.chan c).tier

/-- The tier a channel has once a change that waits for its boundary has been made. -/
def State.tierToBe (s : State) (c : Nat) : Int :=
  match (s.chan c).tierNext with
  | some (t, off) => if off then -1 else t
  | none => s.tierInUse c

/-- The mode in force: 0 OFF, 1 ADVISE, 2 ENFORCE (R46). -/
def State.plnModeInForce (s : State) : Nat := s.afld .plnCfg 0 1 0

/-- Every running channel at the tier it is to have; in ENFORCE every enabled one, as in the plan (R461, R463). -/
def State.setToBe (s : State) : TierSet :=
  (if s.plnModeInForce = 2 then s.enabledChans else s.runningChans).map (fun c => (c, s.tierToBe c))

/-- Every running channel at its tier in use. -/
def State.setInUse (s : State) : TierSet := s.runningChans.map (fun c => (c, s.tierInUse c))

/-- The rails that R461 chooses for a tier set. -/
def State.chooseRails (s : State) (ts : TierSet) : Rails :=
  let on := ts.filter (fun p => decide (0 ≤ p.2))
  let limit : Rat := (s.afld .plnLimits 0 6 0 : Rat) / 100
  let sumOf := fun (f : Nat → Nat → Rat) => (on.map (fun p => f p.1 p.2.toNat)).sum
  let core1 := sumOf (fun c t => if (s.ad c).kind = 22 then 0 else s.predRate ts c t 0) + 1000000 + (40000 + 1500 * (s.enabledChans.length : Rat)) / s.epochLen
  let core2 : Rat := (((List.range 28).map (fun i => (s.svcInst i).instr)).sum : Nat) / s.lastEpoch
  let macs := sumOf (fun c t => s.macLoad c t)
  let evals := (s.armedSeeds.map (fun n => s.rateIn ts (s.seedPacer n))).sum
  let cor := (s.armedSeeds.map (s.corLoad ts)).sum
  let u2 := fun r => max core1 core2 / throughput 2 r
  let u6 := fun r => macs / throughput 6 r
  let u7 := fun r => cor / throughput 7 r + evals * seedTime r
  let (a, x) := lowestRail limit u2
  let (b, y) := lowestRail limit u6
  let (c, z) := lowestRail limit u7
  let pct := fun (q : Rat) => min 255 (q * 100).floor.toNat
  ⟨a, b, c, pct (u2 a), pct (u6 b), pct (u7 c), x || y || z⟩

/-- Predicted power of a channel at a tier of a tier set, in nJ/s (R458). -/
def State.chanPower (s : State) (ts : TierSet) (r : Rails) (c : Nat) (t : Int) : Rat :=
  if t < 0 then 0
  else ((List.range 9).map (fun k =>
    let d := s.kindDomain c k
    (s.meter d).scale * weight k (r.of d) * s.predRate ts c t.toNat k / 1000)).sum

/-- The predicted common power (R459). -/
def State.commonPower (s : State) : Rat := if s.ldg.measured then s.ldg.lastCommon / s.lastEpoch else 0

/-- cost(set) of R462. -/
def State.cost (s : State) (ts : TierSet) : Rat :=
  let r := s.chooseRails ts
  s.commonPower + (ts.map (fun p => s.chanPower ts r p.1 p.2)).sum

/-! ### Attribution (R454) -/

/-- Time powered in this epoch up to now, in units of 1/64 ns. -/
def State.poweredTime (s : State) (d : Nat) : Nat := (s.meter d).on + (if (s.dom d).rail = 0 then 0 else s.tb0u - (s.meter d).seen)

/-- Bring the powered time of a domain up to the present instant, before its rail goes on or off. -/
def State.touchMeter (s : State) (d : Nat) : State :=
  let t := s.poweredTime d
  s.modMeter d (fun m => { m with on := t, seen := s.tb0u })

/-- A domain goes off (rail 0) or comes up at a rail: its powered time is brought up, and a quiet interval ends or begins (R446, R454). -/
def State.powerDom (s : State) (d rail : Nat) : State :=
  let x := s.dom d
  if x.rail = rail then s.setDom d ⟨rail, none⟩
  else
    let s1 := (s.touchMeter d).setDom d ⟨rail, none⟩
    if rail = 0 then (s1.endQuiet d).modMeter d (fun m => { m with quiet := none })
    else if x.rail = 0 then s1.modMeter d (fun m => { m with quiet := some (s1.tb0u, m.en) })
    else s1

/-- The quiet intervals of a domain that R446 looks at: those of at least 200 µs that ended in the last 10 minutes, and the one in progress once it has lasted that long. -/
def State.quietSpans (s : State) (d : Nat) : List (Nat × Nat × Nat) :=
  let m := s.meter d
  let past := m.quiets.filter (fun x => decide (s.tb0u ≤ x.1 + 600000000000 * 64))
  match m.quiet with
  | some (t0, e0) => if 200000 * 64 ≤ s.tb0u - t0 then (s.tb0u, s.tb0u - t0, (m.en + energyWrap - e0) % energyWrap) :: past else past
  | none => past

/-- The idle power of a domain from its longest quiet interval of the last 10 minutes (R446); it stays with no such interval. -/
def State.idleNow (s : State) (d : Nat) : Nat :=
  match (s.quietSpans d).foldl (fun b x => match b with
      | none => some x
      | some y => if y.2.1 < x.2.1 then some x else some y) none with
  | none => (s.meter d).idle
  | some x => ((x.2.2 : Rat) * 64 / x.2.1).floor.toNat % 2 ^ 32

/-- The kinds performed in domain `d` (R452). -/
def domainKinds (d : Nat) : List Nat :=
  match d with
  | 2 => [0]
  | 3 | 4 => [1, 2]
  | 5 => [8]
  | 6 => [3, 4]
  | 7 => [5, 6]
  | 8 => [7]
  | _ => []

/-- nom[c] of R454 for domain `d`, in nJ. -/
def State.nominal (s : State) (d c : Nat) : Rat :=
  ((domainKinds d).map (fun k =>
    ((List.range 4).map (fun r => weight k r * s.ldg.tally.get (fun _ => 0) (c * 64 + tallySlot k d * 4 + r))).sum / 1000)).sum

/-- Round to the nearest integer, halves up. -/
def roundUp (q : Rat) : Int := (q + 1 / 2).floor

/-- Attribute the epoch's energy of one domain (R454). -/
def State.attribute (s : State) (d : Nat) : State :=
  let s0 := s.touchMeter d
  let m := { s0.meter d with idle := s0.idleNow d }
  let e : Rat := ((m.en + energyWrap - s.ldg.bound.get (fun _ => 0) d) % energyWrap : Nat) / 10 ^ 9
  let base : Rat := (m.idle : Rat) * m.on / (64 * 10 ^ 9)
  let nom := (List.range 192).map (fun c => s.nominal d c)
  let w := nom.sum
  let scale := if w = 0 then m.scale else m.scale + (max (1 / 2) (min 2 ((e - base) / w)) - m.scale) / 4
  let total := scale * w
  let f : Rat := if e < total then scale * e / total else scale
  let charged := if e < total then e else total
  let ch := ((List.range 192).zip nom).foldl (fun t p =>
    if p.2 = 0 then t else t.mod (fun _ => 0) p.1 (fun x => ((x : Int) + roundUp (f * p.2)).toNat % 2 ^ 32)) s0.ldg.ch
  let s1 := s0.setMeter d { m with scale := scale, on := 0 }
  { s1 with ldg := { s1.ldg with ch := ch, common := wrap48 (s1.ldg.common + (e - charged)), lastCommon := s1.ldg.lastCommon + (e - charged),
                                 bound := s1.ldg.bound.set (fun _ => 0) d m.en } }

/-- The Ledger's part of an epoch boundary (R454): every domain is attributed, the tallies restart, and the counts become the last epoch's. -/
def State.attributeAll (s : State) : State :=
  let s0 := { s with ldg := { s.ldg with lastCommon := 0, lastTotal := 0 } }
  let e0 : Nat := ((List.range 12).map (fun d => ((s.meter d).en + energyWrap - s.ldg.bound.get (fun _ => 0) d) % energyWrap)).sum
  let s1 := (List.range 12).foldl State.attribute s0
  let s2 := { s1 with ldg := { s1.ldg with tally := [], prev := s1.ldg.now, now := [], measured := true, lastTotal := e0, lastLen := s.tb0u - s.pln.bound } }
  (List.range 28).foldl (fun u i => u.modSvcInst i (fun x => { x with instr := x.instrNow % 2 ^ 32, instrNow := 0 })) s2

/-! ### The plan (R462, R465, R467) -/

/-- SPENT in nJ (R456). -/
def State.spent (s : State) : Rat := (((s.totalEnergy + 12 * energyWrap - s.pln.spentBase) % energyWrap : Nat) : Rat) / 10 ^ 9

/-- Time left in the window, in s: the epochs left, less what has passed since the boundary. -/
def State.windowRest (s : State) : Rat := max 0 (s.pln.left * s.epochLen - (s.tb0u - s.pln.bound : Nat) / (64 * 10 ^ 9 : Rat))

/-- The time over which p_a spreads the budget: at least 1 ms, at a trip that falls at the window's end. -/
def State.windowLeft (s : State) : Rat := max (1 / 1000) s.windowRest

/-- p_a at this instant (R462, R467). -/
def State.allowance (s : State) : Rat := ((s.app64 .plnBudget 0 : Rat) - s.spent) / s.windowLeft

/-- The highest listed tier. -/
def State.topTier (s : State) (c : Nat) : Nat := (s.ad c).tiers.length - 1

/-- The lowest tier a channel may have: OFF when TIER_OFF_OK, TIER0 otherwise; a channel without tiers keeps its fixed one (R462). -/
def State.lowTier (s : State) (c : Nat) : Int := if (s.ad c).tiered && (s.ad c).tierOffOk then -1 else 0

/-- Replace the tier of one channel in a set. -/
def TierSet.put (ts : TierSet) (c : Nat) (t : Int) : TierSet := ts.map (fun p => if p.1 = c then (c, t) else p)

/-- The tier of a channel in a set. -/
def TierSet.tierOf (ts : TierSet) (c : Nat) : Int := ((ts.find? (fun p => p.1 == c)).map (·.2)).getD 0

/-- The raising loop of R462: `open_` are the channels not done with their caps; `fuel` bounds the steps. -/
def State.raiseTiers (s : State) (pa : Rat) : Nat → List (Nat × Int) → TierSet → Rat → TierSet × Rat
  | 0, _, ts, p => (ts, p)
  | fuel + 1, open_, ts, p =>
    let cand := open_.filter (fun q => decide (ts.tierOf q.1 < q.2))
    let delta := fun c => s.cost (ts.put c (ts.tierOf c + 1)) - p
    let better := fun (a b : Nat × Int) =>
      let pa' := (s.ad a.1).prio
      let pb := (s.ad b.1).prio
      pb < pa' || (pa' == pb && (decide (delta a.1 < delta b.1) || (decide (delta a.1 = delta b.1) && decide (a.1 < b.1))))
    match cand.foldl (fun (b : Option (Nat × Int)) q => match b with
        | none => some q
        | some x => if better q x then some q else some x) none with
    | none => (ts, p)
    | some (c, cap) =>
      let dlt := delta c
      if p + dlt ≤ pa then State.raiseTiers s pa fuel open_ (ts.put c (ts.tierOf c + 1)) (p + dlt)
      else State.raiseTiers s pa fuel (open_.filter (fun q => q.1 ≠ c || q.2 ≠ cap)) ts p

/-- The tier set R462 or R467 computes for allowance `pa` under the caps, with p and OVER. -/
def State.planSet (s : State) (pa : Rat) (cap : Nat → Int) : TierSet × Rat × Bool :=
  let cs := s.enabledChans
  let low : TierSet := cs.map (fun c => (c, s.lowTier c))
  let p := s.cost low
  let caps := (cs.filter (fun c => (s.ad c).tiered)).map (fun c => (c, cap c))
  let (ts, q) := s.raiseTiers pa (6 * cs.length + 1) caps low p
  (ts, q, decide (pa < p))

/-- The cap of R462: the highest tier, or the tier in use when the channel was lowered within the last HOLD epochs. -/
def State.planCap (s : State) (c : Nat) : Int :=
  let l := s.pln.lowered.get (fun _ => 0) c
  if l ≠ 0 && decide (s.pln.seq + 1 - l < s.afld .plnLimits 0 23 16) then s.tierInUse c else s.topTier c

/-- PLANNED of R473 for a channel of a tier set. -/
def State.planCode (s : State) (c : Nat) (t : Int) : Nat := if !(s.ad c).tiered then 5 else if t < 0 then 4 else t.toNat

/-- A number of nJ/s that fits in `n` bits. -/
def satRat (n : Nat) (q : Rat) : Nat := min (2 ^ n - 1) (roundUp (max 0 q)).toNat

/-- Store a plan for PLN_REPORT (R473). -/
def State.storePlan (s : State) (pa p : Rat) (ts : TierSet) (beyond : Bool) : State :=
  let r := s.chooseRails ts
  { s with pln := { s.pln with
      pa := pa, p := p, isOver := beyond, overload := r.overload,
      planned := ts.foldl (fun m q => m.set (fun _ => 7) q.1 (s.planCode q.1 q.2)) [],
      power := ts.foldl (fun m q => m.set (fun _ => 0) q.1 (satRat 24 (s.chanPower ts r q.1 q.2))) [],
      rails := r.r2 + 4 * r.r6 + 16 * r.r7, util := r.u2 + 256 * r.u6 + 65536 * r.u7 } }

/-- Start the slew of a domain to a rail of R27 (R29): the rail is reached at RAIL_SLEW_DONE. -/
def State.slewTo (s : State) (d rail : Nat) : State :=
  s.modDom d (fun x => { x with slew := if x.rail = rail then none else some rail })

/-- The domains whose rail the Planner chooses, each with the rail of a choice, as R27 numbers the operating rails from 2. -/
def Rails.list (r : Rails) : List (Nat × Nat) := [(2, r.r2 + 2), (6, r.r6 + 2), (7, r.r7 + 2)]

/-- Slew PD2, PD6 and PD7, where powered, to a choice of rails; with `raiseOnly`, a lower rail waits. -/
def State.slewRails (s : State) (r : Rails) (raiseOnly : Bool) : State :=
  let s1 := if r.overload then s.evt .plnEvt 0 4 else s
  r.list.foldl (fun u p =>
    let x := u.dom p.1
    if x.rail = 0 || (raiseOnly && decide (p.2 ≤ (x.slew.getD x.rail))) then u else u.slewTo p.1 p.2) s1

/-- A domain of the choice is powered below its rail. -/
def State.railsShort (s : State) (r : Rails) : Bool := r.list.any (fun p => (s.dom p.1).rail ≠ 0 && decide ((s.dom p.1).rail < p.2))

/-- Take the rails of PD2, PD6 and PD7 for a tier set (R461, R463); with `raiseOnly`, a lower rail waits. -/
def State.setRails (s : State) (ts : TierSet) (raiseOnly : Bool) : State := s.slewRails (s.chooseRails ts) raiseOnly

/-- The load of PD2, PD6 or PD7 may have risen (R461, in OFF and ADVISE): the rails are chosen again, upward only. -/
def State.loadChanged (s : State) : State := if s.plnModeInForce = 2 then s else s.setRails s.setInUse true

/-- Let a tier change of a channel fall due (R463): it takes effect at the channel's boundary, which is at once for one that is STOPPED (R112). A FENCED channel takes none. -/
def State.dueTier (s : State) (c : Nat) (t : Int) : State :=
  if s.tierInUse c = t then s.modChan c (fun x => { x with tierNext := none })
  else if s.running c then s.modChan c (fun x => { x with tierNext := some (t.toNat, decide (t < 0)) })
  else if (s.chan c).state = 1 then s.modChan c (fun x => { x with tier := if t < 0 then x.tier else t.toNat, tierOff := decide (t < 0) })
  else s

/-- Apply a plan in ENFORCE (R463): the tiers fall due, the rails slew; a lowered channel is remembered. -/
def State.applyPlan (s : State) (ts : TierSet) (emerg : Bool) : State :=
  let s1 := ts.foldl (fun u q =>
    if !(u.ad q.1).tiered then u
    else
      let low := decide (q.2 < u.tierInUse q.1)
      let u1 := if low then { u with pln := { u.pln with lowered := u.pln.lowered.set (fun _ => 0) q.1 (u.pln.seq + 1 + b2n emerg),
                                                         emerg := if emerg then u.pln.emerg ++ [q.1] else u.pln.emerg } } else u
      u1.dueTier q.1 q.2) s
  s1.setRails ts false

/-- The tiers of OFF and ADVISE (R46): the highest listed fall due, with the rails for them (R461); a rail that rises does so before the changes, and one that falls after them
(R30). -/
def State.topTiers (s : State) : State :=
  let t := s.enabledChans.foldl (fun u c => if (u.ad c).tiered then u.dueTier c (u.topTier c) else u) s
  t.setRails t.setToBe false

/-- Load the overspend comparator (R466). -/
def State.loadLimit (s : State) (limit : Rat) : State := { s with pln := { s.pln with limit := some limit } }

/-- The plan of an epoch boundary (R462, R463, R466). -/
def State.plan (s : State) : State :=
  let pa := s.allowance
  let x := s.planSet pa s.planCap
  let s1 := (s.storePlan pa x.2.1 x.1 x.2.2).evt .plnEvt 0 0
  let s2 := if x.2.2 then s1.evt .plnEvt 0 3 else s1
  let s3 := s2.loadLimit (pa * s.epochLen * (1 + (s.afld .plnLimits 0 15 8 : Rat) / 100))
  if s.plnModeInForce = 2 then s3.applyPlan x.1 false else s3.topTiers

/-- PLN_CFG, PLN_LIMITS and their ranges (R455, R476). -/
def plnCfgOk (v : Word) : Bool := 1 ≤ bits v 31 13 && bits v 31 13 ≤ 360000 && 1 ≤ bits v 12 5 && bits v 1 0 ≠ 3
/-- The range of PLN_LIMITS. -/
def plnLimitsOk (v : Word) : Bool := bits v 15 8 ≤ 100 && 50 ≤ bits v 6 0 && bits v 6 0 ≤ 95

/-- The buffered Planner registers apply at an epoch boundary (R456, R476); a window begins after a change of EPOCH, WINDOW or BUDGET. -/
def State.applyPln (s : State) : State :=
  let c := s.reg .plnCfg 0
  let l := s.reg .plnLimits 0
  let bad := !plnCfgOk c || !plnLimitsOk l
  let s1 := if plnCfgOk c then s.setApp .plnCfg 0 c else s.setReg .plnCfg 0 (s.app .plnCfg 0)
  let s2 := if plnLimitsOk l then s1.setApp .plnLimits 0 l else s1.setReg .plnLimits 0 (s.app .plnLimits 0)
  let a := Reg.plnBudget.addr 0
  let s3 := (s2.setAppAt a (s.wordAt a)).setAppAt (a + 4) (s.wordAt (a + 4))
  let s4 := (s3.setApp .ldgSns 0 (s.reg .ldgSns 0)).setApp .ldgSns 1 (s.reg .ldgSns 1)
  let changed := bits (s4.app .plnCfg 0) 31 5 ≠ bits (s.app .plnCfg 0) 31 5 || s4.app64 .plnBudget 0 ≠ s.app64 .plnBudget 0
  let s5 := if bad then s4.evt .plnEvt 0 6 else s4
  if changed then { s5 with pln := { s5.pln with fresh := true } } else s5

/-- The window's part of an epoch boundary (R456). -/
def State.stepWindow (s : State) : State :=
  let begins := s.pln.fresh || decide (s.pln.left ≤ 1)
  { s with pln := { s.pln with
      fresh := false, left := if begins then s.afld .plnCfg 0 12 5 else s.pln.left - 1,
      spentBase := if begins then s.totalEnergy else s.pln.spentBase } }

/-- What every epoch boundary does (R454, R456, R462); `restart` is R457's restart of the epoch timing. -/
def State.epochBoundary (s : State) (restart : Bool) : State :=
  let s1 := s.attributeAll
  let s2 := { s1 with pln := { s1.pln with
      seq := s1.pln.seq + 1, bound := s.tb0u, origin := if restart then s.tb0u else s1.pln.origin, trips := 0, emerg := [], emergency := false,
      perSec := (s1.ldg.lastTotal : Rat) / 10 ^ 9 / s1.lastEpoch } }
  let s3 := s2.applyPln.stepWindow
  match s3.plnModeInForce with
  | 0 => ({ s3 with pln := { s3.pln with limit := none } }).topTiers
  | _ => s3.plan

/-- Is an epoch boundary due since the last one (R456)? -/
def State.epochDue (s : State) : Bool :=
  let e := s.afld .plnCfg 0 31 13 * 10000000 * 64
  decide ((s.pln.bound - s.pln.origin) / e < (s.tb0u - s.pln.origin) / e)

/-- Energy since the last boundary, in nJ (R466). -/
def State.sinceBoundary (s : State) : Rat :=
  ((((List.range 12).map (fun d => ((s.meter d).en + energyWrap - s.ldg.bound.get (fun _ => 0) d) % energyWrap)).sum : Nat) : Rat) / 10 ^ 9

/-- The budget of the window that is not spent, in nJ (R467). -/
def State.budgetLeft (s : State) : Rat := (s.app64 .plnBudget 0 : Rat) - s.spent

/-- The budget is spent, or this is not the first trip of the epoch: every channel goes to its lowest tier (R467). -/
def State.atLowest (s : State) : Bool := s.budgetLeft ≤ 0 || 1 ≤ s.pln.trips

/-- No channel of the set above the tier it has in use: a demotion raises none (R467). -/
def State.capped (s : State) (ts : TierSet) : TierSet := ts.map (fun q => (q.1, min q.2 (s.tierInUse q.1)))

/-- The tier set of an emergency plan, with its power and OVER (R467). -/
def State.emergencySet (s : State) : TierSet × Rat × Bool :=
  let low : TierSet := s.enabledChans.map (fun c => (c, s.lowTier c))
  if s.atLowest then (s.capped low, s.cost low, true)
  else
    let x := s.planSet s.allowance s.tierInUse
    (s.capped x.1, x.2)

/-- Plan in ENFORCE once the overspend comparator has tripped (R467); it is loaded again, unless nothing can go lower. -/
def State.emergencyPlan (s : State) : State :=
  let x := s.emergencySet
  let s0 := s.evt .plnEvt 0 1
  let s1 := (((if !s.atLowest && x.2.2 then s0.evt .plnEvt 0 3 else s0).storePlan s.allowance x.2.1 x.1 x.2.2).applyPlan x.1 true).evt .plnEvt 0 2
  { s1 with pln := { s1.pln with emergency := true, trips := s1.pln.trips + 1,
                                 limit := if s.atLowest then none else some (s.sinceBoundary + s.budgetLeft) } }

/-- The overspend comparator trips (R466, R467); the trip that finds no excess is discarded (R468). -/
def State.overspendTrip (s : State) : State :=
  match s.pln.limit with
  | none => s
  | some l =>
    if s.sinceBoundary ≤ l then s
    else if s.plnModeInForce = 2 then s.emergencyPlan
    else
      let s1 := s.evt .plnEvt 0 1
      { s1 with pln := { s1.pln with limit := none } }

/-- Is a channel admitted in ENFORCE (R465)? 0 refused, 1 at TIER0, 2 at OFF. -/
def State.admission (s : State) (c : Nat) (d : Desc) : Nat :=
  if s.plnModeInForce ≠ 2 then 1
  else
    let s1 := s.modChan c (fun x => { x with pinned := some ((List.range 16).map d) })
    let others := (s.enabledChans.filter (· ≠ c)).map (fun k => (k, s.lowTier k))
    if s1.cost ((c, 0) :: others) ≤ s.pln.pa then 1 else if d.tierOffOk then 2 else 0

/-! ### Opcodes (R472 to R475) -/

/-- PLN_REPORT (R473). -/
def opPlnReport : OpDef where
  code := 0x42
  priv := 0
  async := false
  lenOk := fun n _ => n == 1
  valid := fun _ c =>
    let part := c.fld 0 15 14
    let cnt := c.fld 0 13 8
    let first := c.fld 0 7 0
    c.fld 0 31 16 == 0 && (if part = 0 then cnt == 0 && first == 0 else part == 1 && 1 ≤ cnt && cnt ≤ 62 && first + cnt ≤ 192)
  allow := fun _ _ => 0
  run := fun s c =>
    if c.fld 0 15 14 = 0 then
      let p := s.pln
      (s, 0, [w32 (s.plnModeInForce * 2 ^ 30 + b2n s.pwr.reserveHold * 2 ^ 29 + b2n p.isOver * 2 ^ 28 + b2n p.emergency * 2 ^ 27 +
                b2n p.overload * 2 ^ 26 + p.seq % 65536),
        w32 (satRat 32 p.pa), w32 (satRat 32 p.p), w32 (satRat 32 p.perSec)] ++ pairOf (s.spent.floor.toNat % 2 ^ 48) ++
        [w32 (s.windowRest * 1000).floor.toNat, w32 p.rails, w32 p.util])
    else
      (s, 0, (List.range (c.fld 0 13 8)).map (fun k =>
        let n := c.fld 0 7 0 + k
        let on := s.enabledChan n
        let use := if on then s.planCode n (s.tierInUse n) else 7
        let pl := if on then (if s.pln.planned.any (fun q => q.1 == n) then s.pln.planned.get (fun _ => 7) n else use) else 7
        w32 (pl * 2 ^ 29 + use * 2 ^ 26 + b2n (s.pln.emerg.contains n) * 2 ^ 25 + s.pln.power.get (fun _ => 0) n)))

/-- The stored energy as LDG_STORE shows it. -/
def State.storeWord64 (s : State) : Nat := (s.ldg.store.floor % 2 ^ 64).toNat

/-- LDG_READ (R474). -/
def opLdgRead : OpDef where
  code := 0x43
  priv := 0
  async := false
  lenOk := fun n _ => n == 1
  valid := fun _ c =>
    let part := c.fld 0 15 14
    let cnt := c.fld 0 12 8
    let first := c.fld 0 7 0
    c.fld 0 31 16 == 0 && c.fld 0 13 13 == 0 && part ≠ 3 &&
      (if part = 2 then 1 ≤ cnt && cnt ≤ 23 && first + cnt ≤ 192 else cnt == 0 && first == 0)
  allow := fun _ _ => 0
  run := fun s c =>
    match c.fld 0 15 14 with
    | 0 => (s, 0, (List.range 12).flatMap (fun d => pairOf ((s.meter d).en / 10 ^ 9)))
    | 1 => (s, 0, pairOf (s.ldg.common.floor.toNat) ++ pairOf (s.ldg.income.floor.toNat) ++ pairOf (s.ldg.draw.floor.toNat) ++ pairOf s.storeWord64)
    | _ => (s, 0, w32 (s.pln.seq % 65536) :: (List.range (c.fld 0 12 8)).map (fun k => w32 (s.ldg.ch.get (fun _ => 0) (c.fld 0 7 0 + k))))

end Sys2Proof.Machine
end

