-- ==== Sys2Proof/Machine/AfeCfg.lean ====
section
/-! DEFINITION. The configuration of the analogue and PDM inputs and of their pre-stages (spec 06, R180 to R197): which input runs, what a change of it blanks and
restarts, and its application at a channel's boundary. -/

namespace Sys2Proof.Machine

/-- MACHINE_STATE instances of input channel `c` restart with its Tower state (R284). -/
def State.machRestart (s : State) (c : Nat) : State :=
  (List.range 16).foldl (fun u k => if bitAt (u.svcWord (9 + k) 0) 31 && bits (u.svcWord (9 + k) 0) 7 0 == c then u.setMach k Mach.reset else u) s

/-- Restart a running channel's Tower state; the loads of its domains may have risen (R220, R461). -/
def State.restartChan (s : State) (c : Nat) (keep : Bool) : State := ((s.twrRestart c keep).machRestart c).loadChanged

/-- The channel whose applied descriptor has ENABLE 1 and names pre-stage `i` (R194): one that runs, or else one that is STOPPED or OFF, whose applied descriptor is the
table's (R602). A FENCED channel names no input (DESIGN CHOICE, log 69). -/
def State.preChan (s : State) (i : Nat) : Option Nat :=
  let names := fun c => (s.ad c).enable && (s.ad c).isAfe && (s.ad c).preStage == i
  ((List.range 192).find? (fun c => s.running c && names c)).orElse
    (fun _ => (List.range 192).find? (fun c => decide ((s.chan c).state < 2) && names c))

/-- The applied configuration of input `i`: 0–15 AIN, 16–23 PDM. -/
def State.afeCfg (s : State) (i : Nat) : Word := if i < 16 then s.app .afeAinCfg i else s.app .afePdmCfg (i - 16)

/-- The clock of a PDM input runs (R189): PD10 makes it (R180). -/
def State.pdmClock (s : State) (i : Nat) : Bool :=
  bitAt (s.reg .afePdmclk 0) (if i < 20 then 30 else 31) && (s.dom 10).rail ≠ 0 && !s.isFenced 8 10

/-- The input delivers bits to its pre-stage (AFE_STAT). -/
def State.afeRun (s : State) (i : Nat) : Bool :=
  bitAt (s.afeCfg i) 31 && (s.dom 5).rail ≠ 0 && !(s.pre i).blank && (decide (i < 16) || s.pdmClock i)

/-- PD5 is powered while an input or an excitation output is enabled (R182), but in a floor, under a brownout warning (R499) or fenced. Without power nothing of it is settled. -/
def State.powerAfe (s : State) : State :=
  let want := (List.range 24).any (fun i => bitAt (s.afeCfg i) 31) || (List.range 4).any (fun k => bitAt (s.reg .afeExc k) 31)
  let on := want && s.pwr.floor = 0 && !s.pwr.brownHold && !s.isFenced 8 5
  ({ s with afe := if on then s.afe else AfeBlk.reset }).powerDom 5 (if on then 2 else 0)

/-- A pre-stage starts over: its stages fill with the next bit (R214). -/
def State.clearPre (s : State) (i : Nat) (blank noRestart : Bool) : State := s.setPre i ⟨[], 0, blank, noRestart⟩

/-- The channel of an input restarts its Tower state after a change of R196; the DC estimate is seeded (R210). -/
def State.restartInput (s : State) (i : Nat) : State :=
  match s.preChan i with
  | some c => if s.running c then s.restartChan c false else s
  | none => s

/-- A change of R196 that blanks the input's bitstream. -/
def State.blankInput (s : State) (i : Nat) : State := s.clearPre i true false

/-- The configuration of an AIN input is valid (R192, R195). -/
def State.ainCfgOk (s : State) (v : Word) : Bool :=
  let m := bits v 26 24
  let ref := bits v 23 21
  decide (1 ≤ m) && decide (ref ≤ 4) && (ref == 0 || bitAt (s.reg .afeExc (ref - 1)) 31) && !(bitAt v 30 && m == 1)

/-- The configuration of a PDM input is valid at the rate of its clock (R192). -/
def State.pdmCfgOk (s : State) (i : Nat) (v : Word) : Bool :=
  decide (1 ≤ bits v 26 24) && decide (s.bitRate i ≤ 768000 * 2 ^ bits v 26 24)

/-- The stored configuration of an input waits for its application (R195). -/
def State.afePending (s : State) (i : Nat) : Bool :=
  if i < 16 then s.app .afeAinCfg i ≠ s.reg .afeAinCfg i else s.app .afePdmCfg (i - 16) ≠ s.reg .afePdmCfg (i - 16)

/-- The boundary of an AFE input: its buffered configuration applies (R195, R196). `done` is the channel that has restarted at this boundary already, for a CHAN_COMMIT:
it restarts once (R197), and its estimate is seeded, as a change of R196 asks. Its alpha follows the new T_nom (R209). -/
def State.applyAfe (s : State) (i : Nat) (done : Option Nat) : State :=
  let r : Reg := if i < 16 then .afeAinCfg else .afePdmCfg
  let n := if i < 16 then i else i - 16
  let old := s.app r n
  let new := s.reg r n
  if new = old then s
  else if !(if i < 16 then s.ainCfgOk new else s.pdmCfgOk i new) then (s.setReg r n old).evt .afeEvt 0 20
  else
    let s0 := (s.setApp r n new).powerAfe
    let s1 := match s0.preChan i with
      | some c => s0.setAlpha c
      | none => s0
    let start := bitAt new 31 && !bitAt old 31
    let analog := i < 16 && (bits new 30 27 ≠ bits old 30 27 || bits new 23 21 ≠ bits old 23 21)
    let dec := bits new 26 24 ≠ bits old 26 24
    let s2 := match done with
      | some c => if start || analog || dec then s1.modTwrCh c (fun t => { t with seed := true }) else s1
      | none => s1
    if start || (bitAt new 31 && analog) then s2.clearPre i true done.isSome
    else if dec then
      let s3 := s2.clearPre i (s2.pre i).blank (s2.pre i).noRestart
      if done.isSome then s3 else s3.restartInput i
    else s2

end Sys2Proof.Machine
end

