-- ==== Sys2Proof/Machine/Channels.lean ====
section
/-! DEFINITION. Channels and the Channel Table (spec 04): writes and pins, the descriptor check, commit, start and stop, boundaries and
applications, failed acquisitions, the channel fence; and the arrival latches and stamps of spec 11 that samples carry. -/

namespace Sys2Proof.Machine

/-! ### Arrival latches (R341 to R346)

By number: 0–31 the event pins, 32–49 the serial ports, 50–73 the pre-stages, 74–75 receipt on LG0 and LG1, 76–77 transmission on them, 78 receipt and 79 transmission on
the radio, 80 the read latch. -/

/-- Latch an edge at the present instant; false when both stages of the latch are full, and the edge is discarded and counted (R344). -/
def State.latchPush (s : State) (l : Nat) : State × Bool :=
  let q := s.time.latches.get (fun _ => []) l
  if 2 ≤ q.length then ((s.evt .tbEvt 0 16).countFault .tbLatcnt 0 15 0 1, false)
  else ({ s with time := { s.time with latches := s.time.latches.set (fun _ => []) l (q ++ [s.latchNF]) } }, true)

/-- Latch an edge whose stamp is composed as soon as the latch is ready (R345): the timestamp points of R357 and the grants of R369. Stages that are ready have been composed. -/
def State.edgePush (s : State) (l : Nat) : State × Bool :=
  ({ s with time := { s.time with latches := s.time.latches.mod (fun _ => []) l (fun q => q.filter (fun p => decide (s.tick < p.1))) } } : State).latchPush l

/-- The stamp of an edge that latch `l` has just captured: it waits for the latch, less the group delay `gd` once composed (R193). -/
def State.waiting (s : State) (l : Nat) (gd : Rat) : Stamp := ⟨some (l, s.latchNF.1, s.latchNF.2), 0, 0, gd⟩

/-- An edge for channel `c` at latch `l`: the stamp that waits for it, or none when the latch discards the edge: that sample is lost, and the next one owes GAP (R18, R344). -/
def State.latchFor (s : State) (l c : Nat) (gd : Rat) : State × Option Stamp :=
  let (t, ok) := s.latchPush l
  if ok then (t, some (s.waiting l gd)) else (t.modChan c (fun x => { x with gapOwed := true }), none)

/-- An acquisition of the channel from an SSP, I3C, EVENT_PIN or REMOTE source is counted and its instructions are tallied (R453, R458). -/
def State.countAcq (s : State) (c : Nat) : State := (s.modEpochNow c (fun x => { x with acqs := x.acqs + 1 })).tallyAdd c 0 2 2000

/-- A composed stamp of the present instant in channel `c`'s timebase. -/
def State.stampNow (s : State) (c : Nat) : Stamp := Stamp.at (s.tbNow (s.ad c).tb) (s.tbEpoch (s.ad c).tb)

/-- The latch of a serial port. -/
def portLatch (p : Nat) : Nat := 32 + p

/-- COMPOSE_STAMP (R345): the oldest stage of latch `l`, once ready, is composed; every sample, output, acquisition and pin edge that waits for it takes the
stamp in its own channel's timebase. -/
def State.composeStamp (s : State) (l : Nat) : State :=
  match s.time.latches.get (fun _ => []) l with
  | [] => s
  | (n, f) :: rest =>
    if s.tick < n then s
    else
      let fillIn := fun (c : Nat) (x : Stamp) => x.fill s (s.ad c).tb (l, n, f)
      let fillOut := fun (o : Output) => o.fill s (s.ad o.chan).tb (l, n, f)
      { s with
        time := { s.time with latches := s.time.latches.set (fun _ => []) l rest },
        ports := s.ports.map (fun (p : Nat × Port) => (p.1, { p.2 with acqs := p.2.acqs.map (fun a => { a with stamp := fillIn a.chan a.stamp }) })),
        chans := s.chans.map (fun (p : Nat × Chan) => (p.1, { p.2 with edge := p.2.edge.map (fillIn p.1) })),
        twr := { s.twr with
          entry := s.twr.entry.map (fun x => { x with stamp := fillIn x.chan x.stamp }),
          held := s.twr.held.map fillOut,
          ch := s.twr.ch.map (fun (p : Nat × TowerCh) =>
            (p.1, { p.2 with stamps := p.2.stamps.map (fillIn p.1), last := p.2.last.map fillOut })) } }

/-- COMPOSE_STAMP. -/
def execComposeStamp (latch : Nat) (s : State) : Host.Outcome State Fault Refusal := act (fun u => u.composeStamp latch) s

/-! ### Channel states -/

/-- A CHAN_STOP waits for the channel (R126). -/
def State.stopWaits (s : State) (c : Nat) : Bool := s.jobs.any (fun j => j.op == 0x14 && j.left.contains c)

/-- The channel acquires: RUNNING or DEGRADED, not suspended, not at tier OFF, and no CHAN_STOP waits for it (R125, R126, R225). -/
def State.acquiring (s : State) (c : Nat) : Bool :=
  s.running c && !(s.chan c).suspended && !(s.chan c).tierOff && !s.stopWaits c

/-- A named channel waits for a commit or start (R119, R133). -/
def State.locked (s : State) (c : Nat) : Bool := s.jobs.any (fun j => j.op ≠ 0x14 && j.left.contains c)

/-- An acquisition of the channel is waiting or running on a port. -/
def State.inAcq (s : State) (c : Nat) : Bool := (List.range 18).any (fun p => (s.port p).acqs.any (fun a => a.chan == c))

/-- Complete the jobs that wait for no channel any more (R119, R123, R135). -/
def State.finishJobs (s : State) : State :=
  let fin := s.jobs.filter (fun j => j.left.isEmpty)
  let s1 := { s with jobs := s.jobs.filter (fun j => !j.left.isEmpty) }
  fin.foldl (fun u j => u.complete j.host j.op j.tag j.reply (if j.fenced then stFenced else if j.bad then stBadParam else stOk) [] false) s1

/-! ### The table (R97, R116, R117) -/

/-- Pinned entries (R116). -/
def State.pins16 (s : State) : Nat := (s.chans.filter (fun p => p.2.pinned.isSome)).length

/-- A write to the descriptor of `c` would be refused: FENCED, locked, or a seventeenth pin (R117). -/
def State.tableRefused (s : State) (c : Nat) : Bool :=
  (s.chan c).state == 4 || s.locked c || (s.running c && (s.chan c).pinned.isNone && decide (16 ≤ s.pins16))

/-- Before a write: pin the applied descriptor of a RUNNING or DEGRADED channel; the channel and its check unit become dirty (R116, R558, R602). -/
def State.touchDesc (s : State) (c : Nat) : State :=
  let x := s.chan c
  let pin := if s.running c && x.pinned.isNone then some (s.rdWords (0x20000000 + 64 * c) 16) else x.pinned
  (s.setChan c { x with pinned := pin, dirty := true }).modUnit c (fun u => { u with dirty := true })

/-- Store bytes at an address of the Channel Table; `none` when the write is refused (R97, R117). W15 bits 31:16 are left alone. -/
def State.tableStore (s : State) (a : Nat) (bytes : List Byte) : Option State :=
  let c := (a - 0x20000000) / 64
  if 192 ≤ c || s.tableRefused c then none
  else
    let s1 := s.touchDesc c
    some (((List.range bytes.length).zip bytes).foldl (fun u p => if 62 ≤ (a + p.1) % 64 then u else u.wrByte (a + p.1) p.2) s1)

/-- The CRC of R63 over W0–W14. -/
def descCrc (d : Desc) : Nat := (crc16 (wordsBytes ((List.range 15).map d))).toNat

/-- Increment GEN of a channel (R115). -/
def State.incGen (s : State) (c : Nat) : State :=
  let a := 0x20000000 + 64 * c + 60
  s.wrWord a (setBits (s.rdWord a) 31 16 (bits (s.rdWord a) 31 16 + 1))

/-! ### The descriptor check (R99 to R111, R119) -/

/-- A script slot's words (R154). -/
def State.slot (s : State) (k : Nat) : List Word := s.rdWords (0x20010000 + 16 * k) 4

/-- Is the port in the target role, by its buffered or its applied SSPn_CFG? -/
def targetRole (cfg : Word) : Bool := bitAt cfg 30

/-- The reserved bits of each word that are not 0 (R99, R103, R105, R106). -/
def Desc.reservedSet (d : Desc) : Bool :=
  let u := d.unit
  let low := bits (d 1) 15 0
  bits (d 0) 14 0 ≠ 0 || bits (d 2) 31 28 ≠ 0 || bits (d 2) 15 14 ≠ 0 || bits (d 4) 29 24 ≠ 0 || bits (d 5) 29 24 ≠ 0 ||
  bits (d 6) 31 16 ≠ 0 || bits (d 10) 31 6 ≠ 0 || bits (d 12) 31 24 ≠ 0 || bits (d 12) 22 21 ≠ 0 || bits (d 13) 29 23 ≠ 0 ||
  bits (d 13) 19 16 ≠ 0 || d 14 ≠ 0 ||
  (d.acq == 2 && bits (d 3) 29 6 ≠ 0) ||
  (match d.class with
    | 1 => bits (d 7) 31 4 ≠ 0
    | 3 => d 7 ≠ 0
    | _ => bits (d 7) 14 13 ≠ 0 || bits (d 7) 3 0 ≠ 0) ||
  (if d.kind < 12 then 4 ≤ u
   else if d.kind < 18 then 256 ≤ u
   else if d.kind = 18 then 16 ≤ u || low ≠ 0
   else if d.kind = 19 then 8 ≤ u || low ≠ 0
   else if d.kind = 20 then u / 32 % 8 ≠ 0 || 1024 ≤ u || low ≠ 0
   else if d.kind = 21 then u ≠ 0 || 8192 ≤ low
   else if d.kind = 22 then u / 8 % 2 ≠ 0 || 256 ≤ u || low ≠ 0
   else false)

/-- R109: the class, source and mode may stand together. -/
def Desc.combinationOk (d : Desc) : Bool :=
  let serial := decide (d.kind < 18)
  match d.class with
  | 0 => serial || d.kind == 20 || (d.kind == 21 && d.acq == 1)
  | 1 => serial || ((d.kind == 18 || d.kind == 19 || d.kind == 21) && d.acq == 1)
  | 2 => serial || d.kind == 20 || ((d.kind == 18 || d.kind == 21) && d.acq == 1)
  | _ => d.kind == 22 && d.acq == 1

/-- Instances and components of a service (R266). -/
def serviceShape (code : Nat) : Nat × Nat :=
  match code with
  | 0 => (8, 4) | 1 => (1, 4) | 2 => (16, 3) | 3 => (1, 4) | 4 => (1, 4) | 5 => (1, 4) | _ => (0, 0)

/-- A field out of range or an invalid code (R99 to R107, R110, R194, R267). -/
def Desc.rangeBad (d : Desc) : Bool :=
  let w2 := d 2
  decide (22 < d.kind) || d.failAction == 3 || (d.failAction == 2 && d.fenceAfter == 0) ||
  (if d.kind < 18 then d.cwidth == 0 || decide (8 < bits w2 13 10) else w2 ≠ 0) ||
  ((d.class == 1 || d.class == 3) && (d 8 ≠ 0 || d 9 ≠ 0)) ||
  (d.kind == 20 && (bits d.unit 9 8 == 3 || decide (2 < d.ncomp))) ||
  (d.isAfe && (d.ncomp ≠ 1 || d 3 ≠ 0)) ||
  (d.kind == 21 && decide (6143 < bits (d 1) 12 0)) ||
  (d.kind == 22 &&
    (let (code, k) := d.service
     decide ((serviceShape code).1 ≤ k) || decide ((serviceShape code).2 < d.ncomp) || d 3 ≠ 0 ||
     ([1, 3, 4, 5].contains code && (d 5 ≠ 0xC0000000#32 || d 6 ≠ 0 || d 11 ≠ 0)))) ||
  (match d.acq with
    | 0 => decide ((d 3).toNat < 20) || decide (4000000000 < (d 3).toNat)
    | 2 => bits (d 3) 31 30 == 3 || (bits (d 3) 31 30 == 2 && bits (d 3) 5 0 ≠ 0)
    | 3 => d 3 ≠ 0
    | _ => false) ||
  decide (4 < bits (d 13) 22 20)

/-- R107: the tier list is broken: a byte after the one that ends the list is not 0, DIV rises, or a channel that is not POLLED lists a DIV other than 1. -/
def Desc.tiersBad (d : Desc) : Bool :=
  let all := (List.range 4).map (fun k => bits (d 11) (8 * k + 7) (8 * k))
  let n := d.tiers.length
  (all.drop (n + 1)).any (fun b => decide (b ≠ 0)) ||
  (List.range (n - 1)).any (fun k => decide ((d.tiers.getD k (0, 0)).2 < (d.tiers.getD (k + 1) (0, 0)).2)) ||
  (d.acq ≠ 0 && d.tiers.any (fun p => p.2 ≠ 1))

/-- Two descriptors that may not both be enabled: one AIN or PDM input, one target-mode select line, one service instance (R111, R267). -/
def State.sameSource (s : State) (d e : Desc) : Bool :=
  d.enable && e.enable && d.kind == e.kind &&
  (if d.kind < 12 then targetRole (s.reg .sspCfg d.kind) && d.unit % 4 == e.unit % 4
   else if d.kind = 18 then d.unit % 16 == e.unit % 16
   else if d.kind = 19 then d.unit % 8 == e.unit % 8
   else if d.kind = 22 then d.service == e.service
   else false)

/-- A CHAN_COMMIT of channel `c` is in progress: its table descriptor is committed (R119). -/
def State.committing (s : State) (c : Nat) : Bool := s.jobs.any (fun j => j.op == 0x12 && j.left.contains c)

/-- The source is taken by another channel whose applied or committed descriptor has ENABLE set (R111). Of a channel that does not run the table is the applied
descriptor (R602); of one that runs, the table counts once a CHAN_COMMIT names it: an earlier one, or, with the channels `named`, the one that is checked. -/
def State.sourceBusy (s : State) (c : Nat) (named : List Nat) : Bool :=
  let d := s.tdesc c
  d.enable && (List.range 192).any (fun o => o ≠ c &&
    (s.sameSource d (s.ad o) || ((s.committing o || named.contains o) && s.sameSource d (s.tdesc o))))

/-- R110, R150: a script or read-length rule is broken. -/
def State.scriptBad (s : State) (d : Desc) : Bool :=
  let n := bits (d 2) 13 10
  let i := bits (d 2) 9 0
  if 18 ≤ d.kind then false
  else if d.kind < 12 && targetRole (s.reg .sspCfg d.kind) then decide (n ≠ 0 || i ≠ 0)
  else
    let len := if n = 0 then d.ncomp * d.cwidth else ((List.range n).map (fun k => bits ((s.slot (i + k)).getD 0 0) 6 0)).sum
    decide (1024 < i + n) || decide (len < bits (d 2) 23 16 + d.ncomp * d.cwidth)

/-- R110, R151: an LBIND, trigger, OFFSET_US or role rule is broken. -/
def State.bindingBad (s : State) (d : Desc) : Bool :=
  (d.lbind ≠ (d.acq == 3)) || (d.acq == 2 && bits (d 3) 31 30 == 2 && d.kind ≠ 20) ||
  (d.acq == 0 && decide ((d 3).toNat ≤ d.offsetUs)) ||
  (d.kind < 12 && targetRole (s.reg .sspCfg d.kind) ≠ (d.acq == 1))

/-- R110: a REMOTE source rule is broken. -/
def State.remoteBad (s : State) (d : Desc) : Bool :=
  d.kind == 21 && (s.slt.role.role == 0 || bits (d 1) 12 0 / 192 == s.slt.role.index)

/-- LAST_CHECK for the table descriptor of `c` (R119, R134): the lowest code that applies (DEDUCED, log 42). An invalid KIND stands in no row of R109, and is judged as the
invalid code that it is: RANGE, not COMBINATION (DESIGN CHOICE, log 42). `named` are the channels that the CHAN_COMMIT being checked names. -/
def State.checkDesc (s : State) (c : Nat) (named : List Nat) : Nat :=
  let d := s.tdesc c
  firstStatus [
    (decide (descCrc d ≠ bits (d 15) 15 0), 1),
    (d.reservedSet, 2),
    (d.enable && decide (d.kind ≤ 22) && !d.combinationOk, 3),
    (d.enable && d.rangeBad, 4),
    (d.enable && d.tiersBad, 5),
    (s.sourceBusy c named, 6),
    (d.enable && s.scriptBad d, 7),
    (d.enable && s.bindingBad d, 8),
    (d.enable && s.remoteBad d, 9)]

/-! ### Applications and boundaries (R112, R113, R119 to R126) -/

/-- The tier a channel takes when it starts or its W11 changes (R122, R126, R465): TIER0 or OFF in ENFORCE, the highest listed otherwise. -/
def State.startTier (s : State) (c : Nat) (off : Bool) : Nat × Bool :=
  if s.plnModeInForce = 2 then (0, off) else ((s.tdesc c).tiers.length - 1, false)

/-- Do W0 bits 30:25, W1, W2, W3, W5, W6 or W7 differ (R113)? -/
def restartWords (d e : Desc) : Bool :=
  bits (d 0) 30 25 ≠ bits (e 0) 30 25 || [1, 2, 3, 5, 6, 7].any (fun k => d k ≠ e k)

/-- Only W5, W6 and W7 differ among them: the DC estimate is kept (R210). -/
def keepEstimate (d e : Desc) : Bool :=
  bits (d 0) 30 25 == bits (e 0) 30 25 && [1, 2, 3].all (fun k => d k == e k)

/-- A hub's source is in good standing: in the view, and neither DIVERGENT nor STALE (R416). -/
def State.standing (s : State) (i : Nat) : Bool := bitAt s.slt.members i && !bitAt s.slt.divergent i && !bitAt s.slt.staleSet i

/-- The hub that originates a REMOTE channel's samples. -/
def State.remoteHub (s : State) (c : Nat) : Nat := bits (s.desc c 1) 12 0 / 192

/-- A REMOTE channel starts, restarts or stops: its run of failed periods and the mean of its intervals begin anew (R416). -/
def State.freshRemote (s : State) (c : Nat) : State :=
  s.setRemote c (if (s.ad c).kind = 21 then { Remote.reset with sourceOk := s.standing (s.remoteHub c) } else Remote.reset)

/-- A channel becomes OFF (R126): Tower state discarded, pool words released. -/
def State.chanOff (s : State) (c : Nat) : State :=
  ((((s.twrDiscard c).poolRelease c).setRemote c Remote.reset)).modChan c (fun x => { x with state := 0, tierOff := false, tierNext := none, restartOwed := false, stepGap := false, suspended := false })

/-- The pre-stage of a new AIN or PDM source starts with the next bit (R194, R214). -/
def State.freshPre (s : State) (old new : Desc) (st : Nat) : State :=
  if new.enable && new.isAfe && (st = 0 || old 1 ≠ new 1) then s.clearPre new.preStage (s.pre new.preStage).blank (s.pre new.preStage).noRestart else s

/-- The plan holds the channel at OFF (R122): the change that waits for the boundary says so, or, with none, the tier in use. -/
def Chan.planOff (x : Chan) : Bool := match x.tierNext with
  | some (_, off) => off
  | none => x.tierOff

/-- Apply the table descriptor of `c` (R119 step 5); `start` is CHAN_START's application, which starts a STOPPED channel as well. A channel that starts has no pin edge behind it
(R103), and neither has one whose source changes. -/
def State.applyTable (s : State) (c : Nat) (start off : Bool) : State :=
  let old := (List.range 16).map (s.ad c)
  let oldD : Desc := fun k => old.getD k 0
  let st := (s.chan c).state
  let new := s.tdesc c
  let (t, o) := s.startTier c off
  let x := s.chan c
  let held := s.plnModeInForce = 2 && new.tierOffOk && x.planOff
  let tierMoves := oldD 11 ≠ new 11 &&
    (oldD.presetAt x.tier ≠ new.presetAt t || oldD.divAt x.tier ≠ new.divAt t || x.tierOff ≠ held)
  if st = 4 then s
  else
    let s1 := if restartWords oldD new || !new.enable || tierMoves then (s.leaveAll c).modTwrCh c (fun u => { u with cmps := [] }) else s
    let s2 := ((s1.freshPre oldD new st).incGen c).modChan c (fun y => 
      { y with pinned := none, dirty := false, overdue := false, edge := if oldD 1 = new 1 then y.edge else none })
    if !new.enable then s2.chanOff c
    else
      let s3 := s2.poolReserve c new
      if st = 0 || (st = 1 && start) then
        ((s3.modChan c (fun y => { y with state := 2, tier := t, tierOff := o, tierNext := none, goodRun := 0, edges := 0, edge := none,
                                          restartOwed := false, stepGap := false, suspended := s.onHold })).restartChan c false).freshRemote c |>.setAlpha c
      else if st = 1 then s3
      else
        let s4 := (if oldD 11 ≠ new 11 then s3.modChan c (fun y => { y with tier := t, tierOff := held, tierNext := none }) else s3).setAlpha c
        if restartWords oldD new then (s4.restartChan c (keepEstimate oldD new)).freshRemote c
        else if tierMoves then s4.restartChan c true
        else s4

/-- Restart one channel's open TREND periods (R281): PARTIAL. -/
def State.trendRestart (s : State) (c : Nat) : State :=
  let f := fun (p : TrendPeriod) => { TrendPeriod.reset with ended := p.ended }
  (s.modTrend (2 * c) f).modTrend (2 * c + 1) f

/-- A channel that stops an ORIENT instance: OFF, or with fewer than 3 components (R277). -/
def State.orientBad (s : State) (c : Nat) : Bool := (s.chan c).state = 0 || decide ((s.ad c).ncomp < 3)

/-- The channels that an ORIENT instance's applied block names (R275). -/
def State.orientNames (s : State) (k : Nat) : List Nat :=
  let w := s.svcWord k 0
  [bits w 15 8, bits w 7 0] ++ (if bitAt w 30 then [bits w 23 16] else [])

/-- Enabled ORIENT instances that name a channel which stops them have ERROR INPUT (R277, R295). -/
def State.orientInputs (s : State) : State :=
  (List.range 8).foldl (fun u k => if bitAt (u.svcWord k 0) 31 && (u.orientNames k).any u.orientBad then u.modSvcInst k (fun x => { x with error := 1 }) else u) s

/-- An application of the table descriptor and what the services see of it: a channel that TREND is to keep from now on opens its periods late (R281), and one that ORIENT cannot use stops
its instance (R277). -/
def State.applyDesc (s : State) (c : Nat) (start off : Bool) : State :=
  let kept := (s.chan c).state ≠ 0 && bitAt (s.ad c 13) 31
  let u := s.applyTable c start off
  (if !kept && (u.chan c).state ≠ 0 && bitAt (u.ad c 13) 31 then u.trendRestart c else u).orientInputs

/-- The pre-stage that channel `c` names, where it is an AIN or PDM channel. -/
def State.afeOf (s : State) (c : Nat) : Option Nat := if (s.ad c).isAfe then some (s.ad c).preStage else none

/-- An AIN or PDM channel's configuration applies at its boundary (R195); `done` says that the channel has restarted at it (R197). -/
def State.boundaryAfe (s : State) (c : Nat) (input : Option Nat) (done : Bool) : State :=
  match input with
  | none => s
  | some i => s.applyAfe i (if done && s.running c then some c else none)

/-- The stop of R126: STOPPED, Tower state discarded, the pin released; its boundary is then at once, so that a configuration of its input that waited applies (R112, R195). -/
def State.stopChan (s : State) (c : Nat) : State :=
  if s.running c then
    let i := s.afeOf c
    (((s.twrDiscard c).setRemote c Remote.reset).modChan c (fun x => { x with state := 1, pinned := none, tierNext := none, restartOwed := false, stepGap := false, suspended := false })).boundaryAfe c i false
  else s

/-- A rail of PD2, PD6 or PD7 is still rising (R31). -/
def State.railRising (s : State) : Bool := [2, 6, 7].any (fun d => match (s.dom d).slew with
  | some r => decide ((s.dom d).rail < r)
  | none => false)

/-- A tier change due at the boundary (R112, R122, R225). While a rail still rises for a raising plan, each of the plan's tier changes waits (R31). -/
def State.applyTier (s : State) (c : Nat) : State :=
  match (s.chan c).tierNext with
  | none => s
  | some (t, off) =>
    if s.railRising then s
    else ((s.modChan c (fun x => { x with tier := if off then x.tier else t, tierOff := off, tierNext := none, overdue := false })).setAlpha c).restartChan c true

/-- Words of the state pool that channels need beyond what is free (R226, R227). -/
def State.poolTooFull (s : State) (l : List Nat) : Bool :=
  let l1 := l.filter (fun c => (s.tdesc c).enable)
  decide (s.poolFree < (l1.map (fun c => (s.tdesc c).poolWords - s.poolHeld c)).sum)

/-- LAST_CHECK of a channel that a CHAN_COMMIT, or with `start` a CHAN_START, names (R119, R126, R134, R227): `named` are the channels of the commit, and `full` says that the
state pool is too small for what is asked. -/
def State.checkCode (s : State) (c : Nat) (named : List Nat) (start full : Bool) : Nat :=
  let r := s.checkDesc c named
  if r ≠ 0 then r
  else if (s.tdesc c).enable then (if full then 4 else 0)
  else if start then 0x0A else 0

/-- A restart by CHAN_START on the applied descriptor (R126); in ENFORCE at the tier at which R465 admits the channel. -/
def State.restartJob (s : State) (c : Nat) (off : Bool) : State :=
  let enforce := s.plnModeInForce = 2
  (s.modChan c (fun x =>
    { x with state := 2, failRun := 0, goodRun := 0, overdue := false,
             tier := if enforce then 0 else x.tier, tierOff := if enforce then off else x.tierOff,
             tierNext := if enforce then none else x.tierNext })).restartChan c false |>.freshRemote c

/-- One command that waited for channel `c` takes effect. A CHAN_START finds its channel running, or starts it; a channel that ran when the command was accepted, and was stopped
since, is checked now, and does not start when it fails: the completion is then BAD_PARAM (R126, R602; DESIGN CHOICE, log 67). -/
def State.applyJob (s : State) (c : Nat) (j : ChanJob) : State :=
  let isJ := fun (k : ChanJob) => k.op = j.op && k.host = j.host && k.tag = j.tag
  let s1 := { s with jobs := s.jobs.map (fun k => if isJ k then { k with left := k.left.filter (· ≠ c) } else k) }
  let off := (s.chan c).tierNext == some (0, true)
  if j.op = 0x12 then s1.applyDesc c false off
  else if s.running c then s1.restartJob c off
  else if !j.unchecked.contains c then s1.applyDesc c true off
  else
    let full := s1.poolTooFull [c]
    let code := s1.checkCode c [] true full
    let s2 := s1.modChan c (fun x => { x with lastCheck := code })
    if code = 0 then s2.applyDesc c true off
    else
      let s3 := if full && s1.checkDesc c [] = 0 && (s1.tdesc c).enable then s2.evt .twrEvt 0 2 else s2
      { s3 with jobs := s3.jobs.map (fun k => if isJ k then { k with bad := true } else k) }

/-- The commands that wait for channel `c` take effect at its boundary (R119, R124, R126). -/
def State.applyJobs (s : State) (c : Nat) : State :=
  (s.jobs.filter (fun j => j.left.contains c && j.op ≠ 0x14)).foldl (fun u j => u.applyJob c j) s

/-- What the channel has acquired is still to be delivered: an acquisition in progress, or an input in the entry FIFO. -/
def State.undelivered (s : State) (c : Nat) : Bool := s.inAcq c || s.inEntry c

/-- The stops that wait for the channel's acquisition to end and to be delivered (R18, R126). -/
def State.applyStops (s : State) (c : Nat) : State :=
  if s.undelivered c then s
  else if s.stopWaits c then
    let s1 := s.stopChan c
    let s2 := { s1 with jobs := s1.jobs.map (fun (k : ChanJob) => if k.op = 0x14 then { k with left := k.left.filter (· ≠ c) } else k) }
    (s2.applyJobs c).finishJobs
  else s

/-- A POLLED channel's command comes at its next grid instant (R108) where one lies before the next tick. -/
def State.toGrid (s : State) (c : Nat) : State :=
  let d := s.ad c
  if d.acq ≠ 0 || !s.tbSet d.tb then s
  else
    let p : Int := s.period c * 1000 * 2 ^ 32
    let o : Int := d.offsetUs * 1000 * 2 ^ 32
    let r := (s.tbFine d.tb - o) % p
    if p = 0 || r = 0 then s else (s.toTb d.tb (s.tbFine d.tb + (p - r))).getD s

/-- Is this instant one of the channel's grid, to 1/32 ns? A channel that is not POLLED has none to keep. -/
def State.onGrid (s : State) (c : Nat) : Bool :=
  let d := s.ad c
  let p : Int := s.period c * 1000 * 2 ^ 32
  d.acq ≠ 0 || (s.tbSet d.tb && p ≠ 0 && decide ((s.tbFine d.tb - d.offsetUs * 1000 * 2 ^ 32) % p < 2 ^ 27))

/-- The state as it would be with channel `c`'s commands and tier change applied, as far as loads go: its descriptor, its state and its tier. -/
def State.asApplied (s : State) (c : Nat) : State :=
  let op := (s.jobs.find? (fun j => j.left.contains c && j.op ≠ 0x14)).map (·.op)
  let d := s.tdesc c
  let x := s.chan c
  let words := some ((List.range 16).map d)
  let top := { x with tier := d.tiers.length - 1, tierOff := false, tierNext := none }
  match op with
  | none => s.modChan c (fun y => { y with tier := (s.tierToBe c).toNat, tierOff := decide (s.tierToBe c < 0), tierNext := none })
  | some 0x12 =>
    if !d.enable then s.modChan c (fun y => { y with state := 0 })
    else if x.state = 1 then s
    else s.setChan c { top with state := 2, pinned := words }
  | some _ => if s.running c then s else s.setChan c { top with state := 2, pinned := words }

/-- R461 in OFF and ADVISE: a raise of a rail is made before the change that it serves. The Bool says that the rails carry what falls due at the channel's boundary; if not, they
slew, and the change waits for the first boundary after that (R30, R31). -/
def State.loadAhead (s : State) (c : Nat) : State × Bool :=
  if s.plnModeInForce = 2 || !(s.locked c || (s.chan c).tierNext.isSome) then (s, true)
  else
    let t := s.asApplied c
    let r := t.chooseRails t.setInUse
    (s.slewRails r true, !s.railsShort r)

/-- The channel's boundary: applications first, then a tier change, then a restart owed by a step of its timebase, then the configuration of its analogue or PDM
input (R112, R122, R195, R197, R601). -/
def State.boundary (s : State) (c : Nat) : State :=
  let s0 := s.loadAhead c
  let s1 := if s0.2 then (s0.1.applyJobs c).applyTier c else s0.1
  let s2 := if (s1.chan c).restartOwed && s1.running c then
      (s1.modChan c (fun x => { x with restartOwed := false, gapOwed := x.gapOwed || x.stepGap, stepGap := false })).restartChan c true
    else s1
  (s2.boundaryAfe c (s.afeOf c) ((s2.twrCh c).restarts ≠ (s.twrCh c).restarts)).finishJobs

/-- The channel waits for the completion of a Tower output: its source is an AIN or PDM input, which is enabled, and it is not at tier OFF; or it has an input in the entry FIFO.
Any other forms no output, and its boundary is at once (DESIGN CHOICE, log 69). -/
def State.afeBound (s : State) (c : Nat) : Bool :=
  (s.ad c).isAfe && ((!(s.chan c).tierOff && bitAt (s.afeCfg (s.ad c).preStage) 31) || s.inEntry c)

/-- Is the boundary of `c` at once (R112)? -/
def State.atOnce (s : State) (c : Nat) : Bool :=
  let d := s.ad c
  if !s.running c then true
  else match d.acq with
    | 0 => !s.tbSet d.tb
    | 3 => (s.launch d.ln).state ≠ 2
    | _ => !s.afeBound c && !s.inEntry c

/-- Does something fall due at the channel's next boundary? -/
def State.isDue (s : State) (c : Nat) : Bool :=
  s.locked c || (s.chan c).tierNext.isSome || (s.chan c).restartOwed || ((s.afeOf c).map s.afePending).getD false

/-- Take every boundary that is at once (R112). -/
def State.settle (s : State) : State :=
  ((List.range 192).filter (fun c => s.isDue c)).foldl (fun u c => if u.atOnce c then u.boundary c else u) s

/-- A STREAMED channel of a source other than AIN or PDM, or a TRIGGERED one (R112). -/
def State.fifoBound (s : State) (c : Nat) : Bool := (s.ad c).acq == 2 || ((s.ad c).acq == 1 && !(s.ad c).isAfe)

/-- Is the channel at its boundary (R112)? A LAUNCHED channel's is at the firing, and an AIN or PDM channel's at the end of the unit that completes an output, which those commands
take; a POLLED channel's is a grid instant; a STREAMED or TRIGGERED channel with inputs in the entry FIFO has it only after the 10 ms. -/
def State.atBoundary (s : State) (c : Nat) : Bool := s.atOnce c || (s.fifoBound c && (s.chan c).overdue)

/-- DESCRIPTOR_APPLY: the channel reaches its boundary. -/
def execDescriptorApply (chan : Nat) (s : State) : Host.Outcome State Fault Refusal :=
  act (onlyIf (chan < 192 && s.isDue chan) (fun u =>
    let v := if (u.ad chan).acq = 0 && u.running chan then u.toGrid chan else u
    if v.atBoundary chan || ((v.ad chan).acq == 0 && v.onGrid chan) then v.boundary chan else u)) s

/-- STREAMED_BOUNDARY_TIMEOUT (R112): 10 ms without a boundary; the engine holds no unit between two commands, so the boundary is at once. -/
def execStreamedBoundaryTimeout (chan : Nat) (s : State) : Host.Outcome State Fault Refusal :=
  act (onlyIf (chan < 192 && s.isDue chan && s.fifoBound chan)
    (fun u => (u.modChan chan (fun x => { x with overdue := true })).boundary chan)) s

/-! ### Fence and unfence (R123, R126) -/

/-- Fence a channel: pin and lock released, its waiting acquisitions dropped, the commands that named it go on without it. -/
def State.fenceChan (s : State) (c cause : Nat) : State :=
  if (s.chan c).state = 4 then s
  else
    let s1 := s.modChan c (fun x => { x with state := 4, wasOff := x.state == 0, pinned := none, tierNext := none, restartOwed := false, stepGap := false, suspended := false })
    let s2 := { s1 with
      jobs := s1.jobs.map (fun (j : ChanJob) => if j.left.contains c then { j with left := j.left.filter (· ≠ c), fenced := j.fenced || j.op ≠ 0x14 } else j),
      ports := Tab.mapVals (fun _ => Port.reset) s1.ports (fun p => { p with acqs := p.acqs.filter (fun a => a.chan ≠ c || a.phase ≠ 0) }) }
    ((s2.fenceMark 1 c cause).raise 225 false).finishJobs

/-- UNFENCE of a channel (R126). -/
def State.unfenceChan (s : State) (c : Nat) : State :=
  let s1 := (s.modChan c (fun x => { x with state := if x.wasOff then 0 else 1, wasOff := false, failRun := 0, goodRun := 0 })).unfenceMark 1 c
  if (s.chan c).wasOff then (s1.twrDiscard c).poolRelease c else s1

/-! ### Failed and good acquisitions (R126 to R130) -/

/-- A failed acquisition of a channel that is not fenced (R128 to R130): the last good sample again, with the acquisition's stamp and source index (R205), then DEGRADED or
the fence. -/
def State.failAcq (s : State) (c : Nat) (st : Stamp) (g : Option Int) : State :=
  if !s.running c then s
  else
    let x := s.chan c
    let d := s.ad c
    let vals := if x.lastComps.isEmpty then List.replicate d.ncomp 0 else x.lastComps
    let s1 := s.accept { chan := c, comps := vals, gap := false, stale := true, degraded := true, sat := false, late := false, stamp := st, g := g }
    let run := min 255 (x.failRun + 1)
    let s2 := s1.modChan c (fun y => { y with failed := (y.failed + 1) % 2 ^ 32, failRun := run, goodRun := 0, state := if d.failAction = 1 then y.state else 3 })
    let s3 := if d.failAction = 1 then s2 else (if x.state = 3 then s2 else (s2.logEnd 1 c 0x10).raise 225 false).logErr 1 c 0x10
    if d.failAction = 1 || (d.failAction = 2 && decide (d.fenceAfter ≤ run)) then s3.fenceChan c 0x81 else s3

/-- A good acquisition of a running channel (R126): FAIL_RUN clears, and the fourth in a row ends DEGRADED. -/
def State.goodMark (s : State) (c : Nat) (comps : List Int) (last : Nat) : State :=
  let y := s.chan c
  let deg := y.state == 3
  let back := deg && decide (4 ≤ y.goodRun + 1)
  if !s.running c then s
  else
    let s1 := s.setChan c { y with failRun := 0, goodRun := if deg && !back then y.goodRun + 1 else 0, lastComps := comps,
                                   lastGood := last % 2 ^ 32, state := if back then 2 else y.state }
    if back then s1.logEnd 1 c 0x10 else s1

/-- A good sample of a channel (R19, R126, R128): it enters the entry FIFO. -/
def State.goodAcq (s : State) (x : Sample) (last : Nat) : State :=
  if !s.running x.chan then s
  else (s.goodMark x.chan x.comps last).accept { x with degraded := x.degraded || (s.chan x.chan).state == 3 }

/-! ### Channel opcodes (R131 to R135) -/

/-- The channels a mask names (R131). -/
def maskChans (c : Call) : List Nat := (List.range 192).filter (fun n => bitAt (c.word (n / 32)) (n % 32))

/-- CHAN_READ. -/
def opChanRead : OpDef where
  code := 0x10
  priv := 0
  async := false
  lenOk := fun n _ => n == 2
  valid := fun _ c => c.fld 0 31 9 == 0 && c.fld 0 7 0 < 192 && c.fld 1 31 9 == 0 && 1 ≤ c.fld 1 8 4 && c.fld 1 8 4 ≤ 16 && c.fld 1 3 0 + c.fld 1 8 4 ≤ 16
  allow := fun _ _ => 0
  run := fun s c =>
    let d := if bitAt (c.word 0) 8 then s.ad (c.fld 0 7 0) else s.tdesc (c.fld 0 7 0)
    (s, 0, (List.range (c.fld 1 8 4)).map (fun k => d (c.fld 1 3 0 + k)))

/-- CHAN_WRITE. -/
def opChanWrite : OpDef where
  code := 0x11
  priv := 1
  async := false
  lenOk := fun n c => 3 ≤ n && n ≤ 18 && n == c.fld 1 8 4 + 2
  valid := fun _ c => c.fld 0 31 9 == 0 && c.fld 0 7 0 < 192 && c.fld 1 31 9 == 0 && 1 ≤ c.fld 1 8 4 && c.fld 1 8 4 ≤ 16 && c.fld 1 3 0 + c.fld 1 8 4 ≤ 16
  allow := fun s c => if (s.chan (c.fld 0 7 0)).state ≠ 4 && s.tableRefused (c.fld 0 7 0) then stBusy else 0
  run := fun s c =>
    let n := c.fld 0 7 0
    let a := 0x20000000 + 64 * n
    if (s.chan n).state = 4 then (s, stFenced, [])
    else if s.tableRefused n then (s, stBusy, [])
    else
      let s1 := (List.range (c.fld 1 8 4)).foldl (fun u k =>
        let i := c.fld 1 3 0 + k
        let w := c.word (2 + k)
        u.wrWord (a + 4 * i) (if i = 15 then setBits w 31 16 (bits (u.rdWord (a + 60)) 31 16) else w)) (s.touchDesc n)
      (if bitAt (c.word 0) 8 then s1.wrWord (a + 60) (setBits (s1.rdWord (a + 60)) 15 0 (descCrc (s1.tdesc n))) else s1, 0, [])

/-- CHAN_COMMIT and CHAN_START up to ACCEPTED (R119 steps 1 to 4, R135, R465): `start` is CHAN_START. -/
def State.commitChans (s : State) (c : Call) (op : Nat) (start : Bool) : State × Nat × List Word :=
  let l := maskChans c
  if l.any (fun n => (s.chan n).state == 4) then (s, stFenced, [])
  else if l.any (fun n => s.locked n) then (s, stBusy, [])
  else
    let chk := if start then l.filter (fun n => !s.running n) else l
    let full := s.poolTooFull chk
    let named := if start then chk else l
    let code := fun n => s.checkCode n named start full
    let s1 := chk.foldl (fun u n => u.modChan n (fun x => { x with lastCheck := code n })) s
    if chk.any (fun n => code n ≠ 0) then
      (if full && chk.any (fun n => s.checkDesc n named == 0 && (s.tdesc n).enable) then s1.evt .twrEvt 0 2 else s1, stBadParam, [])
    else
      let admitted := if start then l else l.filter (fun n => (s.tdesc n).enable && (s.chan n).state == 0)
      let adm := fun n => s.admission n (if s.running n then s.ad n else s.tdesc n)
      if admitted.any (fun n => adm n == 0) then (s1.evt .plnEvt 0 5, stNoBudget, [])
      else
        let s2 := admitted.foldl (fun u n => if adm n = 2 then u.modChan n (fun x => { x with tierNext := some (0, true) })
          else if s.running n && s.plnModeInForce = 2 then u.modChan n (fun x => { x with tierNext := none }) else u) s1
        ({ s2 with jobs := s2.jobs ++ [⟨c.host, op, c.tag, c.reply, l, false, l.filter (fun n => start && s.running n), false⟩] }, stAccepted, [])

/-- CHAN_COMMIT and CHAN_START name a locked descriptor, and no FENCED channel (R119, R135). -/
def State.lockedMask (s : State) (c : Call) : Nat :=
  if (maskChans c).all (fun n => (s.chan n).state ≠ 4) && (maskChans c).any (fun n => s.locked n) then stBusy else 0

/-- CHAN_COMMIT. -/
def opChanCommit : OpDef where
  code := 0x12
  priv := 1
  async := true
  lenOk := fun n _ => n == 6
  valid := fun _ c => !(maskChans c).isEmpty
  allow := fun s c => s.lockedMask c
  run := fun s c => s.commitChans c 0x12 false

/-- CHAN_START. -/
def opChanStart : OpDef where
  code := 0x13
  priv := 1
  async := true
  lenOk := fun n _ => n == 6
  valid := fun _ c => !(maskChans c).isEmpty
  allow := fun s c => s.lockedMask c
  run := fun s c => s.commitChans c 0x13 true

/-- CHAN_STOP (R126, R135): channels with nothing acquired that is still to be delivered stop at once. -/
def opChanStop : OpDef where
  code := 0x14
  priv := 1
  async := true
  lenOk := fun n _ => n == 6
  valid := fun _ c => !(maskChans c).isEmpty
  allow := fun _ _ => 0
  run := fun s c =>
    let l := maskChans c
    if l.any (fun n => (s.chan n).state == 4) then (s, stFenced, [])
    else
      let wait := l.filter (fun n => s.running n && s.undelivered n)
      let s1 := (l.filter (fun n => !wait.contains n)).foldl (fun u n => u.stopChan n) s
      ({ s1 with jobs := s1.jobs ++ [⟨c.host, 0x14, c.tag, c.reply, wait, false, [], false⟩] }, stAccepted, [])

/-- CHAN_STATUS (R133). -/
def opChanStatus : OpDef where
  code := 0x15
  priv := 0
  async := false
  lenOk := fun n _ => n == 1
  valid := fun _ c => c.fld 0 31 8 == 0 && c.fld 0 7 0 < 192
  allow := fun _ _ => 0
  run := fun s c =>
    let n := c.fld 0 7 0
    let x := s.chan n
    (s, 0, [w32 (x.state * 2 ^ 29 + b2n x.pinned.isSome * 2 ^ 28 + b2n (s.locked n) * 2 ^ 27 + b2n x.dirty * 2 ^ 26 + x.tier * 2 ^ 24 +
        b2n x.tierOff * 2 ^ 23 + bits (s.rdWord (0x20000000 + 64 * n + 60)) 31 16),
      w32 (x.lastCheck * 2 ^ 24 + x.failRun * 2 ^ 16 + x.overflow), w32 x.failed, w32 x.lastGood])

end Sys2Proof.Machine
end

