-- ==== Sys2Proof/Machine/Ports.lean ====
section
/-! DEFINITION. The serial ports, the I3C ports and the poll sequencer (spec 05). -/

namespace Sys2Proof.Machine

/-! ### Port registers -/

/-- Is port `p` an SSP port? -/
def isSsp (p : Nat) : Bool := decide (p < 12)

/-- The applied configuration word of a port. -/
def State.portCfg (s : State) (p : Nat) : Word := if p < 12 then s.app .sspCfg p else s.app .i3cCfg (p - 12)

/-- Applied ENABLE of a port. -/
def State.portOn (s : State) (p : Nat) : Bool := bitAt (s.portCfg p) 31

/-- The port is in the target role. -/
def State.portTarget (s : State) (p : Nat) : Bool := isSsp p && bitAt (s.portCfg p) 30

/-- The port waits for its bus (R144): multi-master with the foreign select asserted or not free long enough, or bus initialisation. -/
def State.busWait (s : State) (p : Nat) : Bool :=
  let x := s.port p
  (isSsp p && bitAt (s.portCfg p) 29 && (x.foreign || !x.busFree)) || x.init

/-- Set an event bit of a port. -/
def State.portEvt (s : State) (p b : Nat) : State := if p < 12 then s.evt .sspEvt p b else s.evt .i3cEvt (p - 12) b

/-- Count a fault of a port in byte `k` of its counter register. -/
def State.portCnt (s : State) (p k : Nat) : State :=
  if p < 12 then s.countFault .sspCnt p (8 * k + 7) (8 * k) 1 else s.countFault .i3cCnt (p - 12) (8 * k + 7) (8 * k) 1

/-- End the open runs of one SOURCE and CODE that belong to one run number. -/
def State.logEndRun (s : State) (kind idx code run : Nat) : State :=
  { s with log := s.log.map (fun e : LogEntry =>
      if e.source == selOf kind idx && e.code == code && e.run == run then { e with isOpen := false } else e) }

/-! ### Script slots (R154 to R157) -/

/-- PORT of a slot. -/
def slotPort (w : List Word) : Nat := bits (w.getD 0 0) 31 27
/-- ADDR of a slot: the I3C address, or the select line in its low bits. -/
def slotAddr (w : List Word) : Nat := bits (w.getD 0 0) 26 20
/-- TYPE of a slot (R155). -/
def slotType (w : List Word) : Nat := bits (w.getD 0 0) 17 16
/-- NBYTES of a slot. -/
def slotNbytes (w : List Word) : Nat := bits (w.getD 0 0) 15 12
/-- RLEN of a slot. -/
def slotRlen (w : List Word) : Nat := bits (w.getD 0 0) 6 0
/-- RETRIES of a slot. -/
def slotRetries (w : List Word) : Nat := bits (w.getD 1 0) 18 16
/-- RETRY_GAP of a slot. -/
def slotGap (w : List Word) : Nat := bits (w.getD 1 0) 20 19
/-- POST_DELAY of a slot. -/
def slotPost (w : List Word) : Nat := bits (w.getD 1 0) 15 0

/-- Bytes that a transaction of the slot sends on port `p` (R155): an I3C READ sends none. -/
def slotSent (p : Nat) (w : List Word) : Nat := if !isSsp p && slotType w == 2 then 0 else slotNbytes w
/-- Bytes that a transaction of the slot reads (R155): a WRITE reads none. -/
def slotRead (w : List Word) : Nat := if slotType w = 1 then 0 else slotRlen w

/-- A slot obeys R154 to R156 on port `p`; `ddr` is DDR_EN. -/
def slotOk (p : Nat) (ddr : Bool) (w : List Word) : Bool :=
  let w0 := w.getD 0 0
  let w1 := w.getD 1 0
  let ncmd := bits w0 11 8
  let lanes := [bits w1 31 30, bits w1 29 28, bits w1 27 26]
  let common := slotPort w == p && !bitAt w0 7 && decide (slotNbytes w ≤ 8) && decide (slotRlen w ≤ 64) && decide (ncmd ≤ slotNbytes w)
  if p < 12 then
    common && bits w0 26 22 == 0 && !bitAt w0 19 && (decide (p < 4) || !lanes.contains 3) &&
      (match slotType w with
        | 0 => decide (1 ≤ slotNbytes w) && decide (1 ≤ slotRlen w)
        | 1 => slotRlen w == 0
        | 2 => slotNbytes w == 0 && ncmd == 0
        | _ => false)
  else
    common && lanes == [0, 0, 0] && ncmd == 0 && bits w1 25 22 == 0 &&
      (slotType w ≠ 3 || (ddr && slotNbytes w == 1 && !bitAt w0 19))

/-- The default transaction of a channel (R157). -/
def defaultSlot (d : Desc) : List Word :=
  let p := d.kind
  let reg := bits (d 1) 15 0
  let nb := if reg / 256 = 0 then 1 else 2
  let sel := if p < 12 then d.unit % 4 * 2 ^ 20 else d.unit % 128 * 2 ^ 20 + d.unit / 128 % 2 * 2 ^ 19
  let ncmd := if p < 12 then nb * 2 ^ 8 else 0
  let by' := if reg / 256 = 0 then reg else reg / 256 + reg % 256 * 256
  [w32 (p * 2 ^ 27 + sel + nb * 2 ^ 12 + ncmd + d.ncomp * d.cwidth), w32 (2 * 2 ^ 16), w32 by', 0]

/-- The copy of a channel's script (R158, R159). -/
def State.copyScript (s : State) (d : Desc) : List (List Word) :=
  let n := bits (d 2) 13 10
  if n = 0 then [defaultSlot d] else (List.range n).map (fun k => s.slot (bits (d 2) 9 0 + k))

/-- The copy passes the check of R158. -/
def State.scriptOk (s : State) (d : Desc) (l : List (List Word)) : Bool :=
  l.all (slotOk d.kind (isSsp d.kind || bitAt (s.portCfg d.kind) 29)) &&
    decide (bits (d 2) 23 16 + d.ncomp * d.cwidth ≤ (l.map slotRlen).sum)

/-! ### Read data (R99, R150) -/

/-- One component from its bytes (W2 CORDER, CSIGN): the 24-bit value and whether it is too large. -/
def compValue (msbFirst unsigned : Bool) (b : List Byte) : Int × Bool :=
  let v := leNat (if msbFirst then b.reverse else b)
  if unsigned then (if 0x7FFFFF < v then (0x7FFFFF, true) else ((v : Int), false)) else (signedOf (8 * b.length) v, false)

/-- Free bytes for the read data that a frame shorter than the channel's components does not hold (log 4). -/
def State.freeBytes (s : State) : Nat → State × List Byte
  | 0 => (s, [])
  | n + 1 =>
    let (k, t) := s.nextFree
    let (u, l) := t.freeBytes n
    (u, (Config.freeValue k).setWidth 8 :: l)

/-- The components of a channel in its read data. -/
def State.unpack (s : State) (d : Desc) (bytes : List Byte) : State × List Int × Bool :=
  let off := bits (d 2) 23 16
  let need := off + d.ncomp * d.cwidth
  let (t, fill) := s.freeBytes (need - bytes.length)
  let all := bytes ++ fill
  let r := (List.range d.ncomp).map (fun k => compValue (bitAt (d 2) 25) (bitAt (d 2) 24) ((all.drop (off + k * d.cwidth)).take d.cwidth))
  (t, r.map (·.1), r.any (·.2))

/-! ### Acquisitions (R158 to R167) -/

/-- Change the running acquisition, which stands first. -/
def Port.mapHead (x : Port) (f : Acq → Acq) : Port := { x with acqs := match x.acqs with
  | [] => []
  | a :: t => f a :: t }

/-- The acquisition has begun: it stands first and keeps the port. -/
def Acq.begun (a : Acq) : Bool := decide (a.phase ≠ 0 ∨ a.idx ≠ 0 ∨ a.tries ≠ 0)

/-- A failure that makes no attempt (R165): LAST_FAIL, and the channel's acquisition fails. -/
def State.failNoAttempt (s : State) (p cause : Nat) (a : Acq) : State :=
  (s.modPort p (fun x => { x with lastFail := cause })).failAcq a.chan a.stamp a.g

/-- Tally an attempt to its channel (R165, R452). -/
def State.tallyAttempt (s : State) (p c nbytes : Nat) : State :=
  ((s.tallyAdd c 1 (portDomain p) 1).tallyAdd c 2 (portDomain p) nbytes).modEpochNow c (fun x => { x with xact := x.xact + 1, xbyte := x.xbyte + nbytes })

/-- Tally the attempt that is cut off: the bytes it moved are a free value up to its length (log 4). -/
def State.tallyCut (s : State) (p : Nat) (a : Acq) : State :=
  let slot := a.script.getD a.idx []
  let (k, t) := s.nextFree
  t.tallyAttempt p a.chan ((Config.freeValue k).toNat % (slotSent p slot + slotRead slot + 1))

/-- Fence a port (R167): every acquisition that names it fails with PORT_FENCED; an attempt in progress is cut off and tallied. -/
def State.fencePort (s : State) (p cause : Nat) : State :=
  if s.isFenced 0 p then s
  else
    let l := (s.port p).acqs
    let s0 := (l.filter (fun a => a.phase == 1)).foldl (fun u a => u.tallyCut p a) s
    let s1 := (s0.modPort p (fun x => { x with acqs := [], init := false, floating := false })).fenceMark 0 p cause
    l.foldl (fun u a => (u.failNoAttempt p 9 a).applyStops a.chan) s1

/-- UNFENCE of a port: an enabled I3C port initialises its bus (R170). -/
def State.unfencePort (s : State) (p : Nat) : State :=
  (s.unfenceMark 0 p).modPort p (fun x => { x with init := !isSsp p && s.portOn p })

/-! ### Configuration (R176) -/

/-- A transaction is in progress on the port. -/
def State.inTransaction (s : State) (p : Nat) : Bool := (s.port p).acqs.any (fun a => a.phase == 1)

/-- May the value be applied to SSPn_CFG (R176)? -/
def sspCfgOk (p : Nat) (v : Word) : Bool := decide (bits v 6 0 * (8 * (bits v 17 16 + 1)) ≤ 512) && (decide (p < 4) || bits v 19 18 ≠ 3)

/-- The waiting acquisitions of a port that went off fail with PORT_OFF (R164). -/
def State.portOffFails (s : State) (p : Nat) : State :=
  if s.portOn p then s
  else
    let l := (s.port p).acqs
    l.foldl (fun u a => (u.failNoAttempt p 11 a).applyStops a.chan) (s.modPort p (fun x => { x with acqs := [], init := false }))

/-- An enabled port has its bank measured (R588): SSP0 to SSP5 lie on VIO0, the others and the I3C ports on VIO1 (R583). -/
def State.portBank (s : State) (p : Nat) : State := if s.portOn p then s.bankEnabled (if p < 6 then 0 else 1) else s

/-- An SSP port's boundary (R176). -/
def State.applySsp (s : State) (p : Nat) : State :=
  if s.inTransaction p then s
  else
    let v := s.reg .sspCfg p
    let s1 := if sspCfgOk p v then s.setApp .sspCfg p v else (s.setReg .sspCfg p (s.app .sspCfg p)).evt .sspEvt p 5
    (((s1.setApp .sspClk p (s1.reg .sspClk p)).setApp .sspTiming p (s1.reg .sspTiming p)).portOffFails p).portBank p

/-- An I3C port's boundary: ENABLE from 0 to 1 starts bus initialisation (R170). -/
def State.applyI3c (s : State) (p : Nat) : State :=
  if s.inTransaction p then s
  else
    let n := p - 12
    let rise := !s.portOn p && bitAt (s.reg .i3cCfg n) 31
    let s1 := (s.setApp .i3cCfg n (s.reg .i3cCfg n)).setApp .i3cClk n (s.reg .i3cClk n)
    let s2 := (List.range 8).foldl (fun u k => u.setApp .i3cTgt (8 * n + k) (u.reg .i3cTgt (8 * n + k))) s1
    ((if rise then s2.modPort p (fun x => { x with init := true }) else s2).portOffFails p).portBank p

/-- The boundary of a port whose transaction has ended (R176). -/
def State.portBoundary (s : State) (p : Nat) : State := if isSsp p then s.applySsp p else s.applyI3c p

/-! ### The start of an acquisition -/

/-- Is a poll grid there: a POLLED channel's timebase is set (R340)? -/
def State.gridOk (s : State) (c : Nat) : Bool := (s.ad c).acq ≠ 0 || s.tbSet (s.ad c).tb

/-- The source index of an acquisition (R205): the grid index of a POLLED channel at this instant. -/
def State.gridIndex (s : State) (c : Nat) : Option Int :=
  let d := s.ad c
  if d.acq = 0 then some (((s.tbNow d.tb : Int) / 1000 - d.offsetUs) / max 1 (s.period c)) else none

/-- The cause for which an acquisition of descriptor `d` on port `p` makes no attempt, 0 where it may make one (R151, R164). Where several hold, a fenced port comes first, then a port
that is off, then the role (DESIGN CHOICE, log 71). -/
def State.refusal (s : State) (d : Desc) (p : Nat) : Nat :=
  if s.isFenced 0 p then 9
  else if !s.portOn p then 11
  else if isSsp p && s.portTarget p ≠ (d.acq == 1) then 10
  else 0

/-- A serial channel's acquisition starts (R158, R164 to R166): the checks that fail it at once, or its place in the port's queue. `pre` are the bytes of an
IBI payload, `cap` the capture of its header, `lost` whether its edge was discarded. Until a capture the stamp is the instant at which it was due; R128 says so of a POLLED and a
LAUNCHED acquisition, and a TRIGGERED one has that of its trigger (DESIGN CHOICE, log 71). -/
def State.startSerial (s : State) (c : Nat) (late gap : Bool) (g : Option Int) (pre : List Byte) (cap : Option Stamp) (lost : Bool) : State :=
  let d := s.ad c
  let p := d.kind
  if d.acq = 0 && s.inAcq c then
    (s.modPort p (fun x => { x with skipped := satAt 65535 (x.skipped + 1) })).modChan c (fun x => { x with gapOwed := true })
  else
    let l := s.copyScript d
    let a : Acq := { chan := c, due := s.tb0u, prio := d.prio, stamp := cap.getD (s.stampNow c), script := l, idx := 0,
                     tries := 0, phase := 0, bytes := pre, g := g, late := late, gap := gap, lost := lost }
    let s1 := s.countAcq c
    let cause := s.refusal d p
    if cause ≠ 0 then s1.failNoAttempt p cause a
    else if !s.scriptOk d l then s1.failNoAttempt p 8 a
    else s1.modPort p (fun x => { x with acqs := x.acqs ++ [a] })

/-- The level of a pin after a qualifying edge of channel `c` (R103): 1 after a rising and 0 after a falling one; of a channel that takes both, the present level. -/
def State.edgeLevel (s : State) (c : Nat) : Bool :=
  let d := s.ad c
  match d.unit / 256 % 4 with
  | 0 => true
  | 1 => false
  | _ => (s.pin (d.unit % 32)).level

/-- An EVENT_PIN channel's sample: the level after the qualifying edge and the edges since the previous one (R103). Before any qualifying edge the level is the present one (DESIGN
CHOICE, log 72). -/
def State.pinComps (s : State) (c : Nat) : List Int :=
  let lvl : Int := b2n (if (s.chan c).edge.isSome then s.edgeLevel c else (s.pin ((s.ad c).unit % 32)).level)
  ([lvl, (s.chan c).edges]).take (s.ad c).ncomp

/-- A sample of an EVENT_PIN channel that another trigger, a grid instant or a launch asks for, with the flags that it passes on: its stamp is the capture of the qualifying edge,
the last one (R23); before any, the instant of the acquisition (DESIGN CHOICE, log 72). -/
def State.instantSample (s : State) (c : Nat) (late gap : Bool) (g : Option Int) : State :=
  let st := ((s.chan c).edge).getD (s.stampNow c)
  (s.goodAcq { chan := c, comps := s.pinComps c, gap := gap, stale := false, degraded := false, sat := false, late := late, stamp := st, g := g }
    (s.stampVal c st)).modChan c (fun x => { x with edges := 0 })

/-- An acquisition of a channel that is not STREAMED starts now (R101, R158). -/
def State.startAcq (s : State) (c : Nat) (late gap : Bool) (g : Option Int) : State :=
  let d := s.ad c
  if !s.acquiring c || d.acq == 1 || s.isFenced 8 2 || !s.gridOk c then s
  else if d.isPort then s.startSerial c late gap g [] none false
  else if d.kind = 20 then (s.countAcq c).instantSample c late gap g
  else s

/-- ACQUISITION_START: a grid instant of a POLLED channel, which is also its boundary (R112), or the trigger of a TRIGGERED one. The acquisition starts under what applies after the
boundary: the channel is still in that mode, and this instant is one of its grid (R101, R108). -/
def execAcquisitionStart (chan : Nat) (late gap : Bool) (s : State) : Host.Outcome State Fault Refusal :=
  act (onlyIf (chan < 192 && ((s.ad chan).acq == 0 || (s.ad chan).acq == 2)) (fun w =>
    let u := w.toGrid chan
    if !u.onGrid chan then w
    else if (u.ad chan).acq = 0 then
      let v := u.boundary chan
      if (v.ad chan).acq = 0 && v.onGrid chan then v.startAcq chan late gap (v.gridIndex chan) else v
    else u.startAcq chan late gap none)) s

/-- The sample of an acquisition whose script has run (R162, R163). Where a full latch discarded its edge, the sample is lost (R18): the acquisition was good, but nothing enters the
entry FIFO (DESIGN CHOICE, log 70). -/
def State.acqDone (s : State) (p : Nat) (a : Acq) : State :=
  let c := a.chan
  let d := s.ad c
  let s1 := s.modPort p (fun x => { x with acqs := x.acqs.drop 1 })
  if a.lost then (s1.goodMark c (s1.chan c).lastComps (s1.chan c).lastGood).applyStops c
  else
    let (s2, comps, sat) := s1.unpack d a.bytes
    (s2.goodAcq { chan := c, comps := comps, gap := a.gap, stale := false, degraded := false, sat := sat, late := a.late, stamp := a.stamp, g := a.g }
      (s2.stampVal c a.stamp)).applyStops c

/-- The acquisition fails after its last retry (R163). -/
def State.acqFail (s : State) (p : Nat) (a : Acq) : State :=
  ((s.modPort p (fun x => { x with acqs := x.acqs.drop 1 })).failAcq a.chan a.stamp a.g).applyStops a.chan

/-- An attempt of the first acquisition of port `p` has failed with `cause` (R163, R165): a retry after RETRY_GAP, or the acquisition fails. -/
def State.attemptFail (s : State) (p cause : Nat) : State :=
  match (s.port p).acqs with
  | [] => s
  | a :: _ =>
    let slot := a.script.getD a.idx []
    let s1 := s.modPort p (fun x => { x with failed := (x.failed + 1) % 2 ^ 32, lastFail := cause })
    if a.tries < slotRetries slot then
      s1.modPort p (fun x => x.mapHead (fun b => { b with tries := b.tries + 1, phase := if slotGap slot = 0 then 0 else 2 }))
    else s1.acqFail p a

/-- The acquisition that the port serves next (R160): the one begun, or the earliest due, then the highest PRIO, then the lowest channel. -/
def pickAcq (l : List Acq) : Option Acq :=
  match l.find? Acq.begun with
  | some a => some a
  | none => l.foldl (fun b a => match b with
    | none => some a
    | some x =>
      if a.due < x.due || (a.due == x.due && (decide (x.prio < a.prio) || (a.prio == x.prio && decide (a.chan < x.chan)))) then some a else some x) none

/-- Put the acquisition that is served next first. -/
def State.selectAcq (s : State) (p : Nat) : State :=
  match pickAcq (s.port p).acqs with
  | none => s
  | some a => s.modPort p (fun x => { x with acqs := a :: x.acqs.erase a })

/-- A failed bus recovery (R175): the attempt fails with STUCK, and enough of them in a row fence the port. -/
def State.recoveryFail (s : State) (p : Nat) : State :=
  let n := (s.port p).recovRun + 1
  let s1 := (((s.modPort p (fun x => { x with recovRun := n })).portEvt p 5).logErr 0 p 0x17).attemptFail p 3
  let lim := bits (s.portCfg p) 2 0
  if lim ≠ 0 && decide (lim ≤ n) then s1.fencePort p 0x81 else s1

/-- TRANSACTION_START (R160, R162): the port starts its next transaction. `sda` is the number of SCL pulses bus recovery took, 10 where it failed (R175). -/
def State.transactionStart (s : State) (p sda : Nat) : State :=
  let s0 := s.selectAcq p
  match (s0.port p).acqs with
  | [] => s
  | a :: _ =>
    if a.phase ≠ 0 || s.busWait p || s.isFenced 0 p || !s.portOn p then s
    else if s.portTarget p then ((s0.modPort p (fun x => { x with acqs := x.acqs.drop 1 })).failNoAttempt p 10 a).applyStops a.chan
    else
      let s1 := s0.modPort p (fun x => { x with transactions := (x.transactions + 1) % 2 ^ 32 })
      let s2 := if isSsp p || sda = 0 then s1 else s1.modPort p (fun x => { x with recoveries := satAt 65535 (x.recoveries + 1) })
      if !isSsp p && 10 ≤ sda then (s2.tallyAttempt p a.chan 0).recoveryFail p
      else
        let slot := a.script.getD a.idx []
        let first := a.idx = 0 && (s.ad a.chan).acq ≠ 1
        let (s3, cap) := if first then s2.latchFor (portLatch p) a.chan 0 else (s2, none)
        s3.modPort p (fun x => { (x.mapHead (fun b => { b with phase := 1, stamp := cap.getD b.stamp, lost := if first then cap.isNone else b.lost })) with
          curSel := if isSsp p then slotAddr slot % 4 else x.curSel, floating := false,
          cccs := if !isSsp p && slotType slot = 3 then [⟨0x20, none, []⟩] else [] })

/-- TRANSACTION_START. -/
def execTransactionStart (port f sda : Nat) (s : State) : Host.Outcome State Fault Refusal :=
  act (onlyIf (port < 18 && !s.isFenced 8 2) (fun u => (u.atF f).transactionStart port sda)) s

/-- All bytes are 0x00 or all are 0xFF (STUCK_CHK). -/
def uniform (l : List Nat) : Bool := !l.isEmpty && (l.all (· == 0) || l.all (· == 255))

/-- The cause an attempt ends with: STUCK where STUCK_CHK finds uniform bytes. -/
def endCause (slot : List Word) (cause : Nat) (bytes : List Nat) : Nat :=
  if cause = 0 && bitAt (slot.getD 1 0) 21 && uniform bytes then 3 else cause

/-- What a failed attempt records by its cause (R164, R169, R174). The GETSTATUS after a PARITY or SHORT_READ failure is logged in a run for each target, which that target's next good
transaction ends (DESIGN CHOICE, log 71). -/
def State.recordCause (s : State) (p cause addr aux : Nat) : State :=
  let getst := fun (u : State) =>
    ((u.modPort p (fun x => { x with cccs := x.cccs ++ [⟨0x90, some addr, []⟩] })).setReg .i3cLastst (p - 12) (w32 ((if 65536 ≤ aux then aux % 65536 * 2 ^ 16 + 2 ^ 15 else 0) + addr))).logRun 0 p 0x1A addr
  if p < 12 then (if cause = 3 then (s.portEvt p 3).portCnt p 2 else s)
  else match cause with
    | 1 => s.portCnt p 3
    | 5 => getst (((s.portEvt p 0).portCnt p 0).logRun 0 p 0x13 addr)
    | 6 => ((s.portEvt p 2).portCnt p 2).logRun 0 p 0x15 addr
    | 7 => getst s
    | _ => s

/-- A good transaction ends the port's runs (R145, R147, R174, R175). -/
def State.portGood (s : State) (p addr : Nat) : State :=
  let s1 := s.modPort p (fun x => { x with mfRun := 0, recovRun := 0 })
  if p < 12 then s1.logEnd 0 p 0x11
  else (((s1.logEndRun 0 p 0x13 addr).logEndRun 0 p 0x15 addr).logEndRun 0 p 0x1A addr).logEnd 0 p 0x17

/-- ATTEMPT_END (R163 to R165): the attempt in progress ends with `cause` and the bytes it read. An attempt without failure read RLEN bytes; the causes
that come about elsewhere end no attempt here. The port is then at its boundary (R176). -/
def State.attemptEnd (s : State) (p cause : Nat) (bytes : List Nat) (aux : Nat) : State :=
  match (s.port p).acqs with
  | [] => s
  | a :: _ =>
    let slot := a.script.getD a.idx []
    let fits := if cause = 0 then bytes.length == slotRead slot else !isSsp p && [1, 5, 7].contains cause && decide (bytes.length ≤ slotRead slot)
    if a.phase ≠ 1 || !fits then s
    else
      let k := endCause slot cause bytes
      let s1 := s.tallyAttempt p a.chan (slotSent p slot + bytes.length)
      if k ≠ 0 then ((s1.recordCause p k (slotAddr slot) aux).attemptFail p k).portBoundary p
      else
        let b : Acq := { a with bytes := a.bytes ++ bytes.map (BitVec.ofNat 8), tries := 0 }
        let s2 := s1.portGood p (slotAddr slot)
        if a.idx + 1 < a.script.length then
          (s2.modPort p (fun x => x.mapHead (fun _ => { b with idx := a.idx + 1, phase := if slotPost slot = 0 then 0 else 3 }))).portBoundary p
        else (s2.acqDone p b).portBoundary p

/-- ATTEMPT_END. -/
def execAttemptEnd (port cause : Nat) (bytes : List Nat) (aux : Nat) (s : State) : Host.Outcome State Fault Refusal :=
  act (onlyIf (port < 18) (fun u => u.attemptEnd port cause bytes aux)) s

/-- The wait of the running acquisition in phase `k` ends. -/
def State.phaseEnd (s : State) (p k : Nat) : State := s.modPort p (fun x => x.mapHead (fun a => if a.phase = k then { a with phase := 0 } else a))

/-- RETRY_GAP (R163). -/
def execRetryGap (port : Nat) (s : State) : Host.Outcome State Fault Refusal := act (onlyIf (port < 18) (fun u => u.phaseEnd port 2)) s

/-- POST_DELAY (R160). -/
def execPostDelay (port : Nat) (s : State) : Host.Outcome State Fault Refusal := act (onlyIf (port < 18) (fun u => u.phaseEnd port 3)) s

/-- BUS_WAIT_TIMEOUT (R144, R165): the acquisition that waits for the bus fails its attempt with TIMEOUT; it counts as an attempt. -/
def State.busWaitTimeout (s : State) (p : Nat) : State :=
  let s0 := s.selectAcq p
  match (s0.port p).acqs with
  | [] => s
  | a :: _ =>
    if a.phase = 1 || a.phase = 3 || !s.busWait p then s
    else
      let s1 := s0.modPort p (fun x => { x with transactions := (x.transactions + 1) % 2 ^ 32 })
      (s1.tallyAttempt p a.chan 0).attemptFail p 2

/-- BUS_WAIT_TIMEOUT. -/
def execBusWaitTimeout (port : Nat) (s : State) : Host.Outcome State Fault Refusal := act (onlyIf (port < 18) (fun u => u.busWaitTimeout port)) s

/-! ### The foreign select (R144 to R147) -/

/-- A mode fault (R145, R147): the port takes its drive off the pins and aborts the transfer. -/
def State.modeFault (s : State) (p : Nat) (a : Acq) : State :=
  let run := min 7 ((s.port p).mfRun + 1)
  let s1 := (((s.tallyCut p a).portEvt p 0).portCnt p 3).logErr 0 p 0x11
  let s2 := (s1.modPort p (fun x => { x with mfRun := run, floating := true })).attemptFail p 4
  let lim := bits (s.portCfg p) 26 24
  (if lim ≠ 0 && decide (lim ≤ run) then (s2.portEvt p 4).fencePort p 0x81 else s2).portBoundary p

/-- FOREIGN_SELECT_ASSERT. -/
def State.foreignAssert (s : State) (p : Nat) : State :=
  let s1 := s.modPort p (fun x => { x with foreign := true, busFree := false })
  match (s.port p).acqs with
  | a :: _ => if a.phase = 1 && !(s.port p).foreign then s1.modeFault p a else s1
  | [] => s1

/-- FOREIGN_SELECT_ASSERT: only a multi-master port in use has a foreign select. -/
def execForeignSelectAssert (port : Nat) (s : State) : Host.Outcome State Fault Refusal :=
  act (onlyIf (port < 12 && s.portOn port && bitAt (s.portCfg port) 29 && !s.portTarget port && !s.isFenced 0 port) (fun u => u.foreignAssert port)) s

/-- FOREIGN_SELECT_RELEASE: BUS_FREE starts. -/
def execForeignSelectRelease (port : Nat) (s : State) : Host.Outcome State Fault Refusal :=
  act (onlyIf (port < 12) (fun u => u.modPort port (fun x => { x with foreign := false }))) s

/-- BUS_FREE has passed since the release (R144). -/
def execBusFree (port : Nat) (s : State) : Host.Outcome State Fault Refusal :=
  act (onlyIf (port < 12 && !(s.port port).foreign) (fun u => u.modPort port (fun x => { x with busFree := true }))) s

/-! ### Target role (R148 to R152) -/

/-- The enabled channel that a select line feeds (R111). -/
def State.frameChan (s : State) (p sel : Nat) : Option Nat :=
  (List.range 192).find? (fun c => s.running c && (s.ad c).kind == p && (s.ad c).unit % 4 == sel && (s.ad c).acq == 1)

/-- R148: 0 accepted, 1 SHORT, 2 LONG, for a frame of `b` bits. -/
def frameClass (cfg : Word) (need b : Nat) : Nat :=
  let w := 8 * (bits cfg 17 16 + 1)
  let f := bits cfg 6 0
  if f ≠ 0 then (if b = f * w then 0 else if b < f * w then 1 else 2)
  else if 512 < b then 2
  else if b = 0 || b % w ≠ 0 || b / 8 < need then 1 else 0

/-- A target frame ends (R148 to R150); the sample of a frame whose release a full latch discarded is lost (R18, R344). -/
def State.targetFrame (s : State) (p sel : Nat) (bytes : List Nat) (extra : Nat) : State :=
  let cfg := s.portCfg p
  let ch := s.frameChan p sel
  let need := match ch with
    | some c => bits (s.desc c 2) 23 16 + (s.ad c).ncomp * (s.ad c).cwidth
    | none => 0
  match frameClass cfg need (8 * bytes.length + extra) with
  | 0 =>
    let s1 := (s.modPort p (fun x => { x with frames := (x.frames + 1) % 65536 })).logEndRun 0 p 0x12 sel
    match ch with
    | none => s1
    | some c =>
      if !s1.acquiring c then s1
      else
        let (s2, cap) := s1.latchFor (portLatch p) c 0
        match cap with
        | none => s2.countAcq c
        | some st =>
          let (s3, comps, sat) := s2.unpack (s2.ad c) (bytes.map (BitVec.ofNat 8))
          (s3.countAcq c).goodAcq
            { chan := c, comps := comps, gap := false, stale := false, degraded := false, sat := sat, late := false, stamp := st, g := none }
            (s3.stampVal c st)
  | 1 => ((s.portEvt p 1).portCnt p 0).logRun 0 p 0x12 sel
  | _ => ((s.portEvt p 2).portCnt p 1).logRun 0 p 0x12 sel

/-- TARGET_FRAME: a frame on a fenced port is discarded and counted nowhere (R152). Its end is the port's boundary (R176). -/
def execTargetFrame (port line f : Nat) (bytes : List Nat) (bits : Nat) (s : State) : Host.Outcome State Fault Refusal :=
  act (onlyIf (port < 12 && line < 4 && s.portOn port && s.portTarget port && !s.isFenced 0 port) (fun u => ((u.atF f).targetFrame port line bytes bits).applySsp port)) s

/-! ### I3C (R168 to R174) -/

/-- Entry `k` of the target table of I3C port `p`. -/
def State.tgtEntry (s : State) (p k : Nat) : Word := s.app .i3cTgt (8 * (p - 12) + k)

/-- Set ASSIGNED and the identity of an entry. -/
def State.setTgt (s : State) (p k : Nat) (id : Option Nat) : State :=
  let i := 8 * (p - 12) + k
  let put := fun (w : Word) => setBits w 25 25 (b2n id.isSome)
  ((s.setReg .i3cTgt i (put (s.reg .i3cTgt i))).setApp .i3cTgt i (put (s.app .i3cTgt i))).setReg64 .i3cPid i (id.getD 0)

/-- Valid I3C entries with SETDASA as asked. -/
def State.tgtList (s : State) (p : Nat) (dasa : Bool) : List Nat :=
  (List.range 8).filter (fun k => let w := s.tgtEntry p k; bitAt w 31 && !bitAt w 30 && (bitAt w 29 == dasa))

/-- The event bits of ENEC and DISEC (I3C's own: bit 0 in-band interrupts, bit 3 hot-join; PRESUMED, log 73) for the events that `p` has enabled, or not. -/
def eventBits (cfg : Word) (on : Bool) : Nat := b2n (bitAt cfg 28 == on) + 8 * b2n (bitAt cfg 30 == on)

/-- The CCCs that bus initialisation issues, in their order (R169, R170): steps 1 to 4, and, once addresses are ASSIGNED, steps 5 to 7. -/
def State.initCccs (s : State) (p : Nat) : List Ccc :=
  let cfg := s.portCfg p
  let dyn := fun k => bits (s.tgtEntry p k) 22 16
  (if bitAt cfg 27 then [⟨0x2A, none, [1]⟩] else []) ++ [⟨0x06, none, []⟩] ++
  (s.tgtList p true).flatMap (fun k =>
    [⟨0x87, some (bits (s.tgtEntry p k) 6 0), [dyn k]⟩, ⟨0x8D, some (dyn k), []⟩, ⟨0x8E, some (dyn k), []⟩, ⟨0x8F, some (dyn k), []⟩]) ++
  (if (s.tgtList p false).isEmpty then [] else [⟨0x07, none, []⟩]) ++
  ((List.range 8).filter (fun k => bitAt (s.tgtEntry p k) 31 && bitAt (s.tgtEntry p k) 25)).map (fun k =>
    ⟨0x8A, some (dyn k), [64, bits (s.tgtEntry p k) 27 26 + 1]⟩) ++
  (if eventBits cfg false = 0 then [] else [⟨0x01, none, [eventBits cfg false]⟩]) ++
  (if eventBits cfg true = 0 then [] else [⟨0x00, none, [eventBits cfg true]⟩])

/-- The end of bus initialisation (R170): the entries that targets answered for hold their addresses and identities; the entries of ENTDAA fill
in ascending order, and the CCCs have been issued. -/
def State.busInit (s : State) (p : Nat) (found : List Nat) : State :=
  let ans := fun k => found.getD k 0
  let s1 := (List.range 8).foldl (fun u k => u.setTgt p k none) s
  let s2 := (s.tgtList p true).foldl (fun u k => if ans k = 0 then u else u.setTgt p k (some (ans k - 1))) s1
  let s3 := ((s.tgtList p false).zip (((s.tgtList p false).map ans).filter (· ≠ 0))).foldl (fun u q => u.setTgt p q.1 (some (q.2 - 1))) s2
  s3.modPort p (fun x => { x with init := false, cccs := s3.initCccs p })

/-- BUS_INITIALISATION: its end, with what the bus answered. -/
def execBusInitialisation (port : Nat) (found : List Nat) (s : State) : Host.Outcome State Fault Refusal :=
  act (onlyIf (12 ≤ port && port < 18 && (s.port port).init && !s.isFenced 0 port) (fun u => u.busInit port found)) s

/-- A hot-join (R171), with the identities of the targets that ask for an address: refused, it is NACKed and DISEC broadcast; accepted, it is ACKed and ENTDAA fills the entries
that are left. A target for which none is left ends ENTDAA without an assignment. -/
def State.hotJoin (s : State) (p : Nat) (found : List Nat) : State :=
  let on := bitAt (s.portCfg p) 30
  let s1 := (s.portEvt p 3).modPort p (fun x => { x with joinAck := on, cccs := if on then [⟨0x07, none, []⟩] else [⟨0x01, none, [8]⟩] })
  if !on then s1
  else
    let open_ := (s.tgtList p false).filter (fun k => !bitAt (s.tgtEntry p k) 25)
    let s2 := (open_.zip found).foldl (fun u q => u.setTgt p q.1 (some q.2)) s1
    if open_.length < max 1 found.length then (s2.portEvt p 4).logErr 0 p 0x16 else s2.logEnd 0 p 0x16

/-- HOT_JOIN. -/
def execHotJoin (port : Nat) (found : List Nat) (s : State) : Host.Outcome State Fault Refusal :=
  act (onlyIf (12 ≤ port && port < 18 && s.portOn port && !s.isFenced 0 port) (fun u => u.hotJoin port found)) s

/-- An in-band interrupt (R172, R174): the payload of an accepted one starts the acquisition of every STREAMED channel at that address (R111), with
the one capture of the header. -/
def State.ibi (s : State) (p addr : Nat) (bytes : List Nat) : State :=
  match (List.range 8).find? (fun k => let w := s.tgtEntry p k; bitAt w 31 && bits w 22 16 == addr && bitAt w 28) with
  | none => ((s.portEvt p 1).portCnt p 1).logRun 0 p 0x14 addr
  | some k =>
    let len := bits (s.tgtEntry p k) 27 26 + 1
    let s1 := s.logEndRun 0 p 0x14 addr
    let cs := (List.range 192).filter (fun c => s1.acquiring c && (s1.ad c).kind == p && (s1.ad c).acq == 1 && (s1.ad c).unit == addr)
    if cs.isEmpty then s1
    else
      let (s2, ok) := s1.latchPush (portLatch p)
      cs.foldl (fun u c =>
        let v := if ok then u else u.modChan c (fun x => { x with gapOwed := true })
        v.startSerial c false false none ((bytes.take len).map (BitVec.ofNat 8)) (if ok then some (s1.waiting (portLatch p) 0) else none) (!ok)) s2

/-- IBI: between two transactions of the port (R173). -/
def execIbi (port addr f : Nat) (bytes : List Nat) (s : State) : Host.Outcome State Fault Refusal :=
  act (onlyIf (12 ≤ port && port < 18 && s.portOn port && !s.isFenced 0 port && !s.inTransaction port) (fun u => (u.atF f).ibi port addr bytes)) s

/-- STRETCH (R174): a legacy I2C target holds SCL low. -/
def State.stretch (s : State) (p : Nat) : State :=
  match (s.port p).acqs with
  | [] => s
  | a :: _ =>
    let slot := a.script.getD a.idx []
    if a.phase ≠ 1 || !bitAt (slot.getD 0 0) 19 then s
    else (((s.tallyCut p a).recordCause p 6 (slotAddr slot) 0).attemptFail p 6).portBoundary p

/-- STRETCH. -/
def execStretch (port : Nat) (s : State) : Host.Outcome State Fault Refusal := act (onlyIf (12 ≤ port && port < 18) (fun u => u.stretch port)) s

/-- The watchdog of a STREAMED channel ends (R127, R128). On a port that is fenced, off, or no longer in the channel's role, that is the cause of the failure (R151, R164, R165). -/
def State.watchdog (s : State) (c : Nat) : State :=
  let d := s.ad c
  let cause := if d.isPort then s.refusal d d.kind else 0
  (if cause = 0 then s else s.modPort d.kind (fun x => { x with lastFail := cause })).failAcq c (s.stampNow c) none

/-- STREAM_WATCHDOG: a STREAMED channel with W3 not 0 had no input for its time. REMOTE channels have R416 instead. -/
def execStreamWatchdog (chan : Nat) (s : State) : Host.Outcome State Fault Refusal :=
  act (onlyIf (chan < 192 && s.acquiring chan && (s.ad chan).acq == 1 && (s.ad chan).kind ≠ 21 && s.desc chan 3 ≠ 0)
    (fun u => u.watchdog chan)) s

/-! ### Words and opcodes (R177 to R179) -/

/-- A transaction that is due waits for the bus (R144, R178): the acquisition that is served next is not in POST_DELAY. -/
def State.waitsBus (s : State) (p : Nat) : Bool :=
  s.busWait p && ((pickAcq (s.port p).acqs).map (fun a => decide (a.phase = 0 ∨ a.phase = 2))).getD false

/-- How a pin of a port is driven. -/
inductive Drive where
  | hiZ
  | low
  | high
  | active
  deriving DecidableEq, Repr

/-- The pins of a port: SCLK or SCL, the select lines of an SSP port, and the data lanes or SDA. -/
structure PortPins where
  clk : Drive
  sel : List Drive
  lanes : Drive
  deriving DecidableEq, Repr

/-- What a port drives (R144, R145, R148, R167): nothing while it is off, in the target role or after a mode fault, until its next transaction (DESIGN CHOICE, log 71); a fenced SSP port holds
its selects high and SCLK at its idle level; the foreign select is never driven; a fenced or idle I3C port releases both lines. -/
def State.portPins (s : State) (p : Nat) : PortPins :=
  let cfg := s.portCfg p
  let busy := s.inTransaction p
  let idle := if bitAt cfg 21 then Drive.high else Drive.low
  let foreign := fun k => bitAt cfg 29 && bits cfg 28 27 == k
  if !isSsp p then (if busy then ⟨.active, [], .active⟩ else ⟨.hiZ, [], .hiZ⟩)
  else if s.isFenced 0 p then ⟨idle, List.replicate 4 .high, .hiZ⟩
  else if !s.portOn p || s.portTarget p || (s.port p).floating then ⟨.hiZ, List.replicate 4 .hiZ, .hiZ⟩
  else ⟨if busy then .active else idle,
    (List.range 4).map (fun k => if foreign k then .hiZ else if busy && (s.port p).curSel == k then .low else .high), if busy then .active else .hiZ⟩

/-- The word SSPn_STAT shows. -/
def State.sspStatWord (s : State) (p : Nat) : Word :=
  let x := s.port p
  let wait := s.waitsBus p
  w32 (b2n (s.inTransaction p) * 2 ^ 31 + b2n x.foreign * 2 ^ 30 + b2n wait * 2 ^ 29 + x.curSel * 2 ^ 27 + x.mfRun * 2 ^ 24 + x.frames)

/-- STATE of PORT_STATUS (R178): BUSY while a transaction runs; IDLE while a target frame is open, and in RETRY_GAP and POST_DELAY where nothing waits for the bus (DESIGN CHOICE, log
71). -/
def State.portState (s : State) (p : Nat) : Nat :=
  if s.isFenced 0 p then 4
  else if !s.portOn p then 0
  else if (s.port p).init then 5
  else if s.inTransaction p then 2
  else if s.waitsBus p then 3 else 1

/-- SCRIPT_WRITE (R159, R177). -/
def opScriptWrite : OpDef where
  code := 0x16
  priv := 1
  async := false
  lenOk := fun n _ => 2 ≤ n && n ≤ 63
  valid := fun _ c => c.fld 0 31 12 == 0 && c.fld 0 11 0 + c.params.length - 1 ≤ 4096
  allow := fun _ _ => 0
  run := fun s c => (s.wrWords (0x20010000 + 4 * c.fld 0 11 0) (c.params.drop 1), 0, [])

/-- SCRIPT_READ (R177). -/
def opScriptRead : OpDef where
  code := 0x17
  priv := 0
  async := false
  lenOk := fun n _ => n == 2
  valid := fun _ c => c.fld 0 31 12 == 0 && c.fld 1 31 6 == 0 && 1 ≤ c.fld 1 5 0 && c.fld 0 11 0 + c.fld 1 5 0 ≤ 4096
  allow := fun _ _ => 0
  run := fun s c => (s, 0, s.rdWords (0x20010000 + 4 * c.fld 0 11 0) (c.fld 1 5 0))

/-- PORT_STATUS (R178, R179). -/
def opPortStatus : OpDef where
  code := 0x18
  priv := 0
  async := false
  lenOk := fun n _ => n == 1
  valid := fun _ c => c.fld 0 31 5 == 0 && c.fld 0 4 0 ≤ 17
  allow := fun s c => if s.isFenced 8 (portDomain (c.fld 0 4 0)) then stDomainOff else 0
  run := fun s c =>
    let p := c.fld 0 4 0
    let x := s.port p
    (s, 0, [w32 (s.portState p * 2 ^ 29 + b2n (s.portTarget p) * 2 ^ 28 + x.lastFail * 2 ^ 24 + x.skipped), w32 x.transactions, w32 x.failed,
      w32 (if isSsp p then x.frames else x.recoveries * 2 ^ 16)])

end Sys2Proof.Machine
end

