-- ==== Sys2Proof/Machine/Afe.lean ====
section
/-! DEFINITION. Analogue inputs, PDM inputs, excitation and the bitstream pre-stages (spec 06, R214). -/

namespace Sys2Proof.Machine

/-- AFE_BLANK_END (R196): the channel's Tower state restarts, unless it has for this change already (R197). -/
def execAfeBlankEnd (input : Nat) (s : State) : Host.Outcome State Fault Refusal :=
  act (onlyIf (input < 24 && (s.pre input).blank) (fun u =>
    let v := u.clearPre input false false
    if (u.pre input).noRestart then v else v.restartInput input)) s

/-- A write of AFE_EXCk (R187, R195, R196). -/
def State.writeExc (s : State) (k : Nat) (v : Word) : State :=
  let old := s.reg .afeExc k
  if bits v 1 0 = 3 then s.evt .afeEvt 0 20
  else if v = old then s
  else
    let s1 := (s.setReg .afeExc k v).powerAfe
    let m := 1#4 <<< k
    let s2 := { s1 with afe := { s1.afe with settled := s1.afe.settled &&& ~~~m, limiting := if bitAt v 31 then s1.afe.limiting else s1.afe.limiting &&& ~~~m } }
    (List.range 16).foldl (fun u i => if bits (u.app .afeAinCfg i) 23 21 = k + 1 && bitAt (u.app .afeAinCfg i) 31 then u.blankInput i else u) s2

/-- A write of AFE_PDMCLK (R191, R192, R195): a clock that starts or changes its rate blanks the inputs it serves, and an enabled one has its bank measured (R588). -/
def State.writePdmclk (s : State) (v : Word) : State :=
  let s1 := (if bits v 31 30 = 0 then s else s.bankEnabled 3).setReg .afePdmclk 0 v
  let bad := (List.range 8).any (fun n => bitAt (s.app .afePdmCfg n) 31 && !s1.pdmCfgOk (16 + n) (s.app .afePdmCfg n))
  if bad then s.evt .afeEvt 0 20
  else (List.range 8).foldl (fun u n =>
    let i := 16 + n
    if s1.pdmClock i && (!s.pdmClock i || s1.bitRate i ≠ s.bitRate i) then u.blankInput i else u) s1

/-- The AFE has power (R182). -/
def State.afePowered (s : State) : Bool := (s.dom 5).rail ≠ 0 && !s.isFenced 8 5

/-- EXC_SETTLED: with PD5 powered, output k is within 0.1 % of its level (R187), and a limit run ends where EXC_OKk is set (R188); 4 is the internal reference. -/
def execExcSettled (exc : Nat) (s : State) : Host.Outcome State Fault Refusal :=
  act (onlyIf s.afePowered (fun u =>
    if exc = 4 then { u with afe := { u.afe with refReady := true } }
    else if exc < 4 && bitAt (u.reg .afeExc exc) 31 then
      let v := { u with afe := { u.afe with settled := u.afe.settled ||| (1#4 <<< exc) } }
      if u.afe.limiting.getLsbD exc then v else v.logEnd 13 (16 + exc) 0x19
    else u)) s

/-- EXC_LIMIT: the output, driven, limits its current (R188). -/
def execExcLimit (exc : Nat) (s : State) : Host.Outcome State Fault Refusal :=
  act (onlyIf (s.afePowered && exc < 4 && bitAt (s.reg .afeExc exc) 31) (fun u =>
    (({ u with afe := { u.afe with limiting := u.afe.limiting ||| (1#4 <<< exc) } }).evt .afeEvt 0 (16 + exc)).logErr 13 (16 + exc) 0x19)) s

/-- EXC_LIMIT_END: EXC_OKk is set again where the output has settled, which ends the log entry's run (R188). -/
def execExcLimitEnd (exc : Nat) (s : State) : Host.Outcome State Fault Refusal :=
  act (onlyIf (exc < 4) (fun u =>
    let u1 := { u with afe := { u.afe with limiting := u.afe.limiting &&& ~~~(1#4 <<< exc) } }
    if u1.afe.settled.getLsbD exc then u1.logEnd 13 (16 + exc) 0x19 else u1)) s

/-- The word AFE_STAT shows. -/
def State.afeStatWord (s : State) : Word :=
  let ok := fun k => bitAt (s.reg .afeExc k) 31 && s.afe.settled.getLsbD k && !s.afe.limiting.getLsbD k
  let sum := fun (n : Nat) (p : Nat → Bool) => (List.range n).foldl (fun m k => m + (if p k then 2 ^ k else 0)) 0
  w32 (b2n s.afe.refReady * 2 ^ 31 + sum 4 ok * 2 ^ 24 + sum 8 (fun n => s.afeRun (16 + n)) * 2 ^ 16 + sum 16 s.afeRun)

/-- sat24(rnd(a, 17)) stages of a pre-stage from stage `k` on (R214): as `runStages`, with the GRAIN set and 24-bit saturation. An output is marked where an overloaded bit, or a
saturation, contributed to it (R184). -/
def runPre : Nat → Nat → List (List PreVal) → PreVal → List (List PreVal) × Option PreVal
  | _, _, [], v => ([], some v)
  | g, k, h :: t, v =>
    let h' := push 15 h v
    if (g / 2 ^ (k - 1)) % 2 = 1 then
      let used := ((presetCoef 1).zip h').filterMap (fun p => if p.1 = 0 then none else some p.2)
      let a := rnd (dot (presetCoef 1) (h'.map (·.v))) 17
      let (t', o) := runPre g (k + 1) t ⟨satW 24 a, used.any (·.ovl), used.any (·.sat) || decide (satW 24 a ≠ a)⟩
      (h' :: t', o)
    else (h' :: t, none)

/-- The bits of one pre-stage, each with whether its modulator was overloaded (R190, R214): the state, and the output with the last bit. -/
def preBits (m : Nat) : PreStage → List (Nat × Bool) → PreStage × Option PreVal
  | x, [] => (x, none)
  | x, b :: t =>
    let v : PreVal := ⟨if b.1 = 0 then -(2 ^ 22) else 2 ^ 22, b.2, false⟩
    let hist := if x.hist.length = m then x.hist else List.replicate m []
    let (h, o) := runPre x.count 1 hist v
    let (y, o2) := preBits m { x with hist := h, count := x.count + 1 } t
    (y, if t.isEmpty then o else o2)

/-- VREF of input `i` in nV (R183): 1.2 V, or the voltage `exc` of the excitation output that REF names, as measured at the modulator. -/
def State.vref (s : State) (i : Nat) (exc : Nat) : Nat := if bits (s.afeCfg i) 23 21 = 0 then 1200000000 else exc

/-- The sample value that a differential input of `nv` nV maps to (R183): nv × G / VREF × 2^22, rounded, halves up. -/
def State.ainValue (s : State) (i exc : Nat) (nv : Int) : Int :=
  let r : Rat := (nv * 2 ^ bits (s.afeCfg i) 29 27 : Int) / (max 1 (s.vref i exc) : Nat) * 2 ^ 22
  (r + 1 / 2).floor

/-- The modulator of input `i` is overloaded by a differential input of `nv` nV (R184): beyond ±1.05 × VREF / G. -/
def State.ainOver (s : State) (i exc : Nat) (nv : Int) : Bool :=
  decide (i < 16) && decide (105 * s.vref i exc < 100 * nv.natAbs * 2 ^ bits (s.afeCfg i) 29 27)

/-- How often a signal rises in `l`, after `was`. -/
def risesIn : Bool → List Bool → Nat
  | _, [] => 0
  | was, o :: t => b2n (o && !was) + risesIn o t

/-- The overloads of an input's modulator over its bits (R184): OVLn while one lasts, a log entry, or its repeat, for each that begins. -/
def State.noteOver (s : State) (i : Nat) (l : List Bool) : State :=
  let was := s.afe.overloaded.getLsbD i
  let s1 := { s with afe := { s.afe with overloaded := if l.getLastD was then s.afe.overloaded ||| (1#16 <<< i) else s.afe.overloaded &&& ~~~(1#16 <<< i) } }
  let s2 := if l.any id then s1.evt .afeEvt 0 i else s1
  (List.range (risesIn was l)).foldl (fun u _ => u.logErr 13 i 0x18) s2

/-- PRE_STAGE_OUTPUT (R192 to R194, R214): the bits of one output of the pre-stage, each with its modulator's overload. The output's stamp waits for its latch and is less the group
delay that it had; one whose clock edge a full latch discards is lost (R18, R344). -/
def State.preOutput (s0 : State) (i : Nat) (bs : List (Nat × Bool)) : State :=
  let s := s0.noteOver i (bs.map (·.2))
  match s.preChan i with
  | none => s
  | some c =>
    let m := s.preDec i
    if bs.length ≠ 2 ^ m then s
    else if s.isFenced 8 6 then (if s.acquiring c then s.entryDrop c else s)
    else
      let (y, o) := preBits m (s.pre i) bs
      let s1 := (s.setPre i y).tallyAdd c 4 6 bs.length
      match o with
      | none => s1
      | some v =>
        if !s1.acquiring c then s1
        else
          match s1.latchFor (50 + i) c (s1.groupDelay i) with
          | (s2, none) => s2
          | (s2, some st) =>
            let s3 := if v.ovl then s2 else s2.logEnd 13 i 0x18
            s3.goodAcq { chan := c, comps := [v.v], gap := false, stale := false, degraded := false, sat := v.ovl || v.sat, late := false, stamp := st, g := none }
              (s3.stampVal c st)

/-- PRE_STAGE_OUTPUT: with the bits, each with the differential input in nV at it, and the excitation output's voltage in nV. A modulator without power, off or in its blank gives no
bits. Which bits it gives for an input is the modulator's noise shaping, which the spec does not state (log 74). -/
def execPreStageOutput (input f : Nat) (raw : List (Nat × Int)) (exc : Nat) (s : State) : Host.Outcome State Fault Refusal :=
  act (onlyIf (input < 24 && s.afePowered && bitAt (s.afeCfg input) 31) (fun u0 =>
    let u := u0.atF f
    let bs := raw.map (fun b => (b.1, u.ainOver input exc b.2))
    if u.afeRun input then u.preOutput input bs else u.noteOver input (bs.map (·.2)))) s

end Sys2Proof.Machine
end

