-- ==== Sys2Proof/Machine/Pan.lean ====
section
/-! DEFINITION. The Pan (spec 10): rings, records, tide marks, overtake, harvest. -/

namespace Sys2Proof.Machine

/-- The banks named in a PAN_CFG word, in ascending order (R297). -/
def panBanks (cfg : Word) : List Nat := (List.range 16).filter (fun k => bitAt cfg k)

/-- Words in a ring (R297). -/
def ringSize (cfg : Word) : Nat := 32768 * (panBanks cfg).length

/-- The window address of ring offset `o` (R297). -/
def ringAddr (cfg : Word) (o : Nat) : Nat :=
  0x22000000 + 0x20000 * (panBanks cfg).getD (o / 32768) 0 + 4 * (o % 32768)

/-- The word at a ring offset. -/
def State.ringWord (s : State) (cfg : Word) (o : Nat) : Word := s.rdWord (ringAddr cfg o)

/-- Write words into the ring from offset `o`, wrapping. -/
def State.ringWrite (s : State) (cfg : Word) : Nat → List Word → State
  | _, [] => s
  | o, w :: t => State.ringWrite (s.wrWord (ringAddr cfg o) w) cfg ((o + 1) % ringSize cfg) t

/-- The distance from offset `a` forward to offset `b` in a ring of `r` words. -/
def ringDist (r a b : Nat) : Nat := (b + r - a) % r

/-- FILL (R298). -/
def Stream.fill (x : Stream) (r : Nat) : Nat := ringDist r x.rp x.wp

/-- K, the oldest kept offset (R298). -/
def Stream.keep (x : Stream) : Nat := if x.markValid then x.mark else x.rp

/-- Free words (R297, R298). -/
def Stream.freeWords (x : Stream) (r : Nat) : Nat := r - 1 - ringDist r x.keep x.wp

/-- Is the stream enabled? -/
def State.streamOn (s : State) (n : Nat) : Bool := bitAt (s.app .panCfg n) 31

/-- Words of the record whose header is `h` (R301). -/
def recLen (h : Word) : Nat := bits h 22 16 + 2

/-- The offsets at which records start, from `o` up to WP; `fuel` bounds the number of records. -/
def State.recStarts (s : State) (cfg : Word) (wp : Nat) : Nat → Nat → List Nat
  | 0, o => [o]
  | fuel + 1, o =>
    if o = wp then [o] else o :: State.recStarts s cfg wp fuel ((o + recLen (s.ringWord cfg o)) % ringSize cfg)

/-- The watermark in words, `none` for none (R324). -/
def State.wmWords (s : State) (n : Nat) : Option Nat :=
  let w := s.afld .panWm n 9 0
  if w = 0 then none else some (min (256 * w) (ringSize (s.app .panCfg n) - 256))

/-- FILL has changed: the watermark source is raised when FILL has risen to the watermark, and is ready again below it (R324, R326). -/
def State.wmCheck (s : State) (n : Nat) : State :=
  let x := s.stream n
  match s.wmWords n with
  | none => s.setStream n { x with wmOn := false }
  | some w =>
    if w ≤ x.fill (ringSize (s.app .panCfg n)) then
      if x.wmOn then s
      else (s.setStream n { x with wmOn := true }).raise (128 + n) (bitAt (s.app .panCfg n) 27)
    else s.setStream n { x with wmOn := false }

/-- FILL has not risen: below the watermark the source is ready again (R324). -/
def State.wmReady (s : State) (n : Nat) : State :=
  let x := s.stream n
  match s.wmWords n with
  | none => s.setStream n { x with wmOn := false }
  | some w => if w ≤ x.fill (ringSize (s.app .panCfg n)) then s else s.setStream n { x with wmOn := false }

/-- RP advances to `rp`: the channel counts start again (R325) and the watermark may become ready (R324). -/
def State.advanceRp (s : State) (n rp : Nat) : State :=
  if (s.stream n).rp = rp then s
  else (s.modStream n (fun x => { x with rp := rp, counts := [] })).wmReady n

/-- The hub is DIVERGENT, or stale and treated so (R409, R410). -/
def State.isDivergent (s : State) : Bool := s.slt.diverged || s.slt.stale

/-- The header of R301. -/
def recHeader (type stream len : Nat) (fl : OutFlags) (epoch far : Bool) (chan : Nat) : Word :=
  w32 (type * 2 ^ 28 + stream * 2 ^ 23 + len * 2 ^ 16 + b2n fl.unsettled * 2 ^ 15 + b2n fl.stale * 2 ^ 14 + b2n fl.late * 2 ^ 13 +
    b2n fl.gap * 2 ^ 12 + b2n fl.degraded * 2 ^ 11 + b2n fl.sat * 2 ^ 10 + b2n epoch * 2 ^ 9 + b2n far * 2 ^ 8 + chan)

/-- Write a record at WP and advance WP and SEQ (R311); a run of HOLD drops ends. Words are tallied to `c` (R452). -/
def State.commitRec (s : State) (n c : Nat) (words : List Word) : State :=
  let cfg := s.app .panCfg n
  let x := s.stream n
  let s1 := s.ringWrite cfg x.wp words
  let s2 := s1.setStream n { x with wp := (x.wp + words.length) % ringSize cfg, seq := (x.seq + 1) % 2 ^ 32, holding := false }
  ((s2.logEnd 4 n 0x29).tallyAdd c 7 8 words.length).wmCheck n

/-- A tide mark's payload (R306): every timebase and epoch at this instant, SEQ and LOST. -/
def State.tidePayload (s : State) (n cause : Nat) : List Word :=
  let x := s.stream n
  let valid := 1 + b2n (s.tbSet 1) * 2 + b2n (s.tbSet 2) * 4 + b2n (s.tbSet 3) * 8
  [w32 (valid * 2 ^ 8 + s.afld .panCfg n 29 28 * 2 ^ 4 + cause)] ++
  pairOf (s.tbNow 0) ++ pairOf (s.tbNow 1) ++ pairOf (s.tbNow 2) ++ pairOf (s.tbNow 3) ++
  [w32 (s.tbEpoch 3 * 2 ^ 24 + s.tbEpoch 2 * 2 ^ 16 + s.tbEpoch 1 * 2 ^ 8), w32 x.seq, w32 (satAt (2 ^ 32 - 1) x.lost)]

/-- A valid PAN_TIDE code applies at the next tide mark; the others are refused (R299, PAN_TIDE). -/
def State.applyTideCfg (s : State) : State :=
  let v := s.reg .panTide 0
  if v = s.app .panTide 0 then s
  else if bits v 2 0 ≤ 4 then s.setApp .panTide 0 v
  else (s.setReg .panTide 0 (s.app .panTide 0)).evt .panEvt 0 4

/-- Commit a tide mark of whatever cause (R306); PAN_TIDE applies at it (R299). -/
def State.commitTide (s0 : State) (n cause : Nat) : State :=
  let s := s0.applyTideCfg
  let tb := s.afld .panCfg n 29 28
  let v := s.tbNow tb
  let pay := s.tidePayload n cause
  let fl := { OutFlags.none with degraded := s.isDivergent }
  let s1 := s.commitRec n 192 ([recHeader 4 n 12 fl false false 0, w32 v] ++ pay)
  s1.modStream n (fun x => { x with tide := v, tideEpoch := s.tbEpoch tb, lost := 0, resumeOwed := false })

/-- The words of an item as the Pan writer commits it (R301, R302, R305, R308, R316, R409). -/
def State.recWords (s : State) (n : Nat) (it : PanItem) : List Word :=
  let tb := s.afld .panCfg n 29 28
  let x := s.stream n
  let same := tb == it.tb
  let stamp : Nat :=
    if !s.tbSet tb then 0
    else if same || (it.stamp == 0 && !s.tbSet it.tb) then it.stamp
    else ((((it.stamp : Int) * 2 ^ 32 + s.tbFine tb - s.tbFine it.tb + 2 ^ 31) / 2 ^ 32) % 2 ^ 64).toNat
  let far := decide (signedOf 64 stamp + 2 ^ 30 < signedOf 64 x.tide)
  let epoch := same && tb ≠ 0 && (it.epoch + 1) % 256 == x.tideEpoch && it.epoch ≠ x.tideEpoch
  let fl := { it.flags with gap := it.flags.gap || x.gaps.contains it.chan || x.gaps.contains 192, degraded := it.flags.degraded || s.isDivergent }
  [recHeader it.type n (it.payload.length + b2n far) fl epoch far it.chan, w32 stamp] ++
    (if far then [w32 (stamp / 2 ^ 32)] else []) ++ it.payload

/-- Count `k` records of the stream as lost since the previous tide mark. -/
def State.addLost (s : State) (n k : Nat) : State := s.modStream n (fun x => { x with lost := x.lost + k })

/-- OVERWRITE makes room for `need` words (R314): the mark is lost, then RP moves to the first tide mark after the words needed, or to WP. The Bool says that
RP moved to WP, so that a RESUME tide mark comes first. -/
def State.makeRoom (s : State) (n need : Nat) : State × Bool :=
  let cfg := s.app .panCfg n
  let r := ringSize cfg
  let x := s.stream n
  let s1 := if x.markValid then
      ((s.setStream n { x with markValid := false, markLost := true }).evt .panEvt 0 0).logErr 4 n 0x28
    else s
  let x1 := s1.stream n
  let short := need - x1.freeWords r
  if short = 0 then (s1, false)
  else
    let starts := s1.recStarts cfg x1.wp (x1.fill r) x1.rp
    let ok := fun o => o ≠ x1.wp && decide (short ≤ ringDist r x1.rp o) && bits (s1.ringWord cfg o) 31 28 == 4
    let rp := (starts.find? ok).getD x1.wp
    let passed := (starts.filter (fun o => o ≠ x1.wp && decide (ringDist r x1.rp o < (if rp = x1.wp then r else ringDist r x1.rp rp)))).length
    (((s1.advanceRp n rp).countFault .panDrop n 15 0 passed).addLost n passed, rp == x1.wp)

/-- HOLD drops a record, or a fenced stream discards it (R314, R316, R335): `held` marks the HOLD case. -/
def State.dropRec (s : State) (n : Nat) (it : Option PanItem) (hold : Bool) : State :=
  let s1 := (s.countFault .panDrop n 31 16 1).addLost n 1
  let s2 := s1.modStream n (fun x => { x with
    holding := x.holding || hold, resumeOwed := true,
    gaps := match it with
      | some i => if x.gaps.contains i.chan then x.gaps else x.gaps ++ [i.chan]
      | none => x.gaps })
  if hold then (s2.evt .panEvt 0 1).logErr 4 n 0x29 else s2.errIn 4 n 0x29

/-- A record of a channel has been committed: its GAP is paid, as is the GAP owed to the stream's first record (192, R48), and the channel watermark may be reached, in
the stream that W12 names (R316, R325). -/
def State.countRec (s : State) (n : Nat) (it : PanItem) : State :=
  let c := it.chan
  let k := (s.stream n).counts.get (fun _ => 0) c + 1
  let s1 := s.modStream n (fun x => { x with gaps := (x.gaps.erase c).erase 192, counts := x.counts.set (fun _ => 0) c k })
  let w12 := s.desc c 12
  if bits w12 20 16 = n && bits w12 15 0 ≠ 0 && bits w12 15 0 == k then s1.raise (160 + n) (bitAt w12 23) else s1

/-- The stream behind the RESUME tide mark that it owes: FAR is decided against that mark (R308). -/
def State.resumed (s : State) (n : Nat) : State :=
  if (s.stream n).resumeOwed then s.modStream n (fun x => { x with tide := s.tbNow (s.afld .panCfg n 29 28) }) else s

/-- Commit an item of a stream under the overtake policy (R314 to R316); `pre` is the size of a RESUME tide mark owed before it. -/
def State.putItem (s : State) (n : Nat) (it : PanItem) : State :=
  let cfg := s.app .panCfg n
  let r := ringSize cfg
  let len := ((s.resumed n).recWords n it).length
  let need := len + (if (s.stream n).resumeOwed then 14 else 0)
  let fits := decide (need ≤ (s.stream n).freeWords r)
  if bitAt cfg 30 && !fits then s.dropRec n (some it) true
  else
    let (s1, resume) := if fits then (s, false) else s.makeRoom n need
    let s2 := if resume || (s1.stream n).resumeOwed then s1.commitTide n 4 else s1
    (s2.commitRec n it.chan (s2.recWords n it)).countRec n it

/-- Commit a tide mark of an enabled stream under the overtake policy (R314 to R316). A fenced stream commits none (R335). -/
def State.putTide (s : State) (n cause : Nat) : State :=
  if !s.streamOn n || s.isFenced 8 8 then s
  else if s.isFenced 4 n then s.dropRec n none false
  else
    let cfg := s.app .panCfg n
    let fits := decide (14 ≤ (s.stream n).freeWords (ringSize cfg))
    if bitAt cfg 30 && !fits then s.dropRec n none true
    else
      let (s1, resume) := if fits then (s, false) else s.makeRoom n 14
      let s2 := if resume then s1.commitTide n 4 else s1
      s2.commitTide n cause

/-- A tide mark on every enabled stream (R307). -/
def State.tideAll (s : State) (cause : Nat) : State :=
  s.enabledStreams.foldl (fun u n => u.putTide n cause) s

/-- The tide interval in units of 1/64 ns (PAN_TIDE). -/
def State.tideInterval (s : State) : Nat := 125000000 * 64 * 2 ^ s.afld .panTide 0 2 0

/-- The record's stream is not enabled: it is discarded and counted (R304), a seed record also under R254. -/
def State.noStream (s : State) (it : PanItem) : State :=
  let s1 := (s.countFault .panFifocnt 0 31 24 1).evt .panEvt 0 2
  if it.type = 2 then (s1.evt .cryEvt 0 2).countFault .cryCnt 0 31 16 1 else s1

/-- The Pan writer commits one item (R304, R311, R335). -/
def State.putRecord (s : State) (it : PanItem) : State :=
  if !s.streamOn it.stream then s.noStream it
  else if s.isFenced 4 it.stream then s.dropRec it.stream (some it) false
  else s.putItem it.stream it

/-- Words an item takes in the FIFO: header, stamp and payload (log 20). -/
def PanItem.size (it : PanItem) : Nat := it.payload.length + 2

/-- Words in the Tower-to-Pan FIFO. -/
def State.panFifoWords (s : State) : Nat := (s.pan.fifo.map PanItem.size).sum

/-- Does an item still fit in the 64 stages? -/
def State.panFifoRoom (s : State) (it : PanItem) : Bool := decide (s.panFifoWords + it.size ≤ 64)

/-- Put an item into the FIFO. -/
def State.panPush (s : State) (it : PanItem) : State := { s with pan := { s.pan with fifo := s.pan.fifo ++ [it] } }

/-- PAN_COMMIT (R311): the Pan writer takes the oldest item of the FIFO. Nothing happens with an empty FIFO or in a floor; with PD8 fenced every stream is, and discards its records (R335, R565). -/
def State.panCommit (s : State) : State :=
  match s.pan.fifo with
  | [] => s
  | it :: t => if s.pwr.floor ≠ 0 then s else ({ s with pan := { s.pan with fifo := t } }).putRecord it

/-- PAN_COMMIT. -/
def execPanCommit (s : State) : Host.Outcome State Fault Refusal := act State.panCommit s

/-- TIDE_INTERVAL (R307): at, or within 10 ms of, an instant at which TB0 is a multiple of the interval, every enabled stream gets a tide mark. -/
def State.tideTick (s : State) : State :=
  onlyIf (s.pwr.floor = 0 && decide (s.tb0u % s.tideInterval ≤ 10000000 * 64)) (fun u => u.tideAll 0) s

/-- TIDE_INTERVAL. -/
def execTideInterval (s : State) : Host.Outcome State Fault Refusal := act State.tideTick s

/-- May `new` be applied to PAN_CFGn over the applied word (R299)? -/
def State.panCfgOk (s : State) (n : Nat) (new : Word) : Bool :=
  let old := s.app .panCfg n
  let on := bitAt old 31
  let same := bits old 15 0 == bits new 15 0 && bits old 29 28 == bits new 29 28
  let taken := (s.enabledStreams.filter (· ≠ n)).any (fun m => bits (s.app .panCfg m &&& new) 15 0 ≠ 0)
  (!on || same) && !(bitAt new 31 && bits new 15 0 == 0) && !(bitAt new 31 && !on && taken)

/-- Clear the banks of a PAN_CFG word: an unpowered bank reads as 0 (R300). -/
def State.clearBanks (s : State) (cfg : Word) : State :=
  (panBanks cfg).foldl (fun u b => u.clearMem (0x22000000 + 0x20000 * b) (0x22000000 + 0x20000 * (b + 1))) s

/-- A stream's boundary: PAN_CFGn and PAN_WMn apply; enabling starts the ring with an ENABLE tide mark, disabling discards it (R299, R300). -/
def State.applyPanCfg (s : State) (n : Nat) : State :=
  let old := s.app .panCfg n
  let new := s.reg .panCfg n
  let s0 := s.setApp .panWm n (s.reg .panWm n)
  if new = old then s0.wmReady n
  else if !s.panCfgOk n new then (s0.setReg .panCfg n old).evt .panEvt 0 4
  else
    let s1 := s0.setApp .panCfg n new
    if bitAt new 31 && !bitAt old 31 then (s1.setStream n { Stream.reset with markLost := (s.stream n).markLost }).putTide n 1
    else if bitAt old 31 && !bitAt new 31 then
      let x := s.stream n
      (s1.clearBanks old).setStream n { x with wp := 0, rp := 0, mark := 0, markValid := false, counts := [], wmOn := false }
    else s1.wmReady n

/-- A write of PAN_RPn (R320): accepted when the offset lies from RP to WP and starts a record; otherwise BAD_RP. -/
def State.panRpWrite (s : State) (n v : Nat) : State :=
  let cfg := s.app .panCfg n
  let x := s.stream n
  if s.streamOn n && (s.recStarts cfg x.wp (x.fill (ringSize cfg)) x.rp).contains v then s.advanceRp n v
  else s.evt .panEvt 0 3

/-- DROP_PACKET (R313): the item that the Pan writer is consuming, which is the oldest one, is discarded and its words counted. -/
def State.panDropPacket (s : State) : State :=
  match s.pan.fifo with
  | [] => s
  | it :: t => ({ s with pan := { s.pan with fifo := t } }).countFault .panFifocnt 0 11 0 it.size

/-- Every record of the stream is discarded and counted (R328, R333). -/
def State.discardAll (s : State) (n : Nat) : State :=
  let cfg := s.app .panCfg n
  let x := s.stream n
  let k := (s.recStarts cfg x.wp (x.fill (ringSize cfg)) x.rp).length - 1
  (s.countFault .panDrop n 15 0 k).addLost n k

/-- What reserve hold does to the Pan, and the loss of its banks (R328): every record is discarded; the first record after it is preceded by a tide mark (R309). -/
def State.panReserveHold (s : State) : State :=
  s.enabledStreams.foldl (fun u n =>
    (u.discardAll n).modStream n (fun x => { x with rp := 0, wp := 0, counts := [], wmOn := false, markLost := x.markLost || x.markValid, markValid := false, resumeOwed := true })) s

/-- What STANDBY does to the Pan (R327): pointers and marks go, SEQ counts on, the banks lose power. -/
def State.panStandby (s : State) : State :=
  s.enabledStreams.foldl (fun u n =>
    (u.clearBanks (u.app .panCfg n)).modStream n (fun x => { x with rp := 0, wp := 0, mark := 0, markValid := false, counts := [], wmOn := false })) s

/-! ### Opcodes (R329 to R335) -/

/-- The checks of R335 on a stream: PD8 fenced, the stream fenced, and for three opcodes the stream enabled. -/
def State.panAllow (s : State) (n : Nat) (mustBeOn : Bool) : Nat :=
  firstStatus [(s.isFenced 8 8, stDomainOff), (s.isFenced 4 n, stFenced), (mustBeOn && !s.streamOn n, stNotPermitted)]

/-- PAN_STREAM_CFG (R330): between two commands no record is being committed, so the stream is at its boundary. -/
def opPanStreamCfg : OpDef where
  code := 0x20
  priv := 1
  async := false
  lenOk := fun n _ => n == 4
  valid := fun s c => c.fld 0 31 5 == 0 && c.fld 1 26 16 == 0 && c.fld 2 31 10 == 0 && c.fld 2 9 0 ≤ 512 && c.word 3 == 0 && s.panCfgOk (c.fld 0 4 0) (c.word 1)
  allow := fun s c => s.panAllow (c.fld 0 4 0) false
  run := fun s c =>
    let n := c.fld 0 4 0
    ((((s.setReg .panCfg n (c.word 1)).setReg .panWm n (c.word 2)).modUnit (211 + n) (fun u => { u with dirty := true })).applyPanCfg n, 0, [])

/-- The whole records from offset `o` that fit in `max` words: the words and the offset after them (R331). -/
def State.harvest (s : State) (cfg : Word) (wp : Nat) : Nat → Nat → Nat → List Word × Nat
  | 0, _, o => ([], o)
  | fuel + 1, max, o =>
    let len := recLen (s.ringWord cfg o)
    if o = wp || max < len then ([], o)
    else
      let ws := (List.range len).map (fun k => s.ringWord cfg ((o + k) % ringSize cfg))
      let (t, e) := State.harvest s cfg wp fuel (max - len) ((o + len) % ringSize cfg)
      (ws ++ t, e)

/-- The offset at which a HARVEST starts. -/
def State.harvestStart (s : State) (c : Call) : Nat := if bitAt (c.word 1) 31 then (s.stream (c.fld 0 4 0)).rp else c.fld 1 18 0

/-- HARVEST (R321, R331). -/
def opHarvest : OpDef where
  code := 0x21
  priv := 0
  async := false
  lenOk := fun n _ => n == 3
  valid := fun _ c => c.fld 0 31 9 == 0 && c.fld 0 7 5 == 0 && c.fld 1 30 19 == 0 && (!bitAt (c.word 1) 31 || c.fld 1 18 0 == 0) &&
    c.fld 2 31 6 == 0 && 1 ≤ c.fld 2 5 0 && c.fld 2 5 0 ≤ 62
  allow := fun s c =>
    let n := c.fld 0 4 0
    let cfg := s.app .panCfg n
    let x := s.stream n
    let st := s.panAllow n true
    if st ≠ 0 then st
    else if (s.recStarts cfg x.wp (ringDist (ringSize cfg) x.keep x.wp) x.keep).contains (s.harvestStart c) then 0 else stBadParam
  run := fun s c =>
    let n := c.fld 0 4 0
    let cfg := s.app .panCfg n
    let x := s.stream n
    let (ws, e) := s.harvest cfg x.wp 62 (c.fld 2 5 0) (s.harvestStart c)
    let r := ringSize cfg
    let s1 := if bitAt (c.word 0) 8 && decide (ringDist r x.keep x.rp < ringDist r x.keep e) then s.advanceRp n e else s
    (s1, 0, w32 (ws.length * 2 ^ 26 + e) :: ws)

/-- PAN_MARK (R323, R332). -/
def opPanMark : OpDef where
  code := 0x22
  priv := 0
  async := false
  lenOk := fun n _ => n == 1
  valid := fun _ c => c.fld 0 31 9 == 0 && c.fld 0 7 5 == 0
  allow := fun s c => s.panAllow (c.fld 0 4 0) true
  run := fun s c =>
    let n := c.fld 0 4 0
    let clear := bitAt (c.word 0) 8
    let s1 := (s.modStream n (fun x => { x with markValid := !clear, mark := if clear then x.mark else x.rp, markLost := false })).logEnd 4 n 0x28
    let x := s1.stream n
    (s1, 0, [w32 (b2n x.markValid * 2 ^ 31 + x.mark), w32 x.wp])

/-- PAN_REWIND (R323, R332): FILL rises when RP moves back, so the watermark may be reached. -/
def opPanRewind : OpDef where
  code := 0x23
  priv := 0
  async := false
  lenOk := fun n _ => n == 1
  valid := fun _ c => c.fld 0 31 5 == 0
  allow := fun s c => s.panAllow (c.fld 0 4 0) true
  run := fun s c =>
    let n := c.fld 0 4 0
    let x := s.stream n
    let s1 := if x.markValid then (s.setStream n { x with rp := x.mark }).wmCheck n else s
    (s1, 0, [w32 (b2n (!x.markValid) * 2 ^ 31 + (s1.stream n).rp)])

/-- A flush of the FIFO's items that `p` picks, counted in FLUSHED; answers the words discarded (R312). -/
def State.flushItems (s : State) (p : PanItem → Bool) : State × Nat :=
  let k := ((s.pan.fifo.filter p).map PanItem.size).sum
  (({ s with pan := { s.pan with fifo := s.pan.fifo.filter (fun i => !p i) } }).countFault .panFifocnt 0 23 12 k, k)

/-- PAN_FLUSH (R333). -/
def opPanFlush : OpDef where
  code := 0x24
  priv := 1
  async := false
  lenOk := fun n _ => n == 1
  valid := fun _ c => c.fld 0 31 6 == 0 && c.fld 0 5 0 ≤ 32
  allow := fun s c => firstStatus [(s.isFenced 8 8, stDomainOff), (c.fld 0 5 0 < 32 && s.isFenced 4 (c.fld 0 5 0), stFenced)]
  run := fun s c =>
    let n := c.fld 0 5 0
    if n = 32 then
      let (s1, k) := s.flushItems (fun _ => true)
      (s1, 0, [w32 k])
    else
      let (s1, k) := s.flushItems (fun i => i.stream == n)
      let s2 := if s1.streamOn n then (s1.discardAll n).advanceRp n (s1.stream n).wp else s1
      (s2.modStream n (fun x => { x with markValid := false }), 0, [w32 k])

/-- PAN_STATUS (R334). -/
def opPanStatus : OpDef where
  code := 0x25
  priv := 0
  async := false
  lenOk := fun n _ => n == 1
  valid := fun _ c => c.fld 0 31 5 == 0
  allow := fun s c => s.panAllow (c.fld 0 4 0) false
  run := fun s c =>
    let n := c.fld 0 4 0
    let cfg := s.app .panCfg n
    let x := s.stream n
    (s, 0, [w32 (bits cfg 31 28 * 2 ^ 28 + b2n x.markValid * 2 ^ 27 + b2n x.markLost * 2 ^ 26 + b2n x.holding * 2 ^ 25 + bits cfg 15 0),
      w32 x.wp, w32 x.rp, w32 x.mark, w32 (x.fill (ringSize cfg)), w32 x.seq])

end Sys2Proof.Machine
end

