-- ==== Sys2Proof/Machine/Flags.lean ====
section
/-! DEFINITION. The flags that samples, outputs and records carry (spec 07, R223; spec 08, R249; spec 10, R301). -/

namespace Sys2Proof.Machine

/-- The union of two sets of flags. -/
def OutFlags.union (a b : OutFlags) : OutFlags :=
  ⟨a.unsettled || b.unsettled, a.gap || b.gap, a.stale || b.stale, a.degraded || b.degraded, a.late || b.late, a.sat || b.sat, a.first || b.first⟩

/-- The flags of R409: a hub that is DIVERGENT marks what it sends. -/
def OutFlags.degrade (a : OutFlags) (d : Bool) : OutFlags := { a with degraded := a.degraded || d }

end Sys2Proof.Machine
end

