-- ==== Sys2Proof/Machine/Emit.lean ====
section
/-! DEFINITION. What a Salter service gives out (spec 09, R266 to R271): its output samples as samples of a VIRTUAL channel, and the instructions it costs. -/

namespace Sys2Proof.Machine

/-- Is the instance fenced (R562)? -/
def State.svcFenced (s : State) (i : Nat) : Bool := s.isFenced 3 (16 * (svcCode i).1 + (svcCode i).2)

/-- The enabled VIRTUAL channel that names an instance (R267, R271): its applied descriptor has ENABLE 1 in every state but OFF (R125). -/
def State.virtualChan (s : State) (i : Nat) : Option Nat :=
  (List.range 192).find? (fun c => (s.chan c).state ≠ 0 && (s.ad c).kind == 22 && (s.ad c).service == svcCode i)

/-- Service instructions, charged to `c` (R271, R290). -/
def State.svcWorkFor (s : State) (i c k : Nat) : State :=
  (s.modSvcInst i (fun x => { x with instrNow := x.instrNow + k })).tallyAdd c 0 2 k

/-- Service instructions charged to the VIRTUAL channel, or to the common account (R271). -/
def State.svcWork (s : State) (i k : Nat) : State := s.svcWorkFor i ((s.virtualChan i).getD 192) k

/-- A stamp of timebase `k`, converted to timebase `t` as R302 converts one. -/
def State.convStamp (s : State) (v k t : Nat) : Nat :=
  if !s.tbSet t then 0
  else if k = t || (v == 0 && !s.tbSet k) then v
  else ((((v : Int) * 2 ^ 32 + s.tbFine t - s.tbFine k + 2 ^ 31) / 2 ^ 32) % 2 ^ 64).toNat

/-- Where a service output's stamp comes from (R269): the instant itself, or an input's stamp with its timebase and the epoch in which it was composed. -/
structure SvcStamp where
  val : Nat
  tb : Nat
  epoch : Nat
  deriving DecidableEq, Repr

/-- An output sample of an instance (R266 to R270): counted, and accepted as a sample of its VIRTUAL channel where one runs. A fenced instance emits nothing. -/
def State.svcEmit (s : State) (i : Nat) (comps : List Int) (fl : OutFlags) (st : Option SvcStamp) : State :=
  if s.svcFenced i then s
  else
    let x := s.svcInst i
    let s1 := s.setSvcInst i { x with outputs := (x.outputs + 1) % 2 ^ 32, gapOwed := false }
    match s1.virtualChan i with
    | none => s1
    | some c =>
      if !s1.acquiring c then s1
      else
        let t := (s1.ad c).tb
        let stamp : Stamp := match st with
          | none => s1.stampNow c
          | some v => Stamp.at (s1.convStamp v.val v.tb t) (if v.tb = t then v.epoch else s1.tbEpoch t)
        s1.goodAcq { chan := c, comps := (comps.take (s1.ad c).ncomp).map (satW 24), gap := fl.gap || x.gapOwed, stale := fl.stale,
                     degraded := fl.degraded, sat := fl.sat, late := fl.late, stamp := stamp, g := none, unsettled := fl.unsettled } stamp.val

/-- A TIME event (R287): code, argument, epoch and offset in ns, stamped now. -/
def State.timeEvent (s : State) (code : Nat) (arg : Int) (epoch : Nat) (offs : Int) : State :=
  if s.svcFenced 26 || !bitAt (s.svcWord 26 0) 31 then s
  else (s.svcWork 26 400).svcEmit 26 [code, arg, epoch, max (-(2 ^ 23 - 1)) (min (2 ^ 23 - 1) offs)] OutFlags.none none

end Sys2Proof.Machine
end

