-- ==== Sys2Proof/Machine/Calendar.lean ====
section
/-! DEFINITION. The calendar (spec 16, R501 to R505): dates, local time, leap seconds, alarms, and its opcodes. -/

namespace Sys2Proof.Machine

/-! ### Dates from 2000 to 2199 -/

/-- Is year 2000 + `y` a leap year? -/
def leapYear (y : Nat) : Bool := y % 4 = 0 && y ≠ 100

/-- Days of a month, 1 to 12. -/
def monthDays (y m : Nat) : Nat :=
  match m with
  | 2 => if leapYear y then 29 else 28
  | 4 | 6 | 9 | 11 => 30
  | _ => 31

/-- Days from 2000-01-01 to the first day of year 2000 + `y`. -/
def yearStart (y : Nat) : Nat := 365 * y + (y + 3) / 4 - (if 100 < y then 1 else 0)

/-- Days from the first day of the year to the first day of month `m`. -/
def monthStart (y m : Nat) : Nat := ((List.range (m - 1)).map (fun k => monthDays y (k + 1))).sum

/-- The number of a day, 0 for 2000-01-01. -/
def dayOf (y m d : Nat) : Nat := yearStart y + monthStart y m + (d - 1)

/-- Year, month and day of a day number. -/
def dateOf (n : Nat) : Nat × Nat × Nat :=
  let y0 := n / 366
  let y := ((List.range 3).map (fun k => y0 + k)).foldl (fun a b => if yearStart b ≤ n then b else a) y0
  let r := n - yearStart y
  let m := ((List.range 12).map (· + 1)).foldl (fun a b => if monthStart y b ≤ r then b else a) 1
  (y, m, r - monthStart y m + 1)

/-- The weekday of a day, 0 Sunday: 2000-01-01 was a Saturday. -/
def weekday (n : Nat) : Nat := (n + 6) % 7

/-- The date and time fields of CAL_SET words 0 and 1 name a date that exists (R506). -/
def dateOk (w0 : Word) (sec : Nat) : Bool :=
  let y := bits w0 31 24
  let m := bits w0 23 20
  y < 200 && 1 ≤ m && m ≤ 12 && 1 ≤ bits w0 19 15 && bits w0 19 15 ≤ monthDays y m && bits w0 14 10 < 24 && bits w0 9 4 < 60 && bits w0 3 0 == 0 && sec < 60

/-- UTC seconds of those fields. -/
def secondsOf (w0 : Word) (sec : Nat) : Nat :=
  dayOf (bits w0 31 24) (bits w0 23 20) (bits w0 19 15) * 86400 + bits w0 14 10 * 3600 + bits w0 9 4 * 60 + sec

/-- The fields of a second as CAL_SET word 0 lays them out. -/
def dateWord (t : Nat) : Word :=
  let (y, m, d) := dateOf (t / 86400)
  w32 (y * 2 ^ 24 + m * 2 ^ 20 + d * 2 ^ 15 + t / 3600 % 24 * 2 ^ 10 + t / 60 % 60 * 2 ^ 4)

/-- The last second the calendar counts, 2199-12-31 23:59:59 (R501). -/
def calendarEnd : Nat := yearStart 200 * 86400 - 1

/-! ### Local time (R502) -/

/-- The second, on the local standard clock, at which a rule falls in the year of local standard second `t`. -/
def ruleAt (rule : Word) (y : Nat) : Nat :=
  let m := bits rule 31 28
  let first := dayOf y m 1
  let d0 := (bits rule 24 22 + 7 - weekday first) % 7
  let want := d0 + 7 * (bits rule 27 25 - 1)
  let d := if want < monthDays y m then want else want - 7
  (first + d) * 86400 + bits rule 21 17 * 3600

/-- Local standard time. -/
def Calendar.standard (c : Calendar) (t : Nat) : Nat := ((t : Int) + c.offset * 900).toNat

/-- Is summer time in force at UTC second `t`? Without an end rule it lasts to the end of the year (DEDUCED, log 47). -/
def Calendar.summer (c : Calendar) (t : Nat) : Bool :=
  let l := c.standard t
  let y := (dateOf (l / 86400)).1
  if bits c.dstStart 31 28 = 0 then false
  else
    let a := ruleAt c.dstStart y
    if bits c.dstEnd 31 28 = 0 then decide (a ≤ l)
    else
      let b := ruleAt c.dstEnd y
      if a ≤ b then decide (a ≤ l) && decide (l < b) else decide (a ≤ l) || decide (l < b)

/-- Local time at UTC second `t`. -/
def Calendar.localAt (c : Calendar) (t : Nat) : Nat := c.standard t + (if c.summer t then c.shift * 60 else 0)

/-! ### Alarms (R504) -/

/-- Does the alarm match UTC second `t`? -/
def Calendar.alarmAt (c : Calendar) (a : Alarm) (t : Nat) : Bool :=
  let w := dateWord (if bitAt a.w0 3 then c.localAt t else t)
  let same := fun (ign hi lo : Nat) => bitAt a.w2 ign || bits w hi lo == bits a.w1 hi lo
  bitAt a.w0 2 && bits a.w2 31 26 == t % 60 && same 25 31 24 && same 24 23 20 && same 23 19 15 && same 22 14 10 && same 21 9 4

/-- Does the alarm match a second after `a` and up to `b`? One second of each minute can match. -/
def Calendar.alarmIn (c : Calendar) (al : Alarm) (a b : Nat) : Bool :=
  bitAt al.w0 2 && (List.range (b / 60 + 1 - a / 60)).any (fun k =>
    let t := (a / 60 + k) * 60 + bits al.w2 31 26
    decide (a < t) && decide (t ≤ b) && c.alarmAt al t)

/-- Alarm `n`. -/
def State.alarm (s : State) (n : Nat) : Alarm := s.cal.alarms.get (fun _ => Alarm.reset) n

/-- Alarm `n` fires (R504, R510, R526): its shared source, a TIME event, event output 480 + n, and in a floor the wake. -/
def State.alarmFire (s : State) (n : Nat) : State :=
  (((s.raise (219 + n) (bitAt (s.alarm n).w2 20)).timeEvent 1 n 0 0).raiseEvent (480 + n) 0).wakeBy 6

/-- Change the calendar. -/
def State.modCal (s : State) (f : Calendar → Calendar) : State := { s with cal := f s.cal }

/-- Summer time follows the present second: a change is a TIME event (R502). -/
def State.calDst (s : State) : State :=
  let d := s.cal.summer s.cal.utc
  if d = s.cal.dst then s else (s.modCal (fun c => { c with dst := d })).timeEvent 7 (b2n d) 0 0

/-- A new second begins: summer time, then the alarms that match it. -/
def State.calBegin (s : State) : State :=
  let s1 := s.calDst
  (List.range 4).foldl (fun u n => if u.cal.alarmAt (u.alarm n) u.cal.utc then u.alarmFire n else u) s1

/-- The calendar moves from `old` to the present second: an alarm in between fires once (R504). -/
def State.calMoved (s : State) (old : Nat) : State :=
  let s1 := s.calDst
  (List.range 4).foldl (fun u n => if u.cal.alarmIn (u.alarm n) old u.cal.utc then u.alarmFire n else u) s1

/-! ### Seconds (R501, R503) -/

/-- The timebase the calendar follows; 0 where it counts by itself (R501). -/
def State.calSource (s : State) : Nat := if bitAt (s.app .tbUtc 0) 31 then s.afld .tbUtc 0 25 24 else 0

/-- Is the change of LEAP that R503 expects still awaited? -/
def State.leapAdj (s : State) : Int :=
  match s.cal.leapExp with
  | some (l, a) => if l = s.afld .tbUtc 0 7 0 then a else 0
  | none => 0

/-- UTC seconds by the timebase the calendar follows (R501), with the change of LEAP that is expected. -/
def State.calByTb (s : State) : Nat :=
  min calendarEnd (((s.tbNow s.calSource / 1000000000 : Nat) : Int) - signedOf 8 (s.afld .tbUtc 0 7 0) - s.leapAdj).toNat

/-- LEAP_ADD or LEAP_DEL acts at the end of this UTC day, and has not acted yet. -/
def State.leapDue (s : State) (b : Nat) : Bool := bitAt (s.app .tbUtc 0) b && s.leapAdj = 0

/-- A leap second has been inserted or omitted: in the TB0 mode the flag is cleared and LEAP adjusted; otherwise the change is expected (R503). -/
def State.leapDone (s : State) (d : Int) : State :=
  let l := s.afld .tbUtc 0 7 0
  if s.calSource ≠ 0 then s.modCal (fun c => { c with leapExp := some (l, d) })
  else
    let put := fun w => setBits (setBits (setBits w 30 30 0) 29 29 0) 7 0 (((l : Int) + d + 256) % 256).toNat
    let s1 := (s.setReg .tbUtc 0 (put (s.reg .tbUtc 0))).setApp .tbUtc 0 (put (s.app .tbUtc 0))
    s1.timeEvent 6 (sbits (s1.app .tbUtc 0) 7 0) 0 0

/-- The calendar counts one second on. -/
def State.calTick (s : State) : State :=
  let t := s.cal.utc
  if s.cal.inLeap then (s.modCal (fun c => { c with utc := min calendarEnd (t + 1), inLeap := false })).calBegin
  else if t % 86400 = 86399 && s.leapDue 30 then (s.leapDone 1).modCal (fun c => { c with inLeap := true })
  else if t % 86400 = 86398 && s.leapDue 29 then ((s.leapDone (-1)).modCal (fun c => { c with utc := min calendarEnd (t + 2) })).calBegin
  else (s.modCal (fun c => { c with utc := min calendarEnd (t + 1) })).calBegin

/-- CALENDAR_SECOND (R501): 32,768 ticks after the last one, or by the timebase the calendar follows. A timebase that has moved by more than one second moves the
calendar at once. -/
def State.calSecond (s : State) : State :=
  if s.calSource = 0 then
    if !s.cal.valid || (s.tick : Int) < s.cal.mark + 32768 then s else (s.modCal (fun c => { c with mark := c.mark + 32768 })).calTick
  else
    let t := s.calByTb
    let s1 := s.modCal (fun c => { c with mark := s.tick })
    if !s.cal.valid then (s1.modCal (fun c => { c with valid := true, utc := t, inLeap := false })).calBegin
    else if t = s.cal.utc then s
    else if t = s.cal.utc + 1 then s1.calTick
    else (s1.modCal (fun c => { c with utc := t, inLeap := false })).calMoved s.cal.utc

/-- CALENDAR_SECOND. -/
def execCalendarSecond (s : State) : Host.Outcome State Fault Refusal :=
  act (onlyIf (s.pwr.phase = 1 || s.pwr.phase = 2) State.calSecond) s

/-- A change of the calendar's source, or of LEAP, takes effect (R504). -/
def State.calResource (s : State) : State :=
  if s.calSource = 0 || s.calByTb = s.cal.utc then s
  else if !s.cal.valid then s.modCal (fun c => { c with valid := true, utc := s.calByTb, inLeap := false })
  else (s.modCal (fun c => { c with utc := s.calByTb, inLeap := false })).calMoved s.cal.utc

/-! ### Opcodes (R506 to R508) -/

/-- A DST rule's fields are in range. -/
def ruleOk (v : Word) : Bool :=
  v == 0 || (bits v 16 0 == 0 && bits v 31 28 ≤ 12 && (bits v 31 28 == 0 || (1 ≤ bits v 27 25 && bits v 27 25 ≤ 5 && bits v 24 22 ≤ 6 && bits v 21 17 ≤ 23)))

/-- CAL_SET (R505, R506). -/
def opCalSet : OpDef where
  code := 0x37
  priv := 1
  async := false
  lenOk := fun n _ => n == 4
  valid := fun _ c => c.fld 1 24 16 == 0 && (bitAt (c.word 1) 25 || dateOk (c.word 0) (c.fld 1 31 26)) &&
    -48 ≤ signedOf 8 (c.fld 1 15 8) && signedOf 8 (c.fld 1 15 8) ≤ 56 && c.fld 1 7 0 ≤ 120 && ruleOk (c.word 2) && ruleOk (c.word 3)
  allow := fun s c => firstStatus [(s.isFenced 8 2, stDomainOff), (s.calSource ≠ 0 && !bitAt (c.word 1) 25, stNotPermitted)]
  run := fun s c =>
    let s1 := s.modCal (fun x => { x with offset := signedOf 8 (c.fld 1 15 8), shift := c.fld 1 7 0, dstStart := c.word 2, dstEnd := c.word 3 })
    if bitAt (c.word 1) 25 then (if s1.cal.valid then s1.calDst else s1, 0, [])
    else
      let t := secondsOf (c.word 0) (c.fld 1 31 26)
      let s2 := s1.modCal (fun x => { x with valid := true, utc := t, inLeap := false, mark := s.tick })
      (if s.cal.valid then s2.calMoved s.cal.utc else { s2 with cal := { s2.cal with dst := s2.cal.summer t } }, 0, [])

/-- CAL_ALARM (R504, R506): a field that IGNORE excludes is not judged. -/
def opCalAlarm : OpDef where
  code := 0x38
  priv := 1
  async := false
  lenOk := fun n _ => n == 4
  valid := fun _ c =>
    let w := c.word 1
    let ign := fun b => bitAt (c.word 2) b
    c.fld 0 31 4 == 0 && c.fld 2 19 0 == 0 && c.word 3 == 0 && bits w 3 0 == 0 && c.fld 2 31 26 < 60 &&
    (ign 25 || bits w 31 24 < 200) && (ign 24 || (1 ≤ bits w 23 20 && bits w 23 20 ≤ 12)) &&
    (ign 23 || (1 ≤ bits w 19 15 && (ign 24 || bits w 19 15 ≤ monthDays (if ign 25 then 0 else bits w 31 24) (bits w 23 20)))) &&
    (ign 22 || bits w 14 10 < 24) && (ign 21 || bits w 9 4 < 60)
  allow := fun s _ => if s.isFenced 8 2 then stDomainOff else 0
  run := fun s c => (s.modCal (fun x => { x with alarms := x.alarms.set (fun _ => Alarm.reset) (c.fld 0 1 0) ⟨c.word 0, c.word 1, c.word 2⟩ }), 0, [])

end Sys2Proof.Machine
end

