-- ==== Sys2Proof/Machine/Float.lean ====
section
/-! DEFINITION. Binary floating point on exact rationals: every operation is computed exactly and rounded once, to the nearest and to even on a tie
(the binary64 of R352, the single precision of R276). -/

namespace Sys2Proof.Machine

/-- The value of a stored dyadic. -/
def Dy.val (x : Dy) : Rat := if 0 ≤ x.e then (x.m * 2 ^ x.e.toNat : Int) else (x.m : Rat) / (2 ^ (-x.e).toNat : Nat)

/-- A rational whose denominator is a power of two, as a dyadic. -/
def Dy.of (x : Rat) : Dy := ⟨x.num, -(x.den.log2 : Int)⟩

/-- `n / d` rounded to the nearest, ties to even. -/
def rneNat (n d : Nat) : Nat :=
  let q := n / d
  let r := n % d
  if d < 2 * r || (2 * r == d && q % 2 == 1) then q + 1 else q

/-- The exponent of the leading bit of n / d, both positive. -/
def leadExp (n d : Nat) : Int :=
  let k : Int := (n.log2 : Int) - d.log2
  let ge := if 0 ≤ k then decide (d * 2 ^ k.toNat ≤ n) else decide (d ≤ n * 2 ^ (-k).toNat)
  if ge then k else k - 1

/-- Round to `p` significant bits, with exponents no lower than `emin` (below it the ulp stays that of `emin`). -/
def roundTo (p : Nat) (emin : Int) (x : Rat) : Rat :=
  if x = 0 then 0
  else
    let u : Int := max (leadExp x.num.natAbs x.den) emin - (p - 1 : Nat)
    let v : Rat :=
      if 0 ≤ u then (rneNat x.num.natAbs (x.den * 2 ^ u.toNat) * 2 ^ u.toNat : Nat)
      else mkRat (rneNat (x.num.natAbs * 2 ^ (-u).toNat) x.den) (2 ^ (-u).toNat)
    if x.num < 0 then -v else v

/-- Rounding to binary64. -/
def f64 (x : Rat) : Rat := roundTo 53 (-1022) x

/-- Rounding to binary32. -/
def f32 (x : Rat) : Rat := roundTo 24 (-126) x

/-- Round a rational to the nearest integer, halves away from zero. -/
def roundAway (x : Rat) : Int := if 0 ≤ x then (x + 1 / 2).floor else -((-x + 1 / 2).floor)

end Sys2Proof.Machine
end

