-- ==== Sys2Proof/Machine/RadioFront.lean ====
section
/-! DEFINITION. The radio's front end as its requests see it (spec 14, R433 to R437): when a waiting frame, a calibration or listening takes the
radio out of IDLE, and the transmit buffers. -/

namespace Sys2Proof.Machine

/-- The applied MODE of RF_CFG. -/
def State.rfMode (s : State) : Nat := s.afld .rfCfg 0 31 30

/-- Legus keeps the 32 MHz crystal running (R433). -/
def State.xoKept (s : State) : Bool := bitAt (s.app .legCfg 0) 31 || bitAt (s.app .legCfg 0) 30

/-- The radio does nothing: fenced, its domain fenced, or in a floor. -/
def State.rfStopped (s : State) : Bool := s.isFenced 5 0 || s.isFenced 8 9 || s.pwr.floor ≠ 0 || s.pwr.brownHold

/-- Does the radio want to receive now (RF_RX)? -/
def State.rfListening (s : State) : Bool := s.rf.listen = 1

/-- The calibrations of the outstanding RF_CAL that have not run, in the bit order of MASK. -/
def State.rfCalLeft (s : State) : Nat :=
  match s.rf.cal with
  | some (_, _, _, mask, pass, fail) => mask &&& ((pass ||| fail) ^^^ 15)
  | none => 0

/-- T_k of an entry, in ns (R374). -/
def Launch.instant (l : Launch) (k : Nat) : Int := l.t0 + k * l.period

/-- PD11 does nothing: fenced, in a floor, or launches and timers are suspended (R47, R499). -/
def State.pd11Stopped (s : State) : Bool := s.isFenced 8 11 || s.pwr.floor ≠ 0 || s.onHold

/-- Change the radio's record. -/
def State.modRf (s : State) (f : RfBlk → RfBlk) : State := { s with rf := f s.rf }

/-! ### Configuration (R441) -/

/-- RF_CFG may be applied: a valid MODE, TXPWR, and a CHANNEL of the mode. -/
def rfCfgOk (v : Word) : Bool :=
  let k := bits v 29 24
  decide (bits v 12 8 ≤ 26) &&
  (match bits v 31 30 with
    | 0 => true
    | 1 => decide (11 ≤ k) && decide (k ≤ 26)
    | 2 => decide (k ≤ 31)
    | _ => false)

/-- RF_LASYNC may be applied. -/
def rfSyncOk (v : Word) : Bool := v ≠ 0 && v ≠ 0xFFFFFFFF#32

/-- RF_MAC may be applied. -/
def rfMacOk (v : Word) : Bool := bits v 23 16 ≠ 0 && decide (40 ≤ bits v 15 8) && decide (bits v 15 8 ≤ 100)

/-- A key slot whose frame counter has reached its limit sends nothing (R430). -/
def State.keyUsedUp (s : State) (k : Nat) : Bool := decide (0xFFFFFFFF ≤ s.rf.ctr.get (fun _ => 0) k)

/-- Is the key slot filled? -/
def State.keySet (s : State) (k : Nat) : Bool := (s.store.keys.get (fun _ => none) k).isSome

/-- Can the stored buffer be sent (R432, R440)? -/
def State.bufReady (s : State) (b : Nat) : Bool :=
  let x := s.rfBuf b
  !x.words.isEmpty && !(x.auth && (!s.provisioned || !s.keySet x.key)) && !s.isFenced 5 0 && !s.isFenced 8 9

/-! ### The front end (R433 to R437) -/

/-- The 32 MHz crystal runs: Legus keeps it running, or the radio has started it (R433). Started for the radio it runs on until OFF (DESIGN CHOICE, log 79). -/
def State.xoRuns (s : State) : Bool := s.xoKept || s.rf.xo

/-- The frame in the air, in µs (R422, R425, R426): from its first preamble symbol, or with `sfd` from its timestamp point, to its last chip. -/
def State.rfAir (s : State) (tx : RfTx) (sfd : Bool) : Nat :=
  let n := 4 + tx.content.length + (if tx.auth then 12 else 0)
  if s.rfMode = 1 then (n + 9 + (if sfd then 1 else 6)) * 32 else (n + 4 + (if sfd then 0 else 8)) * 4

/-- A launched transmit falls due within `us` µs: an ARMED entry with action RADIO_TX whose buffer can be sent (R434, R437). -/
def State.launchWithin (s : State) (us : Nat) : Bool :=
  !s.pd11Stopped && (List.range 128).any (fun n =>
    let l := s.launch n
    let d : Int := l.instant l.k * 2 ^ 32 - s.tbFine l.tb
    l.state == 2 && l.action == 6 && s.tbSet l.tb && s.bufReady l.arg && decide (0 ≤ d) && decide (d < us * 1000 * 2 ^ 32))

/-- The duration of calibrations, in µs (R434). -/
def calTime (mask : Nat) : Nat := mask % 2 * 600 + mask / 2 % 2 * 200 + mask / 4 % 2 * 250000 + mask / 8 % 2 * 8

/-- A host's or Salter's frame would not have ended 62 µs before a launched transmit, and waits (R437). -/
def State.mustWait (s : State) (tx : RfTx) : Bool := s.launchWithin (s.rfAir tx false + (if tx.ackReq then 864 else 0) + 64)

/-- The oldest waiting frame that need not wait for a launched transmit. -/
def State.nextWaiting (s : State) : Option (RfTx × List RfTx) :=
  match s.rf.wait with
  | tx :: t => if s.mustWait tx then none else some (tx, t)
  | [] => none

/-- Receiving is asked for: continuous listening, or one of Salter's windows (R433, R438). -/
def State.rfReceives (s : State) : Bool := s.rfListening || s.rf.window

/-- The radio leaves IDLE or RX for what is asked of it (R433 to R437): from IDLE with the crystal stopped by way of XO_START; a calibration that is due comes first, then the oldest
waiting frame, then receiving. RF_CAL waits for a launched transmit due within it. RX is left for a transmit, and for a calibration only by way of IDLE. While a launched frame is
prepared nothing else is taken. -/
def State.rfKick (s : State) : State :=
  let r := s.rf
  let use := !r.wait.isEmpty || s.rfReceives
  if s.rfStopped || r.launch.isSome || r.tx.isSome then s
  else if r.state = 2 then
    if !use && s.rfCalLeft = 0 then s
    else if !s.xoRuns then { s with rf := { r with state := 1 } }
    else if (use && r.calDue ≠ 0) || (s.rfCalLeft ≠ 0 && !s.launchWithin (calTime s.rfCalLeft + 62)) then { s with rf := { r with state := 4, locked := false } }
    else match s.nextWaiting with
      | some (tx, t) => { s with rf := { r with state := 3, locked := false, tx := some tx, wait := t } }
      | none => if s.rfReceives then { s with rf := { r with state := 3, locked := false } } else s
  else if r.state = 5 then
    match s.nextWaiting with
    | some (tx, t) => { s with rf := { r with state := 3, locked := false, tx := some tx, wait := t } }
    | none => s
  else s

/-- PD9 is powered while a mode is applied (R433), but in a floor, under a brownout warning (R499) or fenced. -/
def State.powerRf (s : State) : State :=
  s.powerDom 9 (if s.rfMode ≠ 0 && s.pwr.floor = 0 && !s.pwr.brownHold && !s.isFenced 8 9 then 2 else 0)

/-- Apply one register, or give it back its applied value with CFG_ERR. -/
def State.applyRfReg (s : State) (r : Reg) (ok : Word → Bool) : State :=
  let v := s.reg r 0
  if v = s.app r 0 then s
  else if ok v then s.setApp r 0 v
  else (s.setReg r 0 (s.app r 0)).evt .rfEvt 0 0

/-- The front end is OFF: the crystal stops for it (R433). -/
def State.rfOff (s : State) : State := s.modRf (fun r => { r with state := 0, locked := false, xo := false, calTemp := 0 })

/-- A mode that is applied takes the front end out of OFF; MODE 0 takes it there (R433). -/
def State.rfWake (s : State) : State :=
  if s.rfMode = 0 || s.rfStopped then s.rfOff
  else if s.rf.state = 0 then s.modRf (fun r => { r with state := if s.xoKept then 2 else 1 })
  else s

/-- A channel change in IDLE, `old` being RF_CFG as it was: the synthesiser locks on the new one (R433). -/
def State.rfRetune (s : State) (old : Word) : State :=
  if s.rf.state = 2 && s.xoRuns && bits old 31 24 ≠ bits (s.app .rfCfg 0) 31 24 then s.modRf (fun r => { r with state := 3, locked := false }) else s

/-- The radio's boundary (R441): the radio is IDLE or OFF and no transmit waits. -/
def State.rfBoundary (s : State) : State :=
  if (s.rf.state ≠ 0 && s.rf.state ≠ 2) || !s.rf.wait.isEmpty || s.rf.tx.isSome || s.rf.launch.isSome then s
  else
    let s1 := ((((s.applyRfReg .rfCfg rfCfgOk).applyRfReg .rfAddr (fun _ => true)).applyRfReg .rfLasync rfSyncOk).applyRfReg .rfMac rfMacOk).powerRf.rfWake
    if s.rf.state = 2 then s1.rfRetune (s.app .rfCfg 0) else s1

/-- The radio is IDLE again: its boundary, then the next request. -/
def State.rfIdle (s : State) : State := ((s.modRf (fun r => { r with state := 2, locked := false })).rfBoundary).rfKick

/-- A host's or Salter's frame is asked for (R435). -/
def State.rfRequest (s : State) (tx : RfTx) : State := { s with rf := { s.rf with wait := s.rf.wait ++ [tx] } }.rfKick

/-- The frame of a transmit buffer. -/
def State.bufFrame (s : State) (b : Nat) (job : Option (Nat × Nat × Bool)) (launched : Bool) : RfTx :=
  let x := s.rfBuf b
  { kind := 5, dst := x.dst, content := wordsBytes x.words, ackReq := x.ackReq, auth := x.auth, key := x.key, job := job,
    launched := launched, tries := 0, seq := 0 }

/-- A frame of Salter's own protocols (R427, AUTH_TX of RF_MAC). -/
def State.protoFrame (s : State) (kind dst : Nat) (content : List Byte) : RfTx :=
  { kind := kind, dst := dst, content := content, ackReq := false, auth := bitAt (s.app .rfMac 0) 30 && s.provisioned, key := s.afld .rfMac 0 28 27,
    job := none, launched := false, tries := 0, seq := 0 }

/-- What R430 does when a used-up slot is asked to send. -/
def State.keyExhausted (s : State) : State := (s.evt .rfEvt 0 7).logErr 5 0 0x87

/-- A launched frame that was not sent for want of a lock (R436). -/
def State.lateTx (s : State) : State := ((s.countFault .rfCnt 0 7 0 1).evt .rfEvt 0 1).logErr 5 0 0x36

/-- The synthesiser was taken for a launched frame that is not sent: it is IDLE again. -/
def State.synthFree (s : State) : State := if s.rf.state = 3 then s.rfIdle else s.rfKick

/-- A firing with action RADIO_TX (R436): the prepared frame goes out where the synthesiser is locked; a late firing finds nothing prepared. A miss
that LATE_TX has counted already is not counted again. -/
def State.launchTx (s : State) (b : Nat) (late : Bool) : State :=
  match s.rf.launch with
  | some tx =>
    let s1 := { s with rf := { s.rf with launch := none } }
    if tx.tries ≠ 0 then s1.synthFree
    else if s.rf.state ≠ 3 || !s.rf.locked then s1.lateTx.synthFree
    else if tx.auth && s.keyUsedUp tx.key then s1.keyExhausted.synthFree
    else { s1 with rf := { s1.rf with state := 6, tx := some tx } }.logEnd 5 0 0x36
  | none => if s.bufReady b && (late || s.rf.state ≠ 0) then s.lateTx else s

/-- The broadcast address of the mode in force. -/
def State.rfBroadcast (s : State) : Nat := if s.rfMode = 1 then 0xFFFF else 0xFF

end Sys2Proof.Machine
end

