-- ==== Sys2Proof/Machine/Tasks.lean ====
section
/-! DEFINITION. What sluice tasks, launches and hosts do to timers, event pins and launch entries (spec 12, R377 to R389; spec 17, R512, R519),
and the capture groups of R555. -/

namespace Sys2Proof.Machine

/-! ### Capture groups (R555): 0 the timebases, 1 the snapshot, 2 + n timer n -/

/-- The group is open for some host. -/
def State.groupOpen (s : State) (g : Nat) : Bool := s.groups.any (fun p => p.1 / 4 == g)

/-- The second stages move to the first when no host holds the group open. -/
def State.groupMove (s : State) (g : Nat) : State :=
  if s.groupOpen g then s
  else if g = 0 then
    match s.time.cap2 with
    | some c => { s with time := { s.time with cap := c, cap2 := none } }
    | none => s
  else if g = 1 then
    match s.snap.second with
    | some w => { s with snap := { s.snap with words := w, second := none } }
    | none => s
  else s.modTimer (g - 2) (fun t => match t.cap2 with
    | some c => { t with cap := c, cap2 := none }
    | none => t)

/-- A host's group closes. -/
def State.groupClose (s : State) (g h : Nat) : State :=
  { s with groups := s.groups.filter (fun p => p.1 ≠ 4 * g + h) }.groupMove g

/-- CAPTURE_GROUP_TIMEOUT (R555). -/
def execCaptureGroupTimeout (group host : Nat) (s : State) : Host.Outcome State Fault Refusal :=
  act (onlyIf (group < 66 && host < 4) (fun u => u.groupClose group host)) s

/-! ### Timers (R384 to R389) -/

/-- MODE of the timer: EVENTS. -/
def State.tmEvents (s : State) (n : Nat) : Bool := bitAt (s.reg .tmCtl n) 28

/-- END of the timer. -/
def State.tmEndVal (s : State) (n : Nat) : Nat := (s.reg .tmEnd n).toNat

/-- The timer's count now (R384). -/
def State.timerCount (s : State) (n : Nat) : Nat :=
  let t := s.timer n
  if t.state = 1 && !s.tmEvents n then max t.count (min (s.tmEndVal n) (t.count + (s.tb0u - t.start) / 64000)) else t.count

/-- The exact instant at which the timer has count `k` (R385). -/
def State.timerInstant (s : State) (n k : Nat) : Nat :=
  let t := s.timer n
  if s.tmEvents n then s.tb0u else t.start + (k - t.count) * 64000

/-- A start at the instant `at0` (R385); the Bool says that it is performed: a timer with END 0 cannot start. -/
def State.timerStart (s : State) (n at0 : Nat) : State × Bool :=
  let t := s.timer n
  if t.state = 1 then (s, true)
  else if s.tmEndVal n = 0 then (s, false)
  else
    let c := if t.state = 2 then 0 else t.count
    (s.setTimer n { t with state := 1, late := false, gap := false, count := c, start := at0,
                           matched := decide ((s.reg .tmMatch n).toNat < c) }, true)

/-- A reset at the instant `at0` (R385). -/
def State.timerReset (s : State) (n at0 : Nat) : State :=
  s.modTimer n (fun t => { t with state := if t.state = 2 then 0 else t.state, count := 0, start := at0, matched := false })

/-- The capture of R388, by the rules of R555. -/
def State.timerCapture (s : State) (n : Nat) : State :=
  let v := s.timerCount n
  let t := s.timer n
  if !s.groupOpen (2 + n) then s.setTimer n { t with cap := v, capOvr := false }
  else match t.cap2 with
    | none => s.setTimer n { t with cap2 := some v }
    | some _ => s.setTimer n { t with capOvr := true }

/-- The channels that a timer's end triggers (R105, R384). -/
def State.timerChans (s : State) (n : Nat) : List Nat :=
  (List.range 192).filter (fun c => s.running c && (s.ad c).acq == 2 && bits (s.ad c 3) 31 30 == 1 && bits (s.ad c 3) 5 0 == n)

/-- The match point, at the instant `at0` (R384, R386). -/
def State.timerMatch (s : State) (n at0 : Nat) : State :=
  let act := s.fld .tmCtl n 16 14
  let link := s.fld .tmCtl n 23 18
  let s1 := (s.modTimer n (fun t => { t with matched := true })).raiseEvent (384 + n) 1
  let s2 := if act % 2 = 1 then s1.timerReset n at0 else s1
  let s3 := if act / 2 % 2 = 1 then s2.timerReset link at0 else s2
  if act / 4 % 2 = 1 then (s3.timerStart link at0).1 else s3

/-- The end, at the instant `at0` (R384 to R386, R389); the timers it starts take `link0`. -/
def State.timerEnd (s : State) (n at0 link0 : Nat) : State :=
  let act := s.fld .tmCtl n 13 11
  let link := s.fld .tmCtl n 23 18
  let t := s.timer n
  let s1 := (s.setTimer n { t with state := 2, count := s.tmEndVal n }).raiseEvent (384 + n) 2
  let s2 := (s1.timerChans n).foldl (fun u c => u.startAcq c t.late t.gap none) s1
  let s3 := if act % 2 = 1 then ((s2.timerReset n at0).timerStart n at0).1 else s2
  let s4 := if act / 2 % 2 = 1 then s3.timerReset link link0 else s3
  if act / 4 % 2 = 1 then (s4.timerStart link link0).1 else s4

/-- The match point is due: RUNNING, in use, not yet reached, and the count has come to it. -/
def State.matchDue (s : State) (n : Nat) : Bool :=
  (s.timer n).state = 1 && bitAt (s.reg .tmCtl n) 17 && !(s.timer n).matched && decide ((s.reg .tmMatch n).toNat ≤ s.timerCount n)

/-- The end is due: RUNNING and the count has come to END. -/
def State.endDue (s : State) (n : Nat) : Bool := (s.timer n).state = 1 && decide (s.tmEndVal n ≤ s.timerCount n)

/-- Move on to the instant at which the timer has count `k`, where a TIME-mode timer has it before the next tick (R384, R385). -/
def State.toCount (s : State) (n k : Nat) : State :=
  if s.tmEvents n then s else (s.toTb 0 (s.timerInstant n k * 2 ^ 26 : Nat)).getD s

/-- The count reaches MATCH, at this instant or before the next tick. -/
def State.matchPoint (s : State) (n : Nat) : State :=
  let u := s.toCount n (s.reg .tmMatch n).toNat
  if u.matchDue n then u.timerMatch n (u.timerInstant n (u.reg .tmMatch n).toNat) else s

/-- TIMER_MATCH. -/
def execTimerMatch (timer : Nat) (s : State) : Host.Outcome State Fault Refusal :=
  act (onlyIf (timer < 64 && !s.pd11Stopped) (fun u => u.matchPoint timer)) s

/-- The count reaches END, at this instant or before the next tick; a match that is due comes first. -/
def State.endPoint (s : State) (n : Nat) : State :=
  let u := s.toCount n (s.tmEndVal n)
  let i := u.timerInstant n (u.tmEndVal n)
  if u.endDue n && !u.matchDue n then u.timerEnd n i i else s

/-- TIMER_END. -/
def execTimerEnd (timer : Nat) (s : State) : Host.Outcome State Fault Refusal :=
  act (onlyIf (timer < 64 && !s.pd11Stopped) (fun u => u.endPoint timer)) s

/-- The instant, at or before now, from which a TIME-mode timer that is given a count goes on counting whole microseconds (R384): its increments stay where they are, and one that
falls at this very instant comes after the write, whichever was granted first (R387). -/
def State.countFrom (s : State) (t : Timer) : Nat :=
  let m := (s.tb0u - t.start) % 64000
  if m = 0 && decide (t.start < s.tb0u) then s.tb0u - 64000 else s.tb0u - m

/-- A write of TM_CNTn (R387): the count at this instant. -/
def State.timerSetCount (s : State) (n v : Nat) : State :=
  s.modTimer n (fun t => { t with count := v, start := s.countFrom t, matched := decide ((s.reg .tmMatch n).toNat < v) })

/-- A point of the timer fires late (R389). -/
def State.timerLate (s : State) (n : Nat) : State := (s.modTimer n (fun t => { t with late := true })).evt .tmEvt 0 0

/-- A match that has been passed fires at once with LATE (R389). -/
def State.lateMatch (s : State) (n : Nat) : State := if s.matchDue n then (s.timerLate n).timerMatch n s.tb0u else s

/-- A timer that was RUNNING, after a floor or reserve hold (R389): passed points fire at once with LATE, the match first; an EVENTS timer takes GAP. A timer
that its END_ACT restarts keeps its grid, and a match of the new run that has been passed fires as well. -/
def State.timerWake (s : State) (n : Nat) : State :=
  if s.tmEvents n then (s.modTimer n (fun t => { t with gap := true })).evt .tmEvt 0 1
  else
    let s1 := s.lateMatch n
    if s1.endDue n then
      let e := max 1 (s1.tmEndVal n) * 64000
      let i := s1.timerInstant n (s1.tmEndVal n)
      ((s1.timerLate n).timerEnd n (i + (s1.tb0u - i) / e * e) s1.tb0u).lateMatch n
    else s1

/-- Every timer that was RUNNING, after a floor or reserve hold; not while PD11 is fenced. -/
def State.timersWake (s : State) : State :=
  if s.isFenced 8 11 then s
  else ((List.range 64).filter (fun n => (s.timer n).state == 1)).foldl (fun u n => u.timerWake n) s

/-! ### Event pins (R380, R512) -/

/-- MODE of an event pin: 0 OFF, 1 INPUT, 2 LAUNCH_OUTPUT. -/
def State.pinMode (s : State) (n : Nat) : Nat := s.fld .slPin n 31 30

/-- A pulse starts on a pin in LAUNCH_OUTPUT mode (R380). -/
def State.pinPulse (s : State) (n : Nat) (high : Bool) : State :=
  s.modPin n (fun p =>
    let h := p.pulses.headD high
    { p with pulses := p.pulses ++ [h], level := h })

/-- A level is set: at once, or after the pulse that runs (R380). `op` is 0 low, 1 high, 2 toggle. -/
def State.pinSet (s : State) (n op : Nat) : State :=
  s.modPin n (fun p =>
    let v := if op = 0 then false else if op = 1 then true else !(p.after.getD p.drive)
    if p.pulses.isEmpty then { p with drive := v, level := v } else { p with after := some v })

/-- PIN_PULSE_END (R380): the oldest pulse ends; with the last one, the level that waited, or the one before, returns. -/
def State.pinPulseEnd (s : State) (n : Nat) : State :=
  s.modPin n (fun p => match p.pulses with
    | [] => p
    | [_] => let v := p.after.getD p.drive; { p with pulses := [], after := none, drive := v, level := v }
    | _ :: t => { p with pulses := t })

/-- PIN_PULSE_END. -/
def execPinPulseEnd (pin : Nat) (s : State) : Host.Outcome State Fault Refusal := act (onlyIf (pin < 32) (fun u => u.pinPulseEnd pin)) s

/-! ### Starts of launch entries (R377) -/

/-- A start of an ON_START entry; the Bool says that it does not fail. -/
def State.launchStart (s : State) (n : Nat) : State × Bool :=
  let l := s.launch n
  if !l.onStart || l.state = 0 || l.state = 3 then ((s.evt .lnEvt 0 4).logErr 11 n 0x22, false)
  else
    let s1 := s.logEnd 11 n 0x22
    if l.state = 2 then (s1.evt .lnEvt 0 3, true)
    else (s1.setLaunch n { l with state := 2, t0 := s.tbNow l.tb + l.time, k := 0 }, true)

/-- LN_START. -/
def execLnStart (entry : Nat) (s : State) : Host.Outcome State Fault Refusal :=
  act (onlyIf (entry < 128 && !s.pd11Stopped) (fun u => (u.launchStart entry).1)) s

end Sys2Proof.Machine
end

