-- ==== Sys2Proof/Machine/Sluice.lean ====
section
/-! DEFINITION. The sluice fabric (spec 17, R510 to R527): events, combining, tasks, waves, ownership, boundaries. -/

namespace Sys2Proof.Machine

/-- PD11 is off or fenced: the fabric does nothing. -/
def State.fabricOff (s : State) : Bool := s.isFenced 8 11 || s.pwr.floor ≠ 0

/-- Is the sluice in use? -/
def State.slOn (s : State) (n : Nat) : Bool := bitAt (s.app .slCtl n) 31

/-- MODE of a sluice (R513): 0 DIRECT, 1 GATE_AND, 2 LUT. -/
def State.slMode (s : State) (n : Nat) : Nat := s.afld .slCtl n 30 29

/-- FF of a sluice: 0 none, 1 D, 2 T; only a LUT has one. -/
def State.slFf (s : State) (n : Nat) : Nat := if s.slMode n = 2 then s.afld .slCtl n 28 27 else 0

/-- Input `x` (0 A, 1 B, 2 C) of a sluice: enabled, qualifier, source. -/
def slInput (src lut : Word) (x : Nat) : Bool × Nat × Nat :=
  match x with
  | 0 => (true, bits src 10 9, bits src 8 0)
  | 1 => (bitAt src 31, bits src 30 29, bits src 28 20)
  | _ => (bitAt lut 31, bits lut 30 29, bits lut 28 20)

/-- Input `x` of sluice `n` as applied. -/
def State.slIn (s : State) (n x : Nat) : Bool × Nat × Nat := slInput (s.app .slSrc n) (s.app .slLut n) x

/-- Does an event of kind `k` pass the qualifier (R511)? -/
def qualPass (q k : Nat) : Bool := q == 0 || (q == 1 && k == 1) || (q == 2 && k == 2)

/-- The gate signals of R514. -/
def State.gateSignal (s : State) (g : Nat) : Bool :=
  if g < 32 then (s.pin g).level
  else if g < 96 then (s.timer (g - 32)).state == 1
  else if g < 160 then s.slFf (g - 96) ≠ 0 && (s.sluice (g - 96)).q
  else if g < 164 then !s.asleep (g - 160)
  else g == 255

/-- The LUT's function f with the held levels, and with pulse input `x` at 1 where one is given (R515). -/
def State.lutF (s : State) (n : Nat) (levels : BitVec 3) (x : Option Nat) : Bool :=
  let one := fun i =>
    let (en, q, _) := s.slIn n i
    en && ((q == 3 && levels.getLsbD i) || x == some i)
  bitAt (s.app .slLut n) (4 * b2n (one 2) + 2 * b2n (one 1) + b2n (one 0))

/-! ### Outputs, waves and tasks (R518 to R523) -/

/-- An output of a sluice on its way to the task inputs: HOPS, WAVE and ORIGIN of R522, and the LATE its cause passes on. -/
structure SlOut where
  sluice : Nat
  hops : Nat
  wave : Nat
  origin : Nat
  late : Bool
  deriving DecidableEq, Repr

/-- The next value of the wave counter (R522). -/
def State.newWave (s : State) : State × Nat := ({ s with wave := (s.wave + 1) % 65536 }, (s.wave + 1) % 65536)

/-- The task of a slot that is not FIRE_SLUICE (R519); the Bool says that it did not fail. -/
def State.runTask (s : State) (n kind opt arg : Nat) : State × Bool :=
  match kind with
  | 1 => (s.raise n (opt % 2 == 1), true)
  | 2 => ((s.timerStart arg s.tb0u).1, true)
  | 3 => (s.timerReset arg s.tb0u, true)
  | 4 => (s.timerCapture arg, true)
  | 5 => s.launchStart arg
  | 6 => if s.pinMode arg = 2 then (s.pinPulse arg (!(s.pin arg).level), true) else (s, false)
  | 7 => if s.pinMode arg = 2 then (s.pinSet arg opt, true) else (s, false)
  | _ => if s.bufReady arg then (s.rfRequest (s.bufFrame arg none false), true) else (s, false)

/-- The result of a task in the log: TASK_FAIL, or the end of its run (R519, R569). -/
def State.taskResult (s : State) (n : Nat) (ok : Bool) : State :=
  if ok then s.logEnd 12 n 0x24 else (s.evt .slEvt 0 3).logErr 12 n 0x24

/-- One slot of a sluice takes the output (R519 to R522): the deliveries already made at this moment are in `seen` as (kind, argument, sluice), and
`next` gathers the sluices that FIRE_SLUICE tasks fire. -/
def State.runSlot (s : State) (o : SlOut) (slot : Nat) (seen : List (Nat × Nat × Nat)) (next : List SlOut) :
    State × List (Nat × Nat × Nat) × List SlOut :=
  let kind := slot / 4096
  let arg := slot % 256
  let opt := slot / 256 % 8
  let n := o.sluice
  if kind = 0 || 9 < kind then (s, seen, next)
  else if kind ≠ 1 && slot / 2048 % 2 = 1 && seen.any (fun p => p.1 == kind && p.2.1 == arg && p.2.2 ≠ n) then (s.countFault .slCnt n 23 16 1, seen, next)
  else
    let seen' := (kind, arg, n) :: seen
    if kind = 8 then
      if o.hops = 8 || arg = o.origin then
        (((s.countFault .slCnt n 31 24 1).evt .slEvt 0 2).logRun 12 n 0x25 o.wave, seen', next)
      else (s.taskResult n true, seen', next ++ [{ o with sluice := arg, hops := o.hops + 1 }])
    else
      let (t, ok) := s.runTask n kind opt arg
      (t.taskResult n ok, seen', next)

/-- The TRIGGERED channels that name a sluice (R105). -/
def State.slChans (s : State) (n : Nat) : List Nat :=
  (List.range 192).filter (fun c => s.running c && (s.ad c).acq == 2 && bits (s.ad c 3) 31 30 == 0 && bits (s.ad c 3) 5 0 == n)

/-- An output of a sluice: counted, shown in SL_STATn, presented to its slots in order and then to the channels it triggers (R520). -/
def State.slOutput (s : State) (o : SlOut) (seen : List (Nat × Nat × Nat)) (next : List SlOut) :
    State × List (Nat × Nat × Nat) × List SlOut :=
  let n := o.sluice
  let s1 := (s.addCnt .slCnt n 15 0 1).modSluice n (fun x => { x with hops := o.hops, wave := o.wave })
  let slots := [s.afld .slTaska n 15 0, s.afld .slTaska n 31 16, s.afld .slTaskb n 15 0, s.afld .slTaskb n 31 16]
  let (s2, seen2, next2) := slots.foldl (fun (a : State × List (Nat × Nat × Nat) × List SlOut) w => a.1.runSlot o w a.2.1 a.2.2) (s1, seen, next)
  ((s2.slChans n).foldl (fun u c => u.startAcq c o.late false none) s2, seen2, next2)

/-- Outputs that arise together, and then the firings they cause, at most nine steps deep (R522). -/
def State.slWaves : Nat → State → List SlOut → State
  | 0, s, _ => s
  | fuel + 1, s, outs =>
    if outs.isEmpty then s
    else
      let r := outs.foldl (fun (a : State × List (Nat × Nat × Nat) × List SlOut) o =>
        if a.1.slOn o.sluice then a.1.slOutput o a.2.1 a.2.2 else a) (s, [], [])
      State.slWaves fuel r.1 r.2.2

/-- Fire a sluice directly (R518, R522, R523): a new wave whose ORIGIN it is. -/
def State.fireDirect (s : State) (n : Nat) (late : Bool) : State :=
  if s.fabricOff || !s.slOn n then s
  else
    let (t, w) := s.newWave
    State.slWaves 9 t [⟨n, 1, w, n, late⟩]

/-- A firing by software: `owner` as OWNER codes it (R524). -/
def State.fireSluice (s : State) (n owner : Nat) (late : Bool) : State :=
  if s.fabricOff || !s.slOn n then s
  else if s.fld .slOwn n 2 0 = owner then (s.logEnd 12 n 0x26).fireDirect n late
  else (s.evt .slEvt 0 1).logErr 12 n 0x26

/-! ### Combining (R513 to R517) -/

/-- A counted rise, or an evaluation that gave f1, at the flip-flop (R516, R523); `wave` is the event's. The outputs gather in the list. -/
def State.slFlip (s : State) (n : Nat) (f1 counted : Bool) (wave : Nat) : State × List SlOut :=
  let x := s.sluice n
  if s.slFf n = 0 then (s, if counted then [⟨n, 1, wave, n, false⟩] else [])
  else
    let q := if s.slFf n = 1 then (if counted then true else f1 && (x.q || x.filtering.isNone)) else (if counted then !x.q else x.q)
    let s1 := s.setSluice n { x with q := q }
    if q && !x.q then
      let (t, w) := s1.newWave
      (t, [⟨n, 0, w, n, false⟩])
    else (s1, [])

/-- An event of kind `k` at input `x` of a LUT (R515, R516). -/
def State.slLutEvent (s : State) (n x k wave : Nat) : State × List SlOut :=
  let (_, q, _) := s.slIn n x
  let y := s.sluice n
  let f0 := s.lutF n y.levels none
  if q = 3 then
    let levels := if k = 1 then y.levels ||| (1#3 <<< x) else y.levels &&& ~~~(1#3 <<< x)
    let f1 := s.lutF n levels none
    let filt := if s.afld .slCtl n 17 14 = 0 && s.slFf n ≠ 0 then 1 else s.afld .slCtl n 17 14
    let rise := !f0 && f1
    let waits := rise && filt ≠ 0
    let s1 := s.setSluice n { y with levels := levels, filtering := if waits then some wave else if f1 then y.filtering else none }
    s1.slFlip n f1 (rise && !waits) wave
  else if !qualPass q k then (s, [])
  else
    let f1 := s.lutF n y.levels (some x)
    s.slFlip n f1 (!f0 && f1) wave

/-- An event at input `x` of a sluice (R513). -/
def State.slEvent (s : State) (n x k wave : Nat) : State × List SlOut :=
  let (_, q, _) := s.slIn n x
  match s.slMode n with
  | 0 => (s, if qualPass q k then [⟨n, 1, wave, n, false⟩] else [])
  | 1 =>
    (s, if qualPass q k && (s.gateSignal (s.afld .slCtl n 25 18) != bitAt (s.app .slCtl n) 26) then [⟨n, 1, wave, n, false⟩] else [])
  | _ => s.slLutEvent n x k wave

/-- The (sluice, input) pairs that an event output feeds. -/
def State.slFed (s : State) (out : Nat) : List (Nat × Nat) :=
  (List.range 64).flatMap (fun n => if s.slOn n then
    (List.range 3).filterMap (fun x =>
      let (en, _, src) := s.slIn n x
      if en && src == out then some (n, x) else none) else [])

/-- An event of `out` is counted by the EVENTS timers that name it (R384). -/
def State.countEvents (s : State) (out : Nat) : State :=
  if s.pd11Stopped then s
  else ((List.range 64).filter (fun n => (s.timer n).state == 1 && s.tmEvents n && s.fld .tmCtl n 8 0 == out)).foldl
    (fun u n => u.modTimer n (fun t => { t with count := min (u.tmEndVal n) (t.count + 1) })) s

/-- SLUICE_EVENT (R515 to R523): the oldest event reaches the timers and sluices that name its output. -/
def State.sluiceEvent (s : State) : State :=
  if s.fabricOff then s else
  match s.evq with
  | [] => s
  | e :: t =>
    let s1 := ({ s with evq := t }).countEvents e.output
    let fed := s1.slFed e.output
    if fed.isEmpty then s1
    else
      let (s2, w) := s1.newWave
      let r := fed.foldl (fun (a : State × List SlOut) p =>
        let (u, o) := a.1.slEvent p.1 p.2 e.kind w
        (u, a.2 ++ o)) (s2, [])
      State.slWaves 9 r.1 r.2

/-- SLUICE_EVENT. -/
def execSluiceEvent (s : State) : Host.Outcome State Fault Refusal := act State.sluiceEvent s

/-- FILTER_EXPIRY (R516): the rise that f has held through its filter time counts. -/
def State.filterExpiry (s : State) (n : Nat) : State :=
  match (s.sluice n).filtering with
  | none => s
  | some w =>
    if s.fabricOff then s
    else
      let r := (s.modSluice n (fun x => { x with filtering := none })).slFlip n true true w
      State.slWaves 9 r.1 r.2

/-- FILTER_EXPIRY. -/
def execFilterExpiry (sluice : Nat) (s : State) : Host.Outcome State Fault Refusal :=
  act (onlyIf (sluice < 64) (fun u => u.filterExpiry sluice)) s

/-! ### Configuration (R511, R513, R519, R527) -/

/-- Does the output give kinds (R510)? -/
def outHasKinds (o : Nat) : Bool := 192 ≤ o && o < 480

/-- Is a task slot valid (R519)? -/
def slotValid (w : Nat) : Bool :=
  let arg := w % 256
  let opt := w / 256 % 8
  match w / 4096 with
  | 0 => arg == 0 && opt == 0
  | 1 => arg == 0 && decide (opt ≤ 1)
  | 2 | 3 | 4 => decide (arg < 64) && opt == 0
  | 5 => decide (arg < 128) && opt == 0
  | 6 => decide (arg < 32)
  | 7 => decide (arg < 32) && decide (opt ≤ 2)
  | 8 => decide (arg < 64) && opt == 0
  | 9 => decide (arg < 4) && opt == 0
  | _ => false

/-- May the five words be applied? -/
def slCfgOk (ctl src lut ta tb : Word) : Bool :=
  let mode := bits ctl 30 29
  mode ≠ 3 && bits ctl 28 27 ≠ 3 && (mode == 2 || (!bitAt src 31 && !bitAt lut 31)) &&
  (List.range 3).all (fun x =>
    let (en, q, o) := slInput src lut x
    !en || (decide (o < 484) && (q == 0 || outHasKinds o) && (q ≠ 3 || mode == 2))) &&
  [bits ta 15 0, bits ta 31 16, bits tb 15 0, bits tb 31 16].all slotValid

/-- The sluice's boundary (R527). -/
def State.applySluice (s : State) (n : Nat) : State :=
  let rs := [Reg.slCtl, Reg.slSrc, Reg.slLut, Reg.slTaska, Reg.slTaskb]
  if rs.all (fun r => s.reg r n == s.app r n) then s
  else if !slCfgOk (s.reg .slCtl n) (s.reg .slSrc n) (s.reg .slLut n) (s.reg .slTaska n) (s.reg .slTaskb n) then
    (rs.foldl (fun u r => u.setReg r n (u.app r n)) s).evt .slEvt 0 0
  else
    let changed := bits (s.reg .slCtl n) 30 27 ≠ s.afld .slCtl n 30 27 ||
      (List.range 3).any (fun x => slInput (s.reg .slSrc n) (s.reg .slLut n) x ≠ s.slIn n x)
    let s1 := rs.foldl (fun u r => u.setApp r n (u.reg r n)) s
    if changed then s1.modSluice n (fun x => { x with levels := 0, q := false, filtering := none }) else s1

/-- A write of SL_PINn (R512): the pin enters its mode; LAUNCH_OUTPUT starts at INIT. An invalid code is refused with CFG_ERR. -/
def State.writeSlPin (s : State) (n : Nat) (v : Word) : State :=
  if bits v 31 30 = 3 || bits v 29 28 = 3 || bits v 26 25 = 3 then s.evt .slEvt 0 0
  else
    let was := s.pinMode n
    let s1 := (if bits v 31 30 = 0 then s else s.bankEnabled 3).setReg .slPin n v
    if bits v 31 30 = 2 && was ≠ 2 then s1.modPin n (fun _ => ⟨bitAt v 27, bitAt v 27, [], none⟩)
    else if bits v 31 30 ≠ 2 && was = 2 then s1.modPin n (fun p => { p with pulses := [], after := none, drive := false })
    else s1

/-- The word SL_STATn shows. -/
def State.slStatWord (s : State) (n : Nat) : Word :=
  let x := s.sluice n
  w32 (b2n x.q * 2 ^ 31 + x.levels.toNat * 2 ^ 28 + x.hops % 16 * 2 ^ 24 + x.wave)

end Sys2Proof.Machine
end

