-- ==== Sys2Proof/Machine/Launch.lean ====
section
/-! DEFINITION. Launches (spec 12): programming, firing, late handling, and the opcodes of launches and timers. -/

namespace Sys2Proof.Machine

/-- Does the entry end before period `k` (R374)? -/
def Launch.over1 (l : Launch) (k : Nat) : Bool := (l.period = 0 && k ≠ 0) || (l.rept ≠ 0 && decide (l.rept ≤ k))

/-- The entry goes on with period `k`, or is DONE, or waits for its next start (R374, R377). -/
def Launch.goTo (l : Launch) (k : Nat) : Launch :=
  if l.over1 k then { l with k := k, state := if l.onStart then 1 else 3 } else { l with k := k }

/-- The saltern timebase (spec 13): the timebase with SOURCE LEGUS, else the one with SOURCE RADIO. -/
def State.saltTb (s : State) : Option Nat :=
  match [1, 2, 3].find? (fun k => s.afld .tbCtl k 31 30 == 1) with
  | some k => some k
  | none => [1, 2, 3].find? (fun k => s.afld .tbCtl k 31 30 == 2)

/-- Count periods in which the entry did not fire. -/
def State.skipPeriods (s : State) (n k : Nat) : State :=
  if k = 0 then s else (s.modLaunch n (fun l => { l with skipped := min 65535 (l.skipped + k) })).evt .lnEvt 0 1

/-- Is the channel bound to the entry (R373)? -/
def State.bound (s : State) (n c : Nat) : Bool := (s.ad c).acq == 3 && (s.ad c).lbind && (s.ad c).ln == n

/-- A firing's sample of one channel (R373, R378): the firing is its boundary, after which it is sampled where it is still bound to the entry (R101); a channel that is not sampled is
counted on its port and owes GAP. Period `k` is the source index of a periodic entry; with a one-shot entry the inputs are counted (R205). -/
def State.launchSample (s : State) (n c k : Nat) (late : Bool) : State :=
  let s1 := if s.isDue c then s.boundary c else s
  if !s1.bound n c then s1
  else if s1.acquiring c && !s1.inAcq c then s1.startAcq c late false (if (s1.launch n).period = 0 then none else some (k : Int))
  else
    let d := s1.ad c
    let s2 := if d.isPort then s1.modPort d.kind (fun x => { x with skipped := satAt 65535 (x.skipped + 1) }) else s1
    s2.modChan c (fun x => { x with gapOwed := true })

/-- The action of entry `n` for period `k` (R373); the Bool says that it did not fail (R378). -/
def State.launchAction (s : State) (n k : Nat) (late : Bool) : State × Bool :=
  let l := s.launch n
  match l.action with
  | 1 =>
    if l.allBound then (((List.range 192).filter (fun c => s.bound n c)).foldl (fun u c => u.launchSample n c k late) s, true)
    else if s.bound n l.arg then (s.launchSample n l.arg k late, true)
    else (s, false)
  | 2 => if s.pinMode l.arg = 2 then (s.pinPulse l.arg (l.pinMode % 2 == 0), true) else (s, false)
  | 3 => if s.pinMode l.arg = 2 then (s.pinSet l.arg l.pinMode, true) else (s, false)
  | 4 => (s.fireSluice l.arg 4 late, true)
  | 5 => s.timerStart l.arg s.tb0u
  | _ => (s.launchTx l.arg late, true)

/-- Firing of period `k` (R374, R378, R413): skipped while the hub is an OUTLIER on its saltern timebase. The entry is not moved on here. -/
def State.fireLaunch (s : State) (n k : Nat) (late : Bool) : State :=
  let l := s.launch n
  if s.slt.outlier && s.saltTb == some l.tb then (s.skipPeriods n 1).logErr 11 n 0x23
  else
    let s1 := s.setLaunch n { l with fired := (l.fired + 1) % 65536, firings := min (2 ^ 29 - 1) (l.firings + 1) }
    let s2 := if late then s1.evt .lnEvt 0 0 else s1
    let (s3, ok) := s2.launchAction n k late
    if ok then s3.logEnd 11 n 0x21 else (s3.evt .lnEvt 0 2).logErr 11 n 0x21

/-- LAUNCH_FIRING (R378): T_k of an ARMED entry is reached, at this instant or before the next tick. -/
def State.launchFiring (s : State) (n : Nat) : State :=
  let l := s.launch n
  if l.state ≠ 2 || s.pd11Stopped || !s.tbSet l.tb then s
  else match s.toTb l.tb (l.instant l.k * 2 ^ 32) with
    | none => s
    | some u => (u.setLaunch n (l.goTo (l.k + 1))).fireLaunch n l.k false

/-- LAUNCH_FIRING. -/
def execLaunchFiring (entry : Nat) (s : State) : Host.Outcome State Fault Refusal :=
  act (onlyIf (entry < 128) (fun u => u.launchFiring entry)) s

/-- "Now" of R376, in units of 2^−32 ns: the entry's timebase value at the grant plus 10 µs. -/
def State.launchNow (s : State) (tb : Nat) : Int := s.tbFine tb + 10000 * 2 ^ 32

/-- Is the next firing of the entry late (R376)? -/
def State.launchLate (s : State) (l : Launch) : Bool := l.state == 2 && s.tbSet l.tb && decide (l.instant l.k * 2 ^ 32 ≤ s.launchNow l.tb)

/-- The latest passed period of a late entry. -/
def State.lastPassed (s : State) (l : Launch) : Nat :=
  if l.period = 0 then 0
  else
    let m := ((s.launchNow l.tb - l.t0 * 2 ^ 32) / (l.period * 2 ^ 32)).toNat
    if l.rept = 0 then m else min m (l.rept - 1)

/-- R376 for an entry whose next firing is late: FIRE fires the latest passed period, SKIP skips them all. -/
def State.lateHandle (s : State) (n : Nat) : State :=
  let l := s.launch n
  if !s.launchLate l then s
  else
    let m := s.lastPassed l
    if l.late = 1 then ((s.skipPeriods n (m - l.k)).modLaunch n (fun x => x.goTo (m + 1))).fireLaunch n m true
    else (s.skipPeriods n (m + 1 - l.k)).modLaunch n (fun x => x.goTo (m + 1))

/-- Every late entry on timebase `tb`, after a step forward or a first value (R382); a step backward leaves every entry waiting for its instant. -/
def State.launchesStepped (s : State) (tb : Nat) : State :=
  if s.pd11Stopped then s
  else (List.range 128).foldl (fun u n => if (u.launch n).tb = tb then u.lateHandle n else u) s

/-- Every late entry after a floor or at the end of reserve hold (R48, R383); not while PD11 is fenced. -/
def State.launchesWake (s : State) : State :=
  if s.isFenced 8 11 then s else (List.range 128).foldl (fun u n => u.lateHandle n) s

/-- T_k of the next firing in ns (LN_NEXTn). -/
def State.launchNext (s : State) (n : Nat) : Nat :=
  let l := s.launch n
  if l.state = 2 then (l.instant l.k % 2 ^ 64).toNat else 0

/-- The word LN_CTLn shows. -/
def State.lnCtlWord (s : State) (n : Nat) : Word :=
  let l := s.launch n
  w32 (l.state * 2 ^ 29 + b2n l.onStart * 2 ^ 28 + l.late * 2 ^ 26 + l.tb * 2 ^ 24 + l.action * 2 ^ 20 + b2n l.allBound * 2 ^ 19 + l.arg)

/-- The word LN_CNTn shows. -/
def State.lnCntWord (s : State) (n : Nat) : Word := w32 ((s.launch n).fired * 65536 + (s.launch n).skipped)

/-! ### Opcodes (R372, R390 to R392) -/

/-- The largest ARG of an action (R373), and whether the code is valid. -/
def launchArgOk (action arg : Nat) : Bool :=
  match action with
  | 1 => decide (arg < 192)
  | 2 | 3 => decide (arg < 32)
  | 4 | 5 => decide (arg < 64)
  | 6 => decide (arg < 4)
  | _ => false

/-- The fields of LN_WRITE are in range (R372, R373). -/
def launchWordsOk (c : Call) : Bool :=
  let action := c.fld 6 31 28
  let period := c.pair 3
  c.fld 0 31 14 == 0 && c.fld 0 11 11 == 0 && c.fld 0 7 7 == 0 && c.fld 6 27 9 == 0 && c.fld 7 31 18 == 0 &&
  (!bitAt (c.word 0) 10 || decide (10000 ≤ c.pair 1)) &&
  (if period = 0 then decide ((c.word 5).toNat ≤ 1) else decide (20000 ≤ period) && decide (period < 2 ^ 48)) &&
  launchArgOk action (c.fld 6 7 0) &&
  (!bitAt (c.word 6) 8 || (action == 1 && c.fld 6 7 0 == 0)) &&
  (action ≠ 3 || c.fld 7 17 16 ≠ 3) && (action ≠ 2 || c.fld 7 17 17 == 0) &&
  (if action = 2 then c.fld 7 15 0 ≠ 0 else c.fld 7 15 0 == 0)

/-- The entry that LN_WRITE programs, before late handling (R372, R376). -/
def launchOf (c : Call) : Launch :=
  let period := c.pair 3
  let late := c.fld 0 13 12
  { state := if bitAt (c.word 0) 10 then 1 else 2, onStart := bitAt (c.word 0) 10, late := if late = 0 then (if period = 0 then 1 else 2) else late,
    tb := c.fld 0 9 8, time := c.pair 1, period := period, rept := (c.word 5).toNat, action := c.fld 6 31 28, allBound := bitAt (c.word 6) 8,
    arg := c.fld 6 7 0, pinMode := c.fld 7 17 16, width := c.fld 7 15 0, t0 := c.pair 1, k := 0, fired := 0, skipped := 0, firings := 0 }

/-- LN_WRITE. -/
def opLnWrite : OpDef where
  code := 0x34
  priv := 1
  async := false
  lenOk := fun n _ => n == 8
  valid := fun _ c => launchWordsOk c
  allow := fun s c => firstStatus [(s.isFenced 8 11, stDomainOff), (s.pwr.reserveHold, stNoBudget), (!s.tbSet (c.fld 0 9 8), stNotPermitted),
    (s.slt.stale && s.saltTb == some (c.fld 0 9 8), stDivergent), (s.launchLate (launchOf c) && (launchOf c).late == 3, stLate)]
  run := fun s c =>
    let n := c.fld 0 6 0
    let l := launchOf c
    if s.launchLate l && l.late = 3 then (s, stLate, [])
    else ((s.setLaunch n l).lateHandle n, 0, [])

/-- LN_CANCEL (R390). -/
def opLnCancel : OpDef where
  code := 0x35
  priv := 1
  async := false
  lenOk := fun n _ => n == 1
  valid := fun _ c => c.fld 0 31 7 == 0
  allow := fun s _ => if s.isFenced 8 11 then stDomainOff else 0
  run := fun s c =>
    let l := s.launch (c.fld 0 6 0)
    (s.setLaunch (c.fld 0 6 0) Launch.reset, 0, [w32 (l.state * 2 ^ 29 + l.firings)])

/-- TM_WRITE (R391). -/
def opTmWrite : OpDef where
  code := 0x36
  priv := 1
  async := false
  lenOk := fun n _ => n == 4
  valid := fun _ c => c.fld 0 31 9 == 0 && c.fld 0 7 6 == 0 && c.fld 1 31 29 == 0 && c.fld 1 27 24 == 0 && c.fld 1 10 9 == 0 &&
    c.word 2 ≠ 0 && (!bitAt (c.word 1) 17 || decide ((c.word 3).toNat < (c.word 2).toNat))
  allow := fun s _ => if s.isFenced 8 11 then stDomainOff else 0
  run := fun s c =>
    let n := c.fld 0 5 0
    let s1 := ((s.setReg .tmCtl n (c.word 1)).setReg .tmEnd n (c.word 2)).setReg .tmMatch n (c.word 3)
    let s2 := s1.modTimer n (fun t => { t with state := 0, count := 0, start := s.tb0u, matched := false })
    (if bitAt (c.word 0) 8 then (s2.timerStart n s.tb0u).1 else s2, 0, [])

end Sys2Proof.Machine
end

