-- ==== Sys2Proof/Machine/Time.lean ====
section
/-! DEFINITION. The disciplined timebases (spec 11): states, servo, steps, time messages, opcodes and registers. -/

namespace Sys2Proof.Machine

/-! ### Sources and states (R348 to R351) -/

/-- SOURCE of a timebase (R348). -/
def State.tbSource (s : State) (k : Nat) : Nat := s.afld .tbCtl k 31 30

/-- The hub leads the saltern (R404). -/
def State.isLeader (s : State) : Bool := s.slt.state = 4

/-- The timebase is the saltern's grandmaster (R349). -/
def State.isGm (s : State) (k : Nat) : Bool := s.isLeader && (s.tbSource k == 1 || s.tbSource k == 2)

/-- The state in which a timebase starts (R351). -/
def State.tbStart (s : State) (k : Nat) : Nat := if s.tbSource k = 0 || s.isGm k then 1 else 2

/-- LOSS in units of 1/64 ns. -/
def State.lossUnits (s : State) (k : Nat) : Nat := s.afld .tbCtl k 25 22 * 64000000000

/-- Units of 2^−32 ns to whole ns, rounded down. -/
def fineNs (x : Int) : Int := x / 2 ^ 32

/-- An OUTLIER begins or ends (R413). -/
def State.setOutlier (s : State) (on : Bool) : State :=
  if s.slt.outlier = on then s
  else
    let s1 := { s with slt := { s.slt with outlier := on } }.evt .legEvt 0 4
    if on then s1 else (List.range 128).foldl (fun u n => u.logEnd 11 n 0x23) s1

/-- The OUTLIER rule on the saltern timebase (R413): `o` is the offset just measured, where one was. -/
def State.outlierCheck (s : State) (k : Nat) (o : Option Int) : State :=
  if s.slt.state ≠ 3 || s.saltTb ≠ some k then s
  else if s.slt.lockedOnce && ((o.map (fun x => decide (1000 * 2 ^ 32 < x.natAbs))).getD false || decide (4 ≤ (s.tb k).state)) then s.setOutlier true
  else s

/-- LOCKED is set (R353); on the saltern timebase, an OUTLIER ends with it, in whatever state the hub is (R413). -/
def State.lockOn (s : State) (k : Nat) : State :=
  let t := s.tb k
  if t.locked then s
  else
    let s1 := ((s.setTb k { t with locked := true, unlockRun := 0 }).evt .tbEvt 0 (8 + (k - 1))).timeEvent 4 k t.epoch (fineNs t.offs)
    if s1.saltTb ≠ some k then s1
    else (if s1.slt.state = 3 then { s1 with slt := { s1.slt with lockedOnce := true } } else s1).setOutlier false

/-- LOCKED is cleared (R353). -/
def State.lockOff (s : State) (k : Nat) : State :=
  let t := s.tb k
  let s1 := s.setTb k { t with locked := false, lockRun := 0, unlockRun := 0 }
  if t.locked then (s1.evt .tbEvt 0 (8 + (k - 1))).timeEvent 5 k t.epoch (fineNs t.offs) else s1

/-- Enter a state of R350; a run of DISCONTINUITY ends with the state, LOCKED with TRACK. -/
def State.tbEnter (s : State) (k st : Nat) : State :=
  let old := (s.tb k).state
  let s1 := s.modTb k (fun t => { t with state := st })
  let s2 := if old = 3 && st ≠ 3 then s1.lockOff k else s1
  let s3 := if old = 5 && st ≠ 5 then s2.logEnd 10 k 0x30 else s2
  let s4 := if st = 4 && old ≠ 4 then s3.evt .tbEvt 0 (4 + (k - 1)) else s3
  if 4 ≤ st then s4.outlierCheck k none else s4

/-- Record a rate change or a step in the log of R347. -/
def Tb.note (t : Tb) (tick : Nat) : Tb := { t with rates := ((tick, t.r) :: t.rates).take 16 }

/-! ### Steps (R354, R601) -/

/-- What a step of timebase `k` does to the POLLED channels that name it (R601). -/
def State.chansStepped (s : State) (k : Nat) (forward : Bool) : State :=
  (s.runningChans.filter (fun c => (s.ad c).acq == 0 && (s.ad c).tb == k)).foldl
    (fun u c => u.modChan c (fun x => { x with restartOwed := true, stepGap := x.stepGap || forward })) s

/-- A step by `d` (units of 2^−32 ns): epoch, log, RESTEP event, EPOCH tide marks, channels, launches (R354, R382, R601). -/
def State.tbStep (s : State) (k : Nat) (d : Int) : State :=
  let s1 := s.modTb k (fun t => { t with v := t.v + d, epoch := (t.epoch + 1) % 256 }.note s.tick)
  let s2 := s1.timeEvent 3 k (s1.tb k).epoch (fineNs d)
  let s3 := (s2.tideAll 3).chansStepped k (decide (0 < d))
  if 0 < d then s3.launchesStepped k else s3

/-- Set an UNSET timebase to a value (units of 2^−32 ns) at this instant (R351). -/
def State.tbFirst (s : State) (k : Nat) (v : Int) : State :=
  let s1 := s.setTb k { Tb.reset with state := s.tbStart k, hops := (s.tb k).hops, gm := (s.tb k).gm, syncs := (s.tb k).syncs }
  (s1.modTb k (fun t => { t with v := t.v + (v - s1.tbFine k) }.note s.tick)).launchesStepped k

/-! ### The servo (R352, R353) -/

/-- tau of R352 in seconds. -/
def tbTau (n : Nat) : Rat := mkRat (2 ^ n) 8

/-- R352: the new freq and r from the present ones, the offset in ns, dt in s, tau and SLEW, in binary64. -/
def servo (freq : Rat) (r : Int) (o dt tau : Rat) (slew : Nat) : Rat × Int :=
  let a := f64 (o * 2 ^ 40)
  let freq1 := f64 (freq - f64 (f64 (a / f64 (f64 (f64 (4 * tau) * tau) * 10 ^ 9)) * dt))
  let t0 := f64 (freq1 - f64 (a / f64 (tau * 10 ^ 9)))
  let lim := f64 (f64 ((slew * 10 : Nat) * f64 (mkRat 1099511627776 (10 ^ 9))) * dt)
  let hi := f64 (r + lim)
  let lo := f64 (r - lim)
  let t1 := if slew ≠ 0 && decide (hi < t0) then hi else t0
  let t2 := if slew ≠ 0 && decide (t1 < lo) then lo else t1
  let t3 := max (-1099511628) (min 1099511628 t2)
  (freq1, roundAway t3)

/-- A servo update with offset `o` (units of 2^−32 ns). -/
def State.servoUpdate (s : State) (k : Nat) (o : Int) : State :=
  let t := s.tb k
  let loss := s.lossUnits k
  let dt := min loss (match t.accAt with
    | some a => s.tb0u - a
    | none => loss)
  let freq : Rat := if t.state = 3 || t.state = 1 then t.freq.val else t.r
  let (fq, r) := servo freq t.r (f64 (mkRat o (2 ^ 32))) (f64 (mkRat dt 64000000000)) (tbTau (s.afld .tbCtl k 29 26)) (s.afld .tbCtl k 15 8)
  s.setTb k ({ t with freq := Dy.of fq, r := r, accAt := some s.tb0u }.note s.tick)

/-- The lock counts of R353 for a measurement that arrives in TRACK. -/
def State.lockCount (s : State) (k : Nat) (o : Int) : State :=
  let thr := s.afld .tbCtl k 21 16 * 2 ^ 32
  let t := s.tb k
  let good := decide (o.natAbs ≤ 4 * thr)
  let bad := decide (8 * thr < o.natAbs)
  let s1 := s.setTb k { t with lockRun := if good then min 8 (t.lockRun + 1) else 0, unlockRun := if bad then t.unlockRun + 1 else 0 }
  if 8 ≤ (s1.tb k).lockRun then s1.lockOn k
  else if t.locked && 2 ≤ (s1.tb k).unlockRun then s1.lockOff k
  else s1

/-- A measurement of a set timebase (R351): `o` in units of 2^−32 ns. Nothing is processed while PD2 is off or TIME is fenced (R293, R356). -/
def State.measure (s : State) (k : Nat) (o : Int) (backward : Bool) : State :=
  if s.svcFenced 26 || s.pwr.floor ≠ 0 || (s.tb k).state = 0 then s
  else
    let s1 := s.modTb k (fun t => { t with offs := o, measAt := some s.tb0u })
    let inWin := decide (o.natAbs ≤ 1000 * s.afld .tbCtl k 7 0 * 2 ^ 32)
    let st := (s1.tb k).state
    let s2 :=
      if st = 2 then
        if inWin then (s1.servoUpdate k o).tbEnter k 3
        else ((s1.modTb k (fun t => { t with accAt := some s.tb0u, freq := ⟨t.r, 0⟩ })).tbEnter k 3).tbStep k (-o)
      else if st = 1 then (if inWin then s1.servoUpdate k o else s1)
      else if st = 3 || st = 4 then
        if inWin && !backward then
          let u := (s1.servoUpdate k o).tbEnter k 3
          if st = 3 then u.lockCount k o else u
        else
          (((s1.tbEnter k 5).evt .tbEvt 0 (k - 1)).logErr 10 k 0x30).timeEvent 2 k (s1.tb k).epoch (fineNs o)
      else s1.logErr 10 k 0x30
    s2.outlierCheck k (some o)

/-- LOSS_TIMEOUT (R351): no accepted measurement for LOSS seconds. -/
def State.lossTimeout (s : State) (k : Nat) : State :=
  let t := s.tb k
  if t.state = 3 && decide (s.lossUnits k ≤ s.tb0u - t.accAt.getD 0) then s.tbEnter k 4 else s

/-- LOSS_TIMEOUT. -/
def execLossTimeout (tb : Nat) (s : State) : Host.Outcome State Fault Refusal := act (onlyIf (1 ≤ tb && tb ≤ 3) (fun u => u.lossTimeout tb)) s

/-! ### Time messages (R358, R359) -/

/-- A time message of R358; TIME and CORRECTION in units of 2^−16 ns. -/
structure TimeMsg where
  type : Nat
  hops : Nat
  gm : Nat
  gmEpoch : Nat
  seq : Nat
  corr : Int
  time : Int
  leap : Nat
  flags : Nat
  srcPort : Nat
  src : Nat
  deriving DecidableEq, Repr

/-- The message in eight words; `none` for an invalid VERSION, TYPE or reserved field (R359). -/
def TimeMsg.parse (l : List Word) : Option TimeMsg :=
  let w := fun k => l.getD k 0
  let type := bits (w 0) 3 0
  if l.length ≠ 8 || bits (w 0) 7 4 ≠ 3 || type = 0 || 5 < type || bits (w 0) 15 13 ≠ 0 || bits (w 0) 23 21 ≠ 0 || bits (w 5) 31 27 ≠ 0 ||
      2 < bits (w 6) 7 5 || bits (w 6) 31 8 ≠ 0 || w 7 ≠ 0 || (type ≠ 1 && bits (w 0) 12 8 ≠ 0) then none
  else some
    { type := type, hops := bits (w 0) 12 8, gm := bits (w 0) 20 16, gmEpoch := bits (w 0) 31 24, seq := bits (w 1) 15 0,
      corr := signedOf 48 (bits (w 1) 31 16 + 2 ^ 16 * (w 2).toNat),
      time := (((w 3).toNat + 2 ^ 32 * (w 4).toNat) * 2 ^ 16 + bits (w 5) 15 0 : Nat), leap := bits (w 5) 23 16, flags := bits (w 5) 26 24,
      srcPort := bits (w 6) 7 5, src := bits (w 6) 4 0 }

/-- The eight words of a message (R358). -/
def TimeMsg.words (m : TimeMsg) : List Word :=
  let corr := (m.corr % 2 ^ 48).toNat
  let time := (m.time % 2 ^ 80).toNat
  [w32 (0x30 + m.type + m.hops * 2 ^ 8 + m.gm * 2 ^ 16 + m.gmEpoch * 2 ^ 24), w32 (m.seq + corr % 2 ^ 16 * 2 ^ 16), w32 (corr / 2 ^ 16),
   w32 (time / 2 ^ 16), w32 (time / 2 ^ 48), w32 (time % 2 ^ 16 + m.leap * 2 ^ 16 + m.flags * 2 ^ 24), w32 (m.srcPort * 32 + m.src), 0]

/-- An invalid time message is counted (R359). -/
def State.badMsg (s : State) : State := s.countFault .tbLatcnt 0 23 16 1

/-- A message of this hub: `time` in units of 2^−32 ns, `corr` in units of 2^−16 ns. -/
def State.ownMsg (s : State) (type seq : Nat) (time corr : Int) (port : Nat) : TimeMsg :=
  let utc := s.app .tbUtc 0
  { type := type, hops := 0, gm := if s.isLeader then s.slt.role.index else s.slt.leader, gmEpoch := (s.saltTb.map (fun k => (s.tb k).epoch)).getD 0,
    seq := seq, corr := corr, time := time / 2 ^ 16, leap := bits utc 7 0,
    flags := b2n (bitAt utc 29) * 4 + b2n (bitAt utc 30) * 2 + b2n (bitAt utc 31), srcPort := port, src := s.slt.role.index }

/-! ### Sending on the links -/

/-- Does link `l` carry frames: enabled, up, not fenced, PD10 powered? -/
def State.linkRuns (s : State) (l : Nat) : Bool :=
  bitAt (s.app .legCfg 0) (31 - l) && (s.legLink l).up && !s.isFenced 6 l && !s.isFenced 8 10 && s.pwr.floor = 0 && !s.pwr.reserveHold

/-- The place of a frame in the order in which a transmitter takes frames (R401): TIME, then VIEW and ANNOUNCE, then SAMPLES, and in each class a forwarded frame before one of hub
`own`. -/
def LegFrame.rank (own : Nat) (f : LegFrame) : Nat := (if f.type = 1 then 0 else if f.type = 4 then 4 else 2) + b2n (f.src == own)

/-- Frame `f` takes its place on link `l` among those that its command asked for (R401). -/
def lineUp (own l : Nat) (f : LegFrame) : List (Nat × LegFrame) → List (Nat × LegFrame)
  | [] => [(l, f)]
  | x :: t => if x.1 = l && decide (f.rank own < x.2.rank own) then (l, f) :: x :: t else x :: lineUp own l f t

/-- Put a frame on link `l`. A time message takes the link's transmit latch; one whose edge that latch discards has no stamp and is not sent (R357; log 76). -/
def State.putFrame (s : State) (l : Nat) (f : LegFrame) : State :=
  if !s.linkRuns l then s
  else
    let (t, ok) := if f.type = 1 then s.edgePush (76 + l) else (s, true)
    if !ok then t
    else
      let s1 := t.modLegLink l (fun x => { x with sent := (x.sent + 1) % 2 ^ 32 })
      { s1 with slt := { s1.slt with sent := lineUp s1.slt.role.index l f s1.slt.sent } }

/-- Does the hub serve the saltern by radio: a mode is applied, nothing stops the radio, and the hub is not in reserve hold (R51)? -/
def State.rfServes (s : State) : Bool := s.rfMode ≠ 0 && !s.rfStopped && !s.pwr.reserveHold

/-- Begin a sending command: the list of sent frames is this command's. -/
def State.clearSent (s : State) : State := { s with slt := { s.slt with sent := [], aborted := [] } }

/-- A frame of this hub's own (R397), with the next sequence number. -/
def State.ownFrame (s : State) (type : Nat) (payload : List Word) : State × LegFrame :=
  let q := (s.slt.seq + 1) % 65536
  ({ s with slt := { s.slt with seq := q } }, ⟨type, s.slt.role.index, 0, q, s.slt.epoch, payload⟩)

/-- Send a frame of this hub's own on every link (R402). -/
def State.sendOwn (s : State) (type : Nat) (payload : List Word) : State :=
  let (t, f) := s.ownFrame type payload
  (t.putFrame 0 f).putFrame 1 f

/-- A time message by radio; the stamps of its transmission are made when it is sent (R357). -/
def State.radioTime (s : State) (m : TimeMsg) (dst : Nat) : State :=
  if !s.rfServes then s
  else s.rfRequest (s.protoFrame 1 dst (wordsBytes m.words))

/-! ### SYNC (R359 to R363) -/

/-- ASYM of a link, in units of 2^−32 ns. -/
def State.asym (s : State) (l : Nat) : Int := sbits (s.app .tbLink l) 31 16 * 2 ^ 32

/-- The inbound delay of a link: link_delay + asym, or d of R362, which includes asym. -/
def State.inbound (s : State) (l : Nat) : Int :=
  match (s.link l).delay with
  | some d => if l = 2 then d else d + s.asym l
  | none => s.asym l

/-- The timebase that a path disciplines: SOURCE LEGUS for a link, RADIO for the radio. -/
def State.pathTb (s : State) (l : Nat) : Option Nat := [1, 2, 3].find? (fun k => s.tbSource k == (if l = 2 then 2 else 1))

/-- The hub takes SYNCs: neither SOLO nor the LEADER (R349). -/
def State.takesSync (s : State) : Bool := s.slt.state ≠ 0 && s.slt.state ≠ 4

/-- TB_UTC applies (R363): on a hub that takes SYNCs by then only UTC_TB is taken; a change of LEAP is a TIME event, with the signed offset (R287). -/
def State.applyTbUtc (s : State) : State :=
  let old := s.app .tbUtc 0
  let v0 := s.reg .tbUtc 0
  let v := if s.takesSync then setBits old 25 24 (bits v0 25 24) else v0
  let s1 := (s.setReg .tbUtc 0 v).setApp .tbUtc 0 v
  if bits v 7 0 = bits old 7 0 then s1 else s1.timeEvent 6 (sbits v 7 0) 0 0

/-- TB_UTC, TB_SYNCCFG and the ASYM fields apply at the next measurement or SYNC transmission (R371). -/
def State.applyTimeCfg (s : State) : State :=
  let s1 := s.applyTbUtc.setApp .tbSynccfg 0 (s.reg .tbSynccfg 0)
  let s2 := [0, 1, 2].foldl (fun u l => u.setApp .tbLink l (u.reg .tbLink l)) s1
  if s2.app .tbUtc 0 = s.app .tbUtc 0 then s2 else s2.calResource

/-- An accepted SYNC copies the UTC fields; a change of LEAP is a TIME event (R363). -/
def State.copyUtc (s : State) (m : TimeMsg) : State :=
  let old := s.app .tbUtc 0
  let put := fun w => setBits (setBits (setBits (setBits w 31 31 m.flags) 30 30 (m.flags / 2)) 29 29 (m.flags / 4)) 7 0 m.leap
  let s1 := (s.setReg .tbUtc 0 (put (s.reg .tbUtc 0))).setApp .tbUtc 0 (put old)
  let s2 := if bits old 7 0 = m.leap then s1 else s1.timeEvent 6 (signedOf 8 m.leap) 0 0
  if s2.app .tbUtc 0 = old then s2 else s2.calResource

/-- A DELAY_REQ is due after every 2^DREQ SYNCs (R359). -/
def State.dreqDue (s : State) (n : Nat) : Bool := n % 2 ^ min 4 (s.afld .tbSynccfg 0 15 12) = 0

/-- The offset measurement of an accepted SYNC on timebase `k`, or its first value (R351, R361, R362). -/
def State.syncMeasure (s : State) (l k : Nat) (m : TimeMsg) (backward : Bool) : State :=
  let target := (m.time + m.corr) * 2 ^ 16 + s.inbound l
  if (s.tb k).state = 0 then (if s.svcFenced 26 || s.pwr.floor ≠ 0 then s else s.tbFirst k target)
  else if l = 2 && (s.link 2).delay.isNone then s
  else s.measure k (s.tbFine k - target) backward

/-- The last accepted SYNC from the GM of a message (R359). -/
def Tb.lastOf (t : Tb) (m : TimeMsg) : Option (Nat × Nat × Int) := t.syncs.find? (fun x => x.1 == m.gm)

/-- The SYNC repeats the last accepted one from its GM (R359). -/
def Tb.repeats (t : Tb) (m : TimeMsg) : Bool := match t.lastOf m with
  | some x => x.2.1 == m.seq
  | none => false

/-- The SYNC's TIME + CORRECTION is not later than that of the last accepted one from its GM: a backward master (R359). -/
def Tb.backward (t : Tb) (m : TimeMsg) : Bool := match t.lastOf m with
  | some x => decide (m.time + m.corr ≤ x.2.2)
  | none => false

/-- A SYNC is accepted (R359). -/
def Tb.accepted (t : Tb) (m : TimeMsg) : Tb :=
  { t with syncs := (m.gm, m.seq, m.time + m.corr) :: t.syncs.filter (fun x => x.1 ≠ m.gm), hops := m.hops, gm := m.gm }

/-- A SYNC on path `l` for timebase `k`: duplicate, not yet acceptable, or accepted (R359, R360). While TIME is fenced it takes none (R293). -/
def State.syncFor (s : State) (l k : Nat) (m : TimeMsg) : State :=
  if (s.tb k).repeats m then s.countFault .tbLatcnt 0 31 24 1
  else if s.svcFenced 26 || (l ≠ 2 && m.hops ≠ 0 && (s.link l).delay.isNone) then s
  else (((s.modTb k (fun x => x.accepted m)).copyUtc m).svcWork 26 3000).syncMeasure l k m ((s.tb k).backward m)

/-- Is the SYNC a duplicate, which is not forwarded? -/
def State.syncDup (s : State) (l : Nat) (m : TimeMsg) : Bool := match s.pathTb l with
  | some k => (s.tb k).repeats m
  | none => false

/-- The LEADER's block of a ring (R402, R403). -/
def State.blocked (s : State) : Bool := s.isLeader && bitAt (s.app .legCfg 0) 29 && !s.slt.lifted

/-- Forward a SYNC onto the other link (R361, R400): HOPS, and CORRECTION by inbound and the residence, whose measured value is free (log 4). -/
def State.forwardSync (s : State) (l : Nat) (f : LegFrame) (m : TimeMsg) : State :=
  if m.hops = 31 || s.blocked then s
  else
    let (n, s1) := s.nextFree
    let m1 := { m with hops := m.hops + 1, corr := m.corr + s.inbound l / 2 ^ 16 + (Config.freeValue n).toNat }
    s1.putFrame (1 - l) { f with hops := min 31 (f.hops + 1), payload := m1.words }

/-- After a radio SYNC: the exchange of R362 remembers it, and a DELAY_REQ may follow, whose t3 is that of its transmission. -/
def State.radioSynced (s : State) (m : TimeMsg) : State :=
  match s.pathTb 2 with
  | none => s
  | some k =>
    let n := s.time.syncCount + 1
    let s1 := { s with time := { s.time with radioSync := some ((m.time + m.corr) * 2 ^ 16, s.tbFine k), syncCount := n, rfSyncAt := some s.tb0u } }
    if s1.dreqDue n then
      let q := ((s1.link 2).seq + 1) % 65536
      let s2 := s1.modLink 2 (fun x => { x with seq := q, req := none })
      s2.radioTime (s2.ownMsg 4 q 0 0 2) (if s2.rfMode = 2 then m.src else s2.rfBroadcast)
    else s1

/-- A SYNC received on path `l` at the present instant: every hub forwards it (R400), and one that takes SYNCs measures by it (R349). -/
def State.recvSync (s0 : State) (l : Nat) (f : LegFrame) (m : TimeMsg) : State :=
  let s := s0.applyTimeCfg
  let dup := s.syncDup l m
  let s1 := if l < 2 && !dup then s.forwardSync l f m else s
  if !s.takesSync then s1
  else
    let s2 := match s1.pathTb l with
      | some k => s1.syncFor l k m
      | none => s1
    if l = 2 && !dup then s2.radioSynced m else s2

/-- PDELAY_REQ (R359): answered on the same link with t2 and the turnaround, whose value is free (log 4). -/
def State.recvPdelayReq (s : State) (l : Nat) (m : TimeMsg) : State :=
  let (n, s1) := s.nextFree
  let r := s1.ownMsg 3 m.seq (s1.tb0u * 2 ^ 26) (Config.freeValue n).toNat l
  let (s2, f) := s1.ownFrame 1 r.words
  s2.putFrame l f

/-- PDELAY_RESP (R360). -/
def State.recvPdelayResp (s : State) (l : Nat) (m : TimeMsg) : State :=
  let x := s.link l
  match x.req with
  | none => s
  | some (q, t1) =>
    if q ≠ m.seq then s
    else
      let d := ((s.tb0u * 2 ^ 26 : Nat) - t1 - m.corr * 2 ^ 16) / 2
      let delay := match x.delay with
        | none => d
        | some p => p + (d - p) / 8
      s.setLink l { x with delay := some delay, req := none }

/-- DELAY_REQ (R359): the LEADER answers with t4. -/
def State.recvDelayReq (s : State) (m : TimeMsg) : State :=
  match s.saltTb with
  | none => s
  | some k =>
    if !s.isLeader then s
    else s.radioTime (s.ownMsg 5 m.seq (s.tbFine k) 0 2) (if s.rfMode = 2 then m.src else s.rfBroadcast)

/-- DELAY_RESP (R362): completes the exchange. -/
def State.recvDelayResp (s : State) (m : TimeMsg) : State :=
  let x := s.link 2
  match x.req, s.time.radioSync with
  | some (q, t3), some (t1, t2) =>
    if q ≠ m.seq then s
    else s.setLink 2 { x with delay := some (((t2 - t1) + (m.time * 2 ^ 16 - t3)) / 2 + s.asym 2), req := none }
  | _, _ => s

/-- The receive latch of a path (R341). -/
def rxLatch (l : Nat) : Nat := if l < 2 then 74 + l else 78

/-- A time message with its receipt stamped; the types that belong to the path are handled (R359). -/
def State.takeTime (s : State) (l : Nat) (f : LegFrame) (m : TimeMsg) : State :=
  match m.type with
  | 1 => s.recvSync l f m
  | 2 => if l < 2 then s.recvPdelayReq l m else s.badMsg
  | 3 => if l < 2 then s.recvPdelayResp l m else s.badMsg
  | 4 => if l = 2 then s.recvDelayReq m else s.badMsg
  | _ => if l = 2 then s.recvDelayResp m else s.badMsg

/-- A time message that path `l` has taken in, in its frame. One whose edge the receive latch discards has no stamp and is not handled (R344, R357; log 76). -/
def State.recvTime (s : State) (l : Nat) (f : LegFrame) : State :=
  let r := s.edgePush (rxLatch l)
  match TimeMsg.parse f.payload with
  | none => s.badMsg
  | some m => if r.2 then r.1.takeTime l f m else r.1

/-- The frame of a message given without one. -/
def State.bareFrame (s : State) (words : List Word) : LegFrame :=
  let w := fun k => words.getD k 0
  ⟨1, bits (w 0) 20 16, bits (w 0) 12 8, bits (w 1) 15 0, s.slt.epoch, words⟩

/-- A message of a given type reaches the hub over path `l`; another type is an invalid message. -/
def State.timeCmd (s : State) (l type f : Nat) (words : List Word) : State :=
  let u := (s.atF f).clearSent
  if (l < 2 && !u.linkRuns l) || (l = 2 && !u.rfServes) then u
  else if bits (words.getD 0 0) 3 0 = type then u.recvTime l (u.bareFrame words) else u.badMsg

/-- SYNC. -/
def execSync (link f : Nat) (words : List Word) (s : State) : Host.Outcome State Fault Refusal :=
  act (onlyIf (link < 3) (fun u => u.timeCmd link 1 f words)) s

/-- PDELAY_REQ. -/
def execPdelayReq (link f : Nat) (words : List Word) (s : State) : Host.Outcome State Fault Refusal :=
  act (onlyIf (link < 2) (fun u => u.timeCmd link 2 f words)) s

/-- PDELAY_RESP. -/
def execPdelayResp (link f : Nat) (words : List Word) (s : State) : Host.Outcome State Fault Refusal :=
  act (onlyIf (link < 2) (fun u => u.timeCmd link 3 f words)) s

/-- DELAY_REQ. -/
def execDelayReq (f : Nat) (words : List Word) (s : State) : Host.Outcome State Fault Refusal := act (fun u => u.timeCmd 2 4 f words) s

/-- DELAY_RESP. -/
def execDelayResp (words : List Word) (s : State) : Host.Outcome State Fault Refusal := act (fun u => u.timeCmd 2 5 122071 words) s

/-- PDELAY_TIMEOUT (R360): the link keeps its link_delay. -/
def execPdelayTimeout (link : Nat) (s : State) : Host.Outcome State Fault Refusal :=
  act (onlyIf (link < 2) (fun u => u.modLink link (fun x => { x with req := none }))) s

/-- DELAY_RESP_TIMEOUT (R362): the exchange is abandoned. -/
def execDelayRespTimeout (s : State) : Host.Outcome State Fault Refusal := act (fun u => u.modLink 2 (fun x => { x with req := none })) s

/-- A radio frame with a time message has been sent, its timestamp point at the TB0 instant `u` (R357, R362): TIME of a SYNC, and t3 of a DELAY_REQ. The stamp is the radio's transmit
latch's; where that latch discards the edge a SYNC's TIME is a free value, and a DELAY_REQ opens no exchange (log 76). The content that was sent comes with it. -/
def State.radioStamp (s : State) (content : List Byte) (u : Nat) : State × List Byte :=
  match TimeMsg.parse (bytesWords (content.length / 4) content) with
  | none => (s, content)
  | some m =>
    let (s1, ok) := s.edgePush 79
    match m.type, s.saltTb with
    | 1, some k =>
      let s2 := { s1 with time := { s1.time with rfSyncAt := some s.tb0u } }
      let (n, s3) := s2.nextFree
      if ok then (s2, wordsBytes ({ m with time := s.tbFineAt k u / 2 ^ 16 } : TimeMsg).words)
      else (s3, wordsBytes ({ m with time := (Config.freeValue n).toNat } : TimeMsg).words)
    | 4, _ => match s.pathTb 2 with
      | some k => (if ok then s1.modLink 2 (fun x => { x with req := some (m.seq, s.tbFineAt k u) }) else s1, content)
      | none => (s1, content)
    | _, _ => (s1, content)

/-- SYNC_SEND (R359): the LEADER sends a SYNC of its saltern timebase, on the links or by radio. -/
def State.syncSend (s0 : State) (l : Nat) : State :=
  match s0.saltTb with
  | none => s0
  | some k =>
    if !s0.isLeader || !s0.tbSet k then s0
    else
      let s := s0.applyTimeCfg
      let q := (s.time.syncSeq + 1) % 65536
      let s1 := { s with time := { s.time with syncSeq := q } }
      let m := s1.ownMsg 1 q (s1.tbFine k) 0 l
      if l < 2 then
        let (s2, f) := s1.ownFrame 1 m.words
        (s2.putFrame 0 { f with payload := ({ m with srcPort := 0 } : TimeMsg).words }).putFrame 1 { f with payload := ({ m with srcPort := 1 } : TimeMsg).words }
      else s1.radioTime m s1.rfBroadcast

/-- SYNC_SEND. -/
def execSyncSend (link f : Nat) (s : State) : Host.Outcome State Fault Refusal :=
  act (onlyIf (link < 3) (fun u => (u.atF f).clearSent.syncSend link)) s

/-- PDELAY_SEND (R359): a request on a running link of a hub that is not SOLO. -/
def State.pdelaySend (s : State) (l : Nat) : State :=
  if s.slt.state = 0 || !s.linkRuns l then s
  else
    let q := ((s.link l).seq + 1) % 65536
    let s1 := s.modLink l (fun x => { x with seq := q, req := some (q, (s.tb0u * 2 ^ 26 : Nat)) })
    let (s2, f) := s1.ownFrame 1 (s1.ownMsg 2 q 0 0 l).words
    s2.putFrame l f

/-- PDELAY_SEND. -/
def execPdelaySend (link f : Nat) (s : State) : Host.Outcome State Fault Refusal :=
  act (onlyIf (link < 2) (fun u => (u.atF f).clearSent.pdelaySend link)) s

/-! ### Control and registers (R369 to R371) -/

/-- May the word be applied to TB_CTLn (R349, R371)? -/
def State.tbCtlOk (s : State) (n : Nat) (v : Word) : Bool :=
  bits v 29 26 ≤ 10 && bits v 25 22 ≠ 0 && bits v 7 0 ≠ 0 && bits v 21 16 ≠ 0 &&
  !((bits v 31 30 == 1 || bits v 31 30 == 2) && [1, 2, 3].any (fun k => k ≠ n && s.tbSource k == bits v 31 30))

/-- A TB_ASSIGN, or an applied write of TB_CTLn that changes SOURCE, from the source `old` (R351, R371). -/
def State.tbAssigned (s : State) (n old : Nat) : State :=
  let st := (s.tb n).state
  if st = 0 then s
  else if s.tbSource n = 0 then s.tbEnter n 1
  else if st = 1 && s.tbSource n ≠ old then s.tbEnter n 4
  else s

/-- TB_CTLn at its boundary (R371). -/
def State.applyTbCtl (s : State) (n : Nat) : State :=
  let old := s.app .tbCtl n
  let v := s.reg .tbCtl n
  if v = old then s
  else if !s.tbCtlOk n v then (s.setReg .tbCtl n old).evt .tbEvt 0 17
  else
    let s1 := s.setApp .tbCtl n v
    if bits v 31 30 = bits old 31 30 then s1 else s1.tbAssigned n (bits old 31 30)

/-- The capture of R369: all four timebases and their epochs at this instant, by the read latch, into the stage that R555 gives. -/
def State.tbCapture (s : State) : State :=
  let c : TbCap := ⟨(List.range 4).map s.tbNow, [s.tbEpoch 1, s.tbEpoch 2, s.tbEpoch 3]⟩
  let (u, ok) := s.edgePush 80
  if !ok then u
  else if !u.groupOpen 0 then { u with time := { u.time with cap := c, capOvr := false } }
  else if u.time.cap2.isNone then { u with time := { u.time with cap2 := some c } }
  else { u with time := { u.time with capOvr := true } }

/-- A read of a timebase's value (R366, R369): the value at the read latch's grant; a grant that the latch discards (R344) has no instant, and the value is free (log 76). -/
def State.tbRead (s : State) (k : Nat) : State × Nat :=
  let (u, ok) := s.edgePush 80
  if ok then (u, s.tbNow k)
  else
    let (n, u1) := u.nextFree
    let (m, u2) := u1.nextFree
    (u2, (Config.freeValue n).toNat + 2 ^ 32 * (Config.freeValue m).toNat)

/-- The word TB_CAPST shows. -/
def State.tbCapstWord (s : State) : Word :=
  let e := s.time.cap.epochs
  w32 (b2n s.time.cap2.isSome * 2 ^ 31 + b2n s.time.capOvr * 2 ^ 30 + e.getD 2 0 * 2 ^ 16 + e.getD 1 0 * 2 ^ 8 + e.getD 0 0)

/-- The word TB_STATn shows. -/
def State.tbStatWord (s : State) (n : Nat) : Word :=
  let t := s.tb n
  w32 (t.state * 2 ^ 29 + b2n t.locked * 2 ^ 28 + b2n (t.state ≠ 0) * 2 ^ 27 + t.epoch * 2 ^ 16 + t.hops * 2 ^ 8 + t.gm)

/-- The word TB_OFFSn shows: 1/16 ns, saturating. -/
def State.tbOffsWord (s : State) (n : Nat) : Word := wInt (max (-(2 ^ 31)) (min (2 ^ 31 - 1) (((s.tb n).offs + 2 ^ 27) / 2 ^ 28)))

/-- The word TB_LINKn shows: ASYM as stored, and the delay in units of 1/4 ns, saturating. -/
def State.tbLinkWord (s : State) (n : Nat) : Word :=
  setBits (s.reg .tbLink n) 15 0 (min 65535 (((s.link n).delay.getD 0) / 2 ^ 30).toNat)

/-! ### Opcodes (R365 to R368) -/

/-- TB_READ (R366). -/
def opTbRead : OpDef where
  code := 0x30
  priv := 0
  async := false
  lenOk := fun n _ => n == 1
  valid := fun _ c => c.fld 0 31 2 == 0
  allow := fun _ _ => 0
  run := fun s c =>
    let k := c.fld 0 1 0
    let (u, v) := s.tbRead k
    let t := s.tb k
    (u, 0, pairOf v ++ [if k = 0 then w32 (2 ^ 21) else w32 (t.epoch * 2 ^ 24 + t.state * 2 ^ 21 + b2n t.locked * 2 ^ 20)])

/-- TB_SET (R367, R368). -/
def opTbSet : OpDef where
  code := 0x31
  priv := 1
  async := false
  lenOk := fun n _ => n == 3
  valid := fun _ c => c.fld 0 31 9 == 0 && c.fld 0 7 2 == 0 && c.fld 0 1 0 ≠ 0
  allow := fun s c =>
    let k := c.fld 0 1 0
    if bitAt (c.word 0) 8 then firstStatus [(s.svcFenced 26, stFenced), (!(s.tbSource k == 3 || s.isGm k), stNotPermitted)]
    else if (s.tb k).state = 0 then 0 else stNotPermitted
  run := fun s c =>
    let k := c.fld 0 1 0
    if bitAt (c.word 0) 8 then (s.applyTimeCfg.measure k (signedOf 64 (c.pair 1) * 2 ^ 32) false, 0, [])
    else (s.tbFirst k (c.pair 1 * 2 ^ 32 : Nat), 0, [])

/-- TB_RESTEP (R354, R367, R368). -/
def opTbRestep : OpDef where
  code := 0x32
  priv := 1
  async := false
  lenOk := fun n _ => n == 3
  valid := fun _ c => c.fld 0 31 9 == 0 && c.fld 0 7 2 == 0 && c.fld 0 1 0 ≠ 0 && (bitAt (c.word 0) 8 || c.pair 1 == 0)
  allow := fun s c =>
    let t := s.tb (c.fld 0 1 0)
    let recent := match t.measAt with
      | some a => decide (s.tb0u - a < s.lossUnits (c.fld 0 1 0))
      | none => false
    firstStatus [(!bitAt (c.word 0) 8 && s.svcFenced 26, stFenced), (t.state == 0, stNotPermitted), (!bitAt (c.word 0) 8 && !recent, stBusy)]
  run := fun s c =>
    let k := c.fld 0 1 0
    let d : Int := if bitAt (c.word 0) 8 then (c.pair 1 * 2 ^ 32 : Nat) - s.tbFine k else -(s.tb k).offs
    let s1 := (s.lockOff k).modTb k (fun t => { t with freq := ⟨t.r, 0⟩ })
    let s2 := (s1.tbEnter k 3).tbStep k d
    (s2, 0, [w32 (s2.tb k).epoch])

/-- The word TB_ASSIGN writes to TB_CTLn. -/
def assignWord (c : Call) : Word := w32 (c.fld 0 9 8 * 2 ^ 30 + c.fld 1 29 0)

/-- TB_ASSIGN (R365, R367, R368). -/
def opTbAssign : OpDef where
  code := 0x33
  priv := 1
  async := false
  lenOk := fun n _ => n == 2
  valid := fun s c => c.fld 0 31 10 == 0 && c.fld 0 7 2 == 0 && c.fld 0 1 0 ≠ 0 && c.fld 1 31 30 == 0 && s.tbCtlOk (c.fld 0 1 0) (assignWord c)
  allow := fun _ _ => 0
  run := fun s c =>
    let n := c.fld 0 1 0
    ((((s.setReg .tbCtl n (assignWord c)).modUnit 244 (fun u => { u with dirty := true })).setApp .tbCtl n (assignWord c)).tbAssigned n (s.tbSource n), 0, [])

end Sys2Proof.Machine
end

