-- ==== Sys2Proof/Machine/Saltern.lean ====
section
/-! DEFINITION. The saltern (spec 13): membership, views, frames on the links, remote samples, its opcodes. -/

namespace Sys2Proof.Machine

/-! ### Sending (R398, R400 to R402, R412) -/

/-- CMDSET of this hub. -/
def ownCmdset : Nat := 0x0300

/-- The hub is joined only by the radio (R412). -/
def State.onlyRadio (s : State) : Bool := !s.xoKept && s.rfMode ≠ 0

/-- The words of a radio frame's content that a mode allows (R427). -/
def State.radioWords (s : State) : Nat :=
  let auth := bitAt (s.app .rfMac 0) 30 && s.provisioned
  if s.rfMode = 1 then (if auth then 25 else 28) else (if auth then 27 else 30)

/-- Send words of a saltern frame by radio: KIND is the frame's type. -/
def State.radioSend (s : State) (kind : Nat) (words : List Word) : State :=
  if !s.rfServes then s else s.rfRequest (s.protoFrame kind s.rfBroadcast (wordsBytes words))

/-- Send a frame of this hub's own: on every link, and by radio where the hub is joined only by the radio or leads. -/
def State.saltSend (s : State) (type : Nat) (words : List Word) : State :=
  let s1 := s.sendOwn type words
  if s1.onlyRadio || s1.isLeader then s1.radioSend type words else s1

/-- A frame's header on the line (R397). -/
def LegFrame.header (f : LegFrame) : List Byte :=
  [BitVec.ofNat 8 (0x30 + f.type), BitVec.ofNat 8 f.src, BitVec.ofNat 8 f.hops, BitVec.ofNat 8 f.payload.length] ++ leBytes 2 f.seq ++ leBytes 2 f.view

/-- A frame's bytes on the line: header, payload, and the CRC over both, least significant byte first (R396). -/
def LegFrame.bytes (f : LegFrame) : List Byte :=
  let l := f.header ++ wordsBytes f.payload
  l ++ wordBytes (crc32c l)

/-- A frame's symbols: SOF, its bytes and EOF. A forwarded copy whose incoming frame proved bad has no end of its own but ABORT (R396, R400). -/
def LegFrame.symbols (f : LegFrame) (aborted : Bool) : List LineSym := .sof :: f.bytes.map LineSym.data ++ [if aborted then .abort else .eof]

/-- What the latest sending command put on the line of link `l`: its frames in their order, or K28.5 where it sent none (R395, R396, R401). -/
def State.lineOf (s : State) (l : Nat) : List LineSym :=
  let good := (s.slt.sent.filter (fun x => x.1 = l)).flatMap (fun x => x.2.symbols false)
  let bad := (s.slt.aborted.filter (fun x => x.1 = l)).flatMap (fun x => x.2.symbols true)
  if good = [] && bad = [] then [.idle] else good ++ bad

/-- Forward an accepted frame onto the other link (R400). -/
def State.forward (s : State) (l : Nat) (f : LegFrame) : State :=
  if f.hops = 31 || s.blocked then s else s.putFrame (1 - l) { f with hops := f.hops + 1 }

/-- REQ of the ANNOUNCE a hub sends now (R398, R405, R410, R419). -/
def State.annReq (s : State) : Nat :=
  if !s.slt.rejoin.isEmpty then 3
  else if s.slt.state = 1 then (if s.slt.stale then (if s.slt.role.autoRejoin then 3 else 1) else 1)
  else if s.slt.state = 3 && s.slt.stale && s.slt.role.autoRejoin then 3
  else 0

/-- The words of an ANNOUNCE. -/
def State.annWords (s : State) (req : Nat) : List Word :=
  [w32 (req * 2 ^ 28 + b2n (s.slt.role.role == 2) * 2 ^ 27 + b2n s.slt.outlier * 2 ^ 26 + b2n (s.legLink 0).up * 2 ^ 25 + b2n (s.legLink 1).up * 2 ^ 24 +
      s.slt.role.prio * 2 ^ 16), w32 Config.uid.toNat, w32 (Config.uid.toNat / 2 ^ 32), s.reg .cfgRef 0, w32 (ownCmdset * 2 ^ 16), s.salterVer, 0, 0]

/-- Send an ANNOUNCE: it publishes CFG_REF (R409, R418). -/
def State.announce (s : State) (req : Nat) : State := ({ s with slt := { s.slt with ownCfg := s.reg .cfgRef 0 } }).saltSend 2 (s.annWords req)

/-- The words of a VIEW. -/
def State.viewWords (s : State) : List Word :=
  [w32 (s.slt.common * 2 ^ 16 + s.slt.epoch), s.slt.members, s.slt.divergent, s.slt.staleSet, s.slt.outliers, w32 s.slt.role.prio,
   w32 Config.uid.toNat, w32 (Config.uid.toNat / 2 ^ 32)]

/-! ### Own state (R404, R409 to R411) -/

/-- Enter a membership state. OUTLIER ends when LOCKED is set again, wherever the hub then is (R413); a hub that is SOLO or leads follows no master, and is none. -/
def State.sltEnter (s : State) (st : Nat) : State :=
  if s.slt.state = st then s
  else
    let locked := match s.saltTb with
      | some k => (s.tb k).locked
      | none => false
    let s1 := { s with slt := { s.slt with state := st, better := false, lockedOnce := (st == 3) && locked } }.evt .legEvt 0 0
    if st = 0 || st = 4 then s1.setOutlier false else s1

/-- The hub's own STALE flag. -/
def State.setStale (s : State) (b : Bool) : State := if s.slt.stale = b then s else { s with slt := { s.slt with stale := b } }.evt .legEvt 0 3

/-- The hub's own DIVERGENT flag. -/
def State.setDivergent (s : State) (b : Bool) : State := if s.slt.diverged = b then s else { s with slt := { s.slt with diverged := b } }.evt .legEvt 0 2

/-- COMMON changes (R411). -/
def State.setCommon (s : State) (v : Nat) : State :=
  if s.slt.common = v then s else ({ s with slt := { s.slt with common := v } }.evt .legEvt 0 5).logErr 14 6 0x33

/-- The index of this hub. -/
def State.ownIndex (s : State) : Nat := s.slt.role.index

/-- Set or clear a bit. -/
def putBit (w : Word) (i : Nat) (b : Bool) : Word := setBits w i i (b2n b)

/-- The running REMOTE channels. -/
def State.remoteChans (s : State) : List Nat := s.runningChans.filter (fun c => (s.ad c).kind == 21)

/-- A source that comes into good standing does so for the period in progress. -/
def State.noteStanding (s : State) : State :=
  s.remoteChans.foldl (fun u c => if u.standing (u.remoteHub c) then u.modRemote c (fun r => { r with sourceOk := true }) else u) s

/-- The hub takes no part any more (R405): the view is gone, COMMON is its own CMDSET again. -/
def State.goSolo (s : State) : State :=
  let s1 := ((s.announce 2).sltEnter 0).setCommon ownCmdset
  let s2 := (s1.setStale false).setDivergent false
  { s2 with slt := { s2.slt with members := 0, divergent := 0, staleSet := 0, outliers := 0, peers := [], batch := [], lifted := false, waiting := none, clash := false } }

/-- An SLT_ROLE takes effect (R34, R405, R417). -/
def State.applyRole (s : State) (r : Role) : State :=
  if r.role = 0 then { (if s.slt.state = 0 then s else s.goSolo) with slt := { (if s.slt.state = 0 then s else s.goSolo).slt with role := r, waiting := none } }
  else
    let s1 := { s with slt := { s.slt with role := r, waiting := none } }
    if s.slt.state = 0 then (s1.sltEnter 1).announce 1 else s1

/-- A new view epoch: a waiting role takes effect (R34), VIEW_CHG. -/
def State.newEpoch (s : State) (e : Nat) : State :=
  if s.slt.epoch = e then s
  else
    let s1 := { s with slt := { s.slt with epoch := e } }.evt .legEvt 0 1
    match s1.slt.waiting with
    | some r => s1.applyRole r
    | none => s1

/-- The hub loses its view (R405): LISTEN and stale. -/
def State.loseView (s : State) : State := (s.sltEnter 1).setStale true

/-! ### SLT_REJOIN's completion (R419) -/

/-- Complete every outstanding SLT_REJOIN, oldest first, with a RESULT. -/
def State.rejoinDone (s : State) (result : Nat) : State :=
  s.slt.rejoin.foldl (fun u j => u.complete j.1 0x63 j.2.1 j.2.2 (if result = 0 then stOk else stDivergent) [w32 (u.slt.epoch * 2 ^ 16 + result * 2 ^ 8)] false)
    { s with slt := { s.slt with rejoin := [] } }

/-! ### The LEADER (R402, R403, R406 to R411) -/

/-- The lowest CMDSET in the view (R411). -/
def State.lowestCmdset (s : State) : Nat :=
  ((List.range 32).filter (fun i => bitAt s.slt.members i && i ≠ s.ownIndex)).foldl (fun m i => min m (s.peer i).cmdset) ownCmdset

/-- Does a CFG differ from an expectation in force for hub `i` (R408)? -/
def State.cfgWrong (s : State) (i : Nat) (cfg : Word) : Bool := bitAt (s.reg .legExpval 0) i && s.reg .legExp i ≠ cfg

/-- After the LEADER has changed its sets from those of `old`: a new epoch, COMMON, the own flags, and VIEW at once (R406). -/
def State.viewChanged (s old : State) : State :=
  if s.slt.members = old.slt.members && s.slt.divergent = old.slt.divergent && s.slt.staleSet = old.slt.staleSet && s.slt.outliers = old.slt.outliers then s
  else
    let e := (s.slt.epoch + 1) % 65536
    let s1 := ({ s with slt := { s.slt with highest := max s.slt.highest e } }.setCommon s.lowestCmdset).setDivergent (bitAt s.slt.divergent s.ownIndex)
    let s2 := s1.newEpoch e
    if s2.isLeader then (s2.noteStanding).saltSend 3 s2.viewWords else s2

/-- Change hub `i`'s bits in the LEADER's sets. -/
def State.putSets (s : State) (i : Nat) (member divergent stale outlier : Bool) : State :=
  { s with slt := { s.slt with members := putBit s.slt.members i member, divergent := putBit s.slt.divergent i divergent,
                               staleSet := putBit s.slt.staleSet i stale, outliers := putBit s.slt.outliers i outlier } }

/-- Some link of a ring is down: one of this hub's, or one that an ANNOUNCE reports, of whatever hub (R403). -/
def State.ringBroken (s : State) : Bool :=
  (List.range 32).any (fun i => i ≠ s.ownIndex && (s.peer i).heard && (!(s.peer i).lg0Up || !(s.peer i).lg1Up)) || !(s.legLink 0).up || !(s.legLink 1).up

/-- Two hubs have one index (R393). -/
def State.indexClash (s : State) : State := (s.evt .legEvt 0 7).logErr 14 6 0x32

/-- The view epoch of a frame is an older one (R408): the originator holds a view, and another than this. By radio no epoch comes. -/
def State.olderEpoch (s : State) (view : Option Nat) : Bool := match view with
  | some v => v ≠ 0 && v ≠ s.slt.epoch
  | none => false

/-- A JOIN comes from a hub that was a member since its last boot (R408): it still holds a view epoch; by radio, where no epoch comes, the LEADER knows it as one that was. -/
def Peer.cameBack (p : Peer) (view : Option Nat) : Bool := match view with
  | some v => v ≠ 0
  | none => p.wasMember

/-- The LEADER takes an ANNOUNCE of hub `i`, whose record `p` is new and `old` the earlier one; `view` is the epoch that its frame carried. An index that a member holds is that
member's: of another hub the LEADER takes nothing by it (R393). -/
def State.leaderAnnounce (s0 : State) (i : Nat) (old p : Peer) (view : Option Nat) : State :=
  let inView := bitAt s0.slt.members i
  let wrong := s0.cfgWrong i p.cfg
  let div := bitAt s0.slt.divergent i
  let stale := bitAt s0.slt.staleSet i
  let older := s0.olderEpoch view
  let joins := p.req = 1 || p.req = 3
  let first := p.req = 1 && s0.slt.admitted.contains i && decide (p.uid < old.uid)
  if inView && old.uid ≠ p.uid && !first then (if joins then (s0.setPeer i old).indexClash else s0.setPeer i old)
  else
    let s := { s0 with slt := { s0.slt with lifted := s0.ringBroken } }
    let taken := { s with slt := { s.slt with admitted := if inView then s.slt.admitted else s.slt.admitted ++ [i] } }
    if inView && old.uid ≠ p.uid then (s.indexClash.putSets i true wrong (p.cameBack view) p.outlier).viewChanged s
    else if p.req = 2 then
      (if inView then ((s.modPeer i (fun x => { x with wasMember := true, heard := false })).putSets i false false false false).viewChanged s
       else s.modPeer i (fun x => { x with heard := false }))
    else if p.req = 3 then (taken.putSets i true wrong (if wrong then stale else false) p.outlier).viewChanged s
    else if p.req = 1 then (taken.putSets i true (wrong || div) (stale || older || p.cameBack view) p.outlier).viewChanged s
    else if inView then (s.putSets i true (wrong || div) (stale || older) p.outlier).viewChanged s
    else s

/-- What an ANNOUNCE's words say of a hub. With another UID it is another hub, and was no member (R408). -/
def Peer.announced (old : Peer) (words : List Word) : Peer :=
  let w := fun k => words.getD k 0
  { old with wasMember := old.wasMember && old.uid == (w 1).toNat + 2 ^ 32 * (w 2).toNat, heard := true, req := bits (w 0) 31 28, candidate := bitAt (w 0) 27, outlier := bitAt (w 0) 26, lg0Up := bitAt (w 0) 25, lg1Up := bitAt (w 0) 24,
             prio := bits (w 0) 23 16, uid := (w 1).toNat + 2 ^ 32 * (w 2).toNat, cfg := w 3, cmdset := bits (w 4) 31 16, salter := w 5 }

/-- Ranked before this hub (R405): higher PRIORITY, then lower UID. -/
def State.outranked (s : State) (prio uid : Nat) : Bool :=
  decide (s.slt.role.prio < prio) || (prio == s.slt.role.prio && decide (uid < Config.uid.toNat))

/-- An epoch is heard (R405). -/
def State.hearEpoch (s : State) (v : Nat) : State := if s.slt.state = 0 then s else { s with slt := { s.slt with highest := max s.slt.highest v } }

/-- Another hub announces this hub's index (R393). A hub that seeks admission is the one refused where the other is a member, or asks too with the lower UID: the bit of the view is
then the other's. -/
def State.ownClash (s : State) (p : Peer) : State :=
  let u := s.indexClash
  if (s.slt.state = 1 || s.slt.state = 2) && (p.req ≠ 1 || decide (p.uid < Config.uid.toNat)) then { u with slt := { u.slt with clash := true } } else u

/-- An ANNOUNCE of hub `src`, with the view epoch that its frame carried (R393, R405, R406). -/
def State.recvAnnounce (s : State) (src : Nat) (view : Option Nat) (words : List Word) : State :=
  if s.slt.state = 0 then s
  else
    let old := s.peer src
    let p := old.announced words
    if src = s.ownIndex then (if p.uid = Config.uid.toNat then s else s.ownClash p)
    else
      let s2 := s.setPeer src p
      if s2.slt.state = 2 then (if p.candidate && s2.outranked p.prio p.uid then s2.sltEnter 1 else s2)
      else if s2.isLeader then s2.leaderAnnounce src old p view
      else s2

/-- Hub `i` has not been heard for 3 × I (R406): the LEADER removes it. -/
def State.memberLost (s : State) (i : Nat) : State :=
  if s.isLeader && i ≠ s.ownIndex then
    if bitAt s.slt.members i then ((s.modPeer i (fun x => { x with wasMember := true, heard := false })).putSets i false false false false).viewChanged s
    else s.modPeer i (fun x => { x with heard := false })
  else s

/-- MEMBER_TIMEOUT. -/
def execMemberTimeout (hub : Nat) (s : State) : Host.Outcome State Fault Refusal :=
  act (onlyIf (hub < 32 && s.pwr.floor = 0 && !s.isFenced 8 10) (fun u => (u.clearSent).memberLost hub)) s

/-- ELECT ends with this hub as the LEADER (R405): itself the only member until others join. -/
def State.becomeLeader (s : State) : State :=
  let e := (s.slt.highest + 1) % 65536
  let s1 := (s.sltEnter 4).setStale false
  let s2 := { s1 with slt := { s1.slt with
    members := putBit 0 s.ownIndex true, divergent := 0, staleSet := 0, outliers := 0, leader := s.ownIndex, leaderPrio := s.slt.role.prio,
    leaderUid := Config.uid.toNat, highest := e, admitted := [], lifted := s.ringBroken } }
  let s3 := s2.putSets s.ownIndex true (s2.cfgWrong s.ownIndex (s2.reg .cfgRef 0)) false false
  let s4 := ((s3.setDivergent (bitAt s3.slt.divergent s.ownIndex)).setCommon ownCmdset).newEpoch e
  if s4.isLeader then (s4.noteStanding).saltSend 3 s4.viewWords else s4

/-- No VIEW, or in ELECT no better-ranked candidate, for 3 × I (R405). -/
def State.viewTimeout (s : State) : State :=
  match s.slt.state with
  | 1 => if s.slt.role.role = 2 then s.sltEnter 2 else s
  | 2 => s.becomeLeader
  | 3 => s.loseView
  | _ => s

/-- VIEW_TIMEOUT. -/
def execViewTimeout (s : State) : Host.Outcome State Fault Refusal :=
  act (onlyIf (s.pwr.floor = 0 && !s.isFenced 8 10) (fun u => u.clearSent.viewTimeout)) s

/-! ### VIEW (R405) -/

/-- The fields of a VIEW are taken; the epoch too where `take` says so. -/
def State.takeView (s : State) (src : Nat) (words : List Word) (take : Bool) : State :=
  let w := fun k => words.getD k 0
  let i := s.ownIndex
  let s1 := { s with slt := { s.slt with
    members := w 1, divergent := w 2, staleSet := w 3, outliers := w 4, leader := src, leaderPrio := bits (w 5) 7 0,
    leaderUid := (w 6).toNat + 2 ^ 32 * (w 7).toNat } }
  let s2 := s1.setCommon (bits (w 0) 31 16)
  let s3 := if bitAt (w 1) i && !s2.slt.clash then (s2.setDivergent (bitAt (w 2) i)).setStale (bitAt (w 3) i) else s2
  let s4 := s3.noteStanding
  if take then s4.newEpoch (bits (w 0) 15 0) else s4

/-- The RESULT that a VIEW gives an outstanding SLT_REJOIN. -/
def State.rejoinView (s : State) (words : List Word) : State :=
  let i := s.ownIndex
  let w := fun k => words.getD k 0
  s.rejoinDone (if !bitAt (w 1) i || s.slt.clash then 2 else if bitAt (w 2) i || bitAt (w 3) i then 1 else 0)

/-- A VIEW from hub `src` (R405, R407, R410). A bit that is another hub's by R393 does not list this one; once it is clear the index is free again. -/
def State.recvView (s0 : State) (src : Nat) (words : List Word) : State :=
  let w := fun k => words.getD k 0
  let uid := (w 6).toNat + 2 ^ 32 * (w 7).toNat
  let s := { s0 with slt := { s0.slt with highest := max s0.slt.highest (bits (w 0) 15 0), clash := s0.slt.clash && bitAt (w 1) s0.ownIndex } }
  let listed := bitAt (w 1) s.ownIndex && !s.slt.clash
  let stale := bitAt (w 3) s.ownIndex
  match s0.slt.state with
  | 0 => s0
  | 1 =>
    if listed && !stale then ((s.sltEnter 3).takeView src words true).rejoinView words
    else
      let s1 := (s.takeView src words false).rejoinView words
      s1.announce s1.annReq
  | 2 => if s.outranked (bits (w 5) 7 0) uid then s.sltEnter 1 else s
  | 3 =>
    if listed then
      let s1 := (s.takeView src words true).rejoinView words
      if s1.slt.state = 3 && s1.slt.stale && s1.slt.role.autoRejoin then s1.announce 3 else s1
    else (s.takeView src words false).loseView.rejoinView words
  | _ => if s.outranked (bits (w 5) 7 0) uid then s.loseView else s

/-! ### Remote samples (R412, R415, R416) -/

/-- One entry of a SAMPLES frame: global channel, the six flags, the stamp, the components (R398). -/
structure Entry where
  gch : Nat
  flags : OutFlags
  stamp : Nat
  comps : List Int
  deriving DecidableEq, Repr

/-- The words of each entry of a SAMPLES payload; `fuel` bounds their number. -/
def entrySplit : Nat → List Word → List (List Word)
  | 0, _ => []
  | fuel + 1, l =>
    match l with
    | h :: lo :: hi :: t =>
      let n := bits h 18 17 + 1
      if t.length < n then [] else (h :: lo :: hi :: t.take n) :: entrySplit fuel (t.drop n)
    | _ => []

/-- Entries gathered, in order, into payloads of whole entries and at most `limit` words (R427); `fill` is the payload being filled. -/
def packEntries (limit : Nat) : List Word → List (List Word) → List (List Word)
  | fill, [] => if fill.isEmpty then [] else [fill]
  | fill, e :: t => if limit < fill.length + e.length && !fill.isEmpty then fill :: packEntries limit e t else packEntries limit (fill ++ e) t

/-- The entries of a SAMPLES payload; `fuel` bounds their number. -/
def entriesOf : Nat → List Word → List Entry
  | 0, _ => []
  | fuel + 1, l =>
    match l with
    | h :: lo :: hi :: t =>
      let n := bits h 18 17 + 1
      if t.length < n then []
      else
        { gch := bits h 31 19, stamp := lo.toNat + 2 ^ 32 * hi.toNat, comps := (t.take n).map (fun x => sbits x 23 0),
          flags := { unsettled := bitAt h 15, stale := bitAt h 14, late := bitAt h 13, gap := bitAt h 12, degraded := bitAt h 11, sat := bitAt h 10,
                     first := false } } :: entriesOf fuel (t.drop n)
    | _ => []

/-- A REMOTE channel takes an entry (R416). -/
def State.remoteTake (s : State) (c : Nat) (e : Entry) : State :=
  let t := (s.ad c).tb
  let stamp : Stamp := match s.saltTb with
    | some k => Stamp.at (s.convStamp e.stamp k t) (s.tbEpoch t)
    | none => s.stampNow c
  let s1 := (s.countAcq c).modRemote c (fun r => { r with accepted := true, times := (s.tb0u :: r.times).take 9 })
  s1.goodAcq { chan := c, comps := (List.range (s.ad c).ncomp).map (fun k => e.comps.getD k 0), gap := e.flags.gap, stale := e.flags.stale,
               degraded := e.flags.degraded, sat := e.flags.sat, late := e.flags.late, stamp := stamp, g := none, unsettled := e.flags.unsettled } stamp.val

/-- A SAMPLES payload come by a path: each entry is judged by the hub that originates it, which its global channel names (R393, R409, R416). -/
def State.recvSamples (s : State) (path : Nat) (words : List Word) : State :=
  if s.slt.state = 0 then s
  else
    (entriesOf 64 words).foldl (fun u e =>
      if bitAt u.slt.divergent (e.gch / 192) || bitAt u.slt.staleSet (e.gch / 192) then
        (if path < 2 then u.countFault .legLinkcnt path 15 8 1 else u.countFault .rfCnt 0 15 8 1)
      else
        (u.remoteChans.filter (fun c => bits (u.desc c 1) 12 0 == e.gch && u.acquiring c)).foldl (fun v c => v.remoteTake c e) u) s

/-- REMOTE_PERIOD_END (R416). -/
def State.remotePeriod (s : State) (c : Nat) : State :=
  let r := s.remote c
  let bad := !r.accepted || !r.sourceOk
  let n := if r.accepted then 0 else if bad then r.failed + 1 else 0
  let s1 := s.setRemote c { r with failed := n, accepted := false, sourceOk := s.standing (s.remoteHub c) }
  if 4 ≤ n then s1.failAcq c (s1.stampNow c) none else s1

/-- REMOTE_PERIOD_END. -/
def execRemotePeriodEnd (chan : Nat) (s : State) : Host.Outcome State Fault Refusal :=
  act (onlyIf (chan < 192 && s.pwr.floor = 0 && s.acquiring chan && (s.ad chan).kind == 21) (fun u => u.remotePeriod chan)) s

/-- The SAMPLES entry of an output (R415): the stamp in the saltern timebase, DEGRADED while an OUTLIER. -/
def State.entryWords (s : State) (o : Delivered) (k : Nat) : List Word :=
  let f := o.flags
  let deg := f.degraded || s.slt.outlier
  [w32 ((s.ownIndex * 192 + o.chan) * 2 ^ 19 + (o.comps.length - 1) * 2 ^ 17 + b2n f.unsettled * 2 ^ 15 + b2n f.stale * 2 ^ 14 + b2n f.late * 2 ^ 13 +
      b2n f.gap * 2 ^ 12 + b2n deg * 2 ^ 11 + b2n f.sat * 2 ^ 10)] ++
    pairOf (s.convStamp o.stamp (s.ad o.chan).tb k) ++ o.comps.map (fun x => wInt (satW 24 (x / 256)))

/-- Send the gathered entries as one frame. -/
def State.sendBatch (s : State) : State :=
  if s.slt.batch.isEmpty then s
  else { s with slt := { s.slt with batch := [] } }.saltSend 4 s.slt.batch.flatten

/-- Words that a SAMPLES frame of this hub can hold. -/
def State.batchLimit (s : State) : Nat := if s.onlyRadio || (s.isLeader && s.rfMode ≠ 0) then s.radioWords else 64

/-- Gather an entry (R415): the frame goes out when the next entry would not fit, or none would. -/
def State.gather (s : State) (e : List Word) : State :=
  let s1 := if s.batchLimit < s.slt.batch.flatten.length + e.length then s.sendBatch else s
  let b := s1.slt.batch ++ [e]
  let s2 := { s1 with slt := { s1.slt with batch := b } }
  if s1.batchLimit < b.flatten.length + 4 then s2.sendBatch else s2

/-- Offer an output to the saltern (R415): a member whose saltern timebase is set sends it. -/
def State.offerSaltern (s : State) (o : Delivered) : State :=
  match s.saltTb with
  | none => s
  | some k => onlyIf ((s.slt.state == 3 || s.slt.state == 4) && s.tbSet k) (fun u => u.gather (u.entryWords o k)) s

/-- SAMPLES_BATCH: BATCH × 10 µs have passed since the first entry. -/
def execSamplesBatch (s : State) : Host.Outcome State Fault Refusal :=
  act (onlyIf (s.pwr.floor = 0) (fun u => u.clearSent.sendBatch)) s

/-! ### Frames (R395 to R400, R412) -/

/-- The LEADER relays SAMPLES between the radio and its links (R412): to the radio in frames of whole entries. -/
def State.relaySamples (s : State) (path src : Nat) (words : List Word) : State :=
  if !s.isLeader then s
  else if path = 2 then
    let (t, f) := s.ownFrame 4 words
    (t.putFrame 0 { f with src := src }).putFrame 1 { f with src := src }
  else (packEntries s.radioWords [] (entrySplit 64 words)).foldl (fun u p => u.radioSend 4 p) s

/-- The LEADER sees a TIME or SAMPLES frame of a member that carries an older view: the member is STALE (R408). -/
def State.olderView (s : State) (f : LegFrame) : State :=
  if s.isLeader && bitAt s.slt.members f.src && f.view ≠ 0 && f.view ≠ s.slt.epoch && !bitAt s.slt.staleSet f.src then
    (s.putSets f.src true (bitAt s.slt.divergent f.src) true (bitAt s.slt.outliers f.src)).viewChanged s
  else s

/-- The content of an accepted frame takes effect; `path` 0 or 1 is a link, 2 the radio, whose frames carry no view epoch (R427). -/
def State.saltFrame (s0 : State) (path : Nat) (f : LegFrame) : State :=
  let s := if path < 2 then s0.hearEpoch f.view else s0
  match f.type with
  | 1 => (if path < 2 then s.olderView f else s).recvTime path f
  | 2 => s.recvAnnounce f.src (if path < 2 then some f.view else none) f.payload
  | 3 => s.recvView f.src f.payload
  | _ => ((if path < 2 then s.olderView f else s).recvSamples path f.payload).relaySamples path f.src f.payload

/-- Is the header of a frame valid: VERSION, TYPE, LEN and the reserved fields (R397, R399)? -/
def legHeaderOk (l : List Byte) : Bool :=
  let b := fun k => (l.getD k 0).toNat
  let type := b 0 % 16
  let len := b 3 % 128
  decide (8 ≤ l.length) && b 0 / 16 == 3 && decide (1 ≤ type) && decide (type ≤ 4) && b 1 / 32 == 0 && b 2 / 32 == 0 && b 3 / 128 == 0 && decide (len ≤ 64) &&
    (if type = 4 then len ≠ 0 else len == 8)

/-- A frame from its header and what there is of its payload. -/
def LegFrame.ofBytes (l : List Byte) : LegFrame :=
  let b := fun k => (l.getD k 0).toNat
  ⟨b 0 % 16, b 1, b 2, b 4 + 256 * b 5, b 6 + 256 * b 7, bytesWords (min (b 3 % 128) ((l.length - 8) / 4)) (l.drop 8)⟩

/-- A frame from its header and payload (R397); none for an invalid header, or a LEN that is not the payload's. -/
def LegFrame.parse (l : List Byte) : Option LegFrame :=
  if legHeaderOk l && l.length == 8 + 4 * ((l.getD 3 0).toNat % 128) then some (LegFrame.ofBytes l) else none

/-- Header and payload of a frame's bytes, without the CRC. -/
def legBody (l : List Byte) : List Byte := l.take (l.length - 4)

/-- The CRC that ends a frame's bytes is that of its header and payload (R396). -/
def legCrcOk (l : List Byte) : Bool := decide (4 ≤ l.length) && crc32c (legBody l) == bytesWord (l.drop (l.length - 4))

/-- Is another hub using this hub's index (R393)? -/
def State.clashFrame (s : State) (f : LegFrame) : Bool :=
  f.type = 2 && f.src = s.ownIndex && s.slt.state ≠ 0 && (f.payload.getD 1 0).toNat + 2 ^ 32 * (f.payload.getD 2 0).toNat ≠ Config.uid.toNat

/-- Does a hub begin to forward a frame from link `l` once it has checked the header (R361, R399, R400)? Of the time messages only a SYNC goes on. -/
def State.forwards (s : State) (l : Nat) (f : LegFrame) : Bool :=
  !(f.src = s.ownIndex && s.slt.state ≠ 0) && decide ((s.peer f.src).lastSeq ≠ some f.seq) && f.hops ≠ 31 && !s.blocked &&
  (f.type ≠ 1 || (match TimeMsg.parse f.payload with
    | some m => m.type == 1 && m.hops ≠ 31 && !s.syncDup l m
    | none => false))

/-- The forwarded copy of a frame that proves bad ends with ABORT (R396, R400); `l` are the bytes received as header and payload. -/
def State.abortCopy (s : State) (link : Nat) (l : List Byte) : State :=
  let f := LegFrame.ofBytes l
  if legHeaderOk l && s.forwards link f && s.linkRuns (1 - link) then { s with slt := { s.slt with aborted := [(1 - link, { f with hops := f.hops + 1 })] } } else s

/-- A frame that is none of the cases of R399 is accepted: forwarded, and its content takes effect. -/
def State.acceptFrame (s : State) (l : Nat) (f : LegFrame) : State :=
  let s1 := s.modPeer f.src (fun p => { p with lastSeq := some f.seq })
  let s2 := s1.modLegLink l (fun x => { x with received := (x.received + 1) % 2 ^ 32, nb := if f.hops = 0 then some f.src else x.nb })
  let s3 := if f.type = 1 then s2 else s2.forward l f
  s3.saltFrame l f

/-- DISCARD of LEG_LINKCNTn counts (R399). -/
def State.legDiscard (s : State) (l : Nat) : State := s.countFault .legLinkcnt l 23 16 1

/-- A frame received on a link (R399, R400): `line` are its bytes between SOF and its end, and `abort` says that it ended with ABORT. The CRC is judged first: a frame that fails it
counts in CRC, whatever else is wrong with it (log 40). -/
def State.legusFrame (s : State) (l : Nat) (line : List Byte) (abort : Bool) : State :=
  if !s.linkRuns l then s
  else
    let body := legBody line
    if !legCrcOk line then ((s.countFault .legLinkcnt l 31 24 1).logErr 6 l 0x31).abortCopy l body
    else
      let s0 := s.logEnd 6 l 0x31
      match LegFrame.parse body with
      | none => (s0.legDiscard l).abortCopy l body
      | some f =>
        if abort then (s0.legDiscard l).abortCopy l body
        else if f.src = s.ownIndex && s.slt.state ≠ 0 then
          let u := s0.legDiscard l
          if s.clashFrame f then u.ownClash ((u.peer f.src).announced f.payload) else u
        else if (s.peer f.src).lastSeq = some f.seq then s0.legDiscard l
        else s0.acceptFrame l f

/-- LEGUS_FRAME. -/
def execLegusFrame (link f : Nat) (bytes crc : List Nat) (abort : Bool) (s : State) : Host.Outcome State Fault Refusal :=
  act (onlyIf (link < 2) (fun u => (u.atF f).clearSent.legusFrame link ((bytes ++ crc).map (BitVec.ofNat 8)) abort)) s

/-- Can the hub take content from a path? -/
def State.pathRuns (s : State) (path : Nat) : Bool := if path < 2 then s.linkRuns path else path = 2 && s.rfServes

/-- ANNOUNCE: one that a path has accepted, with SRC and VIEW of its frame's header; by radio no VIEW comes (R427). -/
def execAnnounce (path : Nat) (head : Nat × Nat) (words : List Word) (s : State) : Host.Outcome State Fault Refusal :=
  act (onlyIf (head.1 < 32 && s.pathRuns path) (fun u =>
    if path < 2 then (u.clearSent.hearEpoch head.2).recvAnnounce head.1 (some head.2) words else u.clearSent.recvAnnounce head.1 none words)) s

/-- VIEW. -/
def execView (path src : Nat) (words : List Word) (s : State) : Host.Outcome State Fault Refusal :=
  act (onlyIf (src < 32 && s.pathRuns path) (fun u => u.clearSent.recvView src words)) s

/-- SAMPLES. -/
def execSamples (path src : Nat) (words : List Word) (s : State) : Host.Outcome State Fault Refusal :=
  act (onlyIf (src < 32 && s.pathRuns path) (fun u => (u.clearSent.recvSamples path words).relaySamples path src words)) s

/-- ANNOUNCE_INTERVAL (R398): every hub that is not SOLO announces; the LEADER compares its own CFG and sends VIEW. -/
def State.annInterval (s : State) : State :=
  if s.slt.state = 0 then s
  else
    let s1 := { s with slt := { s.slt with admitted := [], lifted := s.isLeader && s.ringBroken } }
    let i := s1.ownIndex
    let s2 := if s1.isLeader && (s1.cfgWrong i (s1.reg .cfgRef 0) || s1.slt.outlier ≠ bitAt s1.slt.outliers i) then
        (s1.putSets i true (bitAt s1.slt.divergent i || s1.cfgWrong i (s1.reg .cfgRef 0)) (bitAt s1.slt.staleSet i) s1.slt.outlier).viewChanged s1
      else s1
    if s2.slt.state = 0 then s2
    else
      let s3 := s2.announce s2.annReq
      if s2.isLeader then s3.saltSend 3 s3.viewWords else s3

/-- ANNOUNCE_INTERVAL. -/
def execAnnounceInterval (f : Nat) (s : State) : Host.Outcome State Fault Refusal :=
  act (onlyIf (s.pwr.floor = 0 && !s.isFenced 8 10) (fun u => (u.atF f).clearSent.annInterval)) s

/-- A link goes up or down (R395). -/
def State.linkChange (s : State) (l : Nat) (up : Bool) : State :=
  (s.modLegLink l (fun x => { x with up := up, nb := if up then x.nb else none })).evt .legEvt 0 6

/-- An up link goes down: LINK_CHG, and DOWN counts (R395). -/
def State.linkDown (s : State) (l : Nat) : State := if (s.legLink l).up then (s.linkChange l false).countFault .legLinkcnt l 7 0 1 else s

/-- LINK_UP. -/
def execLinkUp (link : Nat) (s : State) : Host.Outcome State Fault Refusal :=
  act (onlyIf (link < 2 && bitAt (s.app .legCfg 0) (31 - link) && !s.isFenced 8 10 && s.pwr.floor = 0 && !(s.legLink link).up) (fun u => u.linkChange link true)) s

/-- LINK_DOWN. -/
def execLinkDown (link : Nat) (s : State) : Host.Outcome State Fault Refusal :=
  act (onlyIf (link < 2) (fun u => u.linkDown link)) s

/-! ### Registers (R421) -/

/-- May the word be applied to LEG_CFG? -/
def legCfgOk (v : Word) : Bool := decide (bits v 27 24 ≤ 4) && decide (1 ≤ bits v 7 0)

/-- LEG_CFG applies (R421): no frame is on the line between two commands (log 77). A link that is disabled goes down. -/
def State.applyLegCfg (s : State) : State :=
  let v := s.reg .legCfg 0
  let old := s.app .legCfg 0
  if v = old then s
  else if !legCfgOk v then (s.setReg .legCfg 0 old).evt .legEvt 0 8
  else
    let s1 := s.setApp .legCfg 0 v
    (List.range 2).foldl (fun u l => if bitAt v (31 - l) then u else u.linkDown l) s1

/-- LEG_SLTSTAT. -/
def State.sltStatWord (s : State) : Word :=
  w32 (s.slt.state * 2 ^ 29 + b2n s.slt.diverged * 2 ^ 28 + b2n s.slt.stale * 2 ^ 27 + b2n s.slt.outlier * 2 ^ 26 + b2n s.slt.role.autoRejoin * 2 ^ 25 +
    s.ownIndex * 2 ^ 20 + s.slt.leader * 2 ^ 15)

/-- LEG_VIEWINFO. -/
def State.viewInfoWord (s : State) : Word := w32 (s.slt.common * 2 ^ 16 + s.slt.epoch)

/-- LEG_LINKn. -/
def State.legLinkWord (s : State) (n : Nat) : Word :=
  let x := s.legLink n
  w32 (b2n x.up * 2 ^ 31 + b2n s.blocked * 2 ^ 30 + b2n x.nb.isSome * 2 ^ 29 + x.nb.getD 0 * 2 ^ 24)

/-! ### Opcodes (R417 to R420) -/

/-- PD10 is fenced. -/
def State.legOff (s : State) : Bool := s.isFenced 8 10

/-- SLT_ROLE. -/
def opSltRole : OpDef where
  code := 0x60
  priv := 1
  async := false
  lenOk := fun n _ => n == 2
  valid := fun _ c => c.fld 0 31 17 == 0 && c.fld 0 15 13 == 0 && c.fld 0 12 8 < 32 && c.fld 0 7 2 == 0 && c.fld 0 1 0 ≠ 3 && c.fld 1 31 8 == 0
  allow := fun s c => firstStatus [(s.legOff, stDomainOff), (s.slt.state ≠ 0 && c.fld 0 12 8 ≠ s.ownIndex, stNotPermitted)]
  run := fun s c =>
    let r : Role := ⟨c.fld 0 1 0, c.fld 0 12 8, c.fld 1 7 0, bitAt (c.word 0) 16⟩
    (if s.slt.state = 0 then s.clearSent.applyRole r else { s with slt := { s.slt with waiting := some r } }, stOk, [])

/-- A byte of SLT_VIEW: major and minor version, each saturated at 15. -/
def verByte (major minor : Nat) : Nat := min 15 major * 16 + min 15 minor

/-- The CFG, CMDSET and SALTER that hub `i` published; none for an absent hub (R418). -/
def State.published (s : State) (i : Nat) : Option (Word × Nat × Word) :=
  if !bitAt s.slt.members i then none
  else if i = s.ownIndex then some (s.slt.ownCfg, ownCmdset, s.salterVer)
  else if (s.peer i).heard then some ((s.peer i).cfg, (s.peer i).cmdset, (s.peer i).salter)
  else none

/-- Four bytes of SLT_VIEW, of hubs 4k to 4k + 3. -/
def State.verWord (s : State) (k : Nat) (f : Word × Nat × Word → Nat) : Word :=
  w32 ((List.range 4).map (fun j => ((s.published (4 * k + j)).map f).getD 0 * 2 ^ (8 * j))).sum

/-- SLT_VIEW (R418). -/
def opSltView : OpDef where
  code := 0x61
  priv := 0
  async := false
  lenOk := fun n _ => n == 0
  valid := fun _ _ => true
  allow := fun s _ => firstStatus [(s.legOff, stDomainOff)]
  run := fun s _ =>
    (s, stOk, [s.viewInfoWord, s.slt.members, s.slt.divergent, s.slt.staleSet, s.slt.outliers] ++
      (List.range 32).map (fun i => ((s.published i).map (·.1)).getD 0) ++
      (List.range 8).map (fun k => s.verWord k (fun p => verByte (p.2.1 / 256) (p.2.1 % 256))) ++
      (List.range 8).map (fun k => s.verWord k (fun p => verByte (bits p.2.2 31 16) (bits p.2.2 15 0))))

/-- SLT_EXPECT (R409, R417): on the LEADER a match clears DIVERGENT. -/
def opSltExpect : OpDef where
  code := 0x62
  priv := 1
  async := false
  lenOk := fun n _ => n == 2
  valid := fun _ c => c.fld 0 30 5 == 0
  allow := fun s _ => firstStatus [(s.legOff, stDomainOff), (s.slt.stale, stDivergent)]
  run := fun s0 c =>
    let s := s0.clearSent
    let i := c.fld 0 4 0
    let on := bitAt (c.word 0) 31
    let s1 := s.setReg .legExpval 0 (putBit (s.reg .legExpval 0) i on)
    let s2 := if on then s1.setReg .legExp i (c.word 1) else s1
    let cfg := if i = s.ownIndex then s.slt.ownCfg else (s.peer i).cfg
    (if s.isLeader && on && bitAt s.slt.divergent i && cfg = c.word 1 then
      ({ s2 with slt := { s2.slt with divergent := putBit s2.slt.divergent i false } }).viewChanged s2 else s2, stOk, [])

/-- SLT_REJOIN (R409, R410, R419): a LEADER judges itself at once. -/
def opSltRejoin : OpDef where
  code := 0x63
  priv := 1
  async := true
  lenOk := fun n _ => n == 0
  valid := fun _ _ => true
  allow := fun s _ => firstStatus [(s.legOff, stDomainOff), (s.slt.state == 0, stNotPermitted)]
  run := fun s0 c => ({ s0 with slt := { s0.slt with rejoin := s0.slt.rejoin ++ [(c.host, c.tag, c.reply)] } }, stAccepted, [])

/-- What follows the ACCEPTED reply of SLT_REJOIN: a LEADER judges itself, any other hub sends REJOIN. -/
def State.rejoinSend (s0 : State) : State :=
  let s := s0.clearSent
  let i := s.ownIndex
  if s.isLeader then
    if s.cfgWrong i (s.reg .cfgRef 0) then s.rejoinDone 1
    else (({ s with slt := { s.slt with divergent := putBit s.slt.divergent i false } }).viewChanged s).rejoinDone 0
  else s.announce 3

/-- SLT_REJOIN_COMPLETION: 3 × I without a VIEW. -/
def execSltRejoinCompletion (s : State) : Host.Outcome State Fault Refusal := act (fun u => u.rejoinDone 3) s

/-- LEG_STATUS (R419). -/
def opLegStatus : OpDef where
  code := 0x64
  priv := 0
  async := false
  lenOk := fun n _ => n == 1
  valid := fun _ c => c.fld 0 31 1 == 0
  allow := fun s c => firstStatus [(s.legOff, stDomainOff), (s.isFenced 6 (c.fld 0 0 0), stFenced)]
  run := fun s c =>
    let n := c.fld 0 0 0
    (s, stOk, [s.legLinkWord n, s.reg .legLinkcnt n, w32 (s.legLink n).sent, w32 (s.legLink n).received])

end Sys2Proof.Machine
end

