-- ==== Sys2Proof/Machine/CrystMath.lean ====
section
/-! DEFINITION. The Crystalliser's arithmetic (spec 08): integer square roots, the correlation value, the comparators of a
transition. -/

namespace Sys2Proof.Machine

/-- Floor of the square root, one bit of the root at a time from bit `b - 1` down; `r` is the root so far. -/
def isqrtBits (n : Nat) : Nat → Nat → Nat
  | 0, r => r
  | b + 1, r => if (r + 2 ^ b) * (r + 2 ^ b) ≤ n then isqrtBits n b (r + 2 ^ b) else isqrtBits n b r

/-- Floor of the square root. -/
def isqrt (n : Nat) : Nat := isqrtBits n (n.log2 / 2 + 1) 0

/-- A feature value saturates at the signed 32-bit range (R241). -/
def sat32v (a : Int) : Int := satW 32 a

/-- round(32768 * num / sqrt(den)), exact, halves away from zero, limited to 32,767 (R244); 0 when den is not positive. -/
def corrValue (num den : Int) : Int :=
  if den ≤ 0 then 0 else
    let a := 32768 * num.natAbs
    let t := isqrt (4 * a * a / den.toNat)
    let q : Int := ((t + 1) / 2 : Nat)
    min 32767 (if 0 ≤ num then q else -q)

/-- The comparator of R248 on a feature's value and validity. -/
def cmpHolds (cmp : Nat) (valid : Bool) (value thr : Int) : Bool :=
  match cmp with
  | 1 => valid && decide (thr < value)
  | 2 => valid && decide (value < thr)
  | 3 => valid && decide (thr < (value.natAbs : Int))
  | 4 => valid && decide ((value.natAbs : Int) < thr)
  | 5 => true
  | _ => false

end Sys2Proof.Machine
end

