-- ==== Sys2Proof/Machine/Crystalliser.lean ====
section
/-! DEFINITION. The Crystalliser (spec 08): seed and template memory, feature units, evaluation, actions, arming, its opcodes. -/

namespace Sys2Proof.Machine

/-! ### Template memory (R234) -/

/-- Template sample `i`. -/
def State.tplSample (s : State) (i : Nat) : Int :=
  signedOf 16 ((s.rdByte (0x21000000 + 2 * i)).toNat + 256 * (s.rdByte (0x21000000 + 2 * i + 1)).toNat)

/-- Store template sample `i`. -/
def State.setTplSample (s : State) (i : Nat) (v : Int) : State :=
  let w := wInt v
  s.wrBytes (0x21000000 + 2 * i) [BitVec.ofNat 8 (bits w 7 0), BitVec.ofNat 8 (bits w 15 8)]

/-- Template samples `a` to `a + n - 1`. -/
def State.tplSamples (s : State) (a n : Nat) : List Int := (List.range n).map (fun i => s.tplSample (a + i))

/-! ### Records (R238 to R241, R247, R253) -/

/-- Word `k` of feature unit `u` of seed `n`. -/
def State.featWord (s : State) (n u k : Nat) : Word := s.seedWord n (8 + 4 * u + k)

/-- Feature unit `u` is in use. -/
def State.featOn (s : State) (n u : Nat) : Bool := bitAt (s.featWord n u 0) 31

/-- Input reference `j` is in use. -/
def State.seedInOn (s : State) (n j : Nat) : Bool := bitAt (s.seedWord n (4 + j)) 31

/-- CHANNEL of input reference `j`. -/
def State.seedIn (s : State) (n j : Nat) : Nat := bits (s.seedWord n (4 + j)) 7 0

/-- The input reference that feeds unit `u`. -/
def State.featIn (s : State) (n u : Nat) : Nat := bits (s.featWord n u 0) 27 26

/-- Unit `u` is a TEMPLATE in use. -/
def State.isTemplate (s : State) (n u : Nat) : Bool := s.featOn n u && bits (s.featWord n u 0) 30 28 == 4

/-- NLEN, TBASE and HBASE of a TEMPLATE unit (R241). -/
def State.tplShape (s : State) (n u : Nat) : Nat × Nat × Nat :=
  (bits (s.featWord n u 0) 9 0, bits (s.featWord n u 1) 30 16, bits (s.featWord n u 1) 14 0)

/-- The template regions of a seed as (first sample, length). -/
def State.tplRegions (s : State) (n : Nat) : List (Nat × Nat) :=
  ((List.range 4).filter (fun u => s.isTemplate n u)).map (fun u => ((s.tplShape n u).2.1, (s.tplShape n u).1))

/-- The history regions of a seed. -/
def State.histRegions (s : State) (n : Nat) : List (Nat × Nat) :=
  ((List.range 4).filter (fun u => s.isTemplate n u)).map (fun u => ((s.tplShape n u).2.2, (s.tplShape n u).1))

/-- Do two regions overlap? -/
def overlaps (a b : Nat × Nat) : Bool := decide (a.1 < b.1 + b.2) && decide (b.1 < a.1 + a.2)

/-- Template blocks of 2,048 samples that armed seeds reference (R237). -/
def State.tplBlocksUsed (s : State) : List Nat :=
  let regions := s.armedSeeds.flatMap (fun n => s.tplRegions n ++ s.histRegions n)
  (List.range 16).filter (fun k => regions.any (fun r => overlaps r (2048 * k, 2048)))

/-- One transition (R247). -/
structure Trans where
  thr : Int
  on : Bool
  feat : Nat
  cmp : Nat
  next : Nat
  act : Nat
  minDur : Nat
  arg : Nat
  timeout : Nat
  deriving DecidableEq, Repr

/-- Transition `t` of state `st` of seed `n`. -/
def State.trans (s : State) (n st t : Nat) : Trans :=
  let w := s.seedWord n (25 + 4 * st + 2 * t)
  { thr := sbits (s.seedWord n (24 + 4 * st + 2 * t)) 31 0, on := bitAt w 31, feat := bits w 30 29, cmp := bits w 28 26, next := bits w 25 23,
    act := bits w 22 16, minDur := bits w 15 8, arg := bits w 7 7, timeout := bits w 6 0 }

/-! ### Writes (R235) -/

/-- Would a write to a byte of the seed array or of template memory be refused? -/
def State.seedByteRefused (s : State) (a : Nat) : Bool :=
  if 0x400A8000 ≤ a && a < 0x400AC000 then (s.seed ((a - 0x400A8000) / 256)).armed
  else
    let i := (a - 0x21000000) / 2
    s.armedSeeds.any (fun n => (s.tplRegions n ++ s.histRegions n).any (fun r => overlaps r (i, 1)))

/-- Store bytes in the seed array or in template memory; `none` where the write is refused. -/
def State.seedStore (s : State) (a : Nat) (bytes : List Byte) : Option State :=
  if (List.range bytes.length).any (fun k => s.seedByteRefused (a + k)) then none else some (s.wrBytes a bytes)

/-! ### Feature units (R242 to R245) -/

/-- What an input reference delivers from an output (R239). -/
def refValue (sel : Nat) (comps : List Int) : Int :=
  let v := comps.map (fun x => x / 256)
  if sel = 4 then (isqrt ((v.map (fun x => x * x)).sum).toNat : Nat) else v.getD sel 0

/-- The samples of BAND_RMS for an output: the inputs at STAGE 0, else the residues of the stage; with SEL magnitude, of every component
(R243; DEDUCED, log 37). -/
def bandSquares (stage sel : Nat) (v : Int) (o : Delivered) : Nat :=
  let l : List Int :=
    if stage = 0 then [v]
    else (if sel = 4 then o.res else [o.res.getD sel []]).flatMap (fun r => r.getD (stage - 1) [])
  (l.map (fun x => x.natAbs * x.natAbs)).sum

/-- One update of a unit of types 0 to 3 (R242): word 0 of the unit, P2, the input's SEL and value, the output. -/
def featStep (w p2 : Word) (sel : Nat) (v : Int) (o : Delivered) (f : Feat) : Feat :=
  let winl := bits w 25 22
  match bits w 30 28 with
  | 0 =>
    let l := if f.upd = 0 then v else f.acc + rnd (v - f.acc) winl
    { f with upd := 1, acc := l, valid := true, value := sat32v l }
  | 1 =>
    let span := bits w 3 0 + 1
    let win := (v :: f.win).take (span + 1)
    if win.length = span + 1 then { f with win := win, valid := true, value := sat32v (v - win.getD span 0) } else { f with win := win }
  | 2 =>
    let stage := bits w 3 0
    if o.stages < stage then { f with valid := false, value := 0, acc := 0, cnt := 0 }
    else
      let sum := f.acc + bandSquares stage sel v o
      if f.cnt + 1 = 2 ^ winl then
        { f with acc := 0, cnt := 0, valid := true, value := sat32v (isqrt (sum.toNat / 2 ^ (winl + o.stages - stage)) : Nat) }
      else { f with acc := sum, cnt := f.cnt + 1 }
  | _ =>
    let hyst : Int := bits w 15 0
    let u := v - sbits p2 31 0
    let sg : Int := if hyst < u then 1 else if u < -hyst then -1 else f.sign
    let cross := f.acc + (if sg ≠ f.sign && f.sign ≠ 0 then 1 else 0)
    if f.cnt + 1 = 2 ^ winl then { f with sign := sg, acc := 0, cnt := 0, valid := true, value := sat32v cross }
    else { f with sign := sg, acc := cross, cnt := f.cnt + 1 }

/-- Put a unit's runtime back. -/
def State.setFeat (s : State) (n u : Nat) (f : Feat) : State := s.modSeed n (fun x => { x with feats := x.feats.set u f })

/-- A unit's runtime. -/
def State.feat (s : State) (n u : Nat) : Feat := (s.seed n).feats.getD u Feat.reset

/-- One update of a TEMPLATE unit (R244). -/
def State.correlate (s : State) (n u : Nat) (v : Int) : State :=
  let (nlen, tbase, hbase) := s.tplShape n u
  let f := s.feat n u
  let xNew := satW 16 (v / 2 ^ bits (s.featWord n u 0) 15 12)
  let xOld := if nlen ≤ f.upd then s.tplSample (hbase + f.pos) else 0
  let sx := f.sx + xNew - xOld
  let sxx := f.sxx + xNew * xNew - xOld * xOld
  let s1 := s.setTplSample (hbase + f.pos) xNew
  let pos := (f.pos + 1) % nlen
  let upd := min nlen (f.upd + 1)
  let x := (s1.tplSamples (hbase + pos) (nlen - pos)) ++ s1.tplSamples hbase pos
  let stx := dot (s1.tplSamples tbase nlen) x
  let m : Int := nlen
  let value := corrValue (m * stx - f.st * sx) ((m * f.stt - f.st * f.st) * (m * sxx - sx * sx))
  let ok := decide (nlen ≤ upd)
  let s2 := s1.setFeat n u { f with upd := upd, pos := pos, sx := sx, sxx := sxx, valid := ok, value := if ok then value else 0 }
  ({ s2 with cry := { s2.cry with macs := (s2.cry.macs + nlen + 2) % 2 ^ 64 } }).tallyAdd (s.seedPacer n) 6 7 (nlen + 2)

/-- A feature reset of one unit (R245): windows, counts, history and sums; the template's sums stand until the next arming. -/
def State.featReset (s : State) (n u : Nat) : State :=
  let f := s.feat n u
  let s1 := if s.isTemplate n u then
      let (nlen, _, hbase) := s.tplShape n u
      s.wrBytes (0x21000000 + 2 * hbase) (List.replicate (2 * nlen) 0)
    else s
  s1.setFeat n u { Feat.reset with st := f.st, stt := f.stt }

/-- Update one unit by an output of its input's channel. -/
def State.featUpdate (s0 : State) (n u : Nat) (o : Delivered) : State :=
  let s := if o.flags.first then s0.featReset n u else s0
  let w := s.featWord n u 0
  let sel := bits (s.seedWord n (4 + s.featIn n u)) 30 28
  let v := refValue sel o.comps
  if bits w 30 28 = 4 then s.correlate n u v else s.setFeat n u (featStep w (s.featWord n u 1) sel v o (s.feat n u))

/-- Step 1 of R246: every unit of a seed fed by the output's channel. -/
def State.seedUpdate (s : State) (n : Nat) (o : Delivered) : State :=
  ((List.range 4).filter (fun u => s.featOn n u && s.seedIn n (s.featIn n u) == o.chan)).foldl (fun t u => t.featUpdate n u o) s

/-! ### Arming (R255, R256) -/

/-- Reserved bits of a seed record are set, or FORMAT is wrong (R238 to R241, R253). -/
def State.seedReserved (s : State) (n : Nat) : Bool :=
  let w := s.seedWord n
  bits (w 0) 31 28 ≠ 3 || bits (w 0) 27 24 ≠ 0 || bits (w 0) 14 13 ≠ 0 || bits (w 0) 11 5 ≠ 0 || w 2 ≠ 0 || w 3 ≠ 0 ||
  (List.range 4).any (fun j => bits (w (4 + j)) 27 8 ≠ 0) ||
  (List.range 4).any (fun u =>
    let f := w (8 + 4 * u)
    bits f 21 16 ≠ 0 || w (8 + 4 * u + 3) ≠ 0 ||
    (bitAt f 31 && (match bits f 30 28 with
      | 1 | 2 => bits f 15 4 ≠ 0
      | 4 => bits f 11 10 ≠ 0 || bitAt (w (9 + 4 * u)) 31 || bitAt (w (9 + 4 * u)) 15
      | _ => false))) ||
  bits (w 56) 12 0 ≠ 0 || bits (w 57) 12 0 ≠ 0 || (List.range 5).any (fun k => w (58 + k) ≠ 0) || bits (w 63) 31 16 ≠ 0

/-- An input reference fails its check. -/
def State.seedInputBad (s : State) (n : Nat) : Bool :=
  !s.seedInOn n 0 || (List.range 4).any (fun j => s.seedInOn n j &&
    (let sel := bits (s.seedWord n (4 + j)) 30 28
     let c := s.seedIn n j
     decide (192 ≤ c) || decide (4 < sel) || (sel < 4 && decide ((s.ad c).ncomp ≤ sel))))

/-- A field of a unit in use is out of range (R241), or its template does not vary (R244). -/
def State.featRangeBad (s : State) (n u : Nat) : Bool :=
  let w := s.featWord n u 0
  let p2 := s.featWord n u 1
  let winl := bits w 25 22
  !s.seedInOn n (s.featIn n u) || s.featWord n u 2 ≠ 0 ||
  (match bits w 30 28 with
    | 0 => decide (10 < winl) || bits w 15 0 ≠ 0 || p2 ≠ 0
    | 1 => winl ≠ 0 || p2 ≠ 0
    | 2 => decide (10 < winl) || decide (8 < bits w 3 0) || p2 ≠ 0
    | 3 => decide (10 < winl)
    | 4 =>
      let (nlen, tbase, hbase) := s.tplShape n u
      let t := s.tplSamples tbase nlen
      winl ≠ 0 || decide (8 < bits w 15 12) || decide (nlen < 16) || decide (512 < nlen) || nlen % 2 == 1 || tbase % 2 == 1 || hbase % 2 == 1 ||
      decide (32768 < tbase + nlen) || decide (32768 < hbase + nlen) || (nlen : Int) * dot t t == t.sum * t.sum
    | _ => true)

/-- The FEATURE check: ranges, and history regions that overlap one of this seed, of another armed seed, or of a seed that is armed with it. -/
def State.seedFeatureBad (s : State) (n : Nat) (peers : List Nat) : Bool :=
  let on := (List.range 4).filter (fun u => s.featOn n u)
  let tpl := on.filter (fun u => s.isTemplate n u)
  let own := fun u => s.tplRegions n ++ (tpl.filter (· ≠ u)).map (fun v => ((s.tplShape n v).2.2, (s.tplShape n v).1))
  let others := ((List.range 64).filter (fun m => m ≠ n && ((s.seed m).armed || peers.contains m))).flatMap (fun m => s.tplRegions m ++ s.histRegions m)
  on.any (fun u => s.featRangeBad n u) ||
  tpl.any (fun u => (own u ++ others).any (fun r => overlaps r ((s.tplShape n u).2.2, (s.tplShape n u).1)))

/-- A transition in use has an invalid CMP or an invalid unit (R248). -/
def State.seedTransBad (s : State) (n : Nat) : Bool :=
  (List.range 16).any (fun k =>
    let t := s.trans n (k / 2) (k % 2)
    t.on && (decide (5 < t.cmp) || (t.cmp ≠ 0 && t.cmp ≠ 5 && !s.featOn n t.feat)))

/-- The CRC of R63 over words 0 to 62. -/
def State.seedCrc (s : State) (n : Nat) : Nat := (crc16 (wordsBytes ((List.range 63).map (s.seedWord n)))).toNat

/-- CHECK for a seed that is armed together with `peers` (R255). -/
def State.seedCheck (s : State) (n : Nat) (peers : List Nat) : Nat :=
  firstStatus [
    (decide (s.seedCrc n ≠ bits (s.seedWord n 63) 15 0), 1), (s.seedReserved n, 2), (s.seedInputBad n, 3), (s.seedFeatureBad n peers, 4),
    (s.seedTransBad n, 5), (bits (s.seedWord n 0) 20 19 == 3, 6), (s.isFenced 2 n, 7)]

/-- The sums of a unit's template, st and stt (R244). -/
def State.tplSums (s : State) (n u : Nat) : Int × Int :=
  if s.isTemplate n u then
    let t := s.tplSamples (s.tplShape n u).2.1 (s.tplShape n u).1
    (t.sum, dot t t)
  else (0, 0)

/-- Arm a seed that passed its check (R256). -/
def State.armSeed (s : State) (n : Nat) : State :=
  let s1 := (List.range 4).foldl (fun t u =>
    let (a, b) := t.tplSums n u
    (t.featReset n u).setFeat n u { Feat.reset with st := a, stt := b }) s
  (s1.modSeed n (fun x => { x with armed := true, state := bits (s.seedWord n 0) 23 21, held := false, check := 0, run0 := 0, run1 := 0, dwell := 0 })).loadChanged

/-- Disarm a seed; its state, counts and features stay readable. -/
def State.disarmSeed (s : State) (n : Nat) : State := (s.modSeed n (fun x => { x with armed := false })).loadChanged

/-- A failed arming check (R255, ARM_FAIL). -/
def State.armFail (s : State) (n code : Nat) : State := (s.modSeed n (fun x => { x with check := code })).evt .cryEvt 0 0

/-! ### Actions (R252 to R254) -/

/-- An action of seed `n` failed. -/
def State.actionFail (s : State) (n : Nat) : State := (((s.evt .cryEvt 0 1).countFault .cryCnt 0 15 0 1)).logErr 2 n 0x20

/-- The outcome of an action: a failure is counted, a success ends the run of failures (R569). -/
def State.actionDone (s : State) (n : Nat) (ok : Bool) : State := if ok then s.logEnd 2 n 0x20 else s.actionFail n

/-- The record of EMIT_RECORD (R254). -/
def State.seedRecord (s : State) (n : Nat) (x : Trans) (t : Nat) (byTime : Bool) (fl : OutFlags) (o : Delivered) : PanItem :=
  let d := s.seed n
  { type := 2, chan := o.chan, stream := bits (s.seedWord n 0) 4 0, flags := fl, stamp := o.stamp, tb := (s.ad o.chan).tb, epoch := o.epoch,
    payload := [w32 (n * 2 ^ 26 + d.state * 2 ^ 23 + x.next * 2 ^ 20 + t * 2 ^ 19 + b2n byTime * 2 ^ 18 + min 65535 d.dwell), s.seedWord n 1] ++
      (List.range 4).map (fun u => wInt (s.feat n u).value) }

/-- The actions of a taken transition, in ascending bit order; ARM and DISARM are answered as (actor, arm, seed), to be done after the
output. -/
def State.seedActions (s : State) (n : Nat) (x : Trans) (t : Nat) (byTime : Bool) (fl : OutFlags) (o : Delivered) : State × List (Nat × Bool × Nat) :=
  let arg := s.seedWord n (56 + x.arg)
  let on := fun k => x.act / 2 ^ k % 2 == 1
  let s1 := if on 0 then (s.panPush (s.seedRecord n x t byTime fl o)).actionDone n true else s
  let s2 := if on 1 then (s1.fireSluice (bits arg 31 26) 4 false).actionDone n true else s1
  let s3 := if on 2 then (s2.raise (64 + n) false).actionDone n true else s2
  let s4 := if on 3 then (s3.raise (64 + n) true).actionDone n true else s3
  let s5 := if on 4 then
      if s4.pd11Stopped then s4.actionDone n false
      else
        let (u, ok) := s4.launchStart (bits arg 25 19)
        u.actionDone n ok
    else s4
  (s5, (if on 5 then [(n, true, bits arg 18 13)] else []) ++ (if on 6 then [(n, false, bits arg 18 13)] else []))

/-- An ARM or DISARM action takes effect (R252): a fenced seed accepts neither (R259). -/
def State.seedDeferred (s : State) (d : Nat × Bool × Nat) : State :=
  let (actor, arm, n) := d
  if arm then
    if (s.seed n).armed && !s.isFenced 2 n then s.actionDone actor true
    else
      let k := s.seedCheck n []
      if k = 0 then (s.armSeed n).actionDone actor true else (s.armFail n k).actionDone actor false
  else if s.isFenced 2 n then s.actionDone actor false
  else (s.disarmSeed n).actionDone actor true

/-! ### Evaluation (R249) -/

/-- The union of the flags of the latest outputs of a seed's valid inputs. -/
def State.seedFlags (s : State) (n : Nat) : OutFlags :=
  ((List.range 4).filter (fun j => s.seedInOn n j)).foldl (fun f j => f.union (s.cry.flags.get (fun _ => OutFlags.none) (s.seedIn n j))) OutFlags.none

/-- The next run count of a transition: it counts while the condition holds, saturating; an unused transition keeps its count. -/
def State.nextRun (s : State) (n : Nat) (x : Trans) (r : Nat) : Nat :=
  let f := s.feat n x.feat
  if !x.on then r else if cmpHolds x.cmp f.valid f.value x.thr then min 255 (r + 1) else 0

/-- Does a transition qualify, by its condition or by its timeout? -/
def Trans.qualifies (x : Trans) (run dwell tscale : Nat) : Bool × Bool :=
  (x.on && x.cmp ≠ 0 && decide (max x.minDur 1 ≤ run), x.on && x.timeout ≠ 0 && decide (x.timeout * 2 ^ tscale ≤ dwell))

/-- One evaluation of a seed (R249). -/
def State.seedEvaluate (s : State) (n : Nat) (o : Delivered) : State × List (Nat × Bool × Nat) :=
  let w0 := s.seedWord n 0
  let pol := bits w0 20 19
  let fl := s.seedFlags n
  if fl.unsettled && pol = 1 then (s.modSeed n (fun x => { x with state := bits w0 23 21, dwell := 0, run0 := 0, run1 := 0 }), [])
  else if fl.unsettled && pol = 0 then (s.modSeed n (fun x => { x with held := true }), [])
  else
    let d := s.seed n
    let t0 := s.trans n d.state 0
    let t1 := s.trans n d.state 1
    let d1 : Seed := { d with held := false, dwell := min (2 ^ 32 - 1) (d.dwell + 1), run0 := s.nextRun n t0 d.run0, run1 := s.nextRun n t1 d.run1 }
    let s1 := s.setSeed n d1
    let q0 := t0.qualifies d1.run0 d1.dwell (bits w0 18 15)
    let q1 := t1.qualifies d1.run1 d1.dwell (bits w0 18 15)
    let go := fun (x : Trans) (t : Nat) (q : Bool × Bool) =>
      let (s2, l) := s1.seedActions n x t (!q.1) fl o
      (s2.modSeed n (fun y => { y with state := x.next, dwell := 0, run0 := 0, run1 := 0, taken := (y.taken + 1) % 2 ^ 32 }), l)
    if q0.1 || q0.2 then go t0 0 q0 else if q1.1 || q1.2 then go t1 1 q1 else (s1, [])

/-- One armed seed processes an output of one of its inputs (R246). -/
def State.seedProcess (s : State) (n : Nat) (o : Delivered) : State × List (Nat × Bool × Nat) :=
  let s1 := s.seedUpdate n o
  if s.seedPacer n = o.chan then (s1.tallyAdd o.chan 5 7 1).seedEvaluate n o else (s1, [])

/-- A seed's runtime state is consistent: its state is one of the eight, and its four feature units are there (DESIGN CHOICE, log 80). -/
def Seed.sound (x : Seed) : Bool := decide (x.state < 8) && x.feats.length == 4

/-- One seed takes one output, where it is not fenced; a seed whose runtime state Salter finds inconsistent is fenced with INTERNAL (R259). -/
def State.seedTake (s : State) (n : Nat) (o : Delivered) : State × List (Nat × Bool × Nat) :=
  if s.isFenced 2 n then (s, []) else if (s.seed n).sound then s.seedProcess n o else (s.fenceMark 2 n 0x86, [])

/-- Process one output by every armed seed that is not fenced, in ascending order, then the ARM and DISARM actions. -/
def State.cryProcess (s : State) (o : Delivered) : State :=
  let s0 := { s with cry := { s.cry with flags := s.cry.flags.set (fun _ => OutFlags.none) o.chan o.flags } }
  let l := s.armedSeeds.filter (fun n => !s.isFenced 2 n && (List.range 4).any (fun j => s.seedInOn n j && s.seedIn n j == o.chan))
  let (s1, ds) := l.foldl (fun (p : State × List (Nat × Bool × Nat)) n =>
    let (u, e) := p.1.seedTake n o
    (u, p.2 ++ e)) (s0, [])
  ds.foldl State.seedDeferred s1

/-- CRYSTALLISER_OUTPUT (R246): the oldest output in the input FIFO. -/
def State.cryOutput (s : State) : State :=
  match s.cry.fifo with
  | [] => s
  | o :: t => if s.pwr.floor ≠ 0 || s.isFenced 8 7 then s else ({ s with cry := { s.cry with fifo := t } }).cryProcess o

/-- CRYSTALLISER_OUTPUT. -/
def execCrystalliserOutput (s : State) : Host.Outcome State Fault Refusal := act State.cryOutput s

/-- The recheck of an armed seed (R258). -/
def State.seedRecheck (s : State) (n : Nat) : State :=
  onlyIf (n < 64 && (s.seed n).armed && !s.isFenced 2 n && decide (s.seedCrc n ≠ bits (s.seedWord n 63) 15 0))
    (fun u => (u.evt .cryEvt 0 3).fenceMark 2 n 0x83) s

/-- SEED_CRC_CHECK: once per second in ACTIVE. -/
def execSeedCrcCheck (seed : Nat) (s : State) : Host.Outcome State Fault Refusal := act (onlyIf (s.pwr.floor = 0) (fun u => u.seedRecheck seed)) s

/-- UNFENCE of a seed (R259): it is disarmed. -/
def State.unfenceSeed (s : State) (n : Nat) : State := (s.unfenceMark 2 n).disarmSeed n

/-! ### Opcodes (R263 to R265) -/

/-- The seeds that a mask names. -/
def maskSeeds (c : Call) : List Nat := (List.range 64).filter (fun n => bitAt (c.word (n / 32)) (n % 32))

/-- PD7 is fenced. -/
def State.cryOff (s : State) : Bool := s.isFenced 8 7

/-- SEED_WRITE. -/
def opSeedWrite : OpDef where
  code := 0x50
  priv := 1
  async := false
  lenOk := fun n c => 3 ≤ n && n == c.fld 1 12 6 + 2
  valid := fun _ c => c.fld 0 31 9 == 0 && c.fld 0 7 6 == 0 && c.fld 1 31 13 == 0 && 1 ≤ c.fld 1 12 6 && c.fld 1 12 6 ≤ 61 && c.fld 1 5 0 + c.fld 1 12 6 ≤ 64
  allow := fun s c => firstStatus [(s.cryOff, stDomainOff), (s.isFenced 2 (c.fld 0 5 0), stFenced), ((s.seed (c.fld 0 5 0)).armed, stBusy)]
  run := fun s c =>
    let n := c.fld 0 5 0
    let a := 0x400A8000 + 256 * n
    let s1 := s.wrWords (a + 4 * c.fld 1 5 0) (c.params.drop 2)
    (if bitAt (c.word 0) 8 then s1.wrWord (a + 252) (setBits (s1.rdWord (a + 252)) 15 0 (s1.seedCrc n)) else s1, 0, [])

/-- SEED_READ. -/
def opSeedRead : OpDef where
  code := 0x51
  priv := 0
  async := false
  lenOk := fun n _ => n == 2
  valid := fun _ c => c.fld 0 31 6 == 0 && c.fld 1 31 13 == 0 && 1 ≤ c.fld 1 12 6 && c.fld 1 12 6 ≤ 62 && c.fld 1 5 0 + c.fld 1 12 6 ≤ 64
  allow := fun s _ => firstStatus [(s.cryOff, stDomainOff)]
  run := fun s c => (s, 0, (List.range (c.fld 1 12 6)).map (fun k => s.seedWord (c.fld 0 5 0) (c.fld 1 5 0 + k)))

/-- SEED_ARM with OP ARM (R264): every named seed is checked before any is armed. -/
def State.armSeeds (s : State) (l : List Nat) : State × Nat × List Word :=
  let bad := l.filter (fun n => s.seedCheck n l ≠ 0)
  if bad.isEmpty then (l.foldl State.armSeed s, stOk, [])
  else (bad.foldl (fun u n => u.armFail n (s.seedCheck n l)) s, stBadParam, [])

/-- SEED_ARM: OP 0 ARM, 1 DISARM, 2 RESET of armed seeds (R264). -/
def opSeedArm : OpDef where
  code := 0x52
  priv := 1
  async := false
  lenOk := fun n _ => n == 3
  valid := fun _ c => !(maskSeeds c).isEmpty && c.fld 2 31 2 == 0 && c.fld 2 1 0 ≠ 3
  allow := fun s c => firstStatus [(s.cryOff, stDomainOff), ((maskSeeds c).any (fun n => s.isFenced 2 n), stFenced)]
  run := fun s c =>
    let l := maskSeeds c
    match c.fld 2 1 0 with
    | 0 => s.armSeeds l
    | 1 => ((l.filter (fun n => (s.seed n).armed)).foldl State.disarmSeed s, stOk, [])
    | _ => s.armSeeds (l.filter (fun n => (s.seed n).armed))

/-- TPL_WRITE. -/
def opTplWrite : OpDef where
  code := 0x53
  priv := 1
  async := false
  lenOk := fun n c => 3 ≤ n && n == c.fld 1 5 0 + 2
  valid := fun _ c => c.fld 0 31 14 == 0 && c.fld 1 31 6 == 0 && 1 ≤ c.fld 1 5 0 && c.fld 1 5 0 ≤ 61 && c.fld 0 13 0 + c.fld 1 5 0 ≤ 16384
  allow := fun s c => firstStatus [(s.cryOff, stDomainOff),
    ((List.range (4 * c.fld 1 5 0)).any (fun k => s.seedByteRefused (0x21000000 + 4 * c.fld 0 13 0 + k)), stBusy)]
  run := fun s c => (s.wrWords (0x21000000 + 4 * c.fld 0 13 0) (c.params.drop 2), stOk, [])

/-! ### Registers -/

/-- CRY_SEEDSTATn. -/
def State.seedStatWord (s : State) (n : Nat) : Word :=
  let x := s.seed n
  let fv := ((List.range 4).map (fun u => b2n (s.feat n u).valid * 2 ^ u)).sum
  w32 (b2n x.armed * 2 ^ 31 + b2n (s.isFenced 2 n) * 2 ^ 30 + x.state * 2 ^ 27 + fv * 2 ^ 23 + b2n x.held * 2 ^ 22 + x.check * 2 ^ 16 + x.run1 * 2 ^ 8 + x.run0)

/-- A mask word of the seeds 32k to 32k + 31 that `p` picks. -/
def seedMask (k : Nat) (p : Nat → Bool) : Word := w32 ((List.range 32).map (fun b => b2n (p (32 * k + b)) * 2 ^ b)).sum

/-- CRY_STAT; no output is in progress between two commands. -/
def State.cryStatWord (s : State) : Word := w32 (s.cry.fifo.length * 2 ^ 16 + s.armedSeeds.length)

end Sys2Proof.Machine
end

