-- ==== Sys2Proof/Machine/Irq.lean ====
section
/-! DEFINITION. The host interrupt controller (spec 17, R528 to R539). -/

namespace Sys2Proof.Machine

/-- The host bound to HP1: H0 while UNPROVISIONED, and until the session that PROVISION ends is closed (R56). -/
def State.hp1Host (s : State) : Nat := if s.provisioned && !(s.host 0).closing then s.store.hp1Host else 0

/-- Is the vector and priority above the top of the stack (R530)? -/
def aboveTop (stack : List (Nat × Nat)) (prio : Nat) : Bool :=
  match stack with
  | [] => true
  | (_, p) :: _ => decide (p < prio)

/-- The sources deliverable to target `t` as (vector, priority), in vector order; a fenced bank delivers none (R530). -/
def State.deliverable (s : State) (t : Nat) : List (Nat × Nat) :=
  if s.bankFenced t then [] else
  let x := s.target t
  let cfg := s.reg .icPrivcfg t
  let privs := (List.range 16).filterMap (fun p =>
    if x.pend.getLsbD p && bitAt cfg (16 + p) && aboveTop x.stack (bits cfg 3 0) then some (p, bits cfg 3 0) else none)
  let shared := (List.range 240).filterMap (fun k =>
    let c := s.reg .icSrc k
    if (s.src k).pending && bitAt c 31 && s.srcTarget k == t && aboveTop x.stack (bits c 27 24) then some (0x010 + k, bits c 27 24) else none)
  privs ++ shared

/-- Highest priority first, then lowest vector (R530): the first of the highest in a list in vector order. -/
def pickSource : List (Nat × Nat) → Option (Nat × Nat)
  | [] => none
  | x :: t => match pickSource t with
    | none => some x
    | some y => if x.2 < y.2 then some y else some x

/-- The fault vector due at target `t`, if one can be delivered (R535). -/
def State.faultVector (s : State) (t : Nat) : Option Nat :=
  let x := s.target t
  if x.stackFault then some 0x3FD else if x.logSat && !s.bankFenced t then some 0x3FE else none

/-- Is something deliverable to target `t`? -/
def State.hasDelivery (s : State) (t : Nat) : Bool := (s.faultVector t).isSome || !(s.deliverable t).isEmpty

/-- The target's output: asserted while a source is deliverable to an AWAKE target, or during a wake pulse (R531, R537). -/
def State.asserted (s : State) (t : Nat) : Bool := (s.hasDelivery t && !s.asleep t) || (s.target t).pulse

/-- The value of IC_ACKh. -/
def ackWord (vec prio : Nat) : Word := w32 (2 ^ 31 + prio * 2 ^ 20 + vec)

/-- Take the source of vector `vec` out of pending (R532). -/
def State.takePending (s : State) (t vec : Nat) : State :=
  if vec < 16 then s.modTarget t (fun x => { x with pend := x.pend &&& ~~~(1#16 <<< vec) })
  else s.modSrc (vec - 16) (fun _ => ⟨false, none, none⟩)

/-- An ACK read of target `t` (R532, R535): the value and what it does. -/
def State.ackRead (s : State) (t : Nat) : State × Word :=
  match s.faultVector t with
  | some 0x3FD => (s.modTarget t (fun x => { x with stackFault := false }), ackWord 0x3FD 15)
  | some _ => (s.modTarget t (fun x => { x with logSat := false }), ackWord 0x3FE 15)
  | none => match pickSource (s.deliverable t) with
    | none => (s, 0x3FF#32)
    | some (vec, prio) =>
      ((s.takePending t vec).modTarget t (fun x => { x with stack := (vec, prio) :: x.stack }), ackWord vec prio)

/-- The safe state of a fenced bank: an empty stack (R534). -/
def State.fenceBank (s : State) (t cause : Nat) : State :=
  (s.modTarget t (fun x => { x with stack := [] })).fenceMark 7 t cause

/-- A write of IC_EOIh (R533, R534). -/
def State.eoiWrite (s : State) (t v : Nat) : State :=
  if v = 0x3FF || v = 0x3FD || v = 0x3FE then s
  else match (s.target t).stack with
    | (top, _) :: rest =>
      if top = v then s.modTarget t (fun x => { x with stack := rest })
      else ((s.fenceBank t 0x84).evt .icEvt 0 t).modTarget t (fun x => { x with stackFault := true })
    | [] => ((s.fenceBank t 0x84).evt .icEvt 0 t).modTarget t (fun x => { x with stackFault := true })

/-- FALLBACK (R538): the pending bit of a source whose wake pulse went unanswered moves to FB_TGT. -/
def State.fallback (s : State) (k : Nat) : State :=
  let x := s.src k
  match x.wakeSent with
  | none => s
  | some t =>
    let cfg := s.reg .icTgtcfg t
    let fb := bits cfg 29 28
    if x.pending && x.moved.isNone && s.asleep t && bitAt cfg 30 && !s.bankFenced fb then
      let s1 := (s.setSrc k { x with moved := some fb, wakeSent := none }).evt .icEvt 0 (4 + t)
      if s.asleep fb then s1.wakeRequest fb (0x010 + k) (s.fld .icSrc k 27 24) else s1
    else s

/-- FALLBACK. -/
def execFallback (source : Nat) (s : State) : Host.Outcome State Fault Refusal :=
  act (onlyIf (source < 240) (fun u => u.fallback source)) s

/-- WAKE_PULSE_END (R537): WAKE_WIDTH has passed. -/
def execWakePulseEnd (target : Nat) (s : State) : Host.Outcome State Fault Refusal :=
  act (fun u => u.modTarget target (fun x => { x with pulse := false })) s

/-- IBI_REPEAT (R531): HP1 sends its in-band interrupt with data byte 0x02 while a source stays deliverable to its AWAKE host with OUTPUT 1. -/
def State.ibiRepeat (s : State) : State :=
  let h := s.hp1Host
  if bitAt (s.reg .icTgtcfg h) 31 && s.hasDelivery h && !s.asleep h then { s with hp1Ibi := 2 } else s

/-- IBI_REPEAT. -/
def execIbiRepeat (s : State) : Host.Outcome State Fault Refusal := act State.ibiRepeat s

/-- The vectors active on any target. -/
def State.activeVec (s : State) (vec : Nat) : Bool := (List.range 4).any (fun t => (s.target t).stack.any (fun p => p.1 == vec))

/-- May the value be written to IC_TGTCFGh (R531, R538)? -/
def State.tgtcfgOk (s : State) (h : Nat) (v : Word) : Bool :=
  !(bitAt v 31 && h ≠ s.hp1Host) && !(bitAt v 30 && bits v 29 28 == h)

/-- The word IC_STATh shows. -/
def State.icStatWord (s : State) (t : Nat) : Word :=
  let x := s.target t
  let top := x.stack.head?
  w32 (b2n (s.asleep t) * 2 ^ 31 + b2n (s.bankFenced t) * 2 ^ 30 + b2n (s.asserted t) * 2 ^ 29 + x.stack.length * 2 ^ 24 +
    (top.map (·.2)).getD 0 * 2 ^ 20 + (top.map (·.1)).getD 0x3FF)

/-- The word IC_PRIVh shows. -/
def State.icPrivWord (s : State) (t : Nat) : Word :=
  let x := s.target t
  let act := (List.range 16).foldl (fun m p => m + (if x.stack.any (fun q => q.1 == p) then 2 ^ p else 0)) 0
  w32 (act * 2 ^ 16 + x.pend.toNat)

/-- The word IC_SRCs shows: the stored configuration with ACTIVE, MOVED and PENDING. -/
def State.icSrcWord (s : State) (k : Nat) : Word :=
  let x := s.src k
  setBits (s.reg .icSrc k) 2 0 (b2n (s.activeVec (0x010 + k)) * 4 + b2n (x.pending && x.moved.isSome) * 2 + b2n x.pending)

/-- The word IC_SPENDk shows. -/
def State.icSpendWord (s : State) (k : Nat) : Word :=
  w32 ((List.range 32).foldl (fun m b => m + (if 32 * k + b < 240 && (s.src (32 * k + b)).pending then 2 ^ b else 0)) 0)

end Sys2Proof.Machine
end

