-- ==== Sys2Proof/Machine/Orient.lean ====
section
/-! DEFINITION. ORIENT's single-precision arithmetic (spec 09, R276): every operation is rounded once to binary32; sums and products go from left to right, and
rotate(q, v) is the vector part of q (0, v) conj(q) (DESIGN CHOICE, log 63). -/

namespace Sys2Proof.Machine

/-- Three numbers. -/
abbrev Vec3 := Rat × Rat × Rat

/-- A quaternion. -/
abbrev Quat := Rat × Rat × Rat × Rat

/-- Rounded product. -/
def fm (a b : Rat) : Rat := f32 (a * b)
/-- Rounded sum. -/
def fa (a b : Rat) : Rat := f32 (a + b)
/-- Rounded difference. -/
def fs (a b : Rat) : Rat := f32 (a - b)
/-- Rounded quotient. -/
def fd (a b : Rat) : Rat := f32 (a / b)

/-- Rounded square root of a number that is not negative: 64 bits of the root with a sticky bit, rounded once. -/
def fsqrt (x : Rat) : Rat :=
  if x ≤ 0 then 0
  else
    let n := x.num.natAbs
    let k := (128 + x.den.log2 - n.log2) / 2
    let m := n * 4 ^ k / x.den
    let r := isqrt m
    let sticky := if r * r * x.den = n * 4 ^ k then 0 else 1
    f32 (mkRat (2 * r + sticky : Nat) (2 ^ (k + 1)))

/-- norm(v). -/
def norm3 (v : Vec3) : Rat := fsqrt (fa (fa (fm v.1 v.1) (fm v.2.1 v.2.1)) (fm v.2.2 v.2.2))

/-- The square of norm(q). -/
def normSq4 (q : Quat) : Rat := fa (fa (fa (fm q.1 q.1) (fm q.2.1 q.2.1)) (fm q.2.2.1 q.2.2.1)) (fm q.2.2.2 q.2.2.2)

/-- A norm that the step divides by is 0: its division is left out, and the instance's ERROR is NUMERIC (R276, R295). -/
def normIsZero (acc mag : Option Vec3) : Bool := match acc with
  | none => false
  | some a => norm3 a == 0 || (match mag with
    | some m => norm3 m == 0
    | none => false)

/-- Divide by a norm. -/
def scale3 (v : Vec3) (d : Rat) : Vec3 := (fd v.1 d, fd v.2.1 d, fd v.2.2 d)

/-- Cross product. -/
def cross3 (a b : Vec3) : Vec3 :=
  (fs (fm a.2.1 b.2.2) (fm a.2.2 b.2.1), fs (fm a.2.2 b.1) (fm a.1 b.2.2), fs (fm a.1 b.2.1) (fm a.2.1 b.1))

/-- Sum of vectors. -/
def add3 (a b : Vec3) : Vec3 := (fa a.1 b.1, fa a.2.1 b.2.1, fa a.2.2 b.2.2)

/-- Multiply by a scalar. -/
def mul3 (k : Rat) (v : Vec3) : Vec3 := (fm k v.1, fm k v.2.1, fm k v.2.2)

/-- Quaternion product. -/
def qmul (a b : Quat) : Quat :=
  let (a0, a1, a2, a3) := a
  let (b0, b1, b2, b3) := b
  (fs (fs (fs (fm a0 b0) (fm a1 b1)) (fm a2 b2)) (fm a3 b3), fs (fa (fa (fm a0 b1) (fm a1 b0)) (fm a2 b3)) (fm a3 b2),
   fa (fa (fs (fm a0 b2) (fm a1 b3)) (fm a2 b0)) (fm a3 b1), fa (fs (fa (fm a0 b3) (fm a1 b2)) (fm a2 b1)) (fm a3 b0))

/-- conj(q). -/
def qconj (q : Quat) : Quat := (q.1, -q.2.1, -q.2.2.1, -q.2.2.2)

/-- rotate(q, v). -/
def rotateQ (q : Quat) (v : Vec3) : Vec3 := (qmul (qmul q (0, v)) (qconj q)).2

/-- One step of R276 from q: k, dt in s, the rates in rad/s, the latest accelerometer and magnetometer values. An error is the
ERROR of R295: 2 where norm(q) is 0; 3 where a number has left the range of binary32. The sum of squares has then left it too: an infinity in the rates makes q infinite, and q divided by
its norm is no unit quaternion but 0 or not a number (log 63). -/
def orientStep (q : Quat) (k dt : Rat) (g : Vec3) (acc mag : Option Vec3) : Except Nat Quat :=
  let (q0, q1, q2, q3) := q
  let e : Vec3 := match acc with
    | none => (0, 0, 0)
    | some a =>
      if norm3 a = 0 then (0, 0, 0)
      else
        let a' := scale3 a (norm3 a)
        let vv : Vec3 := (fm 2 (fs (fm q1 q3) (fm q0 q2)), fm 2 (fa (fm q0 q1) (fm q2 q3)),
          fa (fs (fs (fm q0 q0) (fm q1 q1)) (fm q2 q2)) (fm q3 q3))
        let e1 := cross3 a' vv
        match mag with
        | none => e1
        | some m =>
          if norm3 m = 0 then e1
          else
            let m' := scale3 m (norm3 m)
            let h := rotateQ q m'
            let b : Vec3 := (fsqrt (fa (fm h.1 h.1) (fm h.2.1 h.2.1)), 0, h.2.2)
            add3 e1 (cross3 m' (rotateQ (qconj q) b))
  let g' := add3 g (mul3 k e)
  let p := qmul q (0, g')
  let c := fm (1 / 2) dt
  let r : Quat := (fa q0 (fm c p.1), fa q1 (fm c p.2.1), fa q2 (fm c p.2.2.1), fa q3 (fm c p.2.2.2))
  let d := fsqrt (normSq4 r)
  if (2 : Rat) ^ 128 ≤ normSq4 r then .error 3
  else if d = 0 then .error 2
  else
    let u : Quat := (fd r.1 d, fd r.2.1 d, fd r.2.2.1 d, fd r.2.2.2 d)
    .ok (if u.1 < 0 then (-u.1, -u.2.1, -u.2.2.1, -u.2.2.2) else u)

/-- The number that a binary32 word spells; none for an infinity or a NaN. -/
def f32Of (w : Word) : Option Rat :=
  let e := bits w 30 23
  let m := bits w 22 0
  if e = 255 then none
  else
    let v : Rat := if e = 0 then mkRat m (2 ^ 149) else (8388608 + m : Nat) * (2 : Rat) ^ e / 2 ^ 150
    some (if bitAt w 31 then -v else v)

/-- A binary32 number as a word; beyond the range, an infinity. -/
def f32Word (x : Rat) : Word :=
  let sign := if x < 0 then 2 ^ 31 else 0
  if x = 0 then 0
  else
    let e := leadExp x.num.natAbs x.den
    if 127 < e then w32 (sign + 0x7F800000)
    else if e < -126 then w32 (sign + rneNat (x.num.natAbs * 2 ^ 149) x.den)
    else
      let m := if e ≤ 23 then rneNat (x.num.natAbs * 2 ^ (23 - e).toNat) x.den else rneNat x.num.natAbs (x.den * 2 ^ (e - 23).toNat)
      w32 (sign + (e + 127).toNat * 2 ^ 23 + (m - 8388608))

end Sys2Proof.Machine
end

