-- ==== Sys2Proof/Machine/Services.lean ====
section
/-! DEFINITION. Salter's services (spec 09): parameter blocks, ORIENT, TREND, MACHINE_STATE, WEAR, WAKE, and their opcodes. -/

namespace Sys2Proof.Machine

/-! ### Parameter blocks (R272 to R288) -/

/-- Words of a block. -/
def blockSize (code : Nat) : Nat := match code with | 0 | 2 | 5 => 8 | 1 => 196 | _ => 2

/-- Word `w` of an instance's block as stored (R273). -/
def State.svcStored (s : State) (i w : Nat) : Word := s.svc.stored.get (fun _ => 0) (256 * i + w)

/-- May word `w` of a service's block hold `v`, taken alone? -/
def blockWordOk (code w : Nat) (v : Word) : Bool :=
  match code, w with
  | 0, 0 => bits v 29 24 == 0 && decide (bits v 23 16 < 192) && decide (bits v 15 8 < 192) && decide (bits v 7 0 < 192)
  | 0, 1 => bits v 31 12 == 0
  | 0, 2 => match f32Of v with
    | some x => decide (0 < x)
    | none => false
  | 0, 3 => match f32Of v with
    | some x => decide (0 ≤ x) && decide (x ≤ 100)
    | none => false
  | 1, 0 => bits v 30 6 == 0
  | 1, w => decide (4 ≤ w) || v == 0
  | 2, 0 => decide (bits v 30 28 ≤ 4) && decide (bits v 27 24 ≤ 8) && decide (bits v 23 20 ≤ 10) && decide (1 ≤ bits v 19 16) && bits v 15 8 == 0 &&
      decide (bits v 7 0 < 192)
  | 2, w => decide (w ≤ 4) || v == 0
  | 3, 0 | 4, 0 => bits v 30 0 == 0
  | 5, w => if w < 4 then bits v 30 28 == 0 && bits v 23 16 == 0 else v == 0
  | _, _ => v == 0

/-- The thresholds of MACHINE_STATE fit together (R282). -/
def machThreshOk (idle run alert hyst : Nat) : Bool :=
  decide (hyst < idle) && decide (idle + hyst < run) && decide (run + hyst < alert)

/-- The service code and instance that word 0 of a call names, in range. -/
def svcNamed (c : Call) : Bool := decide (c.fld 0 15 12 < (serviceShape (c.fld 0 18 16)).1)

/-- The instance number that word 0 of a call names. -/
def Call.svcIdx (c : Call) : Nat := svcNo (c.fld 0 18 16) (c.fld 0 15 12)

/-- The block with the words of a SVC_CONFIG in it. -/
def State.svcNew (s : State) (c : Call) (w : Nat) : Word :=
  let f := c.fld 1 7 0
  if f ≤ w && decide (w - f + 2 < c.params.length) then c.word (w - f + 2) else s.svcStored c.svcIdx w

/-- Restart every open TREND period. -/
def State.trendRestartAll (s : State) : State := (List.range 192).foldl (fun u c => u.trendRestart c) s

/-- ORIENT restarts (R276, R277): q and n, and the count of outputs since the restart; the latest outputs of its channels stay the latest ones. -/
def Orient.restart (x : Orient) : Orient := { Orient.reset with last := x.last, acc := x.acc, accFlags := x.accFlags, mag := x.mag, magFlags := x.magFlags }

/-- Outputs of a channel that the new block `w` no longer names are none of the instance's. -/
def Orient.renamed (x : Orient) (old w : Word) : Orient :=
  { x with last := if bits old 15 8 = bits w 15 8 then x.last else none, acc := if bits old 7 0 = bits w 7 0 then x.acc else none,
           mag := if bits old 23 16 = bits w 23 16 then x.mag else none }

/-- Restart an instance (R277, R281, R284, R292). -/
def State.svcRestart (s : State) (i : Nat) : State :=
  match svcCode i with
  | (0, k) => (s.modOrient k Orient.restart).orientInputs
  | (1, _) => s.trendRestartAll
  | (2, k) => s.setMach k Mach.reset
  | _ => s

/-- Apply an instance's block (R273): a changed block restarts the instance as its service says. -/
def State.svcApply (s : State) (i : Nat) : State :=
  let changed := (List.range (blockSize (svcCode i).1)).filter (fun w => s.svcStored i w ≠ s.svcWord i w)
  if changed.isEmpty then s
  else
    let s1 := changed.foldl (fun u w => { u with svc := { u.svc with applied := u.svc.applied.set (fun _ => 0) (256 * i + w) (s.svcStored i w) } }) s
    if i = 8 then
      if changed.contains 0 then s1.trendRestartAll else (changed.filter (fun w => decide (4 ≤ w))).foldl (fun u w => u.trendRestart (w - 4)) s1
    else if i < 8 then (s1.modOrient i (fun x => x.renamed (s.svcWord i 0) (s1.svcWord i 0))).svcRestart i
    else s1.svcRestart i

/-- The instance has no input waiting, so that its block applies at once. -/
def State.svcIdle (s : State) (i : Nat) : Bool := !s.svc.queue.any (fun p => p.1 == i)

/-! ### Inputs (R291) -/

/-- The instances to which an output of channel `c` is an input, in the service order: ORIENT and MACHINE_STATE where W10 SVC is set and their block names the
channel; TREND and WEAR where W13 says so (DEDUCED, log 39). -/
def State.svcTakers (s : State) (c : Nat) : List Nat :=
  let named := bitAt (s.desc c 10) 2
  (List.range 26).filter (fun i =>
    let w := s.svcStored i 0
    bitAt w 31 &&
    (match (svcCode i).1 with
      | 0 => named && (bits w 15 8 == c || bits w 7 0 == c || (bitAt w 30 && bits w 23 16 == c))
      | 1 => bitAt (s.desc c 13) 31
      | 2 => named && bits w 7 0 == c
      | _ => bitAt (s.desc c 13) 30))

/-- An input arrives at an instance: a fenced one discards it (R292), a full queue loses it (R291). -/
def State.svcOffer (s : State) (o : Delivered) (i : Nat) : State :=
  if s.svcFenced i || s.isFenced 8 2 then s
  else if 64 ≤ s.svc.queue.length then s.modSvcInst i (fun x => { x with overrun := min (2 ^ 32 - 1) (x.overrun + 1), gapOwed := true })
  else { s with svc := { s.svc with queue := s.svc.queue ++ [(i, o)] } }

/-- The stamp of an input. -/
def State.inStamp (s : State) (o : Delivered) : SvcStamp := ⟨o.stamp, (s.ad o.chan).tb, o.epoch⟩

/-- The integer values v_k of an output (R215). -/
def Delivered.ints (o : Delivered) : List Int := o.comps.map (fun x => x / 256)

/-! ### ORIENT (R276, R277) -/

/-- The first three values as rationals. -/
def vec3Of (l : List Int) : Vec3 := (l.getD 0 0, l.getD 1 0, l.getD 2 0)

/-- Gyroscope outputs per ORIENT output (R277). -/
def State.orientEvery (s : State) (c : Nat) : Nat :=
  let r := s.outRate c (s.chan c).tier / 1000
  max 1 r.ceil.toNat

/-- Set an instance's ERROR. -/
def State.svcError (s : State) (i e : Nat) : State := s.modSvcInst i (fun x => { x with error := e })

/-- The fence of an instance: its waiting inputs are discarded as they would be processed (R292). -/
def State.fenceInst (s : State) (i cause : Nat) : State :=
  let (code, k) := svcCode i
  ({ s with svc := { s.svc with queue := s.svc.queue.filter (fun p => p.1 ≠ i) } }).fenceMark 3 (16 * code + k) cause

/-- Salter fences an instance whose state it finds inconsistent: ERROR INTERNAL, and an entry with code INTERNAL (R293, R295). -/
def State.svcInternal (s : State) (i : Nat) : State := (s.svcError i 3).fenceInst i 0x86

/-- Is an instance's state consistent: ORIENT's quaternion has its four numbers and the norm 1, to 1 %; MACHINE_STATE's state and run count are such (DESIGN CHOICE, log 80)? -/
def State.svcSound (s : State) (i : Nat) : Bool := match svcCode i with
  | (0, k) =>
    let n := ((s.orient k).q.map (fun x => x.val * x.val)).sum
    (s.orient k).q.length == 4 && decide (mkRat 98 100 < n) && decide (n < mkRat 102 100)
  | (2, k) => decide ((s.mach k).state < 4) && decide ((s.mach k).run < 16)
  | _ => true

/-- A gyroscope output (R276). The first of a channel has no dt: it gives the instant from which the next one counts. The output sample takes the gyroscope output's stamp, also where an
accelerometer or magnetometer output used with it carries a later one: the gyroscope output is the input that it processes, and the others are the latest values at hand (DEDUCED, log 39). -/
def State.orientGyro (s0 : State) (k : Nat) (o : Delivered) : State :=
  let w := s0.svcWord k 0
  let mag := bitAt w 30
  let s := s0.svcWork k (if mag then 2300 else 1400)
  if (s.orientNames k).any s.orientBad then s.svcError k 1
  else
    let x := s.orient k
    match x.last with
    | none => (s.setOrient k { x with last := some o.stamp }).svcError k 0
    | some t =>
      let ns : Int := (o.stamp : Int) - t
      if ns ≤ 0 || decide (100000000 < ns) then (s.setOrient k { x.restart with last := some o.stamp }).svcError k 2
      else
        let settle := s.svcWord k 1
        let kp := (f32Of (s.svcWord k 3)).getD 0
        let gain := if x.n < bits settle 11 0 then fm 10 kp else kp
        let gs := (f32Of (s.svcWord k 2)).getD 0
        let q : Quat := ((x.q.getD 0 ⟨1, 0⟩).val, (x.q.getD 1 ⟨0, 0⟩).val, (x.q.getD 2 ⟨0, 0⟩).val, (x.q.getD 3 ⟨0, 0⟩).val)
        match orientStep q gain (f32 (mkRat ns 1000000000)) (mul3 gs (vec3Of o.ints)) (x.acc.map vec3Of) (if mag then x.mag.map vec3Of else none) with
        | .error e => if e = 2 then (s.setOrient k { x.restart with last := some o.stamp }).svcError k 2 else s.svcInternal k
        | .ok r =>
          let fl := ((x.flags.union o.flags).union (if x.acc.isSome then x.accFlags else OutFlags.none)).union
            (if mag && x.mag.isSome then x.magFlags else OutFlags.none)
          let n := x.n + 1
          let emit := decide ((x.seen + 1) % s.orientEvery (bits w 15 8) = 0)
          let s1 := (s.setOrient k { x with q := [Dy.of r.1, Dy.of r.2.1, Dy.of r.2.2.1, Dy.of r.2.2.2], n := n, last := some o.stamp, seen := x.seen + 1,
                                            flags := if emit then OutFlags.none else fl }).svcError k
                      (if normIsZero (x.acc.map vec3Of) (if mag then x.mag.map vec3Of else none) then 2 else 0)
          if emit then
            s1.svcEmit k ([r.1, r.2.1, r.2.2.1, r.2.2.2].map (fun (y : Rat) => roundAway (y * 4194304)))
              { fl with unsettled := decide (n ≤ bits settle 11 0), first := false } (some (s.inStamp o))
          else s1

/-- An input of ORIENT: the latest accelerometer and magnetometer values are kept, a gyroscope output is integrated. -/
def State.orientInput (s : State) (k : Nat) (o : Delivered) : State :=
  let w := s.svcWord k 0
  let fl := { o.flags with unsettled := false, first := false }
  let s1 := if bits w 7 0 = o.chan then s.modOrient k (fun x => { x with acc := some o.ints, accFlags := fl }) else s
  let s2 := if bitAt w 30 && bits w 23 16 = o.chan then s1.modOrient k (fun x => { x with mag := some o.ints, magFlags := fl }) else s1
  if bits w 15 8 = o.chan then s2.orientGyro k { o with flags := fl } else s2

/-! ### TREND (R279 to R281) -/

/-- Add a value to an open period. -/
def TrendPeriod.add (p : TrendPeriod) (v : Int) (w : Word) (fl : OutFlags) (st : Nat × Nat × Nat) : TrendPeriod :=
  let step : Int := 16 * bits w 15 0
  let k := (max 0 (min 15 ((v - 256 * sbits w 31 16) / step))).toNat
  { p with count := p.count + 1, mn := if p.count = 0 then v else min p.mn v, mx := if p.count = 0 then v else max p.mx v, sum := p.sum + v,
           sumsq := p.sumsq + v.natAbs * v.natAbs, flags := p.flags.union fl, last := some st,
           bins := if step = 0 then p.bins else p.bins.set k (min (2 ^ 32 - 1) (p.bins.getD k 0 + 1)) }

/-- An output of a trended channel. -/
def State.trendInput (s : State) (o : Delivered) : State :=
  let c := o.chan
  let s1 := s.svcWorkFor 8 c 30
  let v := refValue (bits (s.desc c 13) 22 20) o.comps
  let f := fun (p : TrendPeriod) =>
    if o.flags.unsettled || o.flags.stale then { p with excluded := p.excluded + 1 }
    else p.add v (s.svcWord 8 (4 + c)) { o.flags with unsettled := false, first := false } (o.stamp, (s.ad c).tb, o.epoch)
  (s1.modTrend (2 * c) f).modTrend (2 * c + 1) f

/-- The number of the period that ends now: whole hours or days since 2000 with the calendar set, since TB0 0 otherwise, counted from 0 at the
period's start (DEDUCED, log 39). -/
def State.periodNo (s : State) (day : Bool) : Nat :=
  let len := if day then 86400 else 3600
  (if s.cal.valid then s.cal.utc else s.tb0 / 1000000000) / len - 1

/-- MEAN, RMS and peak of a period (R279, R281). -/
def TrendPeriod.stats (p : TrendPeriod) : Int × Int × Int :=
  if p.count = 0 then (0, 0, 0)
  else ((2 * p.sum + p.count) / (2 * p.count), (isqrt (p.sumsq / p.count) : Nat), max p.mn.natAbs p.mx.natAbs)

/-- The 24 words of a summary (R281) of the period with a number, which the UTC calendar counts or not. -/
def trendWords (c : Nat) (day : Bool) (p : TrendPeriod) (no : Nat) (cal : Bool) : List Word :=
  let (mean, rms, _) := p.stats
  [w32 (c * 2 ^ 24 + b2n day * 2 ^ 23 + b2n (p.count == 0) * 2 ^ 22 + b2n cal * 2 ^ 21 + b2n p.part * 2 ^ 20), w32 no,
   w32 p.count, wInt p.mn, wInt p.mx, wInt mean, wInt rms, w32 p.excluded] ++ p.bins.map w32

/-- The timebase in which TREND expresses the instant of an EMPTY period's end (R269): the one that its VIRTUAL channel names, TB0 where it has none. -/
def State.trendTb (s : State) : Nat := ((s.virtualChan 8).map (fun v => (s.ad v).tb)).getD 0

/-- The end, at the TB0 instant `u`, of an hour or day period of a channel (R279 to R281, R304), processed now or at the wake after it. -/
def State.trendEnd (s0 : State) (c : Nat) (day : Bool) (no : Nat) (cal : Bool) (u : Nat) : State :=
  let s := (if s0.svcIdle 8 then s0.svcApply 8 else s0).svcWork 8 900
  let i := 2 * c + b2n day
  let p := s.trend i
  let ws := trendWords c day p no cal
  let (mean, rms, peak) := p.stats
  let w0 := s.svcWord 8 0
  let fl := { p.flags with gap := p.flags.gap || (s.svcInst 8).gapOwed }
  let tb := s.trendTb
  let (v, k, e) := p.last.getD (((s.tbFineAt tb u + 2 ^ 31) / 2 ^ 32).toNat, tb, s.tbEpoch tb)
  let s1 := { s with svc := { s.svc with trendLast := s.svc.trendLast.set (fun _ => []) i ws } }
  let s2 := s1.setTrend i { TrendPeriod.fresh with ended := some (no, cal) }
  let s3 := if bitAt w0 5 then
      s2.panPush { type := 3, chan := c, stream := bits w0 4 0, flags := fl, stamp := v, tb := k, epoch := e, payload := ws }
    else s2
  s3.svcEmit 8 [c + 256 * b2n day + 512 * b2n (p.count == 0), mean, rms, peak] p.flags (some ⟨v, k, e⟩)


def State.trendRuns (s : State) (c : Nat) : Bool :=
  decide (c < 192) && !s.svcFenced 8 && !s.isFenced 8 2 && bitAt (s.svcStored 8 0) 31 && bitAt (s.desc c 13) 31

/-- The period end that falls now, if one does (R280): in the first second of a whole UTC hour or day while the calendar is set; otherwise at the TB0 multiple reached at this instant or
before the next tick, to which the hub then comes. -/
def State.periodPoint (s : State) (day : Bool) : Option State :=
  let len := if day then 86400 else 3600
  if s.cal.valid then (if s.cal.utc % len = 0 && s.cal.utc ≠ 0 && !s.cal.inLeap then some s else none)
  else
    let m := (s.tb0u + len * 64000000000 - 1) / (len * 64000000000)
    if m = 0 then none else s.toTb 0 (m * len * 1000000000 * 2 ^ 32)

/-- This period's end has come already. -/
def State.periodEnded (s : State) (c : Nat) (day : Bool) : Bool :=
  (s.trend (2 * c + b2n day)).ended == some (s.periodNo day, s.cal.valid) ||
  s.svc.trendDue.any (fun p => p.1 == c && p.2.1 == day && p.2.2.1 == s.periodNo day && p.2.2.2.1 == s.cal.valid)

/-- A period of a channel ends where an end falls now; in a floor it waits for the wake (R280). -/
def State.trendPoint (s : State) (c : Nat) (day : Bool) : State :=
  match s.periodPoint day with
  | none => s
  | some u =>
    if u.periodEnded c day then s
    else if u.pwr.floor = 0 then u.trendEnd c day (u.periodNo day) u.cal.valid u.tb0u
    else { u with svc := { u.svc with trendDue := u.svc.trendDue ++ [(c, day, u.periodNo day, u.cal.valid, u.tb0u)] } }

/-- TREND_PERIOD_END (R280): for a channel with TREND_EN while TREND runs. -/
def execTrendPeriodEnd (chan : Nat) (day : Bool) (s : State) : Host.Outcome State Fault Refusal :=
  act (onlyIf (s.trendRuns chan) (fun u => u.trendPoint chan day)) s

/-- At a wake, before any input, the periods that ended in the floor are processed (R280). -/
def State.trendWake (s : State) : State :=
  s.svc.trendDue.foldl (fun u p => if u.trendRuns p.1 then u.trendEnd p.1 p.2.1 p.2.2.1 p.2.2.2.1 p.2.2.2.2 else u) { s with svc := { s.svc with trendDue := [] } }

/-! ### MACHINE_STATE (R283, R284) -/

/-- The target level of R283. -/
def machTarget (c : Nat) (x : Nat) (u1 u2 u3 hyst : Nat) : Nat :=
  ([u1, u2, u3].zip [1, 2, 3]).countP (fun (p : Nat × Nat) => if p.2 ≤ c then decide (p.1 ≤ x + hyst) else decide (p.1 < x))

/-- A block end with band RMS `x`: the new state, run count and target, and whether the state changed. -/
def machStep (m : Mach) (x t dwell : Nat) : Mach × Bool :=
  if t = m.state then ({ m with run := 0, prev := t, x := x }, false)
  else
    let run := if t = m.prev then m.run + 1 else 1
    if dwell ≤ run then ({ m with state := t, run := 0, prev := t, x := x }, true) else ({ m with run := run, prev := t, x := x }, false)

/-- An output of the input channel of instance `k`. -/
def State.machInput (s0 : State) (k : Nat) (o : Delivered) : State :=
  let i := 9 + k
  let s1 := s0.svcWork i 30
  let s := if o.flags.first then s1.setMach k Mach.reset else s1
  let w := s.svcWord i 0
  let stage := bits w 27 24
  let winl := bits w 23 20
  let sel := bits w 30 28
  if o.stages < stage then s
  else
    let m0 := s.mach k
    let m : Mach := { m0 with sum := m0.sum + bandSquares stage sel (refValue sel o.comps) o, cnt := m0.cnt + 1,
                              bad := m0.bad || o.flags.unsettled || o.flags.stale, flags := m0.flags.union { o.flags with first := false } }
    if m.cnt < 2 ^ winl then s.setMach k m
    else
      let s2 := s.svcWork i 150
      let clean : Mach := { m with sum := 0, cnt := 0, bad := false, flags := OutFlags.none }
      if m.bad then s2.setMach k clean
      else
        let x := isqrt (m.sum / 2 ^ (winl + o.stages - stage))
        let t := machTarget m.state x (s.svcWord i 1).toNat (s.svcWord i 2).toNat (s.svcWord i 3).toNat (s.svcWord i 4).toNat
        let (m1, changed) := machStep clean x t (bits w 19 16)
        (s2.setMach k { m1 with blocks := m.blocks + 1 }).svcEmit i [m1.state, min (2 ^ 23 - 1) x, b2n changed]
          { m.flags with unsettled := decide (m.blocks < bits w 19 16) } (some (s.inStamp o))

/-! ### WEAR (R285, R286) -/

/-- An output of a WEAR channel. -/
def State.wearInput (s : State) (o : Delivered) : State :=
  let c := o.chan
  let shock := bits (s.desc c 13) 15 0
  let m := refValue 4 o.comps
  let s1 := s.svcWorkFor 25 c 12
  s1.modWear c (fun x =>
    let x1 := if o.flags.sat then { x with range := min (2 ^ 32 - 1) (x.range + 1) } else x
    if shock = 0 then x1
    else if !x1.disarmed && !o.flags.unsettled && decide ((256 * shock : Nat) < m) then { x1 with shocks := min (2 ^ 32 - 1) (x1.shocks + 1), disarmed := true }
    else if decide (m < (128 * shock : Nat)) then { x1 with disarmed := false }
    else x1)

/-- The channels with WEAR_EN. -/
def State.wearChans (s : State) : List Nat := (List.range 192).filter (fun c => bitAt (s.desc c 13) 30)

/-- WEAR runs. -/
def State.wearOn (s : State) : Bool := bitAt (s.svcWord 25 0) 31 && !s.svcFenced 25

/-- One crystal tick of HOURS (R285). -/
def State.wearTick (s : State) : State :=
  if !s.wearOn then s
  else s.runningChans.foldl (fun u c =>
    if bitAt (u.desc c 13) 30 then
      u.modWear c (fun x => if 32767 ≤ x.ticks then { x with ticks := 0, hours := min (2 ^ 32 - 1) (x.hours + 1) } else { x with ticks := x.ticks + 1 })
    else u) s

/-- WEAR's samples at a lifetime write (R286). -/
def State.wearReport (s : State) : State :=
  if !s.wearOn then s
  else s.wearChans.foldl (fun u c =>
    let x := u.wear c
    let lim := fun (n : Nat) => ((min (2 ^ 23 - 1) n : Nat) : Int)
    (u.svcWork 25 200).svcEmit 25 [c, lim (x.hours / 3600), lim x.range, lim x.shocks] OutFlags.none none) s

/-! ### SERVICE_INPUT (R273, R291) -/

/-- An instance processes an input under its applied block. -/
def State.svcProcess (s : State) (i : Nat) (o : Delivered) : State :=
  if s.svcFenced i || !bitAt (s.svcWord i 0) 31 then s
  else match svcCode i with
    | (0, k) => s.orientInput k o
    | (1, _) => if bitAt (s.desc o.chan 13) 31 then s.trendInput o else s
    | (2, k) => if bits (s.svcWord i 0) 7 0 = o.chan then s.machInput k o else s
    | (3, _) => s.wearInput o
    | _ => s

/-- SERVICE_INPUT: the second core takes the oldest input. -/
def State.serviceInput (s : State) : State :=
  match s.svc.queue with
  | [] => s
  | (i, o) :: t =>
    if s.pwr.floor ≠ 0 || s.isFenced 8 2 then s
    else
      let s1 := ({ s with svc := { s.svc with queue := t } }).svcApply i
      let s2 := if s1.svcSound i then s1.svcProcess i o else s1.svcInternal i
      if s2.svcIdle i then s2.svcApply i else s2

/-- SERVICE_INPUT. -/
def execServiceInput (s : State) : Host.Outcome State Fault Refusal := act State.serviceInput s

/-! ### WAKE (R288, R289, R293) -/

/-- A wake pulse on host `t` that carries these requests' vectors (R289, R537): the output is asserted, each carried source awaits its FALLBACK
timeout, the counts and the sample follow. -/
def State.wakePulse (s : State) (t : Nat) (vecs : List Nat) (held : Nat) : State :=
  let w := s.svcWord 27 t
  let s1 := s.modTarget t (fun x => { x with pulse := true })
  let s2 := if bitAt (s.reg .icTgtcfg t) 31 && t = s.hp1Host then { s1 with hp1Ibi := 2 } else s1
  let s3 := vecs.foldl (fun u v => if 16 ≤ v then u.modSrc (v - 16) (fun x => if x.pending then { x with wakeSent := some t } else x) else u) s2
  let s4 := s3.modWakeHost t (fun x =>
    { x with gapRun := bitAt w 31 && bits w 15 8 ≠ 0, hourPulses := x.hourPulses + 1, pulses := min 65535 (x.pulses + 1) })
  s4.svcEmit 27 [t, vecs.headD 0, vecs.length, held] OutFlags.none none

/-- The pulses of this hour have reached LIMIT. -/
def State.wakeLimited (s : State) (t : Nat) : Bool :=
  let w := s.svcWord 27 t
  bitAt w 31 && bits w 7 0 ≠ 0 && decide (bits w 7 0 ≤ (s.wakeHost t).hourPulses)

/-- The requests that wait for host `t` pulse now, or wait for the next hour (R289). -/
def State.wakeRelease (s : State) (t : Nat) : State :=
  let x := s.wakeHost t
  let l := x.held ++ x.merged
  if l.isEmpty then s
  else if s.wakeLimited t then s.setWakeHost t { x with merged := [], held := l, heldCount := min 65535 (x.heldCount + x.merged.length) }
  else (s.setWakeHost t { x with merged := [], held := [] }).wakePulse t l x.held.length

/-- Requests that neither GAP nor LIMIT holds back pulse at once; in an hour's first pulse the requests held since the last hour are merged into it (R289). -/
def State.wakeDirect (s : State) (t : Nat) (vecs : List Nat) : State :=
  let x := s.wakeHost t
  let late := if x.hourPulses = 0 then x.held else []
  (s.setWakeHost t { x with held := if x.hourPulses = 0 then [] else x.held }).wakePulse t (late ++ vecs) late.length

/-- WAKE_REQUEST: the oldest request, with the others that wait for the same host (R289). -/
def State.wakeTake (s0 : State) : State :=
  match s0.svc.wakeReqs with
  | [] => s0
  | (t, vec, prio) :: rest =>
    if s0.svcFenced 27 then ({ s0 with svc := { s0.svc with wakeReqs := rest } }).wakePulse t [vec] 0
    else
      let same := rest.filter (fun r => r.1 == t)
      let vecs := vec :: same.map (fun r => r.2.1)
      let s := ({ s0 with svc := { s0.svc with wakeReqs := rest.filter (fun r => r.1 ≠ t) } }).svcWork 27 (250 * vecs.length)
      let w := s.svcWord 27 t
      let x := s.wakeHost t
      let urgent := (prio :: same.map (fun r => r.2.2)).any (fun p => decide (bits w 27 24 ≤ p))
      if !bitAt w 31 || urgent then s.wakeDirect t vecs
      else if x.gapRun then s.setWakeHost t { x with merged := x.merged ++ vecs }
      else (s.setWakeHost t { x with merged := x.merged ++ vecs }).wakeRelease t

/-- WAKE_REQUEST. -/
def execWakeRequest (s : State) : Host.Outcome State Fault Refusal := act (onlyIf (s.pwr.floor = 0) State.wakeTake) s

/-- WAKE_GAP_END (R289): GAP after the last pulse has passed. -/
def execWakeGapEnd (host : Nat) (s : State) : Host.Outcome State Fault Refusal :=
  act (onlyIf (host < 4 && s.pwr.floor = 0 && (s.wakeHost host).gapRun)
    (fun u => (u.modWakeHost host (fun x => { x with gapRun := false })).wakeRelease host)) s

/-- WAKE_LIMIT_HOUR (R289): a TB0 hour begins; held requests pulse now, or at the end of a GAP in progress. -/
def execWakeLimitHour (host : Nat) (s : State) : Host.Outcome State Fault Refusal :=
  act (onlyIf (host < 4) (fun u =>
    let u1 := u.modWakeHost host (fun x => { x with hourPulses := 0 })
    if (u1.wakeHost host).gapRun then u1 else u1.wakeRelease host)) s

/-! ### Fence and unfence (R292) -/

/-- What WAKE holds back as it is fenced pulses at once, each request by itself (R293; DESIGN CHOICE, log 80). -/
def State.wakeFlush (s : State) : State :=
  (List.range 4).foldl (fun u t =>
    let x := u.wakeHost t
    (x.held ++ x.merged).foldl (fun v r => v.wakePulse t [r] 0) (u.setWakeHost t { x with merged := [], held := [], gapRun := false })) s

/-- Fence an instance. -/
def State.fenceSvc (s : State) (i cause : Nat) : State := if i = 27 then (s.fenceInst i cause).wakeFlush else s.fenceInst i cause

/-- UNFENCE of an instance restarts it. -/
def State.unfenceSvc (s : State) (i : Nat) : State :=
  let (code, k) := svcCode i
  ((s.unfenceMark 3 (16 * code + k)).svcApply i).svcRestart i

/-! ### Opcodes (R272 to R274, R295, R296) -/

/-- SVC_CONFIG. -/
def opSvcConfig : OpDef where
  code := 0x54
  priv := 1
  async := false
  lenOk := fun n _ => 2 ≤ n
  valid := fun s c =>
    let code := c.fld 0 18 16
    let f := c.fld 1 7 0
    let n := c.params.length - 2
    c.fld 0 31 19 == 0 && c.fld 0 11 0 == 0 && c.fld 1 31 8 == 0 && svcNamed c && decide (f + n ≤ blockSize code) &&
    (List.range n).all (fun k => blockWordOk code (f + k) (c.word (2 + k))) &&
    (code ≠ 2 || !(List.range n).any (fun k => 1 ≤ f + k && f + k ≤ 4) ||
      machThreshOk (s.svcNew c 1).toNat (s.svcNew c 2).toNat (s.svcNew c 3).toNat (s.svcNew c 4).toNat)
  allow := fun s c => firstStatus [(s.isFenced 8 2, stDomainOff), (s.svcFenced c.svcIdx, stFenced)]
  run := fun s c =>
    let i := c.svcIdx
    let s1 := (List.range (c.params.length - 2)).foldl (fun u k =>
      { u with svc := { u.svc with stored := u.svc.stored.set (fun _ => 0) (256 * i + c.fld 1 7 0 + k) (c.word (2 + k)) } }) s
    let s2 := s1.modUnit (249 + i) (fun x => { x with dirty := true })
    (if s2.svcIdle i then s2.svcApply i else s2, stOk, [])

/-- The words of SVC_STATUS after the four common ones (R295). -/
def State.svcOwnWords (s : State) (i : Nat) : List Word :=
  match svcCode i with
  | (0, k) => (s.orient k).q.map (fun x => f32Word x.val)
  | (1, _) => [w32 ((List.range 192).countP (fun c => bitAt (s.desc c 13) 31))]
  | (2, k) => [w32 ((s.mach k).run * 2 ^ 8 + (s.mach k).state), w32 (s.mach k).x]
  | (3, _) => [w32 s.wearChans.length]
  | (5, _) => (List.range 4).map (fun h => w32 ((s.wakeHost h).pulses * 2 ^ 16 + (s.wakeHost h).heldCount))
  | _ => []

/-- SVC_STATUS. WAKE has no ENABLE and always runs. -/
def opSvcStatus : OpDef where
  code := 0x55
  priv := 0
  async := false
  lenOk := fun n _ => n == 1
  valid := fun _ c => c.fld 0 31 19 == 0 && c.fld 0 11 0 == 0 && svcNamed c
  allow := fun s _ => firstStatus [(s.isFenced 8 2, stDomainOff)]
  run := fun s c =>
    let i := c.svcIdx
    let x := s.svcInst i
    let on := i = 27 || bitAt (s.svcWord i 0) 31
    (s, stOk, [w32 (b2n on * 2 ^ 31 + b2n (s.svcFenced i) * 2 ^ 30 + x.error * 2 ^ 26), w32 x.outputs, w32 x.overrun, w32 x.instr] ++ s.svcOwnWords i)

end Sys2Proof.Machine
end

