-- ==== Sys2Proof/Machine/Handoff.lean ====
section
/-! DEFINITION. The engine's unit as a command and the Tower's output port (spec 01, R17 to R24; spec 07, R218; spec 10, R303, R304): an output goes to every
destination named in W10. -/

namespace Sys2Proof.Machine

/-- The first held output whose stamp is composed and that follows no held output of its own channel (R17, R20). -/
def handoffNext : List Nat → List Output → Option Output
  | _, [] => none
  | seen, o :: t =>
    if o.stampIn.latch.isNone && !seen.contains o.chan then some o else handoffNext (o.chan :: seen) t

/-- The value a threshold event compared (R216, R303): v_k, or the magnitude, as a word. -/
def thrValue (vals : List Int) (code : Nat) : Word :=
  let k := code % 16
  if k < 4 then wInt (vals.getD k 0)
  else if k < 8 then wInt (vals.getD (k - 4) 0)
  else w32 (min (2 ^ 32 - 1) (isqrt (vals.map (fun x => x * x)).sum.toNat))

/-- The output with its stamp, as its destinations receive it. -/
def State.delivered (s : State) (o : Output) : Delivered :=
  { chan := o.chan, comps := o.comps, flags := o.flags, stamp := s.outStamp o, epoch := o.stampIn.epoch, stages := (o.res.getD 0 []).length, res := o.res }

/-- The Pan items of an output (R303, R304): its SAMPLE record, then one THRESHOLD record for each event, in COMP order. -/
def State.panItems (s : State) (o : Output) : List PanItem :=
  if !bitAt (s.desc o.chan 10) 0 then []
  else
    let base : PanItem := { type := 0, chan := o.chan, stream := s.dfld o.chan 12 20 16, flags := o.flags, stamp := s.outStamp o, tb := (s.ad o.chan).tb,
                            epoch := o.stampIn.epoch, payload := o.comps.map wInt }
    let vals := o.comps.map (fun x => x / 256)
    (if o.sample then [base] else []) ++ o.thr.map (fun k => { base with type := 1, payload := [w32 k, thrValue vals k] })

/-- Every destination can accept its copy: the Tower-to-Pan FIFO has the stages for the items, and the Crystalliser's input has one (R17, R311). -/
def State.destsReady (s : State) (o : Output) : Bool :=
  decide (s.panFifoWords + ((s.panItems o).map PanItem.size).sum ≤ 64) &&
  (!(o.sample && bitAt (s.desc o.chan 10) 1) || s.cryOff || decide (s.cry.fifo.length < 16))

/-- The output that waits for a destination, which holds the engine (R19). -/
def State.fanoutHeld (s : State) : Bool :=
  match handoffNext [] s.twr.held with
  | none => false
  | some o => !s.destsReady o

/-- Hand an output to every destination: the Pan, the Crystalliser, the services and the saltern. -/
def State.handOut (s : State) (o : Output) : State :=
  let d := s.delivered o
  let w10 := s.desc o.chan 10
  let s1 := (s.panItems o).foldl (fun u it => u.panPush it) s
  if !o.sample then s1
  else
    let s2 := if bitAt w10 1 && !s1.cryOff then { s1 with cry := { s1.cry with fifo := s1.cry.fifo ++ [d] } } else s1
    let s3 := (s2.svcTakers o.chan).foldl (fun u i => u.svcOffer d i) s2
    if bitAt w10 5 then s3.offerSaltern d else s3

/-- OUTPUT_HANDOFF (R17): the oldest output that can be handed off leaves the output port when every destination accepts its copy; until then it waits. -/
def State.outputHandoff (s : State) : State :=
  if s.pwr.floor ≠ 0 || s.isFenced 8 6 then s
  else match handoffNext [] s.twr.held with
    | none => s
    | some o => if s.destsReady o then ({ s with twr := { s.twr with held := s.twr.held.erase o } }).handOut o else s

/-- OUTPUT_HANDOFF. -/
def execOutputHandoff (s : State) : Host.Outcome State Fault Refusal := act State.outputHandoff s

/-- The boundary that the end of a unit of channel `c` may be (R112, R195): for an AIN or PDM source the completion of an output, for another STREAMED and a
TRIGGERED source the instant at which no input waits; and the stop that waited for the unit (R126). -/
def State.unitBoundary (s : State) (c : Nat) (formed : Bool) : State :=
  let d := s.ad c
  let u := if d.isAfe then (if formed && s.isDue c then s.boundary c else s)
    else if (d.acq == 1 || d.acq == 2) && s.isDue c && !s.inEntry c then s.boundary c
    else s
  u.applyStops c

/-- One unit of the engine, and the boundary that it completes. -/
def State.engineStep (s : State) : State :=
  match s.pickChan with
  | none => s
  | some c =>
    let t := s.engineUnit
    t.unitBoundary c (decide (s.twr.held.length < t.twr.held.length))

/-- ENGINE_UNIT (R21, R199): the engine takes no unit while an output waits for a destination (R19). -/
def execEngineUnit (s : State) : Host.Outcome State Fault Refusal :=
  act (onlyIf (!s.fanoutHeld && !s.isFenced 8 6 && s.pwr.floor = 0) State.engineStep) s

end Sys2Proof.Machine
end

