-- ==== Sys2Proof/Machine/Aes.lean ====
section
/-! DEFINITION. AES-128 (FIPS 197) and its CCM mode with an 8-byte MIC and a 2-byte length field, as R429 uses them. The spec names the algorithms and does not
print them: their text is the published standards' (PRESUMED, log 25). -/

namespace Sys2Proof.Machine

/-- Multiply by x in GF(2^8). -/
def gfDouble (a : Byte) : Byte := if a.msb then (a <<< 1) ^^^ 0x1B#8 else a <<< 1

/-- Multiply in GF(2^8), `n` bits of `b`. -/
def gfMul : Nat → Byte → Byte → Byte
  | 0, _, _ => 0
  | n + 1, a, b => (if b.getLsbD 0 then a else 0) ^^^ gfMul n (gfDouble a) (b >>> 1)

/-- The inverse in GF(2^8), 0 for 0: the 254th power, as 2 + 4 + … + 128. -/
def gfInv (a : Byte) : Byte :=
  let sq := fun (x : Byte) => gfMul 8 x x
  let a2 := sq a
  let a4 := sq a2
  let a8 := sq a4
  let a16 := sq a8
  let a32 := sq a16
  let a64 := sq a32
  let a128 := sq a64
  gfMul 8 a2 (gfMul 8 a4 (gfMul 8 a8 (gfMul 8 a16 (gfMul 8 a32 (gfMul 8 a64 a128)))))

/-- The S-box. -/
def aesSub (a : Byte) : Byte :=
  let i := gfInv a
  i ^^^ i.rotateLeft 1 ^^^ i.rotateLeft 2 ^^^ i.rotateLeft 3 ^^^ i.rotateLeft 4 ^^^ 0x63#8

/-- XOR of two byte lists, as long as the shorter. -/
def xorBytes (a b : List Byte) : List Byte := List.zipWith (· ^^^ ·) a b

/-- The next round key from the last one and the round constant. -/
def aesNextKey (rc : Byte) (k : List Byte) : List Byte :=
  let w := fun n => (k.drop (4 * n)).take 4
  let t := (((w 3).drop 1 ++ (w 3).take 1).map aesSub)
  let t' := match t with
    | [] => []
    | b :: r => (b ^^^ rc) :: r
  let w0 := xorBytes (w 0) t'
  let w1 := xorBytes (w 1) w0
  let w2 := xorBytes (w 2) w1
  w0 ++ w1 ++ w2 ++ xorBytes (w 3) w2

/-- ShiftRows, on a state held column by column. -/
def aesShift (l : List Byte) : List Byte := (List.range 16).map (fun i => l.getD ((i % 4) + 4 * ((i / 4 + i % 4) % 4)) 0)

/-- MixColumns on one column. -/
def aesMixCol (l : List Byte) : List Byte :=
  let b := fun k => l.getD (k % 4) 0
  (List.range 4).map (fun k => gfDouble (b k) ^^^ (gfDouble (b (k + 1)) ^^^ b (k + 1)) ^^^ b (k + 2) ^^^ b (k + 3))

/-- MixColumns. -/
def aesMix (l : List Byte) : List Byte := (List.range 4).flatMap (fun c => aesMixCol ((l.drop (4 * c)).take 4))

/-- Rounds 11 − n to 10 on a state, from the key and constant of the round before. -/
def aesRounds : Nat → Byte → List Byte → List Byte → List Byte
  | 0, _, _, x => x
  | n + 1, rc, k, x =>
    let k' := aesNextKey rc k
    let y := aesShift (x.map aesSub)
    aesRounds n (gfDouble rc) k' (xorBytes (if n = 0 then y else aesMix y) k')

/-- Encrypt one block of 16 bytes. -/
def aes128 (key block : List Byte) : List Byte := aesRounds 10 1 key (xorBytes block key)

/-- Pad with zeros to whole blocks. -/
def padBlock (l : List Byte) : List Byte := l ++ List.replicate ((16 - l.length % 16) % 16) 0

/-- CBC-MAC over `n` blocks, from `x`. -/
def cbcMac (key : List Byte) : Nat → List Byte → List Byte → List Byte
  | 0, x, _ => x
  | n + 1, x, l => cbcMac key n (aes128 key (xorBytes x (l.take 16))) (l.drop 16)

/-- Two bytes, most significant first. -/
def be16 (n : Nat) : List Byte := [BitVec.ofNat 8 (n / 256), BitVec.ofNat 8 n]

/-- The CTR key stream's block `i`. -/
def ccmBlock (key nonce : List Byte) (i : Nat) : List Byte := aes128 key (1#8 :: nonce ++ be16 i)

/-- The content under the key stream: the same for encryption and decryption. -/
def ccmCrypt (key nonce content : List Byte) : List Byte :=
  xorBytes content ((List.range ((content.length + 15) / 16)).flatMap (fun i => ccmBlock key nonce (i + 1)))

/-- The 8-byte MIC over the additional data and the plain content. -/
def ccmMic (key nonce aad content : List Byte) : List Byte :=
  let b := (0x59#8 :: nonce ++ be16 content.length) ++ padBlock (be16 aad.length ++ aad) ++ padBlock content
  (xorBytes (cbcMac key (b.length / 16) (List.replicate 16 0) b) (ccmBlock key nonce 0)).take 8

end Sys2Proof.Machine
end

