-- ==== Sys2Proof/Machine/Radio.lean ====
section
/-! DEFINITION. The radio (spec 14): frames and their authentication, the front end's state machine, calibrations, its opcodes. -/

namespace Sys2Proof.Machine

/-! ### Frames (R425 to R430) -/

/-- The hub index that a frame of this hub gives as SRC. -/
def State.rfOwn (s : State) : Nat := if s.slt.state = 0 then 0xFF else s.ownIndex

/-- The MAC header of R425, or the fields LEN to SEQ of R426, of a frame whose body has `len` bytes. -/
def State.rfHeader (s : State) (tx : RfTx) (seq len : Nat) : List Byte :=
  if s.rfMode = 1 then
    [if tx.ackReq then 0x61#8 else 0x41#8, 0x98#8, BitVec.ofNat 8 seq] ++ leBytes 2 (s.afld .rfAddr 0 31 16) ++ leBytes 2 tx.dst ++
      leBytes 2 (s.afld .rfAddr 0 15 0)
  else [BitVec.ofNat 8 (len + 3), BitVec.ofNat 8 tx.dst, BitVec.ofNat 8 s.rfOwn, BitVec.ofNat 8 seq]

/-- The nonce of R429: `src` is the short address, or SRC in LA-2M. -/
def State.rfNonce (s : State) (src ctr : Nat) (b1 : Byte) : List Byte :=
  (if s.rfMode = 1 then leBytes 2 (s.afld .rfAddr 0 31 16) ++ leBytes 2 src else [0xFF#8, 0xFF#8, 0#8, BitVec.ofNat 8 src]) ++
    leBytes 4 ctr ++ [b1] ++ List.replicate 4 0

/-- The key of a slot. -/
def State.rfKey (s : State) (k : Nat) : List Byte := (s.store.keys.get (fun _ => none) k).getD []

/-- The two bytes of an FCS or CRC, least significant first. -/
def crcBytes (c : BitVec 16) : List Byte := leBytes 2 c.toNat

/-- A frame on the air (R425, R426): in O-QPSK the PSDU with its FCS, in LA-2M preamble, sync word, the frame and the CRC of R63 over LEN to the end of the body. -/
def State.onAir (s : State) (l : List Byte) : List Byte :=
  if s.rfMode = 1 then l ++ crcBytes (fcs16 l) else List.replicate 4 0x55#8 ++ wordBytes (s.app .rfLasync 0) ++ l ++ crcBytes (crc16 l)

/-- The FCS or CRC that ends received bytes is theirs. -/
def State.rfCrcOk (s : State) (l : List Byte) : Bool :=
  let b := l.take (l.length - 2)
  decide (2 ≤ l.length) && l.drop (l.length - 2) == crcBytes (if s.rfMode = 1 then fcs16 b else crc16 b)

/-- The frame as sent, without its FCS or CRC (R425 to R429): MAC header or LEN to SEQ, body header, counter, content, MIC. -/
def State.rfBytes (s : State) (tx : RfTx) (seq ctr : Nat) : List Byte :=
  let b1 := BitVec.ofNat 8 (b2n tx.auth * 128 + tx.key)
  let bh := [BitVec.ofNat 8 (0x30 + tx.kind), b1] ++ (if tx.auth then leBytes 4 ctr else [])
  let h := s.rfHeader tx seq (bh.length + tx.content.length + 8 * b2n tx.auth)
  if tx.auth then
    let n := s.rfNonce (if s.rfMode = 1 then s.afld .rfAddr 0 15 0 else s.rfOwn) ctr b1
    h ++ bh ++ ccmCrypt (s.rfKey tx.key) n tx.content ++ ccmMic (s.rfKey tx.key) n (h ++ bh) tx.content
  else h ++ bh ++ tx.content

/-! ### Transmits (R433 to R437) -/

/-- A frame ends with a result of R439: its RF_TX has yet to complete. -/
def State.rfEnd (s : State) (tx : RfTx) (result : Nat) : State :=
  match tx.job with
  | none => s
  | some (h, tag, want) => s.modRf (fun r => { r with ended := r.ended ++ [(result, tx.tries, h, tag, want)] })

/-- The frame in hand ends, and the radio is IDLE. -/
def State.rfFinish (s : State) (tx : RfTx) (result : Nat) : State :=
  ((s.modRf (fun r => { r with tx := none, ackWait := false })).rfEnd tx result).rfIdle

/-- A frame that R430 or an empty key slot keeps from being sent; the spec gives its RF_TX no result, so the RESULT is a free value (log 4). -/
def State.rfUnsent (s : State) (tx : RfTx) : State :=
  let (n, s1) := s.nextFree
  (if s.keyUsedUp tx.key then s1.keyExhausted else s1).rfFinish tx ((Config.freeValue n).toNat % 5)

/-- The frame cannot be authenticated. -/
def State.rfBarred (s : State) (tx : RfTx) : Bool := tx.auth && (s.keyUsedUp tx.key || !s.keySet tx.key)

/-- The frame in hand finds the synthesiser locked: it is sent, or cannot be authenticated, or would meet a launched transmit and waits again (R430, R437). -/
def State.lockedFor (s : State) (tx : RfTx) : State :=
  if s.rfBarred tx then s.rfUnsent tx
  else if s.mustWait tx then (s.modRf (fun r => { r with tx := none, wait := tx :: r.wait })).rfIdle
  else s.modRf (fun r => { r with state := 6 })

/-- SYNTH_LOCK (R433, R435, R436): a launched frame waits for T_k; a frame in hand, or one that waited for the lock, is sent; otherwise the radio receives, or was on its way to a new
channel and is IDLE again. -/
def State.synthLock (s : State) : State :=
  let s1 := s.modRf (fun r => { r with locked := true, calValid := r.calValid ||| 4 })
  if s.rf.launch.isSome then s1
  else match s.rf.tx with
    | some tx => s1.lockedFor tx
    | none => match s.nextWaiting with
      | some (tx, t) => (s1.modRf (fun r => { r with tx := some tx, wait := t })).lockedFor tx
      | none => if s.rfReceives then s1.modRf (fun r => { r with state := 5 }) else s1.rfIdle

/-- SYNTH_LOCK. -/
def execSynthLock (s : State) : Host.Outcome State Fault Refusal :=
  act (onlyIf (!s.rfStopped && s.rf.state = 3 && !s.rf.locked) State.synthLock) s

/-- The crystal is stable (R433, R436): the radio is IDLE, or goes on for a launched frame, at its first use by way of the calibrations that are due. -/
def State.xoStable (s : State) : State :=
  let s1 := s.modRf (fun r => { r with xo := true })
  if s.rf.launch.isSome then s1.modRf (fun r => { r with state := if r.calDue ≠ 0 then 4 else 3, locked := false }) else s1.rfIdle

/-- XO_START. -/
def execXoStart (s : State) : Host.Outcome State Fault Refusal :=
  act (onlyIf (!s.rfStopped && s.rf.state = 1) State.xoStable) s

/-- Legus starts the crystal: XO_START is left at once (R433). -/
def State.xoByLegus (s : State) : State := if s.rf.state = 1 && s.xoKept && !s.rfStopped then s.xoStable else s

/-- The stamps of a time message in a frame whose last chip has been sent. TX_DONE does not give its place in the tick, which is a free value (log 4); the timestamp point lies the rest of
the frame's air time before it. -/
def State.sentTime (s : State) (tx : RfTx) : State × List Byte :=
  let (n, t) := s.nextFree
  let u := t.atF ((Config.freeValue n).toNat % 122072)
  u.radioStamp tx.content (u.tb0u - u.rfAir tx true * 64000)

/-- The last chip of the frame in hand has been sent (R423, R430): its counter and sequence number are used, a time message has its stamps, and an Imm-Ack is awaited where one was asked
for. A counter that has reached its limit sets KEY_EXHAUSTED. -/
def State.txDone (s0 : State) (tx0 : RfTx) : State :=
  let p := if tx0.kind = 1 then s0.sentTime tx0 else (s0, tx0.content)
  let s := p.1
  let tx := { tx0 with content := p.2 }
  let seq := if tx.tries = 0 then s.rf.seq else tx.seq
  let ctr := s.rf.ctr.get (fun _ => 0) tx.key
  let tx1 := { tx with tries := tx.tries + 1, seq := seq }
  let s1 := s.modRf (fun r => { r with
    lastSent := s.onAir (s.rfBytes tx seq ctr), seq := if tx.tries = 0 then (r.seq + 1) % 256 else r.seq,
    ctr := if tx.auth then r.ctr.set (fun _ => 0) tx.key (min 0xFFFFFFFF (ctr + 1)) else r.ctr })
  let s2 := if tx.auth && s1.keyUsedUp tx.key then s1.keyExhausted else s1
  if tx.ackReq && s.rfMode = 1 && tx.dst ≠ 0xFFFF then s2.modRf (fun r => { r with tx := some tx1, ackWait := true })
  else s2.rfFinish tx1 0

/-- TX_DONE. -/
def execTxDone (s : State) : Host.Outcome State Fault Refusal :=
  act (fun u => match u.rf.tx with
    | some tx => if u.rfStopped || u.rf.state ≠ 6 || u.rf.ackWait then u else u.txDone tx
    | none => u) s

/-- ACK_WAIT_EXPIRY (R423, R430, R436): the frame is repeated, up to RETRIES times, but not a launched one; then NO_ACK. A repetition that a used-up slot keeps back sets KEY_EXHAUSTED. -/
def State.ackExpiry (s : State) (tx : RfTx) : State :=
  let again := !tx.launched && decide (tx.tries ≤ s.afld .rfMac 0 26 24)
  if again && !s.rfBarred tx then s.modRf (fun r => { r with ackWait := false })
  else ((if again && tx.auth && s.keyUsedUp tx.key then s.keyExhausted else s).evt .rfEvt 0 4).rfFinish tx 2

/-- ACK_WAIT_EXPIRY. -/
def execAckWaitExpiry (s : State) : Host.Outcome State Fault Refusal :=
  act (fun u => match u.rf.tx with
    | some tx => if u.rfStopped || !u.rf.ackWait then u else u.ackExpiry tx
    | none => u) s

/-- IMM_ACK (R423, R433): the Imm-Ack that is owed is sent. -/
def execImmAck (s : State) : Host.Outcome State Fault Refusal :=
  act (fun u => match u.rf.ackOwed with
    | some q => if u.rfStopped then u else u.modRf (fun r => { r with ackOwed := none, lastSent := u.onAir [0x02#8, 0x10#8, BitVec.ofNat 8 q] })
    | none => u) s

/-- TX_WAIT (R435): the oldest waiting transmit ends. -/
def State.txWait (s : State) : State :=
  match s.rf.wait with
  | [] => s
  | tx :: t => ((((s.modRf (fun r => { r with wait := t })).rfEnd tx 4).evt .rfEvt 0 2).rfBoundary).rfKick

/-- TX_WAIT. -/
def execTxWait (s : State) : Host.Outcome State Fault Refusal := act (onlyIf (!s.rfStopped) State.txWait) s

/-- 62 µs before T_k (R436, R437): the launched frame takes the synthesiser; a frame in hand waits again, and a reception is aborted. From IDLE with the crystal stopped the way leads
through XO_START, and at the first use through the calibrations that are due; a calibration in progress ends first (R434). -/
def State.launchSynth (s : State) (b : Nat) (receiving : Bool) : State :=
  let back := match s.rf.tx with
    | some tx => [tx]
    | none => []
  let s1 := s.modRf (fun r => { r with launch := some (s.bufFrame b none true), tx := none, ackWait := false, wait := back ++ r.wait, locked := false,
                                       state := if r.state = 1 || r.state = 4 then r.state else if r.state = 2 && !s.xoRuns then 1
                                                else if r.state = 2 && r.calDue ≠ 0 then 4 else 3 })
  if receiving && s.rf.state = 5 then s1.evt .rfEvt 0 8 else s1

/-- LAUNCHED_TX_SYNTH (R436): for an ARMED entry with action RADIO_TX whose buffer can be sent. -/
def State.launchedTxSynth (s : State) (n : Nat) (receiving : Bool) : State :=
  let l := s.launch n
  if l.state ≠ 2 || l.action ≠ 6 || s.pd11Stopped || s.rfStopped || s.rf.state = 0 || s.rf.launch.isSome || !s.bufReady l.arg || !s.tbSet l.tb then s
  else match s.toTb l.tb ((l.instant l.k - 62000) * 2 ^ 32) with
    | none => s
    | some u => u.launchSynth l.arg receiving

/-- LAUNCHED_TX_SYNTH. -/
def execLaunchedTxSynth (entry : Nat) (receiving : Bool) (s : State) : Host.Outcome State Fault Refusal :=
  act (onlyIf (entry < 128) (fun u => u.launchedTxSynth entry receiving)) s

/-- LATE_TX (R436): not locked 2 µs before T_k, so the frame is not sent. -/
def execLateTx (s : State) : Host.Outcome State Fault Refusal :=
  act (fun u => match u.rf.launch with
    | some tx =>
      if u.rfStopped || u.rf.locked || tx.tries ≠ 0 then u
      else (u.modRf (fun r => { r with launch := some { tx with tries := 1 }, state := if r.state = 3 then 2 else r.state })).lateTx
    | none => u) s

/-- Receiving is no longer asked for: RX, and SYNTH on the way to it, are left. -/
def State.endReceive (s : State) : State :=
  let r := s.rf
  if !s.rfReceives && (r.state = 5 || (r.state = 3 && r.tx.isNone && r.launch.isNone)) then s.rfIdle else s.rfKick

/-- RX_WINDOW (R433, R438): one of Salter's receive windows opens or closes. -/
def State.rxWindow (s : State) (start : Bool) : State :=
  (s.modRf (fun r => { r with window := start })).endReceive

/-- RX_WINDOW. -/
def execRxWindow (start : Bool) (s : State) : Host.Outcome State Fault Refusal :=
  act (onlyIf (!s.rfStopped && s.rf.listen = 0) (fun u => u.rxWindow start)) s

/-! ### Calibrations (R434) -/

/-- End the open RADIO_CAL_FAIL entries of one kind of calibration (R569). -/
def State.calLogEnd (s : State) (kind : Nat) : State :=
  { s with log := s.log.map (fun (e : LogEntry) => if e.source == selOf 5 0 && e.code == 0x35 && e.run == kind then { e with isOpen := false } else e) }

/-- A calibration ends: 0 IMAGE, 1 FILTER, 2 the crystal trim with its value, 3 DCOC. -/
def State.calEnded (s : State) (kind : Nat) (ok : Bool) (value : Nat) : State :=
  let m := 2 ^ kind
  let s1 := s.modRf (fun r => { r with
    calDue := r.calDue &&& (m ^^^ 15), calTemp := r.calTemp &&& (m ^^^ 15), calValid := if ok then r.calValid ||| m else r.calValid,
    cal := r.cal.map (fun (h, t, w, mask, p, f) => if s.rfCalLeft &&& m = 0 then (h, t, w, mask, p, f) else if ok then (h, t, w, mask, p ||| m, f) else (h, t, w, mask, p, f ||| m)) })
  let s2 := if ok then s1.calLogEnd kind else (s1.evt .rfEvt 0 6).logRun 5 0 0x35 kind
  let s3 := if ok && kind = 2 then (s2.setReg .rfCfg 0 (setBits (s2.reg .rfCfg 0) 7 0 value)).setApp .rfCfg 0 (setBits (s2.app .rfCfg 0) 7 0 value) else s2
  if s3.rf.state ≠ 4 || s3.rf.calDue ≠ 0 || s3.rf.calTemp ≠ 0 then s3
  else if s3.rf.launch.isSome then s3.modRf (fun r => { r with state := 3, locked := false })
  else if s3.rfCalLeft = 0 then s3.rfIdle
  else s3

/-- The die temperature has changed by more than 10 °C since IMAGE or FILTER ran: the radio, being IDLE, calibrates, unless a launched transmit falls due within the duration plus 62 µs
(R434). Both may start for one change. -/
def State.calStart (s : State) (kind : Nat) : State :=
  if 2 ≤ kind || s.rf.launch.isSome || !(s.rf.state = 2 || (s.rf.state = 4 && s.rf.calTemp ≠ 0)) || s.launchWithin (calTime (2 ^ kind) + 62) then s
  else s.modRf (fun r => { r with state := 4, locked := false, calTemp := r.calTemp ||| 2 ^ kind })

/-- Is a calibration in progress that may end: in CAL one that is due, and DCOC at an entry to RX as well (R434)? -/
def State.calRuns (s : State) (kind : Nat) : Bool :=
  (s.rf.state == 4 && (s.rf.calDue ||| s.rf.calTemp ||| s.rfCalLeft) &&& 2 ^ kind ≠ 0) || (kind == 3 && s.rf.state == 5)

/-- RADIO_CALIBRATION: one that a temperature change asks for starts, or one that runs ends. The crystal trim runs only for RF_CAL. -/
def execRadioCalibration (kind : Nat) (ended : Option Bool) (value : Nat) (s : State) : Host.Outcome State Fault Refusal :=
  act (onlyIf (!s.rfStopped && decide (kind < 4)) (fun u => match ended with
    | none => u.calStart kind
    | some ok => if u.calRuns kind then u.calEnded kind ok value else u)) s

/-- RF_CAL_COMPLETION (R439). -/
def State.rfCalComplete (s : State) : State :=
  match s.rf.cal with
  | none => s
  | some (h, tag, want, _, pass, fail) =>
    if s.rfCalLeft ≠ 0 then s
    else (s.modRf (fun r => { r with cal := none })).complete h 0x73 tag want (if fail = 0 then stOk else stInternal)
      [w32 (s.afld .rfCfg 0 7 0 * 2 ^ 24 + fail * 2 ^ 8 + pass)] (fail ≠ 0)

/-- RF_CAL_COMPLETION. -/
def execRfCalCompletion (s : State) : Host.Outcome State Fault Refusal := act State.rfCalComplete s

/-- The CCA finds energy (R424): the frame in hand ends. -/
def State.ccaBusy (s : State) : State :=
  match s.rf.tx with
  | some tx =>
    if s.rfStopped || s.rf.state ≠ 6 || tx.tries ≠ 0 || tx.launched || !bitAt (s.app .rfMac 0) 31 then s else (s.evt .rfEvt 0 3).rfFinish tx 3
  | none => s

/-- Place the completion of the RF_TX that ended first (R439). -/
def State.rfComplete (s : State) : State :=
  match s.rf.ended with
  | [] => s
  | (result, tries, h, tag, want) :: t =>
    (s.modRf (fun r => { r with ended := t })).complete h 0x71 tag want (if result ≤ 1 then stOk else if result = 4 then stLate else stBusy)
      [w32 (result * 2 ^ 24 + min 15 tries * 2 ^ 20)] false

/-- RF_TX_COMPLETION: `result` 3 ends the frame in hand with CCA_BUSY; then the RF_TX that ended first completes. -/
def execRfTxCompletion (result : Nat) (s : State) : Host.Outcome State Fault Refusal :=
  act (fun u => (if result = 3 then u.ccaBusy else u).rfComplete) s

/-! ### Received frames (R423, R426 to R432) -/

/-- A frame is discarded and counted in DISCARD. -/
def State.rfDiscard (s : State) : State := s.countFault .rfCnt 0 23 16 1

/-- A body fails authentication (R431). -/
def State.authFail (s : State) : State := ((s.countFault .rfCnt 0 31 24 1).evt .rfEvt 0 5).logErr 5 0 0x34

/-- A received frame behind its header checks: sender's address or SRC, its hub index, sequence number, whether it asks for an Imm-Ack, header bytes and body. -/
structure RxFrame where
  src : Nat
  hub : Nat
  seq : Nat
  ack : Bool
  header : List Byte
  body : List Byte
  deriving DecidableEq, Repr

/-- Keep the entries of the first 32 sources (R431). -/
def keepSources : List Nat → List (Nat × Nat × Nat) → List (Nat × Nat × Nat)
  | _, [] => []
  | seen, e :: t =>
    if seen.contains e.1 then e :: keepSources seen t
    else if seen.length < 32 then e :: keepSources (e.1 :: seen) t
    else keepSources seen t

/-- The last counter accepted from a source with a key. -/
def State.lastCtr (s : State) (src key : Nat) : Option Nat := (s.rf.seen.find? (fun e => e.1 == src && e.2.1 == key)).map (fun e => e.2.2)

/-- A counter is accepted: its source becomes the most recently used one (R431). -/
def State.noteCtr (s : State) (src key ctr : Nat) : State :=
  let mine := (s.rf.seen.filter (fun e => e.1 == src && e.2.1 ≠ key))
  s.modRf (fun r => { r with seen := keepSources [] ((src, key, ctr) :: mine ++ r.seen.filter (fun e => e.1 ≠ src)) })

/-- The plain content of an authenticated body, or none when it fails authentication (R429 to R432). -/
def State.openBody (s : State) (f : RxFrame) : Option (List Byte) :=
  let b1 := f.body.getD 1 0
  let key := b1.toNat % 4
  let ctr := leNat ((f.body.drop 2).take 4)
  let rest := f.body.drop 6
  let n := s.rfNonce f.src ctr b1
  let old := match s.lastCtr f.src key with
    | some c => decide (ctr ≤ c)
    | none => false
  if !s.provisioned || !s.keySet key || old || rest.length < 8 then none
  else
    let plain := ccmCrypt (s.rfKey key) n (rest.take (rest.length - 8))
    if ccmMic (s.rfKey key) n (f.header ++ f.body.take 6) plain = rest.drop (rest.length - 8) then some plain else none

/-- The length of a content fits its KIND (R427). -/
def contentOk (kind len : Nat) : Bool :=
  match kind with
  | 1 | 2 | 3 => len == 32
  | 4 => true
  | 5 => len % 4 == 0 && len ≠ 0 && decide (len ≤ 32)
  | _ => false

/-- The content fits its KIND (R427): SAMPLES are whole entries. -/
def contentFits (kind : Nat) (l : List Byte) : Bool :=
  let ws := bytesWords (l.length / 4) l
  contentOk kind l.length && (kind ≠ 4 || (l.length % 4 == 0 && l.length ≠ 0 && (entrySplit 64 ws).flatten == ws))

/-- One event word (R428). -/
def State.eventWord (s : State) (src : Nat) (w : Word) : State :=
  let solo := s.slt.state = 0
  if !(bitAt w 20 || (!solo && bits w 25 21 = s.ownIndex)) then s
  else if !solo && (bitAt s.slt.divergent src || bitAt s.slt.staleSet src) then s.countFault .rfCnt 0 15 8 1
  else s.fireSluice (bits w 31 26) 5 false

/-- The content of an accepted frame takes effect (R412, R427). -/
def State.rfContent (s : State) (f : RxFrame) (kind : Nat) (content : List Byte) : State :=
  let ws := bytesWords (content.length / 4) content
  if kind = 5 then ws.foldl (fun u w => u.eventWord f.hub w) s
  else
    let g : LegFrame := { type := kind, src := f.hub, hops := 0, seq := f.seq, view := 0, payload := ws }
    if !s.rfServes then s
    else if 2 ≤ kind && f.hub = s.ownIndex && s.slt.state ≠ 0 then (if s.clashFrame g then s.ownClash ((s.peer f.hub).announced ws) else s)
    else s.saltFrame 2 g

/-- A frame addressed to the hub (R427 to R432). -/
def State.rfBody (s : State) (f : RxFrame) (rssi lqi : Nat) : State :=
  let b0 := (f.body.getD 0 0).toNat
  let b1 := (f.body.getD 1 0).toNat
  let kind := b0 % 16
  if f.body.length < 2 || b0 / 16 ≠ 3 || kind = 0 || 5 < kind || b1 / 4 % 32 ≠ 0 then s.rfDiscard
  else
    let auth := decide (128 ≤ b1)
    if !auth && bitAt (s.app .rfMac 0) 29 then s.authFail
    else match (if auth then s.openBody f else some (f.body.drop 2)) with
      | none => s.authFail
      | some content =>
        let s1 := if auth then s.noteCtr f.src (b1 % 4) (leNat ((f.body.drop 2).take 4)) else s
        if !contentFits kind content then s1.rfDiscard
        else
          let s2 := (s1.modRf (fun r => { r with rssi := rssi % 256, lqi := min 255 lqi, ackOwed := if f.ack then some f.seq else r.ackOwed })).logEnd 5 0 0x34
          s2.rfContent f kind content

/-- A byte of a frame as a number. -/
def byteAt (l : List Byte) (k : Nat) : Nat := (l.getD k 0).toNat

/-- An O-QPSK frame uses an item that R423 does not support; `type` is its frame type. -/
def macUnsupported (l : List Byte) : Bool :=
  let fc := byteAt l 0 + 256 * byteAt l 1
  let bit := fun k => fc / 2 ^ k % 2 == 1
  let type := fc % 8
  (type ≠ 1 && type ≠ 2) || decide (2 ≤ fc / 4096 % 4) || bit 3 || bit 4 || bit 8 || bit 9 ||
  (type == 1 && (!bit 6 || fc / 1024 % 4 ≠ 2 || fc / 16384 ≠ 2 || decide (l.length < 9)))

/-- A frame received in O-QPSK mode, without its FCS, whose check is `crcOk` (R423, R425). A frame whose FCS fails is none, and one for another address is left alone; the sender's hub
index is taken as the low bits of its short address (log 26). -/
def State.oqpskFrame (s : State) (l : List Byte) (crcOk : Bool) (rssi lqi : Nat) : State :=
  let dst := byteAt l 5 + 256 * byteAt l 6
  let src := byteAt l 7 + 256 * byteAt l 8
  if !crcOk then s
  else if macUnsupported l || 125 < l.length then s.rfDiscard
  else if byteAt l 0 % 8 = 2 then
    match s.rf.tx with
    | some tx => if s.rf.ackWait && byteAt l 2 = tx.seq then s.rfFinish tx 1 else s
    | none => s
  else if s.rf.ackWait then s
  else if byteAt l 3 + 256 * byteAt l 4 ≠ s.afld .rfAddr 0 31 16 || (dst ≠ 0xFFFF && dst ≠ s.afld .rfAddr 0 15 0) then s
  else s.rfBody ⟨src, src % 32, byteAt l 2, byteAt l 0 / 32 % 2 = 1 && dst ≠ 0xFFFF, l.take 9, l.drop 9⟩ rssi lqi

/-- A frame received in LA-2M mode, from LEN to the end of the body, the check of its CRC being `crcOk` (R426). -/
def State.laFrame (s : State) (l : List Byte) (crcOk : Bool) (rssi lqi : Nat) : State :=
  let len := byteAt l 0
  let dst := byteAt l 1
  if !crcOk || len < 5 || 127 < len || l.length ≠ len + 1 || (dst ≠ 0xFF && dst ≠ s.rfOwn) then s.rfDiscard
  else s.rfBody ⟨byteAt l 2, byteAt l 2, byteAt l 3, false, l.take 4, l.drop 4⟩ rssi lqi

/-- RADIO_FRAME: in RX, in SYNTH where a transmit waited for the end of the frame (R437), and in TX while an Imm-Ack is awaited. `l` are the bytes after the SFD and PHR, or after the
sync word, to the end of the FCS or CRC, which is computed over them. -/
def State.radioFrame (s : State) (l : List Byte) (rssi lqi : Nat) : State :=
  let r := s.rf
  let b := l.take (l.length - 2)
  if !(r.state = 5 || (r.state = 3 && r.tx.isSome) || r.ackWait) then s
  else if s.rfMode = 1 then s.oqpskFrame b (s.rfCrcOk l) rssi lqi
  else s.laFrame b (s.rfCrcOk l) rssi lqi

/-- RADIO_FRAME. -/
def execRadioFrame (f : Nat) (bytes crc : List Nat) (rssi lqi : Nat) (s : State) : Host.Outcome State Fault Refusal :=
  act (onlyIf (!s.rfStopped && s.rfMode ≠ 0) (fun u => (u.atF f).clearSent.radioFrame ((bytes ++ crc).map (BitVec.ofNat 8)) rssi lqi)) s

/-! ### Floors and fences (R438, R440) -/

/-- A floor removes PD9: the front end is OFF; buffers and registers are kept. -/
def State.rfFloor (s : State) : State := s.rfOff.powerRf

/-- End every RF_TX and RF_CAL that is outstanding with a status: the radio is fenced (DEDUCED, log 27). -/
def State.rfAbandon (s : State) : State :=
  let l := (s.rf.tx.toList ++ s.rf.wait).filterMap (fun x => x.job)
  let s1 := l.foldl (fun u j => u.complete j.1 0x71 j.2.1 j.2.2 stFenced [0] false) s
  let s2 := match s.rf.cal with
    | some (h, tag, want, _, pass, fail) => s1.complete h 0x73 tag want stFenced [w32 (s.afld .rfCfg 0 7 0 * 2 ^ 24 + fail * 2 ^ 8 + pass)] false
    | none => s1
  s2.rfOff.modRf (fun r => { r with tx := none, wait := [], launch := none, ackOwed := none, ackWait := false, cal := none, window := false })

/-- Fence the radio (R440). -/
def State.fenceRadio (s : State) (cause : Nat) : State := if s.isFenced 5 0 then s else (s.rfAbandon).fenceMark 5 0 cause

/-- UNFENCE of the radio: from OFF as after a mode is applied. -/
def State.unfenceRadio (s : State) : State := ((s.unfenceMark 5 0).rfWake).rfBoundary.rfKick

/-- The word RF_STAT shows. -/
def State.rfStatWord (s : State) : Word :=
  let r := s.rf
  w32 (r.state * 2 ^ 28 + b2n r.locked * 2 ^ 27 + b2n (!r.wait.isEmpty) * 2 ^ 26 + r.calValid * 2 ^ 22 + r.rssi * 2 ^ 8 + r.lqi)

/-! ### Opcodes (R438 to R440) -/

/-- DOMAIN_OFF and FENCED of R440, then the statuses of the opcode. -/
def State.rfAllow (s : State) (l : List (Bool × Nat)) : Nat := firstStatus ([(s.isFenced 8 9, stDomainOff), (s.isFenced 5 0, stFenced)] ++ l)

/-- RF_CONFIG. -/
def opRfConfig : OpDef where
  code := 0x70
  priv := 1
  async := false
  lenOk := fun n _ => n == 4
  valid := fun _ c => rfCfgOk (c.word 0) && c.fld 0 23 13 == 0 && rfSyncOk (c.word 2) && rfMacOk (c.word 3) && c.fld 3 7 0 == 0
  allow := fun s c => s.rfAllow [(!s.provisioned && c.fld 3 30 29 ≠ 0, stNotPermitted)]
  run := fun s c =>
    let s1 := (((s.setReg .rfCfg 0 (c.word 0)).setReg .rfAddr 0 (c.word 1)).setReg .rfLasync 0 (c.word 2)).setReg .rfMac 0 (c.word 3)
    ((s1.modUnit 247 (fun u => { u with dirty := true })).rfBoundary.rfKick, 0, [])

/-- The event words and flags that an RF_TX leaves in its buffer. -/
def State.rfTxBuf (s : State) (c : Call) : RfBuf :=
  let old := s.rfBuf (c.fld 0 1 0)
  { ackReq := bitAt (c.word 0) 7, auth := bitAt (c.word 0) 6, key := c.fld 0 5 4, dst := c.fld 1 15 0,
    words := if c.params.length = 2 then old.words else c.params.drop 2 }

/-- The parameters of RF_TX are in range (R438, R440). -/
def State.rfTxOk (s : State) (c : Call) : Bool :=
  let dst := c.fld 1 15 0
  decide (c.params.length ≤ 10) && c.fld 0 31 9 == 0 && c.fld 0 3 2 == 0 && c.fld 1 31 16 == 0 &&
  (c.params.drop 2).all (fun w => bits w 19 0 == 0) &&
  !(bitAt (c.word 0) 7 && (s.rfMode == 2 || dst == 0xFFFF)) &&
  !(s.rfMode == 2 && !(decide (dst < 32) || dst == 0xFF)) &&
  !(c.params.length == 2 && (s.rfBuf (c.fld 0 1 0)).words.isEmpty)

/-- RF_TX. -/
def opRfTx : OpDef where
  code := 0x71
  priv := 0
  async := true
  lenOk := fun n _ => 2 ≤ n
  valid := fun s c => s.rfTxOk c
  allow := fun s c => s.rfAllow [(bitAt (c.word 0) 6 && (!s.provisioned || !s.keySet (c.fld 0 5 4)), stNotPermitted)]
  run := fun s c =>
    let b := c.fld 0 1 0
    let s1 := s.modRf (fun r => { r with bufs := r.bufs.set (fun _ => RfBuf.reset) b (s.rfTxBuf c) })
    if bitAt (c.word 0) 8 then (s1.rfRequest (s1.bufFrame b (some (c.host, c.tag, c.reply)) false), stAccepted, [0]) else (s1, 0, [0])

/-- RF_RX. -/
def opRfRx : OpDef where
  code := 0x72
  priv := 0
  async := false
  lenOk := fun n _ => n == 2
  valid := fun _ c => c.fld 0 31 2 == 0 && c.fld 0 1 0 ≠ 3 && c.fld 1 31 16 == 0 && 10 ≤ c.fld 1 15 0 && c.fld 1 15 0 ≤ 10000
  allow := fun s _ => s.rfAllow []
  run := fun s c =>
    let l := c.fld 0 1 0
    ((s.modRf (fun r => { r with listen := l, guardTime := c.fld 1 15 0, window := r.window && l = 0 })).endReceive, 0, [])

/-- RF_CAL. -/
def opRfCal : OpDef where
  code := 0x73
  priv := 1
  async := true
  lenOk := fun n _ => n == 1
  valid := fun _ c => c.fld 0 31 4 == 0
  allow := fun s _ => s.rfAllow [(s.rf.cal.isSome, stBusy)]
  run := fun s c => if s.rf.cal.isSome then (s, stBusy, []) else ((s.modRf (fun r => { r with cal := some (c.host, c.tag, c.reply, c.fld 0 3 0, 0, 0) })).rfKick, stAccepted, [])

/-- RF_STATUS. -/
def opRfStatus : OpDef where
  code := 0x74
  priv := 0
  async := false
  lenOk := fun n _ => n == 0
  valid := fun _ _ => true
  allow := fun s _ => s.rfAllow []
  run := fun s _ => (s, 0, [s.rfStatWord, s.reg .rfEvt 0, s.reg .rfCnt 0, w32 (s.rf.ctr.get (fun _ => 0) (s.afld .rfMac 0 28 27))])

end Sys2Proof.Machine
end

