-- ==== Sys2Proof/Machine/Store.lean ====
section
/-! DEFINITION. The non-volatile store (spec 16, R485 to R500): patches, provisioning, keys, configuration images, the lifetime record, and their opcodes. -/

namespace Sys2Proof.Machine

/-- Change the store. -/
def State.modStore (s : State) (f : Store → Store) : State := { s with store := f s.store }

/-- Change the lifetime counts. -/
def State.modLife (s : State) (f : Life → Life) : State := { s with life := f s.life }

/-- Count one write of each sector (R486, R496): each image, record, or change of the secure store writes its sectors once (log 28). -/
def State.countSectors (s : State) (l : List Nat) : State :=
  s.modLife (fun x => { x with nvs := l.foldl (fun t k => t.mod (fun _ => 0) k (fun n => min (2 ^ 32 - 1) (n + 1))) x.nvs })

/-- A change of the secure store, sectors 0 and 1. -/
def State.secureWrite (s : State) (f : Store → Store) : State := (s.modStore f).countSectors [0, 1]

/-- The store is serving another opcode's write (R508). -/
def State.storeBusy (s : State) : Bool := s.store.save.isSome

/-- PD2, which holds the store's controller, is fenced. -/
def State.storeOff (s : State) : Bool := s.isFenced 8 2

/-! ### The lifetime record (R496 to R500) -/

/-- Half of a 64-bit value, by the word's place in its pair. -/
def halfOf (high : Bool) (n : Nat) : Word := w32 (if high then n / 2 ^ 32 else n)

/-- A domain's energy since manufacture, in nJ; 12 income, 13 draw. -/
def State.lifeEnergy (s : State) (k : Nat) : Nat :=
  let now := if k < 12 then (s.meter k).en / 10 ^ 9 else if k = 12 then s.ldg.income.floor.toNat else s.ldg.draw.floor.toNat
  (s.life.base.get (fun _ => 0) k + now) % 2 ^ 64

/-- Word `w` of the record, but for the CRC in its last word, with sequence number `seq` and write cause `cause`. -/
def State.lifeWord (s : State) (seq cause w : Nat) : Word :=
  let l := s.life
  let high := w % 2 = 1
  if w = 0 then 0x4C494645#32
  else if w = 1 then 0x00030000#32
  else if w = 2 then w32 seq
  else if w = 3 then w32 cause
  else if w < 6 then halfOf high s.tb0
  else if w < 8 then 0
  else if w < 14 then halfOf high (l.secs.getD ((w - 8) / 2) 0)
  else if w = 14 then w32 l.boots
  else if w = 15 then w32 l.brownouts
  else if w = 16 then w32 l.writes
  else if w < 24 then w32 (l.resets.get (fun _ => 0) (w - 16))
  else if w < 32 then 0
  else if w < 60 then halfOf high (s.lifeEnergy ((w - 32) / 2))
  else if w < 124 then w32 (l.nvs.get (fun _ => 0) (w - 60))
  else if w < 126 then halfOf high s.cal.utc
  else if w = 126 then dateWord (s.cal.localAt s.cal.utc)
  else if w = 127 then w32 (s.cal.localAt s.cal.utc % 60 * 2 ^ 26 + b2n s.cal.valid * 2 ^ 25 + b2n s.cal.dst * 2 ^ 24 +
    ((s.cal.offset + 256) % 256).toNat * 2 ^ 8 + s.cal.shift)
  else if w = 128 then s.cal.dstStart
  else if w = 129 then s.cal.dstEnd
  else if w < 132 then 0
  else if w < 136 then w32 (s.rf.ctr.get (fun _ => 0) (w - 132))
  else if w < 712 then
    let x := s.wear ((w - 136) / 3)
    w32 (if (w - 136) % 3 = 0 then x.hours else if (w - 136) % 3 = 1 then x.range else x.shocks)
  else if w < 9928 then
    let c := (w - 712) / 48
    let k := (w - 712) % 48
    (s.svc.trendLast.get (fun _ => []) (2 * c + k / 24)).getD (k % 24) 0
  else 0

/-- The CRC-32C of a record's first 10,239 words. -/
def lifeCrc (f : Nat → Word) : Word := crc32c (wordsBytes ((List.range 10239).map f))

/-- A record's words, from its first 10,239. -/
def lifeAt (f : Nat → Word) (w : Nat) : Word := if w < 10239 then f w else lifeCrc f

/-- The NVS sectors of the copy with a sequence number (R497). -/
def ringSectors (seq : Nat) : List Nat := (List.range 5).map (fun j => 48 + (5 * seq + j) % 16)

/-- A write of the record begins (R497, R500): the copy takes its words now, in the sectors of the oldest copy; WEAR reports (R286). -/
def State.lifeStart (s : State) (cause : Nat) : State :=
  let seq := (s.life.seq + 1) % 2 ^ 32
  let s1 := (s.modLife (fun x => { x with writes := (x.writes + 1) % 2 ^ 32, cause := cause, lastAt := s.tb0u })).countSectors (ringSectors seq)
  let ws := (List.range 10239).foldl (fun t w => let v := s1.lifeWord seq cause w; if v = 0 then t else (w, v) :: t) []
  let s2 := { s1 with life := { s1.life with writing := some ⟨seq, ws.reverse, true⟩ }, store := { s1.store with ring := s1.store.ring.take 2 } }
  s2.wearReport

/-- Nanoseconds between scheduled writes (LIFE_CFG). -/
def State.lifeInterval (s : State) : Nat := max 1 (min 24 (s.fld .lifeCfg 0 31 27)) * 3600 * 10 ^ 9 * 64

/-- A write of LIFE_CFG (R509): with a new INTERVAL, the next scheduled write is at the next multiple of it. -/
def State.writeLifeCfg (s : State) (v : Word) : State :=
  let s1 := s.setReg .lifeCfg 0 v
  if s1.lifeInterval = s.lifeInterval then s1 else s1.modLife (fun x => { x with lastAt := s.tb0u })

/-- LIFETIME_WRITE (R497): TB0 has reached a multiple of INTERVAL hours. -/
def State.lifetimeWrite (s : State) : State :=
  if s.pwr.phase ≠ 2 || s.pwr.floor ≠ 0 || s.storeOff || s.life.writing.isSome || s.tb0u / s.lifeInterval ≤ s.life.lastAt / s.lifeInterval then s else s.lifeStart 0

/-- LIFETIME_WRITE. -/
def execLifetimeWrite (s : State) : Host.Outcome State Fault Refusal := act State.lifetimeWrite s

/-- The copy being written is complete (R497). -/
def State.lifeDone (s : State) : State :=
  match s.life.writing with
  | none => s
  | some c => { s with life := { s.life with writing := none, seq := c.seq }, store := { s.store with ring := c :: s.store.ring } }

/-- The newest stored copy whose CRC passes. -/
def State.newestCopy (s : State) : Option LifeCopy := s.store.ring.find? (fun c => c.intact)

/-- `k` words whose values the spec does not state (log 4). -/
def State.freeWords (s : State) (k : Nat) : State × List Word :=
  ({ s with free := s.free + k }, (List.range k).map (fun i => Config.freeValue (s.free + i)))

/-- LIFE_READ (R507); the stored record's words are free values while no copy passes its CRC (log 4). -/
def opLifeRead : OpDef where
  code := 0x80
  priv := 0
  async := false
  lenOk := fun n _ => n == 2
  valid := fun _ c => c.fld 0 30 14 == 0 && c.fld 1 31 6 == 0 && 1 ≤ c.fld 1 5 0 && c.fld 0 13 0 + c.fld 1 5 0 ≤ 10240
  allow := fun s _ => if s.storeOff then stDomainOff else 0
  run := fun s c =>
    let words := fun (f : Nat → Word) => (s, 0, (List.range (c.fld 1 5 0)).map (fun k => lifeAt f (c.fld 0 13 0 + k)))
    if bitAt (c.word 0) 31 then
      match s.newestCopy with
      | some x => words (fun w => x.words.get (fun _ => 0) w)
      | none => let (u, l) := s.freeWords (c.fld 1 5 0); (u, 0, l)
    else words (s.lifeWord s.life.seq s.life.cause)

/-! ### Configuration images (R493 to R495) -/

/-- The configuration registers of an image, with the timers' (R493). -/
def imageRegs : List Reg :=
  [.sspCfg, .sspClk, .sspTiming, .i3cCfg, .i3cClk, .i3cTgt, .afeAinCfg, .afePdmCfg, .afePdmclk, .afeExc, .cryTplret, .panTide, .panCfg, .panWm,
   .tbCtl, .tbUtc, .tbSynccfg, .tbLink, .legCfg, .rfCfg, .rfAddr, .rfLasync, .rfMac, .ldgSns, .plnCfg, .plnLimits, .plnBudget, .plnReserve, .sysWakeen, .lifeCfg, .tmCtl, .tmEnd, .tmMatch]

/-- Does an image hold the byte at `a`? `mask` names the template blocks of 4 KiB. -/
def imageByte (mask a : Nat) : Bool :=
  decide (0x20000000 ≤ a && a < 0x20003000) || decide (0x20010000 ≤ a && a < 0x20014000) || decide (0x400A8000 ≤ a && a < 0x400AC000) ||
  (decide (0x21000000 ≤ a && a < 0x21010000) && mask.testBit ((a - 0x21000000) / 4096))

/-- Does an image hold the register word at `a`? -/
def imageWord (a : Nat) : Bool :=
  match regAt a with
  | some r => imageRegs.contains r.reg
  | none => false

/-- The present configuration as an image, given the size it takes. -/
def State.image (s : State) (mask bytes : Nat) : CfgImage :=
  let r := s.slt.waiting.getD s.slt.role
  { mem := s.mem.filter (fun c => imageByte mask c.1), regs := s.regs.filter (fun p => imageWord p.1), svc := s.svc.stored, launches := s.launches,
    store := if s.ldg.storeValid then some (s.reg64 .ldgStore 0) else none, floor := s.pwr.permit, role := [w32 (b2n r.autoRejoin * 2 ^ 16 + r.index * 2 ^ 8 + r.role), w32 r.prio],
    cfgRef := s.reg .cfgRef 0, bytes := bytes, intact := true }

/-- The sectors of an image slot. -/
def imageSectors (k : Nat) : List Nat := (List.range 12).map (fun j => 24 + 12 * k + j)

/-- The largest image, in bytes (R494). -/
def imageMax : Nat := 98304

/-- NVS_CFG_SAVE (R494). The spec gives no image format, so the size is a free value (log 4). -/
def opNvsCfgSave : OpDef where
  code := 0x81
  priv := 1
  async := true
  lenOk := fun n _ => n == 1
  valid := fun _ c => c.fld 0 15 1 == 0
  allow := fun s _ => firstStatus [(s.storeOff, stDomainOff), (s.storeBusy || s.check.commit.isSome, stBusy)]
  run := fun s c =>
    if s.storeBusy || s.check.commit.isSome then (s, stBusy, []) else
    let (n, s1) := s.nextFree
    let size := (Config.freeValue n).toNat % 2 ^ 17
    if imageMax < size then (s1, stBadParam, [])
    else (s1.modStore (fun x => { x with save := some (c.fld 0 0 0, s.image (c.fld 0 31 16) size, c.host, c.tag, c.reply) }), stAccepted, [])

/-- NVS_CFG_SAVE_COMPLETION: the image is in its slot. -/
def State.saveDone (s : State) : State :=
  match s.store.save with
  | none => s
  | some (k, img, h, tag, want) =>
    ((s.modStore (fun x => { x with save := none, images := x.images.set (fun _ => none) k (some img) })).countSectors (imageSectors k)).complete
      h 0x81 tag want stOk [w32 img.bytes] false

/-- NVS_CFG_SAVE_COMPLETION. -/
def execNvsCfgSaveCompletion (s : State) : Host.Outcome State Fault Refusal := act State.saveDone s

/-- NVS_CFG_SELECT (R494). -/
def opNvsCfgSelect : OpDef where
  code := 0x82
  priv := 1
  async := false
  lenOk := fun n _ => n == 1
  valid := fun _ c => c.fld 0 31 2 == 0 && c.fld 0 1 0 ≠ 3
  allow := fun s _ => firstStatus [(s.storeOff, stDomainOff), (s.storeBusy, stBusy)]
  run := fun s c => (s.secureWrite (fun x => { x with selected := c.fld 0 1 0 }), 0, [])

/-! ### Patches (R487 to R490) -/

/-- The slot that FW_BEGIN erases: the one that is not running; with ROM Salter, slot A unless it is the one a boot would run (DESIGN CHOICE, log 29). -/
def State.fwSlot (s : State) : Nat :=
  if s.pwr.patch then 1 - s.pwr.slot else if (s.patch 0).pend || (s.patch 0).ranLast then 1 else 0

/-- The sectors of a patch slot. -/
def patchSectors (k : Nat) : List Nat := (List.range 11).map (fun j => 2 + 11 * k + j)

/-- A FW_VERIFY is outstanding. -/
def State.verifying (s : State) : Bool := (s.store.xfer.bind (fun x => x.verify)).isSome

/-- FW_BEGIN (R488). -/
def opFwBegin : OpDef where
  code := 0x83
  priv := 2
  async := false
  lenOk := fun n _ => n == 2
  valid := fun _ c => 128 ≤ (c.word 0).toNat && (c.word 0).toNat ≤ 90112 && (c.word 0).toNat % 4 == 0
  allow := fun s _ => firstStatus [(s.storeOff, stDomainOff), (s.verifying || s.storeBusy, stBusy)]
  run := fun s c =>
    let k := s.fwSlot
    (((s.setPatch k PatchSlot.reset).modStore (fun x => { x with xfer := some ⟨k, (c.word 0).toNat, c.word 1, [], none, none⟩ })).countSectors (patchSectors k), 0, [])

/-- FW_DATA (R488): its words follow those received, or repeat the last FW_DATA. -/
def opFwData : OpDef where
  code := 0x84
  priv := 2
  async := false
  lenOk := fun n _ => 2 ≤ n
  valid := fun s c => match s.store.xfer with
    | none => false
    | some x =>
      let o := (c.word 0).toNat
      (o == 4 * x.words.length || x.lastOff == some o) && o + 4 * (c.params.length - 1) ≤ x.length
  allow := fun s _ => firstStatus [(s.storeOff, stDomainOff), (s.verifying || s.storeBusy, stBusy)]
  run := fun s c =>
    let o := (c.word 0).toNat
    (s.modStore (fun y => { y with xfer := y.xfer.map (fun x => { x with words := x.words.take (o / 4) ++ c.params.drop 1, lastOff := some o }) }), 0, [])

/-- FW_VERIFY: the open slot is checked; without one there is nothing to check. -/
def opFwVerify : OpDef where
  code := 0x85
  priv := 2
  async := true
  lenOk := fun n _ => n == 0
  valid := fun s _ => s.store.xfer.isSome
  allow := fun s _ => firstStatus [(s.storeOff, stDomainOff), (s.verifying || s.storeBusy, stBusy)]
  run := fun s c => if s.verifying || s.storeBusy then (s, stBusy, []) else (s.modStore (fun y => { y with xfer := y.xfer.map (fun x => { x with verify := some (c.host, c.tag, c.reply) }) }), stAccepted, [])

/-- The result of R489. -/
def State.verifyResult (s : State) (x : FwXfer) : Nat :=
  let w := fun k => x.words.getD k 0
  let l := wordsBytes x.words
  firstStatus [
    (decide (4 * x.words.length < x.length), 1),
    (crc32c l ≠ x.crc, 2),
    (w 0 ≠ 0x54525A50#32 || (w 2).toNat ≠ x.length || (((l.drop 14).take 50).any (fun b => b ≠ 0)), 3),
    (bits (w 1) 31 16 ≠ 3, 4),
    (decide (bits (w 1) 15 0 < s.store.minMinor), 5),
    (!Config.signatureValid l, 6)]

/-- FW_VERIFY_COMPLETION (R489): a VALID image is pending. -/
def State.verifyDone (s : State) : State :=
  match s.store.xfer with
  | none => s
  | some x => match x.verify with
    | none => s
    | some (h, tag, want) =>
      let r := s.verifyResult x
      let s1 := if r = 0 then
          (s.setPatch x.slot { words := x.words, length := x.length, crc := x.crc, verified := true, pend := true, ranLast := (s.patch x.slot).ranLast }).modStore
            (fun y => { y with xfer := none })
        else s.modStore (fun y => { y with xfer := some { x with verify := none } })
      s1.complete h 0x85 tag want (if r = 0 then stOk else if r = 4 || r = 5 then stVersion else stBadParam) [w32 r] false

/-- FW_VERIFY_COMPLETION. -/
def execFwVerifyCompletion (s : State) : Host.Outcome State Fault Refusal := act State.verifyDone s

/-- The content of a patch slot passes its CRC (R490). -/
def PatchSlot.sound (p : PatchSlot) : Bool := p.verified && crc32c (wordsBytes p.words) == p.crc

/-- The patch runs: it is no longer pending, and the first time raises the stored minimum minor version (R490). -/
def State.runPatch (s : State) (k : Nat) : State :=
  let p := s.patch k
  let q := s.patch (1 - k)
  let m := max s.store.minMinor (bits (p.words.getD 3 0) 15 0)
  let s1 := (s.setPatch k { p with pend := false, ranLast := true }).setPatch (1 - k) { q with ranLast := false }
  let s2 := if m = s.store.minMinor then s1 else s1.secureWrite (fun x => { x with minMinor := m })
  { s2 with pwr := { s2.pwr with patch := true, slot := k } }

/-- The choice of R490 at a normal boot. -/
def State.choosePatch (s : State) : State :=
  let want := if (s.patch 0).pend then some 0 else if (s.patch 1).pend then some 1
    else if (s.patch 0).ranLast then some 0 else if (s.patch 1).ranLast then some 1 else none
  match want with
  | none => s
  | some k =>
    if (s.patch k).sound then s.runPatch k
    else
      let s1 := ({ s with pwr := { s.pwr with fallback := true } }).logErr 14 2 0x89
      if (s.patch (1 - k)).sound then s1.runPatch (1 - k) else s1

/-! ### Provisioning and keys (R491, R492) -/

/-- PROVISION: its fields are in range, and one host is SECURE. -/
def provisionOk (c : Call) : Bool :=
  let p := fun h => bits (c.word 0) (2 * h + 1) (2 * h)
  c.fld 0 31 10 == 0 && (List.range 4).all (fun h => p h ≠ 3) && (List.range 4).any (fun h => p h == 2) && c.fld 1 31 2 == 0 &&
  c.word 2 == 0x50524F56#32 && c.word 3 == 0

/-- PROVISION (R52, R56, R491). H0's session on HP1 closes at once where no reply will be read. -/
def opProvision : OpDef where
  code := 0x86
  priv := 1
  async := false
  lenOk := fun n _ => n == 4
  valid := fun _ c => provisionOk c
  allow := fun s _ => firstStatus [(s.storeOff, stDomainOff), (s.storeBusy, stBusy)]
  run := fun s c =>
    let h := c.fld 0 9 8
    let s1 := ({ s with provisioned := true }).secureWrite (fun x =>
      { x with privs := c.fld 0 7 0, hp1Host := h, lockCfg := bitAt (c.word 1) 1, lockBootsel := bitAt (c.word 1) 0 })
    (if h ≠ 0 && (s.host 0).session = some 1 then
        s1.modHost 0 (fun x => if c.reply then { x with closing := true } else { x with session := none })
      else s1, 0, [])

/-- KEY_LOAD (R492). -/
def opKeyLoad : OpDef where
  code := 0x87
  priv := 2
  async := false
  lenOk := fun n _ => n == 6
  valid := fun _ c =>
    c.fld 0 31 9 == 0 && c.fld 0 7 2 == 0 &&
    (if bitAt (c.word 0) 8 then (c.params.drop 1).all (fun w => w == 0) else crc32c (wordsBytes ((c.params.drop 1).take 4)) == c.word 5)
  allow := fun s _ => firstStatus [(s.storeOff, stDomainOff), (s.storeBusy, stBusy)]
  run := fun s c =>
    let k := c.fld 0 1 0
    let key := if bitAt (c.word 0) 8 then none else some (wordsBytes ((c.params.drop 1).take 4))
    let s1 := s.secureWrite (fun x => { x with keys := x.keys.set (fun _ => none) k key })
    ((s1.modRf (fun r => { r with ctr := r.ctr.set (fun _ => 0) k 0, seen := r.seen.filter (fun e => e.2.1 ≠ k) })).logEnd 5 0 0x87, 0, [])

end Sys2Proof.Machine
end

