-- ==== Sys2Proof/Machine/Floors.lean ====
section
/-! DEFINITION. Floors, reserve hold and the brownout warning (spec 02, 15, 16), the Planner's boundaries and trips, event-pin edges, and the
crystal tick. -/

namespace Sys2Proof.Machine

/-! ### Due work (R40, R41) -/

/-- The TB0 instant (1/64 ns) at which timebase `k` reaches `target`, at its present rate. -/
def State.whenTb (s : State) (k : Nat) (target : Int) : Nat := s.tb0u + s.untilTb k target

/-- The next poll of a channel. -/
def State.pollDue (s : State) (c : Nat) : Option Nat :=
  let d := s.ad c
  let p : Int := s.period c * 1000 * 2 ^ 32
  if !s.acquiring c || d.acq ≠ 0 || !s.tbSet d.tb || p = 0 then none
  else some (s.whenTb d.tb (s.tbFine d.tb + (p - (s.tbFine d.tb - d.offsetUs * 1000 * 2 ^ 32) % p)))

/-- The next firing of a launch entry; for a RADIO_TX, the instant from which R436 works back. -/
def State.launchDue (s : State) (n : Nat) : Option Nat :=
  let l := s.launch n
  if l.state ≠ 2 || !s.tbSet l.tb then none
  else some (s.whenTb l.tb (l.instant l.k * 2 ^ 32) - (if l.action = 6 then (62000 + (if s.xoKept then 0 else 300000)) * 64 else 0))

/-- The next end of a timer. -/
def State.timerDue (s : State) (n : Nat) : Option Nat :=
  let t := s.timer n
  if t.state ≠ 1 || s.tmEvents n then none else some (s.timerInstant n (s.tmEndVal n))

/-- The next multiple of `i` after now. -/
def State.nextMultiple (s : State) (i : Nat) : Nat := (s.tb0u / i + 1) * i

/-- The next epoch boundary (R456). -/
def State.epochAt (s : State) : Nat :=
  let e := max 1 (s.afld .plnCfg 0 31 13) * 10000000 * 64
  s.pln.origin + ((s.tb0u - s.pln.origin) / e + 1) * e

/-- The next sync exchange of a saltern joined by the radio alone (R40, R49): RF_INT after the last SYNC sent or received, and for a member GUARD before it. -/
def State.syncDue (s : State) : Option Nat :=
  if (s.slt.state = 3 || s.slt.state = 4) && s.onlyRadio then
    s.time.rfSyncAt.map (fun t =>
      let i := 125000000 * 64 * 2 ^ min 7 (s.afld .tbSynccfg 0 23 20)
      t + ((s.tb0u - t) / i + 1) * i - (if s.slt.state = 3 then s.rf.guardTime * 64000 else 0))
  else none

/-- The earliest due work (R40). -/
def State.nextDue (s : State) : Nat :=
  let all := (List.range 192).filterMap s.pollDue ++ (List.range 128).filterMap s.launchDue ++ (List.range 64).filterMap s.timerDue ++
    (if s.enabledStreams.isEmpty then [] else [s.nextMultiple s.tideInterval]) ++ s.syncDue.toList ++
    [s.nextMultiple s.lifeInterval, s.nextMultiple (600 * 10 ^ 9 * 64)]
  all.foldl min s.epochAt

/-! ### Descent (R38, R42, R45, R49) -/

/-- Nothing waits on the host side: no command, no reply (R38). -/
def State.hostsQuiet (s : State) : Bool :=
  (List.range 4).all (fun h => let x := s.host h; x.queue.isEmpty && x.replies.isEmpty && x.held.isEmpty)

/-- No block that a floor removes holds work in hand (R118, R229, R260, R294, log 30). -/
def State.drained (s : State) : Bool :=
  s.twr.entry.isEmpty && s.twr.held.isEmpty && s.pan.fifo.isEmpty && s.cry.fifo.isEmpty && s.svc.queue.isEmpty && s.svc.wakeReqs.isEmpty && s.evq.isEmpty &&
  (List.range 18).all (fun p => (s.port p).acqs.isEmpty && !(s.port p).init) &&
  s.rf.tx.isNone && s.rf.wait.isEmpty && s.rf.launch.isNone && s.rf.cal.isNone && s.rf.state ≠ 4 &&
  s.life.writing.isNone && s.store.save.isNone && !s.verifying

/-- No interrupt delivered to an AWAKE host awaits its EOI (R38, R55). -/
def State.eoiFree (s : State) : Bool := (List.range 4).all (fun h => s.asleep h || (s.target h).stack.isEmpty)

/-- The channel prevents every floor (R45): STREAMED from SSP, I3C, AIN or PDM. -/
def State.preventsFloor (s : State) (c : Nat) : Bool := s.running c && (s.ad c).acq == 1 && decide ((s.ad c).kind < 20)

/-- Does every enabled stream hold nothing but tide marks (R42)? -/
def State.onlyTides (s : State) : Bool :=
  s.enabledStreams.all (fun n =>
    let cfg := s.app .panCfg n
    let x := s.stream n
    let start := x.keep
    ((s.recStarts cfg x.wp (ringDist (ringSize cfg) start x.wp) start).filter (· ≠ x.wp)).all (fun o => bits (s.ringWord cfg o) 31 28 == 4))

/-- The saltern role holds the hub in ACTIVE (R49). -/
def State.roleActive (s : State) : Bool := s.slt.state ≠ 0 && !s.onlyRadio

/-- Break-even time of a floor in 1/64 ns (R39). -/
def breakEven (f : Nat) : Nat := (if f = 1 then 150000 else 1500000) * 64

/-- Wake lead of a floor in 1/64 ns (R39). -/
def wakeLead (f : Nat) : Nat := (if f = 1 then 23000 else 60000) * 64

/-- May the hub enter floor `f` by itself (R38)? -/
def State.floorOk (s : State) (f : Nat) : Bool :=
  decide (f ≤ s.pwr.permit) && s.hostsQuiet && s.drained && s.eoiFree && !s.roleActive && (List.range 192).all (fun c => !s.preventsFloor c) &&
  (f == 1 || s.onlyTides) && decide (breakEven f ≤ s.nextDue - s.tb0u)

/-- The floor the hub enters now: the deepest that may be, 0 for none; under reserve hold, or waiting after a brownout write, STANDBY (R47, R499). -/
def State.floorNow (s : State) : Nat :=
  if s.pwr.phase ≠ 2 || s.pwr.floor ≠ 0 then 0
  else if s.pwr.reserveHold || s.pwr.brownWait then (if s.hostsQuiet && s.drained then 2 else 0)
  else if s.pwr.brownHold then 0
  else if s.floorOk 2 then 2 else if s.floorOk 1 then 1 else 0

/-- Template blocks that are not retained lose their content (R237). -/
def State.dropTemplates (s : State) : State :=
  let used := s.tplBlocksUsed
  (List.range 16).foldl (fun u k => if bitAt (u.reg .cryTplret 0) k || used.contains k then u else u.clearMem (0x21000000 + 4096 * k) (0x21000000 + 4096 * (k + 1))) s

/-- Enter floor `f` (R41, R477): the comparator is loaded, the domains go off. -/
def State.descend (s : State) (f : Nat) : State :=
  let due := if s.onHold then none else some (s.nextDue - wakeLead f)
  let s1 := { s with pwr := { s.pwr with floor := f, wakeReq := false, wakeCmp := due, descent := s.tb0u },
                     afe := AfeBlk.reset }
  let s2 := if f = 2 then (if s1.onlyTides then s1.panStandby else s1.panReserveHold) else s1
  let s3 := (((s2.dropTemplates).linkDown 0).linkDown 1).rfFloor
  [1, 2, 3, 4, 5, 6, 7, 9, 10, 11].foldl (fun u d => u.powerDom d 0)
    (s3.powerDom 8 (if f = 1 && !s3.enabledStreams.isEmpty && !s3.isFenced 8 8 then 1 else 0))

/-- DESCENT (R38). -/
def execDescent (floor : Nat) (s : State) : Host.Outcome State Fault Refusal :=
  act (fun u => if floor ≠ 0 && u.floorNow = floor then u.descend floor else u) s

/-! ### Wake (R41, R44, R479) -/

/-- Power a domain at the wake; a fenced one stays off. -/
def State.powerWake (s : State) (d rail : Nat) : State := if s.isFenced 8 d then s else s.powerDom d rail

/-- A domain of the Planner comes up (R41, R461): at the planned rail, and no lower than the tiers in use need while a tier change waits (R30); a plan's lower rail then follows. -/
def State.powerPlanned (s : State) (d : Nat) : State :=
  let use := (s.chooseRails s.setInUse).of d + 2
  let plan := (s.chooseRails s.setToBe).of d + 2
  let s1 := s.powerWake d (max use plan)
  if (s1.dom d).rail = 0 then s1 else s1.slewTo d plan

/-- The rails at the wake. -/
def State.wakeRails (s : State) : State :=
  let s1 := [1, 3, 4, 8, 10, 11].foldl (fun u d => u.powerWake d 2) s
  [2, 6, 7].foldl (fun u d => u.powerPlanned d) s1

/-- The AFE comes up with the inputs that are enabled; their bitstreams start with a blank (R182, R196). -/
def State.afeWake (s : State) : State :=
  let s1 := s.powerAfe
  if (s1.dom 5).rail = 0 then s1
  else (List.range 24).foldl (fun u i => if bitAt (u.afeCfg i) 31 then u.blankInput i else u) s1

/-- Events held in a floor reach the fabric (R526). -/
def State.releaseEvents (s : State) : State :=
  { s with evq := s.evq ++ s.pwr.heldEvents.map (fun p => ⟨p.1, p.2⟩), pwr := { s.pwr with heldEvents := [] } }

/-- Launches and timers after a floor; those suspended stay so. -/
def State.fabricWake (s : State) : State := if s.onHold then s else s.launchesWake.timersWake

/-- From a floor to ACTIVE (R41, R258, R307, R327, R383, R389, R477, R526); the host buffer's delivery is the caller's. -/
def State.wakeUp (s : State) : State :=
  if s.pwr.floor = 0 then s
  else
    let s1 := { s with pwr := { s.pwr with floor := 0, wakeReq := false, wakeCmp := none } }
    let s2 := (s1.wakeRails.tideAll 2).trendWake.afeWake
    let s3 := s2.armedSeeds.foldl (fun u n => u.seedRecheck n) s2
    ((s3.fabricWake.releaseEvents).powerRf.rfWake).rfKick

/-- WAKE_COMPARATOR (R41): TB0 has reached the instant loaded at the descent. -/
def execWakeComparator (s : State) : Host.Outcome State Fault Refusal :=
  act (fun u => match u.pwr.wakeCmp with
    | some t => if t ≤ u.tb0u + tickUnits then ({ u with pwr := { u.pwr with wakeCmp := none } }).wakeBy 0 else u
    | none => u) s

/-- LEGUS_WAKE (R479): a signal on an enabled link of a SOLO hub with WAKE_EN. -/
def execLegusWake (link : Nat) (s : State) : Host.Outcome State Fault Refusal :=
  act (onlyIf (link < 2 && s.slt.state = 0 && !s.onHold && bitAt (s.app .legCfg 0) 28 && bitAt (s.app .legCfg 0) (31 - link)) (fun u => u.wakeBy 4)) s

/-! ### Reserve hold and the brownout warning (R47, R48, R469, R499) -/

/-- Every running channel is suspended: its waiting acquisitions are dropped, and a CHAN_STOP that waited for one of them takes effect (R126). -/
def State.suspendChans (s : State) : State :=
  let s1 := s.runningChans.foldl (fun u c => u.modChan c (fun x => { x with suspended := true })) s
  let s2 := { s1 with ports := Tab.mapVals (fun _ => Port.reset) s1.ports (fun p => { p with acqs := p.acqs.filter (fun a => a.begun) }) }
  s.runningChans.foldl (fun u c => u.applyStops c) s2

/-- Into the floor that reserve hold or a brownout asks for, as soon as nothing is in hand. -/
def State.sinkNow (s : State) : State := if s.floorNow = 2 && s.onHold then s.descend 2 else s

/-- Enter reserve hold (R47). -/
def State.enterHold (s : State) : State :=
  let s1 := ({ s with pwr := { s.pwr with reserveHold := true, linksLost := true } }).logErr 14 5 0x39
  s1.suspendChans.panReserveHold.sinkNow

/-- Channels, launches and timers resume, once neither reserve hold nor a brownout warning holds them (R48); a hub whose links were stopped in between has a stale view (R51). -/
def State.endHold (s : State) (lost : Bool) : State :=
  if s.onHold then s
  else
    let cs := s.runningChans.filter (fun c => (s.chan c).suspended)
    let s1 := cs.foldl (fun u c => (u.modChan c (fun x => { x with suspended := false })).restartChan c false) s
    let s2 := (s1.tideAll 2).launchesWake.timersWake
    let s3 := s2.enabledStreams.foldl (fun u n => u.modStream n (fun x => { x with gaps := if x.gaps.contains 192 then x.gaps else x.gaps ++ [192] })) s2
    let s4 := ((s3.afeWake).powerRf.rfWake).rfKick
    let s5 := { s4 with pwr := { s4.pwr with linksLost := false } }
    if (lost || s.pwr.linksLost) && s5.slt.state ≠ 0 then s5.loseView else s5

/-- The reserve comparator's condition (R469). -/
def State.reserveReached (s : State) : Bool :=
  s.ldg.storeValid && decide (s.ldg.store ≤ (s.reg64 .plnReserve 0 : Rat))

/-- RESERVE_TRIP (R469). -/
def State.reserveTrip (s : State) : State :=
  if !s.reserveReached || !s.pln.reserveReady then s
  else
    let s1 := ({ s with pln := { s.pln with reserveReady := false } }).evt .ldgEvt 0 1
    if s1.plnModeInForce ≠ 2 || s1.pwr.reserveHold then s1 else (s1.wakeBy 7).enterHold

/-- RESERVE_TRIP. -/
def execReserveTrip (s : State) : Host.Outcome State Fault Refusal := act (onlyIf (s.pwr.phase = 2) State.reserveTrip) s

/-- OVERSPEND_TRIP (R466 to R468): in ENFORCE it also wakes the hub. -/
def execOverspendTrip (s : State) : Host.Outcome State Fault Refusal :=
  act (onlyIf (s.pwr.phase = 2) (fun u => match u.pln.limit with
    | some l => if u.sinceBoundary ≤ l then u else ((if u.plnModeInForce = 2 && !u.onHold then u.wakeBy 7 else u).overspendTrip).settle
    | none => u)) s

/-- An epoch boundary in reserve hold (R36, R469): the hold ends when MODE is no longer ENFORCE, and, at a boundary of R457, when LDG_STORE is above PLN_RESERVE. -/
def State.epochHold (s : State) (restart : Bool) : State :=
  let s1 := s.epochBoundary restart
  if s1.pwr.reserveHold && (s1.plnModeInForce ≠ 2 || (restart && decide ((s1.reg64 .plnReserve 0 : Rat) < s1.ldg.store))) then
    ({ s1 with pwr := { s1.pwr with reserveHold := false } }).endHold true
  else s1

/-- EPOCH_BOUNDARY (R454, R456): the plan runs on Salter's first core, which a fence of PD2 leaves running (R565). -/
def execEpochBoundary (s : State) : Host.Outcome State Fault Refusal :=
  act (onlyIf (s.pwr.phase = 2 && s.pwr.floor = 0 && s.epochDue) (fun u => (u.epochHold false).settle)) s

/-- RAIL_SLEW_DONE (R29 to R31): the rail is reached. A rail falls only once every tier change that is due has been applied. -/
def State.slewDone (s : State) (d : Nat) : State :=
  let x := s.dom d
  match x.slew with
  | none => s
  | some r =>
    if r < x.rail && (List.range 192).any (fun c => (s.chan c).tierNext.isSome) then s
    else (s.setDom d ⟨r, none⟩).settle

/-- RAIL_SLEW_DONE. -/
def execRailSlewDone (dom : Nat) (s : State) : Host.Outcome State Fault Refusal := act (onlyIf (dom < 12 && (s.dom dom).rail ≠ 0) (fun u => u.slewDone dom)) s

/-- R457: a change of the mode, the budget or the reserve served in reserve hold, by an opcode or by a register write (R47), makes an epoch boundary fall, which decides whether
the hold ends (R469). -/
def State.afterPlanWrite (s : State) : State := if s.pwr.reserveHold then (s.epochHold true).settle else s

/-- A write of PLN_RESERVE (R456, R457, R470). -/
def State.plnReserveWrite (s : State) (v : Nat) : State := ((s.setReg64 .plnReserve 0 (v % 2 ^ 48)).reserveWatch).afterPlanWrite

/-- PLN_MODE (R472, R475). -/
def opPlnMode : OpDef where
  code := 0x40
  priv := 1
  async := false
  lenOk := fun n _ => n == 1
  valid := fun s c => plnCfgOk (c.word 0) && !(c.fld 0 1 0 == 2 && s.reg64 .plnBudget 0 == 0) && c.fld 0 4 2 == 0
  allow := fun _ _ => 0
  run := fun s c => ((s.setReg .plnCfg 0 (c.word 0)).afterPlanWrite, 0, [])

/-- PLN_BUDGET (R472, R475). -/
def opPlnBudget : OpDef where
  code := 0x41
  priv := 1
  async := false
  lenOk := fun n _ => n == 4
  valid := fun _ c => c.pair 0 ≠ 0 && decide (c.pair 0 < 2 ^ 48) && decide (c.pair 2 < 2 ^ 48)
  allow := fun _ _ => 0
  run := fun s c => ((s.setReg64 .plnBudget 0 (c.pair 0)).plnReserveWrite (c.pair 2), 0, [])

/-- BROWNOUT_WARNING (R499, R500). -/
def State.brownWarn (s : State) : State :=
  if s.pwr.phase ≠ 2 || s.pwr.brownHold then s
  else
    let s1 := ({ s with pwr := { s.pwr with brownHold := true, brownWait := false } }).suspendChans.wakeBy 8
    let s2 := (({ s1 with afe := AfeBlk.reset }).powerAfe).rfFloor
    if s2.life.writing.isSome then s2
    else if s2.storeOff then ({ s2 with pwr := { s2.pwr with brownWait := true } }).sinkNow
    else s2.lifeStart 1

/-- BROWNOUT_WARNING. -/
def execBrownoutWarning (s : State) : Host.Outcome State Fault Refusal := act State.brownWarn s

/-- The level at which the hub resumes, in mV: the warning level plus 100 (R499). -/
def State.resumeLevel (s : State) : Nat := 2000 + 100 * s.fld .lifeCfg 0 23 20

/-- The end of a brownout warning: as the end of reserve hold. -/
def State.brownResume (s : State) : State :=
  (({ s.wakeUp with pwr := { s.wakeUp.pwr with brownHold := false, brownWait := false } }).endHold s.pwr.brownWait).settle

/-- LIFETIME_WRITE_DONE (R497, R499). -/
def State.lifetimeWriteDone (s : State) : State :=
  if s.life.writing.isNone then s
  else
    let s1 := s.lifeDone
    if !s1.pwr.brownHold then s1
    else if s1.resumeLevel < s1.ldg.vbat then s1.brownResume
    else ({ s1 with pwr := { s1.pwr with brownWait := true } }).sinkNow

/-- LIFETIME_WRITE_DONE. -/
def execLifetimeWriteDone (s : State) : Host.Outcome State Fault Refusal := act State.lifetimeWriteDone s

/-- BROWNOUT_RECOVERY (R499): VBAT has risen above the resume level. -/
def execBrownoutRecovery (s : State) : Host.Outcome State Fault Refusal :=
  act (onlyIf (s.pwr.phase = 2 && s.pwr.brownWait) State.brownResume) s

/-! ### Event pins (R512, R341, R479) -/

/-- Does an edge qualify by a code 0 rising, 1 falling, 2 both? -/
def edgeOk (code : Nat) (rise : Bool) : Bool := code == 2 || (code == 0 && rise) || (code == 1 && !rise)

/-- The EVENT_PIN channels that qualify the edge (R45, R103): those that take it as an acquisition, STREAMED or TRIGGERED by it. -/
def State.pinChans (s : State) (n : Nat) (rise : Bool) : List Nat :=
  s.runningChans.filter (fun c =>
    let d := s.ad c
    s.acquiring c && d.kind == 20 && d.unit % 32 == n && edgeOk (d.unit / 256 % 4) rise)

/-- The qualifying edge at one channel: it is counted and its capture kept (R23), and it makes a sample of a STREAMED or edge-triggered channel, stamped by the pin's latch. -/
def State.pinSample (s : State) (c : Nat) (cap : Option Stamp) : State :=
  let d := s.ad c
  let s1 := s.modChan c (fun x => { x with edges := (x.edges + 1) % 2 ^ 24, edge := cap.orElse (fun _ => x.edge), gapOwed := x.gapOwed || cap.isNone })
  if !(d.acq == 1 || (d.acq == 2 && bits (d 3) 31 30 == 2)) || cap.isNone then s1
  else (s1.countAcq c).instantSample c false false none

/-- Does the edge wake the hub: by SYS_WAKEEN with WEDGE, by a channel that qualifies it, or by a sluice that names the pin's output (R479)? -/
def State.pinWakes (s : State) (n : Nat) (rise : Bool) : Bool :=
  (bitAt (s.reg .sysWakeen 0) n && edgeOk (s.fld .slPin n 26 25) rise) ||
  (!s.onHold && (!(s.pinChans n rise).isEmpty || s.sluiceNames (448 + n)))

/-- An edge on pin `n` (R512): a pin that is not an input sees none, but its level follows the outside unless it is driven. -/
def State.pinEdge (s : State) (n : Nat) (rise : Bool) : State :=
  if s.pinMode n = 2 || (s.pin n).level = rise then s
  else
    let s1 := s.modPin n (fun x => { x with level := rise })
    if s1.pinMode n ≠ 1 || s1.pwr.phase ≠ 2 then s1
    else
      let cs := s1.pinChans n rise
      let (s2, ok) := if cs.isEmpty then (s1, false) else s1.latchPush n
      let s3 := cs.foldl (fun u c => u.pinSample c (if ok then some (s1.waiting n 0) else none)) s2
      let s4 := s3.raiseEvent (448 + n) (if rise then 1 else 2)
      if s1.pwr.floor ≠ 0 && s1.pinWakes n rise then (s4.setReg .sysWakesrc 0 (setBits (s4.reg .sysWakesrc 0) 20 16 n)).wakeBy 1 else s4

/-- EVENT_PIN_EDGE (R512). -/
def execEventPinEdge (pin f : Nat) (rise : Bool) (s : State) : Host.Outcome State Fault Refusal :=
  act (onlyIf (pin < 32) (fun u => (u.atF f).pinEdge pin rise)) s

/-! ### The crystal tick (R337, R339, R449) -/

/-- Each set timebase counts on (R339, R340). -/
def State.tbTick (s : State) (k : Nat) : State :=
  let t := s.tb k
  if t.state = 0 then s else s.setTb k { t with v := t.v + tbInc t.r }

/-- Ticks in each floor make the record's seconds (R496). -/
def State.lifeTick (s : State) : State :=
  let f := s.pwr.floor
  let t := s.life.ticks.getD f 0 + 1
  if t < 32768 then s.modLife (fun x => { x with ticks := x.ticks.set f t })
  else s.modLife (fun x => { x with ticks := x.ticks.set f 0, secs := x.secs.set f (x.secs.getD f 0 + 1) })

/-- The AFE's activity in one tick (R452): each enabled AIN input, 1.6 times at 2.048 MHz, tallied in 1/64 ns to its channel. -/
def State.afeTick (s : State) : State :=
  if (s.dom 5).rail = 0 then s
  else (List.range 16).foldl (fun u i =>
    if bitAt (u.afeCfg i) 31 then u.tallyAdd ((u.preChan i).getD 192) 8 5 (if bitAt (u.afeCfg i) 30 then 3125000 else tickUnits) else u) s

/-- A crystal tick: TB0, the disciplined timebases, the lifetime seconds, WEAR's hours, the sense inputs. -/
def State.crystalTick (s : State) (sns0 sns1 : Int) : State :=
  let s1 := { s with tick := s.tick + 1, sub := 0 }
  let s2 := [1, 2, 3].foldl (fun u k => u.tbTick k) s1
  (s2.lifeTick.wearTick.afeTick).senseTick sns0 sns1

/-- CRYSTAL_TICK. In SHUTDOWN TB0 stops (R338). -/
def execCrystalTick (sns0 sns1 : Int) (s : State) : Host.Outcome State Fault Refusal :=
  actClock (onlyIf (s.pwr.phase ≠ 3) (fun u => u.crystalTick sns0 sns1)) s

/-- HSLEEP_EDGE (R54): a host that becomes AWAKE sees its deliveries at once (R531, R537). -/
def execHsleepEdge (host : Nat) (asleep : Bool) (s : State) : Host.Outcome State Fault Refusal :=
  act (onlyIf (host < 4) (fun u => u.modHost host (fun x => { x with pinAsleep := asleep }))) s

end Sys2Proof.Machine
end

