-- ==== Sys2Proof/Machine/Registers.lean ====
section
/-! DEFINITION. Reading and writing the hub's address space (spec 18, R540 to R555; spec 19): the word every register shows, the snapshot, the order in
which an access is judged, and what a read and a write do. -/

namespace Sys2Proof.Machine

/-! ### What each register shows -/

/-- A host's privilege (R52, R81): 0 NORMAL, 1 PRIVILEGED, 2 SECURE. -/
def State.privOf (s : State) (h : Nat) : Nat := if s.provisioned then s.store.privs / 4 ^ h % 4 else 1

/-- SYS_BOOT. -/
def State.bootWord (s : State) : Word :=
  let p := s.pwr
  w32 (b2n p.fallback * 2 ^ 31 + b2n p.recovery * 2 ^ 30 + p.autostart * 2 ^ 28 + p.slot * 2 ^ 27 + b2n p.patch * 2 ^ 26 + p.fault * 2 ^ 8 + p.cause)

/-- LDG_STAT. -/
def State.ldgStatWord (s : State) : Word :=
  w32 (b2n s.ldg.storeValid * 2 ^ 31 + b2n (s.snsRun 1) * 2 ^ 30 + b2n (s.snsRun 0) * 2 ^ 29 + s.ldg.vbat % 65536)

/-- The operating rail of a domain as PLN_RAIL shows it; 0 for one that is off. PD10 runs at 0.80 V while a link is enabled; the AFE and the radio set
theirs, to a value that the spec does not give (R460, log 5). -/
def State.railCode (s : State) (d : Nat) : Nat :=
  if (d = 5 || d = 9) && (s.dom d).rail ≠ 0 then Config.domainRail d % 4
  else if d = 10 && (s.dom d).rail ≠ 0 && s.xoKept then 2 else s.railIdx d

/-- PLN_RAIL. -/
def State.plnRailWord (s : State) : Word := w32 ((List.range 12).map (fun d => s.railCode d % 4 * 4 ^ d)).sum

/-- TM_CTLn: the configuration with the state bits; the command bits read 0. -/
def State.tmCtlWord (s : State) (n : Nat) : Word :=
  let t := s.timer n
  let w := setBits (setBits (s.reg .tmCtl n) 31 29 0) 27 24 (t.state * 4 + b2n t.late * 2 + b2n t.gap)
  setBits w 10 9 (b2n t.cap2.isSome * 2 + b2n t.capOvr)

/-- TWR_STAT. The engine holds no unit between commands. -/
def State.twrStatWord (s : State) : Word :=
  w32 ((List.range 192).countP (fun c => s.inEntry c) * 2 ^ 16 + (32768 - s.poolUsed))

/-- TWR_SEGUSE. -/
def State.seguseWord (s : State) : Word :=
  w32 ((List.range 32).map (fun k =>
    b2n (s.twr.pool.any (fun r => decide (r.1 < 1024 * (k + 1)) && decide (1024 * k < r.1 + r.2.1)) ) * 2 ^ k)).sum

/-- A mask of 32 channels. -/
def chanMask (k : Nat) (p : Nat → Bool) : Word := w32 ((List.range 32).map (fun b => b2n (p (32 * k + b)) * 2 ^ b)).sum

/-- Does the channel hold reserved state words (R226)? -/
def State.inPool (s : State) (c : Nat) : Bool := s.twr.pool.any (fun r => r.2.2 == c)

/-- TWR_CHSTATn. -/
def State.twrChstatWord (s : State) (c : Nat) : Word :=
  if !s.inPool c then 0
  else
    let t := s.twrCh c
    let ins := ((List.range 9).map (fun k => b2n ((t.cmps.getD k (0, 0)).1 == 2) * (if k < 4 then 2 ^ (4 + k) else if k < 8 then 2 ^ (8 + (k - 4)) else 2 ^ 12))).sum
    w32 (s.preset c * 2 ^ 30 + presetStages (s.preset c) * 2 ^ 27 + 2 ^ 26 + t.settle % 512 * 2 ^ 17 + ins)

/-- TWR_DCESTn of component `k`. -/
def State.dcestWord (s : State) (c k : Nat) : Word :=
  if s.inPool c && (s.ad c).dcOn then wInt (rnd (((s.twrCh c).comps[k]?).map (·.est) |>.getD 0) 16) else 0

/-- CRY_FEATn of unit `u`. -/
def State.featValWord (s : State) (n u : Nat) : Word := let f := s.feat n u; if f.valid then wInt f.value else 0

/-- PAN_MARKn. -/
def State.panMarkWord (s : State) (n : Nat) : Word :=
  let x := s.stream n
  w32 (b2n x.markValid * 2 ^ 31 + b2n x.markLost * 2 ^ 30 + x.mark)

/-- HP_QSTATn. -/
def State.qstatWord (s : State) (h : Nat) : Word :=
  let x := s.host h
  w32 (x.asyncOut.length * 2 ^ 24 + x.replies.length * 2 ^ 16 + x.queue.length * 2 ^ 8 + b2n x.session.isSome * 4 + b2n (s.asleep h) * 2 + x.session.getD 0)

/-- CHK_STAT: DIRTY stands for the dirty bits; MATCH and PASSES are set by each pass. -/
def State.chkStatWord (s : State) : Word := setBits (s.reg .chkStat 0) 30 30 (b2n (s.check.units.any (fun p => p.2.dirty)))

/-- LOG_STAT. -/
def State.logStatWord (s : State) : Word :=
  w32 (s.log.length * 2 ^ 23 + s.log.countP (fun e => decide (0x80 ≤ e.code)) * 2 ^ 14 + b2n s.logSat * 2 ^ 13)

/-- LIFE_STAT. -/
def State.lifeStatWord (s : State) : Word :=
  w32 (b2n s.life.writing.isSome * 2 ^ 31 + b2n s.life.fresh * 2 ^ 30 + b2n s.life.copyFail * 2 ^ 29 + s.life.cause % 16 * 2 ^ 24)

/-- The CHK_SUM bit of the block that buffers a register (R550). -/
def pendBit : Reg → Nat → Nat
  | .sspCfg, n | .sspClk, n | .sspTiming, n => n
  | .i3cCfg, n | .i3cClk, n => 12 + n
  | .i3cTgt, n => 12 + n / 8
  | .afeAinCfg, _ | .afePdmCfg, _ => 18
  | .panTide, _ | .panCfg, _ | .panWm, _ => 21
  | .tbCtl, _ | .tbUtc, _ | .tbSynccfg, _ | .tbLink, _ => 22
  | .slCtl, _ | .slSrc, _ | .slLut, _ | .slTaska, _ | .slTaskb, _ => 24
  | .legCfg, _ => 25
  | .rfCfg, _ | .rfAddr, _ | .rfLasync, _ | .rfMac, _ => 26
  | .ldgSns, _ => 27
  | .plnCfg, _ | .plnLimits, _ | .plnBudget, _ => 28
  | _, _ => 31

/-- CHK_PEND: a block holds a value that it has not applied. -/
def State.chkPendWord (s : State) : Word :=
  let held := ((s.regs ++ s.applied).map (·.1)).filterMap (fun a =>
    if s.wordAt a = s.appAt a then none
    else match regAt a with
      | some ref => if ref.reg.row.access = .rwb then some (pendBit ref.reg ref.inst) else none
      | none => none)
  w32 ((List.range 31).map (fun b => b2n (held.contains b) * 2 ^ b)).sum

/-- The value of a 64-bit pair. -/
def State.pairVal (s : State) (r : Reg) (n : Nat) : Nat :=
  match r with
  | .ldgEn => (s.meter n).en / 10 ^ 9 % 2 ^ 48
  | .ldgCommon => s.ldg.common.floor.toNat % 2 ^ 48
  | .ldgIncome => s.ldg.income.floor.toNat % 2 ^ 48
  | .ldgDraw => s.ldg.draw.floor.toNat % 2 ^ 48
  | .ldgStore => s.storeWord64
  | .plnSpent => s.spent.floor.toNat % 2 ^ 48
  | .tbVal => s.tbNow n
  | .tbCap => s.time.cap.vals.getD n 0
  | .lnNext => s.launchNext n
  | .twrMacs => s.twr.macs % 2 ^ 64
  | .cryCormacs => s.cry.macs % 2 ^ 64
  | .snapPair => (s.snap.words.getD (26 + 2 * n) 0).toNat + 2 ^ 32 * (s.snap.words.getD (27 + 2 * n) 0).toNat
  | _ => s.reg64 r n

/-- The word of a register of SYS, the Ledger, the Planner, the timebases, launches and timers, where hardware computes it. -/
def State.regWordA (s : State) (r : Reg) (n : Nat) : Option Word :=
  match r with
  | .sysBoot => some s.bootWord
  | .ldgStat => some s.ldgStatWord
  | .ldgQcal => some (w32 (b2n (s.meter n).cal * 2 ^ 31 + (s.meter n).q % 2 ^ 20))
  | .ldgIdle => some (w32 (s.idleNow n % 2 ^ 32))
  | .ldgScale => some (w32 (((s.meter n).scale * 65536).floor.toNat % 2 ^ 18))
  | .ldgCh => some (w32 (s.ldg.ch.get (fun _ => 0) n))
  | .plnRail => some s.plnRailWord
  | .tbCapst => some s.tbCapstWord
  | .tbStat => some (s.tbStatWord n)
  | .tbRate => some (wInt (s.tb n).r)
  | .tbOffs => some (s.tbOffsWord n)
  | .tbLink => some (s.tbLinkWord n)
  | .lnCtl => some (s.lnCtlWord n)
  | .lnCnt => some (s.lnCntWord n)
  | .tmCtl => some (s.tmCtlWord n)
  | .tmCnt => some (w32 (s.timerCount n))
  | .tmCap => some (w32 (s.timer n).cap)
  | .slPin => some (setBits (s.reg .slPin n) 24 24 (b2n (s.pin n).level))
  | .slStat => some (s.slStatWord n)
  | .icStat => some (s.icStatWord n)
  | .icPriv => some (s.icPrivWord n)
  | .icSrc => some (s.icSrcWord n)
  | .icSpend => some (s.icSpendWord n)
  | _ => none

/-- The same for the ports, the processing blocks, the saltern and PD0's own registers. -/
def State.regWordB (s : State) (r : Reg) (n : Nat) : Option Word :=
  match r with
  | .sspStat => some (s.sspStatWord n)
  | .afeStat => some s.afeStatWord
  | .twrStat => some s.twrStatWord
  | .twrSeguse => some s.seguseWord
  | .twrUns => some (chanMask n (fun c => s.inPool c && ((s.twrCh c).settle ≠ 0 || (s.twrCh c).pend.unsettled)))
  | .twrChstat => some (s.twrChstatWord n)
  | .twrDcest => some (s.dcestWord (n / 4) (n % 4))
  | .cryStat => some s.cryStatWord
  | .cryArm => some (seedMask n (fun k => (s.seed k).armed))
  | .cryFenced => some (seedMask n (fun k => s.isFenced 2 k))
  | .crySeedstat => some (s.seedStatWord n)
  | .cryDwell => some (w32 (s.seed n).dwell)
  | .cryTaken => some (w32 (s.seed n).taken)
  | .cryFeat => some (s.featValWord (n / 4) (n % 4))
  | .panWp => some (w32 (s.stream n).wp)
  | .panRp => some (w32 (s.stream n).rp)
  | .panMark => some (s.panMarkWord n)
  | .panSeq => some (w32 (s.stream n).seq)
  | .legSltstat => some s.sltStatWord
  | .legViewinfo => some s.viewInfoWord
  | .legMembers => some s.slt.members
  | .legDivergent => some s.slt.divergent
  | .legStale => some s.slt.staleSet
  | .legOutlier => some s.slt.outliers
  | .legLink => some (s.legLinkWord n)
  | .rfStat => some s.rfStatWord
  | .hpQstat => some (s.qstatWord n)
  | .chkStat => some s.chkStatWord
  | .chkPend => some s.chkPendWord
  | .logStat => some s.logStatWord
  | .lifeStat => some s.lifeStatWord
  | .lifeSeq => some (w32 s.life.seq)
  | .snapHold => some (s.snap.words.getD n 0)
  | .snapHold2 => some (s.snap.words.getD (64 + n) 0)
  | _ => none

/-- The word that a 32-bit register shows: the hardware's word, 0 for a write-only register, the stored word otherwise (R10, R550). -/
def State.regWord (s : State) (r : Reg) (n : Nat) : Word :=
  if r.row.access = .wo then 0
  else (s.regWordA r n).getD ((s.regWordB r n).getD (s.reg r n))

/-! ### Snapshot (R561) -/

/-- The words of several instances of one register. -/
def State.wordsOf (s : State) (r : Reg) (k : Nat) : List Word := (List.range k).map (fun n => s.regWord r n)

/-- The words of several pairs. -/
def State.pairsOf (s : State) (r : Reg) (k : Nat) : List Word := (List.range k).flatMap (fun n => pairOf (s.pairVal r n))

/-- Every counter of R561, in the order of its holding registers. -/
def State.snapWords (s : State) : List Word :=
  s.wordsOf .hpViol 2 ++ s.wordsOf .sspCnt 12 ++ s.wordsOf .i3cCnt 6 ++ s.wordsOf .tbLatcnt 1 ++ s.wordsOf .cryCnt 1 ++ s.wordsOf .panFifocnt 1 ++
  s.wordsOf .rfCnt 1 ++ s.wordsOf .legLinkcnt 2 ++ s.pairsOf .twrMacs 1 ++ s.pairsOf .cryCormacs 1 ++ s.pairsOf .plnSpent 1 ++
  s.pairsOf .ldgCommon 1 ++ s.pairsOf .ldgIncome 1 ++ s.pairsOf .ldgDraw 1 ++ s.pairsOf .ldgStore 1 ++ s.pairsOf .ldgEn 12 ++
  s.wordsOf .panDrop 32 ++ s.wordsOf .panSeq 32 ++ s.wordsOf .slCnt 64 ++ s.wordsOf .tmCnt 64 ++ s.wordsOf .cryTaken 64 ++ s.wordsOf .lnCnt 128 ++ s.wordsOf .ldgCh 192

/-- A snapshot, into the stage that R555 gives. A snapshot that finds both stages taken is discarded, with its instant and its number. -/
def State.snapshot (s : State) : State :=
  let ws := s.snapWords
  let mark := fun (u : State) => (u.setReg64 .snapTb0 0 s.tb0).setReg .snapSeq 0 (s.reg .snapSeq 0 + 1)
  if !s.groupOpen 1 then mark { s with snap := { s.snap with words := ws, overrun := false } }
  else if s.snap.second.isNone then mark { s with snap := { s.snap with second := some ws } }
  else { s with snap := { s.snap with overrun := true } }

/-! ### Places in the address space (R576, R577) -/

/-- What an address names. -/
inductive Spot where
  /-- A word of a register. -/
  | reg (ref : RegRef)
  /-- A writable memory array: 0 Channel Table, 1 scripts, 2 seeds, 3 templates. -/
  | mem (array : Nat)
  /-- The Pan window. -/
  | pan
  /-- A reserved or unmapped address. -/
  | none
  deriving DecidableEq, Repr

/-- The place of a byte address. -/
def spotOf (a : Nat) : Spot :=
  if 0x20000000 ≤ a && a < 0x20003000 then .mem 0
  else if 0x20010000 ≤ a && a < 0x20014000 then .mem 1
  else if 0x400A8000 ≤ a && a < 0x400AC000 then .mem 2
  else if 0x21000000 ≤ a && a < 0x21010000 then .mem 3
  else if 0x22000000 ≤ a && a < 0x22200000 then .pan
  else match regAt (a - a % 4) with
    | some ref => .reg ref
    | none => .none

/-- The domain of a byte address (R576). -/
def spotDomain (a : Nat) : Nat :=
  if a < 0x40000000 then (if 0x22000000 ≤ a then 8 else if 0x21000000 ≤ a then 7 else 0)
  else
    let port := a / 0x1000 % 16
    match a / 0x10000 % 16 with
    | 3 => 11
    | 4 => if 0x40040080 ≤ a && a < 0x40040100 then 0 else 11
    | 6 => if port < 6 then 3 else 4
    | 7 => if port < 3 then 3 else 4
    | 8 => if 0x400800A0 ≤ a && a < 0x400800A4 then 10 else 5
    | 9 => 6
    | 10 => 7
    | 11 => 8
    | 12 => 10
    | 13 => 9
    | 14 => 1
    | _ => 0

/-- The function that alone owns a register, as KIND and INDEX (R562). -/
def ownerOf : Reg → Nat → Option (Nat × Nat)
  | .sspCfg, n | .sspClk, n | .sspTiming, n | .sspEvt, n | .sspCnt, n | .sspStat, n => some (0, n)
  | .i3cCfg, n | .i3cClk, n | .i3cEvt, n | .i3cCnt, n | .i3cLastst, n => some (0, 12 + n)
  | .i3cTgt, n | .i3cPid, n => some (0, 12 + n / 8)
  | .crySeedstat, n | .cryDwell, n | .cryTaken, n => some (2, n)
  | .cryFeat, n => some (2, n / 4)
  | .panCfg, n | .panWm, n | .panWp, n | .panRp, n | .panMark, n | .panDrop, n | .panSeq, n => some (4, n)
  | .rfCfg, _ | .rfAddr, _ | .rfLasync, _ | .rfMac, _ | .rfStat, _ | .rfEvt, _ | .rfCnt, _ => some (5, 0)
  | .legLink, n | .legLinkcnt, n => some (6, n)
  | .icAck, n | .icEoi, n | .icTgtcfg, n | .icStat, n | .icPriv, n | .icPrivcfg, n | .icDbell, n => some (7, n)
  | _, _ => none

/-- Is the place a function's own, and that function fenced (R545)? -/
def State.spotFenced (s : State) (a : Nat) : Bool :=
  match spotOf a with
  | .reg ref => match ownerOf ref.reg ref.inst with
    | some (k, i) => s.isFenced k i
    | none => false
  | .mem 2 => s.isFenced 2 ((a - 0x400A8000) / 256)
  | _ => false

/-! ### Judging an access (R541, R545, R599) -/

/-- What the checks of R599 make of an access. -/
inductive Verdict where
  /-- It is served. -/
  | pass
  /-- A bus error; the status that R88 gives it. -/
  | bus (status : Nat)
  /-- Refused for privilege: 0 an access mark or a memory array, 1 R525, 2 R539. -/
  | barred (why : Nat)
  deriving DecidableEq, Repr

/-- The shape of an access of `n` bytes at `a` (step 1). -/
def shapeOk (a n : Nat) (write : Bool) : Bool :=
  let b := a % 4
  let aligned := if n = 8 then b = 0 else if n = 4 then b = 0 else if n = 2 then b = 0 || b = 2 else n = 1
  aligned && match spotOf a with
    | .none => false
    | .mem _ | .pan => n ≠ 8
    | .reg ref =>
      let w := ref.reg.row
      if n = 8 then w.pair && !ref.high
      else !write || (!w.pair && (n = 4 || !(w.access = .rc || w.access = .w1c || w.access = .wo || w.noNarrow)))

/-- Ownership of a sluice's registers (R525): a host of privilege `p` may write. -/
def State.ownOk (s : State) (h n p : Nat) (ownReg : Bool) : Bool :=
  let o := s.reg .slOwn n
  !(bitAt o 31 && p < 2) && (ownReg || (if bits o 2 0 < 4 then h = bits o 2 0 else 1 ≤ p))

/-- Privilege (step 3). -/
def State.privJudge (s : State) (h a : Nat) (write : Bool) : Verdict :=
  let p := s.privOf h
  match spotOf a with
  | .mem _ => if write && p = 0 then .barred 0 else .pass
  | .reg ref =>
    if ref.reg.row.priv && p = 0 then .barred 0
    else match ref.reg with
      | .icAck | .icEoi | .icPrivcfg => if ref.inst = h then .pass else .barred 2
      | .slCtl | .slSrc | .slLut | .slTaska | .slTaskb => if !write || s.ownOk h ref.inst p false then .pass else .barred 1
      | .slOwn => if !write || s.ownOk h ref.inst p true then .pass else .barred 1
      | _ => .pass
  | _ => .pass

/-- Does a write of `v` set a reserved bit of a register that a write can change (step 4)? `v` holds the bytes written, in their places. -/
def setsReserved (ref : RegRef) (v : Nat) : Bool :=
  let w := ref.reg.row
  let all := if w.pair then 2 ^ 64 - 1 else 2 ^ 32 - 1
  !w.wbits.isEmpty && (v &&& (all ^^^ (bitsMask w.wbits ||| bitsMask w.robits))) ≠ 0

/-- The refusals of other chapters (step 5): R117, R235, R318. -/
def State.refused (s : State) (a n : Nat) : Bool :=
  match spotOf a with
  | .mem 0 => s.tableRefused ((a - 0x20000000) / 64)
  | .mem 2 | .mem 3 => (List.range n).any (fun k => s.seedByteRefused (a + k))
  | .pan => true
  | _ => false

/-- The bytes of a write as they stand in their word. -/
def placed (a n v : Nat) : Nat := if n = 8 then v else v * 2 ^ (8 * (a % 4))

/-- R599: the first rule that applies decides. `wr` holds the bytes of a write. -/
def State.judge (s : State) (h a n : Nat) (wr : Option Nat) : Verdict :=
  let write := wr.isSome
  if !shapeOk a n write then .bus stBadParam
  else if s.isFenced 8 (spotDomain a) then .bus stDomainOff
  else if write && s.spotFenced a then .bus stFenced
  else match s.privJudge h a write with
    | .pass =>
      match wr with
      | none => .pass
      | some v =>
        let rsv := match spotOf a with
          | .reg ref => setsReserved ref (placed a n v)
          | _ => false
        if rsv then .bus stBadParam else if s.refused a n then .bus stBusy else .pass
    | other => other

/-- What a refused or an accepted access leaves behind (R545, R546, R548, R525, R539, R569). -/
def State.noteAccess (s : State) (h a : Nat) (v : Verdict) : State :=
  match v with
  | .pass => (s.logEnd 15 h 0x08).logEnd 15 h 0x09
  | .bus _ =>
    let s1 := (s.setReg .chkBuserr h (w32 (a - a % 4))).addCnt .chkBuscnt 0 (8 * h + 7) (8 * h) 1
    ((s1.evt .chkEvt 0 1).logEnd 15 h 0x09).logErr 15 h 0x08
  | .barred why =>
    let s1 := if why = 0 then s.evt .chkEvt 0 2 else if why = 1 then s.evt .slEvt 0 1 else s
    (s1.logEnd 15 h 0x08).logErr 15 h 0x09

/-! ### Reading (R542, R544, R555) -/

/-- The capture group that holds a register, with the words the group counts (R555). -/
def groupOf : Reg → Nat → Option (Nat × Nat)
  | .tbCap, _ | .tbCapst, _ => some (0, 9)
  | .snapHold, _ | .snapPair, _ | .snapHold2, _ => some (1, 640)
  | .tmCtl, n | .tmCap, n => some (2 + n, 2)
  | _, _ => none

/-- Host `h` has read the words at the addresses: the group is open for it until it has read every word. -/
def State.noteGroup (s : State) (h : Nat) (ref : RegRef) (l : List Nat) : State :=
  match groupOf ref.reg ref.inst with
  | none => s
  | some (g, total) =>
    let key := 4 * g + h
    let old := ((s.groups.find? (fun p => p.1 == key)).map (·.2)).getD []
    let new := l.foldl (fun m a => if m.contains a then m else a :: m) old
    if total ≤ new.length then s.groupClose g h
    else { s with groups := (key, new) :: s.groups.filter (fun p => p.1 ≠ key) }

/-- The bits of the bytes that an access of `n` bytes at `a` takes. -/
def byteMask (a n : Nat) : Word := w32 ((2 ^ (8 * n) - 1) * 2 ^ (8 * (a % 4)))

/-- A pair's value for a read at this grant; TB_VALn is read by the read latch (R369). -/
def State.pairRead (s : State) (r : Reg) (n : Nat) : State × Nat := if r = .tbVal then s.tbRead n else (s, s.pairVal r n)

/-- Read one word of a pair: the low word latches the high one, which the host's next read of it returns (R544). -/
def State.readHalf (s : State) (h a : Nat) (ref : RegRef) : State × Word :=
  let base := a - a % 4
  if ref.high then
    let x := s.host h
    match x.pairLatch.find? (fun p => p.1 == base) with
    | some (_, w) => (s.modHost h (fun y => { y with pairLatch := y.pairLatch.filter (fun p => p.1 ≠ base) }), w)
    | none => (s, w32 (s.pairVal ref.reg ref.inst / 2 ^ 32))
  else
    let (s0, v) := s.pairRead ref.reg ref.inst
    (s0.modHost h (fun y => { y with pairLatch := (base + 4, w32 (v / 2 ^ 32)) :: y.pairLatch.filter (fun p => p.1 ≠ base + 4) }), w32 v)

/-- Read a register word for an access of `n` bytes at `a` (R10, R542). -/
def State.readReg (s : State) (h a n : Nat) (ref : RegRef) : State × Word :=
  if ref.reg.row.pair then s.readHalf h a ref
  else match ref.reg with
    | .icAck => s.ackRead ref.inst
    | r =>
      let w := s.regWord r ref.inst
      if r.row.access = .rc then (s.setReg r ref.inst (w &&& ~~~(byteMask a n)), w) else (s, w)

/-- Read `n` bytes at `a`, an access that has been judged. -/
def State.readUnit (s : State) (h a n : Nat) : State × Nat :=
  match spotOf a with
  | .reg ref =>
    let base := a - a % 4
    if n = 8 then let (s1, v) := s.pairRead ref.reg ref.inst; (s1.noteGroup h ref [base, base + 4], v)
    else
      let (s1, w) := s.readReg h a n ref
      (s1.noteGroup h ref [base], w.toNat / 2 ^ (8 * (a % 4)) % 2 ^ (8 * n))
  | .none => (s, 0)
  | _ => (s, ((List.range n).map (fun k => (s.rdByte (a + k)).toNat * 256 ^ k)).sum)

/-! ### Writing (R543, R550) -/

/-- The check unit that covers a register (R556). -/
def regUnit : Reg → Nat → Option Nat
  | .sspCfg, n | .sspClk, n | .sspTiming, n => some (192 + n)
  | .i3cCfg, n | .i3cClk, n => some (204 + n)
  | .i3cTgt, n => some (204 + n / 8)
  | .afeAinCfg, _ | .afePdmCfg, _ => some 210
  | .panCfg, n | .panWm, n => some (211 + n)
  | .panTide, _ => some 243
  | .tbCtl, _ | .tbUtc, _ | .tbSynccfg, _ | .tbLink, _ => some 244
  | .slCtl, _ | .slSrc, _ | .slLut, _ | .slTaska, _ | .slTaskb, _ => some 245
  | .legCfg, _ => some 246
  | .rfCfg, _ | .rfAddr, _ | .rfLasync, _ | .rfMac, _ => some 247
  | .ldgSns, _ | .plnCfg, _ | .plnLimits, _ | .plnBudget, _ => some 248
  | _, _ => none

/-- A write of a unit sets its dirty bit (R558). -/
def State.touchReg (s : State) (r : Reg) (n : Nat) : State :=
  match regUnit r n with
  | some u => s.modUnit u (fun x => { x with dirty := true })
  | none => s

/-- LDG_SNSn applies at the next epoch boundary, or at once while MODE is OFF (R476). -/
def State.applySns (s : State) (n : Nat) : State := if s.plnModeInForce = 0 then s.setApp .ldgSns n (s.reg .ldgSns n) else s

/-- AFE inputs apply at once where no enabled channel names the input, or where that channel's boundary is at once (R112, R195). -/
def State.applyAfeNow (s : State) (i : Nat) : State :=
  match s.preChan i with
  | none => s.applyAfe i none
  | some c => if !s.running c then s.applyAfe i none else if s.atOnce c then s.boundary c else s

/-- A controller port without a transaction is at its boundary. A port in the target role may have a frame open, and waits for BLOCK_BOUNDARY_APPLY (R176). -/
def State.applySspNow (s : State) (p : Nat) : State := if s.portTarget p then s else s.applySsp p

/-- Let the block apply a buffered register where its boundary is at once (R551); `n` is the register's instance. -/
def State.applyNow (s : State) (r : Reg) (n : Nat) : State :=
  match r with
  | .ldgSns => s.applySns n
  | .plnCfg => s.afterPlanWrite
  | .tbCtl => s.applyTbCtl n
  | .slCtl | .slSrc | .slLut | .slTaska | .slTaskb => s.applySluice n
  | .sspCfg | .sspClk | .sspTiming => s.applySspNow n
  | .i3cCfg | .i3cClk => s.applyI3c (12 + n)
  | .i3cTgt => s.applyI3c (12 + n / 8)
  | .afeAinCfg => s.applyAfeNow n
  | .afePdmCfg => s.applyAfeNow (16 + n)
  | .panCfg | .panWm => s.applyPanCfg n
  | .legCfg => s.applyLegCfg.xoByLegus
  | .rfCfg | .rfAddr | .rfLasync | .rfMac => s.rfBoundary.rfKick
  | _ => s

/-- A write of TM_CTLn: the configuration, then CAPTURE, RESET and START as they are set (log 31). A running timer whose MODE changes counts on from its count. -/
def State.writeTmCtl (s : State) (n : Nat) (v : Word) : State :=
  let s0 := if bitAt v 28 = s.tmEvents n then s else s.modTimer n (fun t => { t with count := s.timerCount n, start := s.tb0u })
  let s1 := s0.setReg .tmCtl n (setBits (setBits (setBits v 31 29 0) 27 24 0) 10 9 0)
  let s2 := if bitAt v 29 then s1.timerCapture n else s1
  let s3 := if bitAt v 30 then s2.timerReset n s.tb0u else s2
  if bitAt v 31 then (s3.timerStart n s.tb0u).1 else s3

/-- A write of IC_SRCs: its settings, and PENDING cleared by a 1 (R536). -/
def State.writeSrc (s : State) (k : Nat) (v : Word) : State :=
  let s1 := s.setReg .icSrc k (setBits v 2 0 0)
  if bitAt v 0 then s1.setSrc k Src.reset else s1

/-- A write of an immediate or a write-only register, or of CHK_SUM; `new` is the merged word, `v` the bytes written. -/
def State.writeNow (s : State) (h : Nat) (r : Reg) (n : Nat) (new v : Word) : State :=
  match r with
  | .tbCapcmd => if bitAt v 0 then s.tbCapture else s
  | .tmCtl => s.writeTmCtl n new
  | .tmCnt => s.timerSetCount n new.toNat
  | .slFire => s.fireSluice (bits v 5 0) h false
  | .slPin => s.writeSlPin n new
  | .slOwn => if 5 < bits new 2 0 then s.evt .slEvt 0 0 else (s.setReg .slOwn n new).logEnd 12 n 0x26
  | .icEoi => s.eoiWrite n (bits v 9 0)
  | .icTgtcfg => if s.tgtcfgOk n new then s.setReg .icTgtcfg n new else s.evt .icEvt 0 8
  | .icDbell => if bitAt v 0 then s.raisePriv n 1 else s
  | .icSrc => s.writeSrc n new
  | .afePdmclk => s.writePdmclk new
  | .afeExc => s.writeExc n new
  | .panCmd => if bitAt v 0 then s.panDropPacket else s
  | .panRp => s.panRpWrite n (bits new 18 0)
  | .chkSum => s.setReg .chkSum 0 (s.reg .chkSum 0 &&& ~~~v)
  | .chkCmd => if bitAt v 0 then s.snapshot else s
  | .lifeCfg => s.writeLifeCfg new
  | _ => s.setReg r n new

/-- The bits of a buffered register that a host's write stores: on a hub that takes SYNCs, host writes to TB_UTC but for UTC_TB are ignored (R363). -/
def State.storable (s : State) (r : Reg) : Word :=
  let w := w32 (bitsMask r.row.wbits)
  if r = .tbUtc && s.takesSync then w &&& 0x03000000#32 else w

/-- A write of a 32-bit register, `v` the bytes written in their places and `mask` which bytes they are (R543). A register that only hardware writes
ignores it. -/
def State.writeReg (s : State) (h : Nat) (r : Reg) (n : Nat) (v mask : Word) : State :=
  let w := r.row
  match w.access with
  | .ro | .rc => s
  | .rwb =>
    let can := mask &&& s.storable r
    let s1 := (s.setReg r n ((s.reg r n &&& ~~~can) ||| (v &&& can))).touchReg r n
    let s2 := match r with
      | .slCtl | .slSrc | .slLut | .slTaska | .slTaskb => s1.logEnd 12 n 0x26
      | _ => s1
    s2.applyNow r n
  | _ =>
    let all := w32 (bitsMask w.wbits)
    let can := mask &&& all
    s.writeNow h r n (((s.regWord r n &&& ~~~can) ||| (v &&& can)) &&& all) v

/-- A write of a whole 64-bit pair. -/
def State.writePair (s : State) (r : Reg) (n v : Nat) : State :=
  match r with
  | .ldgStore => s.ldgStoreWrite v
  | .plnReserve => s.plnReserveWrite v
  | .plnBudget => ((s.setReg64 .plnBudget n v).touchReg .plnBudget n).afterPlanWrite
  | _ => s

/-- The bytes of a number, least significant first. -/
def bytesOf (n v : Nat) : List Byte := (List.range n).map (fun k => BitVec.ofNat 8 (v / 256 ^ k))

/-- Write `n` bytes at `a`, an access that has been judged. -/
def State.writeUnit (s : State) (h a n v : Nat) : State :=
  match spotOf a with
  | .reg ref =>
    if n = 8 then s.writePair ref.reg ref.inst v
    else if ref.reg.row.pair then s
    else s.writeReg h ref.reg ref.inst (w32 (placed a n v)) (byteMask a n)
  | .mem 0 => (s.tableStore a (bytesOf n v)).getD s
  | .mem 1 => s.wrBytes a (bytesOf n v)
  | .mem _ => (s.seedStore a (bytesOf n v)).getD s
  | _ => s

/-! ### One access -/

/-- One read by host `h` of `n` bytes at `a`: what it leaves, the verdict, and the value, 0 unless it passes. -/
def State.accessRead (s : State) (h a n : Nat) : State × Verdict × Nat :=
  match s.judge h a n none with
  | .pass => let (s1, v) := s.readUnit h a n; (s1.noteAccess h a .pass, .pass, v)
  | v => (s.noteAccess h a v, v, 0)

/-- One write. -/
def State.accessWrite (s : State) (h a n v : Nat) : State × Verdict :=
  match s.judge h a n (some v) with
  | .pass => ((s.writeUnit h a n v).noteAccess h a .pass, .pass)
  | x => (s.noteAccess h a x, x)

end Sys2Proof.Machine
end

