-- ==== Sys2Proof/Machine/Faults.lean ====
section
/-! DEFINITION. Fencing of functions and domains, the configuration check, and the bittern log's opcodes (spec 18, R556 to R575; R93, R94, R603). -/

namespace Sys2Proof.Machine

/-! ### Fencing (R562 to R566) -/

/-- The functions that lie in a domain (R477), as KIND and INDEX. -/
def domainFuncs (d : Nat) : List (Nat × Nat) :=
  match d with
  | 2 => (List.range 28).map (fun i => (3, 16 * (svcCode i).1 + (svcCode i).2))
  | 3 => [0, 1, 2, 3, 4, 5, 12, 13, 14].map (fun p => (0, p))
  | 4 => [6, 7, 8, 9, 10, 11, 15, 16, 17].map (fun p => (0, p))
  | 7 => (List.range 64).map (fun n => (2, n))
  | 8 => (List.range 32).map (fun n => (4, n))
  | 9 => [(5, 0)]
  | 10 => [(6, 0), (6, 1)]
  | _ => []

/-- Does the selector name a function that can be fenced (R562)? -/
def selectorOk (kind idx : Nat) : Bool :=
  match kind with
  | 0 => decide (idx < 18)
  | 1 => decide (idx < 192)
  | 2 => decide (idx < 64)
  | 3 => decide (idx % 16 < (serviceShape (idx / 16)).1)
  | 4 => decide (idx < 32)
  | 5 => idx == 0
  | 6 => decide (idx < 2)
  | 7 => decide (idx < 4)
  | 8 => decide (2 ≤ idx) && decide (idx < 12)
  | _ => false

/-- The fence of one function, with the safe state of its own chapter and the cause that the log entry names. -/
def State.fenceOne (s : State) (kind idx cause : Nat) : State :=
  if s.isFenced kind idx then s
  else match kind with
    | 0 => s.fencePort idx cause
    | 1 => s.fenceChan idx cause
    | 3 => s.fenceSvc (svcNo (idx / 16) (idx % 16)) cause
    | 5 => s.fenceRadio cause
    | 7 => s.fenceBank idx cause
    | _ => s.fenceMark kind idx cause

/-- What a Tower without power loses (R603): each input of its entry FIFO is counted in its channel's OVERFLOW (R18); stops that waited for such an input wait no more. The blanks of
the inputs' bitstreams run on. -/
def State.loseTower (s : State) : State :=
  let s0 := s.twr.entry.foldl (fun u x => u.entryDrop x.chan) s
  let pre := Tab.mapVals (fun _ => PreStage.reset) s0.twr.pre (fun x => { PreStage.reset with blank := x.blank, noRestart := x.noRestart })
  (List.range 192).foldl (fun u c => u.applyStops c) (({ s0 with twr := { TowerBlk.reset with macs := s.twr.macs, pre := pre } }).flushItems (fun _ => true)).1

/-- What a domain loses when its rail is removed (R565, R603, log 32). -/
def State.domainLoses (s : State) (d : Nat) : State :=
  match d with
  | 5 => { s with afe := AfeBlk.reset }
  | 6 => s.loseTower
  | 7 => { s with cry := { s.cry with fifo := [] } }
  | 8 => (s.panReserveHold).clearMem 0x22000000 0x22200000
  | 10 => (s.linkDown 0).linkDown 1
  | 11 => { s with evq := [] }
  | _ => s

/-- The fence of a domain (R565): first every function in it, each as its own fence acts, then the rail. -/
def State.fenceDomain (s : State) (d cause : Nat) : State :=
  if s.isFenced 8 d then s
  else
    let s1 := (domainFuncs d).foldl (fun u f => u.fenceOne f.1 f.2 cause) s
    ((s1.fenceMark 8 d cause).domainLoses d).powerDom d 0

/-- A fence by selector. -/
def State.fence (s : State) (kind idx cause : Nat) : State := if kind = 8 then s.fenceDomain idx cause else s.fenceOne kind idx cause

/-- UNFENCE of one function, to the state of its own chapter. -/
def State.unfenceOne (s : State) (kind idx : Nat) : State :=
  if !s.isFenced kind idx then s
  else match kind with
    | 0 => s.unfencePort idx
    | 1 => s.unfenceChan idx
    | 2 => s.unfenceSeed idx
    | 3 => s.unfenceSvc (svcNo (idx / 16) (idx % 16))
    | 5 => s.unfenceRadio
    | _ => s.unfenceMark kind idx

/-- The Tower after its UNFENCE (R603): the running channels take pool words again and restart, with GAP on the first output. -/
def State.towerBack (s : State) : State :=
  s.runningChans.foldl (fun u c =>
    (((u.poolReserve c (u.ad c)).restartChan c false).modTwrCh c (fun t => { t with seed := true, pend := { t.pend with gap := true } }))) s

/-- The PDM clocks start again with PD10: their inputs are blanked (R191). -/
def State.pdmBack (s : State) : State := (List.range 8).foldl (fun u n => if u.pdmClock (16 + n) then u.blankInput (16 + n) else u) s

/-- Power a domain again. The registers that the PD0 state area held are the ones it shows. -/
def State.domainBack (s : State) (d : Nat) : State :=
  if s.pwr.floor ≠ 0 then s
  else match d with
    | 2 => s.powerPlanned 2
    | 5 => s.afeWake
    | 6 => (s.powerPlanned 6).towerBack
    | 7 => s.powerPlanned 7
    | 9 => s.powerRf
    | 10 => (s.powerDom 10 2).pdmBack
    | 11 => (s.powerDom 11 2).fabricWake
    | _ => s.powerDom d 2

/-- UNFENCE of a domain (R566): power, then every function in it. -/
def State.unfenceDomain (s : State) (d : Nat) : State :=
  if !s.isFenced 8 d then s
  else
    let s1 := (s.unfenceMark 8 d).domainBack d
    (domainFuncs d).foldl (fun u f => u.unfenceOne f.1 f.2) s1

/-- UNFENCE by selector. -/
def State.unfence (s : State) (kind idx : Nat) : State := if kind = 8 then s.unfenceDomain idx else s.unfenceOne kind idx

/-- FENCE (R573, R575). -/
def opFence : OpDef where
  code := 0x92
  priv := 1
  async := false
  lenOk := fun n _ => n == 1
  valid := fun _ c => c.fld 0 31 12 == 0 && selectorOk (c.fld 0 11 8) (c.fld 0 7 0)
  allow := fun _ _ => 0
  run := fun s c => (s.fence (c.fld 0 11 8) (c.fld 0 7 0) 0x80, 0, [])

/-- UNFENCE. A function whose domain is fenced is answered DOMAIN_OFF. -/
def opUnfence : OpDef where
  code := 0x93
  priv := 1
  async := false
  lenOk := fun n _ => n == 1
  valid := fun _ c => c.fld 0 31 12 == 0 && selectorOk (c.fld 0 11 8) (c.fld 0 7 0)
  allow := fun s c => if c.fld 0 11 8 ≠ 8 && s.isFenced 8 (funcDomain (c.fld 0 11 8) (c.fld 0 7 0)) then stDomainOff else 0
  run := fun s c => (s.unfence (c.fld 0 11 8) (c.fld 0 7 0), 0, [])

/-- A number whose bit `k` tells `p` of the k-th of `n` things. -/
def maskOf (n : Nat) (p : Nat → Bool) : Nat := ((List.range n).map (fun k => b2n (p k) * 2 ^ k)).sum

/-- The domains that are fenced, as bits. -/
def State.domFenced (s : State) : Nat := maskOf 12 (fun d => s.isFenced 8 d)

/-- FENCE_STATUS (R574). -/
def opFenceStatus : OpDef where
  code := 0x94
  priv := 0
  async := false
  lenOk := fun n _ => n == 0
  valid := fun _ _ => true
  allow := fun _ _ => 0
  run := fun s _ =>
    let svc := fun k => s.svcFenced k
    (s, 0, [w32 (s.domFenced + b2n (s.isFenced 5 0) * 2 ^ 12 + maskOf 2 (s.isFenced 6) * 2 ^ 13 + maskOf 4 (s.isFenced 7) * 2 ^ 15),
      w32 (maskOf 18 (s.isFenced 0)), w32 (maskOf 32 (s.isFenced 4)),
      w32 (maskOf 8 svc + maskOf 16 (fun k => svc (9 + k)) * 2 ^ 8 + b2n (svc 8) * 2 ^ 24 + b2n (svc 25) * 2 ^ 25 + b2n (svc 26) * 2 ^ 26 + b2n (svc 27) * 2 ^ 27)])

/-! ### The bittern log's opcodes (R567, R573 to R575) -/

/-- The two words of a log entry. -/
def LogEntry.words (e : LogEntry) : List Word := [w32 e.time, w32 (e.time / 2 ^ 32 % 16 * 2 ^ 28 + e.source % 2 ^ 12 * 2 ^ 16 + e.code * 2 ^ 8 + e.rep)]

/-- LOG_READ. -/
def opLogRead : OpDef where
  code := 0x90
  priv := 0
  async := false
  lenOk := fun n _ => n == 2
  valid := fun s c => c.fld 0 31 8 == 0 && c.fld 1 31 5 == 0 && 1 ≤ c.fld 1 4 0 && c.fld 0 7 0 + c.fld 1 4 0 ≤ s.log.length
  allow := fun _ _ => 0
  run := fun s c =>
    let l := (s.log.drop (c.fld 0 7 0)).take (c.fld 1 4 0)
    (s, 0, w32 (s.log.length * 2 ^ 23 + l.length * 2 ^ 18 + b2n s.logSat * 2 ^ 17) :: l.flatMap LogEntry.words)

/-- LOG_CLEAR. -/
def opLogClear : OpDef where
  code := 0x91
  priv := 1
  async := false
  lenOk := fun n _ => n == 0
  valid := fun _ _ => true
  allow := fun _ _ => 0
  run := fun s _ => ({ s with log := [], logSat := false }, 0, [w32 s.log.length])

/-! ### The configuration check (R556 to R560) -/

/-- The stored word of a register, but for the bits that hardware writes (R556). -/
def State.checkWord (s : State) (r : Reg) (n : Nat) : Word :=
  let w := s.reg r n
  match r with
  | .i3cTgt => setBits w 25 25 0
  | .tbUtc => setBits (setBits w 31 29 0) 7 0 0
  | .tbLink => setBits w 15 0 0
  | .rfCfg => setBits w 7 0 0
  | _ => w

/-- The words of check unit `u`, in ascending address order (R556). -/
def State.unitWords (s : State) (u : Nat) : List Word :=
  let inst := fun (r : Reg) (k : Nat) => (List.range k).map (fun n => s.checkWord r n)
  if u < 192 then s.rdWords (0x20000000 + 64 * u) 15
  else if u < 204 then [Reg.sspCfg, .sspClk, .sspTiming].map (fun r => s.checkWord r (u - 192))
  else if u < 210 then
    let n := u - 204
    [s.checkWord .i3cCfg n, s.checkWord .i3cClk n] ++ (List.range 8).map (fun k => s.checkWord .i3cTgt (8 * n + k))
  else if u = 210 then inst .afeAinCfg 16 ++ inst .afePdmCfg 8
  else if u < 243 then [s.checkWord .panCfg (u - 211), s.checkWord .panWm (u - 211)]
  else if u = 243 then [s.checkWord .panTide 0]
  else if u = 244 then [1, 2, 3].map (s.checkWord .tbCtl) ++ [s.checkWord .tbUtc 0, s.checkWord .tbSynccfg 0] ++ inst .tbLink 3
  else if u = 245 then (List.range 64).flatMap (fun n => [Reg.slCtl, .slSrc, .slLut, .slTaska, .slTaskb].map (fun r => s.checkWord r n))
  else if u = 246 then [s.checkWord .legCfg 0]
  else if u = 247 then [Reg.rfCfg, .rfAddr, .rfLasync, .rfMac].map (fun r => s.checkWord r 0)
  else if u = 248 then inst .ldgSns 2 ++ [s.checkWord .plnCfg 0, s.checkWord .plnLimits 0] ++ pairOf (s.reg64 .plnBudget 0)
  else (List.range (blockSize (svcCode (u - 249)).1)).map (fun w => s.svcStored (u - 249) w)

/-- The domain that holds a unit's registers. -/
def unitDomain (u : Nat) : Nat :=
  if u < 192 then 0
  else if u < 210 then portDomain (u - 192)
  else if u = 210 then 5
  else if u < 244 then 8
  else if u = 244 then 0
  else if u = 245 then 11
  else if u = 246 then 10
  else if u = 247 then 9
  else if u = 248 then 0
  else 2

/-- The function that drift in a unit fences under policy FENCE (R556), as KIND and INDEX. -/
def unitFuncs (u : Nat) : List (Nat × Nat) :=
  if u < 192 then [(1, u)]
  else if u < 210 then [(0, u - 192)]
  else if u = 210 then [(8, 5)]
  else if u < 243 then [(4, u - 211)]
  else if u = 244 then [(3, 16 * (svcCode 26).1)]
  else if u = 246 then [(6, 0), (6, 1)]
  else if u = 247 then [(5, 0)]
  else if 249 ≤ u && u < 277 then [(3, 16 * (svcCode (u - 249)).1 + (svcCode (u - 249)).2)]
  else []

/-- Does channel `c`'s applied descriptor fail its own CRC (R559)? -/
def State.descFails (s : State) (c : Nat) : Bool := descCrc (s.ad c) ≠ bits (s.desc c 15) 15 0

/-- Drift of a unit: reported once, and fenced under policy FENCE (R559). -/
def State.driftOf (s : State) (u : Nat) : State :=
  let s1 := ((((s.modUnit u (fun x => { x with drift := true })).evt .chkEvt 0 0).setReg .chkDriftu 0 (w32 u)).logErr 14 4 0x88)
  if bitAt (s1.reg .chkCtl 0) 30 && (192 ≤ u || s1.descFails u) then (unitFuncs u).foldl (fun v f => v.fence f.1 f.2 0x82) s1 else s1

/-- One unit of a pass: its CRC, unless its domain is off and an earlier result stands (R557). `take` says that the pass takes references. -/
def State.checkUnit (s : State) (take : Bool) (u : Nat) : State :=
  let x := s.unit u
  let crc := match x.last with
    | some w => if (s.dom (unitDomain u)).rail = 0 then w else crc32c (wordsBytes (s.unitWords u))
    | none => crc32c (wordsBytes (s.unitWords u))
  if take then s.setUnit u { x with ref := some crc, last := some crc, drift := false }
  else
    let s1 := s.setUnit u { x with last := some crc }
    match x.ref with
    | none => s1
    | some r => if r = crc || x.dirty || x.drift then s1 else s1.driftOf u

/-- Does some unit that has a reference, and is not dirty, differ from it? -/
def State.drifted (s : State) : Bool :=
  s.check.units.any (fun p => p.2.ref.isSome && p.2.ref ≠ p.2.last && !p.2.dirty)

/-- The end of a pass: CHK_CUR, PASSES and MATCH, and what a commit or an autostart asks for (R558, R560). -/
def State.endPass (s : State) (auto : Bool) (crc : Word) : State :=
  let s1 := match s.check.commit with
    | some (h, tag, want) =>
      (({ s with check := { s.check with commit := none } }).setReg .cfgRef 0 crc).complete h 0x0A tag want stOk [crc] false
    | none => s
  let s2 := if auto && s1.reg .cfgRef 0 ≠ crc then ((s1.evt .chkEvt 0 0).setReg .chkDriftu 0 0x1FF#32).logErr 14 4 0x88
    else if s1.drifted then s1 else s1.logEnd 14 4 0x88
  (s2.setReg .chkCur 0 crc).setReg .chkStat 0
    (w32 (b2n (s2.reg .cfgRef 0 == crc) * 2 ^ 31 + (s2.fld .chkStat 0 15 0 + 1) % 65536))

/-- One full pass. The first pass after an autostart takes the references (R560). -/
def State.checkPass (s : State) : State :=
  let auto := s.check.commit.isNone && s.check.units.all (fun p => p.2.ref.isNone) && (s.pwr.autostart == 1 || s.pwr.autostart == 2)
  let crc := crc32c (wordsBytes ((List.range 277).flatMap s.unitWords))
  ((List.range 277).foldl (fun u k => u.checkUnit (auto || s.check.commit.isSome) k) s).endPass auto crc

/-- CHECK_PASS: in ACTIVE, while RUN is 1; a CFG_COMMIT in progress gets its pass in any case (log 33). -/
def execCheckPass (s : State) : Host.Outcome State Fault Refusal :=
  act (onlyIf (s.pwr.phase = 2 && s.pwr.floor = 0 && (bitAt (s.reg .chkCtl 0) 31 || s.check.commit.isSome)) State.checkPass) s

/-- CFG_COMMIT (R93, R558). -/
def opCfgCommit : OpDef where
  code := 0x0A
  priv := 1
  async := true
  lenOk := fun n _ => n == 0
  valid := fun _ _ => true
  allow := fun s _ => if s.check.commit.isSome then stBusy else 0
  run := fun s c =>
    if s.check.commit.isSome then (s, stBusy, [])
    else ({ s with check := { units := Tab.mapVals (fun _ => ChkUnit.reset) s.check.units (fun x => { x with dirty := false, drift := false }),
                              commit := some (c.host, c.tag, c.reply) } }, stAccepted, [])

/-- SNAPSHOT (R94). -/
def opSnapshot : OpDef where
  code := 0x0B
  priv := 0
  async := false
  lenOk := fun n _ => n == 0
  valid := fun _ _ => true
  allow := fun _ _ => 0
  run := fun s _ => (s.snapshot, 0, pairOf s.tb0)

end Sys2Proof.Machine
end

