-- ==== Sys2Proof/Machine/Session.lean ====
section
/-! DEFINITION. The system opcodes (spec 03, R84 to R95): identity, sessions, register access by packet, host sleep, floors, shutdown and reset. -/

namespace Sys2Proof.Machine

/-- An opcode without parameters that every host may send and nothing refuses. -/
def plainOp (code : Nat) (run : State → Call → State × Nat × List Word) : OpDef where
  code := code
  priv := 0
  async := false
  lenOk := fun n _ => n == 0
  valid := fun _ _ => true
  allow := fun _ _ => 0
  run := run

/-- SYS_NOP. -/
def opSysNop : OpDef := plainOp 0x00 (fun s _ => (s, stOk, []))

/-- SYS_IDENT (R84). -/
def opSysIdent : OpDef := plainOp 0x01 (fun s c =>
  (s, stOk, [w32 (0x0192 * 2 ^ 16 + (if Config.dieIsB then 0x0B else 0x0A) * 2 ^ 8)] ++ pairOf Config.uid.toNat ++
    [w32 (ownCmdset * 2 ^ 16 + s.slt.common), s.salterVer, w32 (b2n s.provisioned * 2 ^ 30 + s.privOf c.host * 2 ^ 28 + s.pwr.cause)]))

/-- The number of the next session (R85). -/
def State.nextSession (s : State) : Nat := if 0xFFFF ≤ s.sessionNo then 1 else s.sessionNo + 1

/-- SYS_SESSION_OPEN (R85). -/
def opSysSessionOpen : OpDef :=
  { plainOp 0x02 (fun s c =>
      let n := s.nextSession
      (({ s with sessionNo := n }).modHost c.host (fun x => { x with session := some c.port, closing := false }), stOk,
        [w32 (c.port * 2 ^ 18 + s.privOf c.host * 2 ^ 16 + n), w32 s.life.boots])) with
    allow := fun s c => if (s.host c.host).asyncOut.isEmpty then 0 else stBusy }

/-- SYS_SESSION_CLOSE (R86). -/
def opSysSessionClose : OpDef :=
  { plainOp 0x03 (fun s c => (s.modHost c.host (fun x => { x with session := none, closing := false }), stOk, [])) with
    allow := fun s c => if (s.host c.host).asyncOut.isEmpty then 0 else stBusy }

/-! ### Register access by packet (R87, R88) -/

/-- The status that R88 gives a verdict. -/
def Verdict.status : Verdict → Nat
  | .pass => stOk
  | .bus st => st
  | .barred _ => stNotPermitted

/-- Does `a` name the low word of a 64-bit pair? -/
def pairLow (a : Nat) : Bool :=
  match spotOf a with
  | .reg ref => ref.reg.row.pair && !ref.high && a % 4 == 0
  | _ => false

/-- Read words from `a` up, one at a time, until one fails. -/
def State.regReadWords (s : State) (h : Nat) : Nat → Nat → List Word → State × Nat × List Word
  | _, 0, acc => (s, stOk, acc.reverse)
  | a, n + 1, acc =>
    let (s1, v, w) := s.accessRead h a 4
    match v with
    | .pass => State.regReadWords s1 h (a + 4) n (w32 w :: acc)
    | x => (s1, x.status, acc.reverse)

/-- REG_READ: COUNT words, or a pair at one grant (R88). The reply holds the words read before a failure. -/
def State.regRead (s : State) (h a n : Nat) : State × Nat × List Word :=
  if n = 2 && pairLow a then
    let (s1, v, w) := s.accessRead h a 8
    match v with
    | .pass => (s1, stOk, 2 :: pairOf w)
    | x => (s1, x.status, [0])
  else
    let (s1, st, l) := s.regReadWords h a n []
    (s1, st, w32 l.length :: l)

/-- Write words from `a` up until one fails; `k` words are done. -/
def State.regWriteWords (s : State) (h : Nat) : Nat → List Word → Nat → State × Nat × Nat
  | _, [], k => (s, stOk, k)
  | a, w :: t, k =>
    let (s1, v) := s.accessWrite h a 4 w.toNat
    match v with
    | .pass => State.regWriteWords s1 h (a + 4) t (k + 1)
    | x => (s1, x.status, k)

/-- REG_WRITE. -/
def State.regWrite (s : State) (h a : Nat) (l : List Word) : State × Nat × List Word :=
  if l.length = 2 && pairLow a then
    let (s1, v) := s.accessWrite h a 8 ((l.getD 0 0).toNat + 2 ^ 32 * (l.getD 1 0).toNat)
    match v with
    | .pass => (s1, stOk, [2])
    | x => (s1, x.status, [0])
  else
    let (s1, st, k) := s.regWriteWords h a l 0
    (s1, st, [w32 k])

/-- REG_READ. -/
def opRegRead : OpDef where
  code := 0x04
  priv := 0
  async := false
  lenOk := fun n _ => n == 2
  valid := fun _ c => c.fld 1 31 6 == 0 && 1 ≤ c.fld 1 5 0 && c.fld 1 5 0 ≤ 62
  allow := fun _ _ => 0
  run := fun s c => s.regRead c.host (c.word 0).toNat (c.fld 1 5 0)

/-- REG_WRITE. -/
def opRegWrite : OpDef where
  code := 0x05
  priv := 0
  async := false
  lenOk := fun n c => 3 ≤ n && n == c.fld 1 5 0 + 2
  valid := fun _ c => c.fld 1 31 6 == 0
  allow := fun _ _ => 0
  run := fun s c => s.regWrite c.host (c.word 0).toNat (c.params.drop 2)

/-- SET_HOST_SLEEP (R89): what it does follows its reply. -/
def opSetHostSleep : OpDef := plainOp 0x06 (fun s _ => (s, stOk, []))

/-- SYS_FLOOR (R90, R37). -/
def opSysFloor : OpDef where
  code := 0x07
  priv := 1
  async := false
  lenOk := fun n _ => n == 1
  valid := fun _ c => (c.word 0).toNat < 3
  allow := fun _ _ => 0
  run := fun s c => ({ s with pwr := { s.pwr with permit := (c.word 0).toNat } }, stOk, [])

/-- SYS_SHUTDOWN (R91): SHUTDOWN_ENTRY follows. -/
def opSysShutdown : OpDef where
  code := 0x08
  priv := 1
  async := false
  lenOk := fun n _ => n == 1
  valid := fun _ c => c.fld 0 31 2 == 0
  allow := fun _ _ => 0
  run := fun s c => ({ s with pwr := { s.pwr with shutArm := some (c.host, c.tag, bitAt (c.word 0) 0, bitAt (c.word 0) 1) } }, stOk, [])

/-- SYS_RESET (R92): HOST_RESET follows. -/
def opSysReset : OpDef where
  code := 0x09
  priv := 1
  async := false
  lenOk := fun n _ => n == 0
  valid := fun _ _ => true
  allow := fun _ _ => 0
  run := fun s _ => ({ s with pwr := { s.pwr with resetArm := true } }, stOk, [])

/-- SYS_STATUS (R95): the role is the one of the hub's membership state; the Planner mode the one in force. -/
def opSysStatus : OpDef := plainOp 0x0C (fun s _ =>
  let role := if s.slt.state = 0 then 0 else if s.isLeader then 2 else 1
  (s, stOk, [w32 (b2n s.provisioned * 2 ^ 12 + role * 2 ^ 10 + s.plnModeInForce * 2 ^ 8 + b2n s.pwr.reserveHold * 2 ^ 7 + s.pwr.permit * 2 ^ 2),
    w32 s.domFenced]))

end Sys2Proof.Machine
end

