-- ==== Sys2Proof/Machine/Avzel.lean ====
section
/-! DEFINITION. The Avzel command set (spec 03): the opcode list, checks 6 to 14, execution with its reply, chains, and the turn at which Salter takes a packet. -/

namespace Sys2Proof.Machine

/-- The opcode list (R83). -/
def opTable : List OpDef :=
  [opSysNop, opSysIdent, opSysSessionOpen, opSysSessionClose, opRegRead, opRegWrite, opSetHostSleep, opSysFloor, opSysShutdown, opSysReset,
   opCfgCommit, opSnapshot, opSysStatus, opChanRead, opChanWrite, opChanCommit, opChanStart, opChanStop, opChanStatus, opScriptWrite, opScriptRead,
   opPortStatus, opPanStreamCfg, opHarvest, opPanMark, opPanRewind, opPanFlush, opPanStatus, opTbRead, opTbSet, opTbRestep, opTbAssign, opLnWrite,
   opLnCancel, opTmWrite, opCalSet, opCalAlarm, opPlnMode, opPlnBudget, opPlnReport, opLdgRead, opSeedWrite, opSeedRead, opSeedArm, opTplWrite,
   opSvcConfig, opSvcStatus, opSltRole, opSltView, opSltExpect, opSltRejoin, opLegStatus, opRfConfig, opRfTx, opRfRx, opRfCal, opRfStatus, opLifeRead,
   opNvsCfgSave, opNvsCfgSelect, opFwBegin, opFwData, opFwVerify, opProvision, opKeyLoad, opLogRead, opLogClear, opFence, opUnfence, opFenceStatus]

/-- The opcode of a code; none is reserved. -/
def opOf (code : Nat) : Option OpDef := opTable.find? (fun d => d.code == code)

/-- The call that a packet makes. -/
def Pkt.call (p : Pkt) (h f : Nat) : Call := ⟨h, p.port, p.tag, p.reply, f, p.params⟩

/-! ### Checks 6 to 14 (R64) -/

/-- Does the lifecycle allow the opcode (check 11, R508)? -/
def State.lifecycleOk (s : State) (op : Nat) : Bool :=
  if op = 0x86 then !s.provisioned
  else if [0x83, 0x84, 0x85, 0x87].contains op then s.provisioned
  else true

/-- The privilege an opcode needs: its own, or SECURE for the image opcodes under LOCK_CFG (R494). -/
def State.needPriv (s : State) (d : OpDef) : Nat := if (d.code = 0x81 || d.code = 0x82) && s.store.lockCfg then 2 else d.priv

/-- Check 11: the host's privilege and the lifecycle. -/
def State.mayUse (s : State) (h : Nat) (d : OpDef) : Bool := decide (s.needPriv d ≤ s.privOf h) && s.lifecycleOk d.code

/-- Checks 7 to 10, before the opcode's own. -/
def State.firstChecks (s : State) (h : Nat) (p : Pkt) : Nat :=
  firstStatus [(p.rsvd, stBadParam), ((opOf p.op).isNone, stUnknown), (decide (s.slt.common < ownCmdset), stVersion),
    (decide (2 < p.op) && (s.host h).session ≠ some p.port, stNotPermitted)]

/-- Checks 12 to 14. -/
def State.lastChecks (s : State) (d : OpDef) (c : Call) : Nat :=
  firstStatus [(!d.lenOk c.params.length c, stBadLength), (!d.valid s c, stBadParam), (d.allow s c ≠ 0, d.allow s c)]

/-- A refusal at check 6 or 11 (R68). -/
def State.logRefusal (s : State) (h : Nat) : State := s.logErr 15 h 0x09

/-- Checks 6 to 14 of a packet: what they leave, the status of the first that fails (0: none), and whether an entry was written. -/
def State.checkPkt (s : State) (h f : Nat) (p : Pkt) : State × Nat × Bool :=
  if p.hostField ≠ h then (s.logRefusal h, stNotPermitted, true)
  else
    let s1 := if p.op = 0x06 then s else s.modHost h (fun x => { x with sleepSet := false })
    let st := s1.firstChecks h p
    if st ≠ 0 then (s1, st, false)
    else match opOf p.op with
      | none => (s1, stUnknown, false)
      | some d =>
        if !s1.mayUse h d then (s1.logRefusal h, stNotPermitted, true)
        else (s1, s1.lastChecks d (p.call h f), false)

/-! ### Execution (R70, R72, R78, R89) -/

/-- Is an entry of the second log one that the first did not hold? -/
def logGrew (old new : List LogEntry) : Bool :=
  let key := fun (e : LogEntry) => (e.time, e.source, e.code, e.run)
  new.any (fun e => (old.countP (fun x => key x == key e)) < new.countP (fun x => key x == key e))

/-- Run an opcode that passed its checks: the state, the status and the words. An ACCEPTED command is subject to R78 last of all. -/
def State.runOp (s : State) (d : OpDef) (c : Call) : State × Nat × List Word :=
  if !d.async then d.run s c
  else
    let out := (s.host c.host).asyncOut
    let (s1, st, ws) := d.run (s.modHost c.host (fun x => { x with asyncOut := x.asyncOut ++ [(c.tag, d.code)] })) c
    if st ≠ stAccepted then (s1.modHost c.host (fun x => { x with asyncOut := x.asyncOut.erase (c.tag, d.code) }), st, ws)
    else if 8 ≤ out.length then (s, stBusy, [])
    else if out.any (fun p => p.1 == c.tag) then (s, stBadParam, [])
    else (s1, st, ws)

/-- Salter's own reply, in the slot that the turn keeps for it; where R70 suppresses it, that slot is free, and a held completion takes it (R600). -/
def State.answer (s : State) (h : Nat) (p : Pkt) (st : Nat) (chainAbort logged : Bool) (ws : List Word) : State :=
  let s1 := s.modHost h (fun x => { x with due := x.due - 1 })
  if replyWanted p.reply st then s1.enqueueReply h ⟨p.op, p.tag, st, false, chainAbort, h, logged, false, ws⟩ else s1.releaseHeld h

/-- What follows a reply: the sleep of SET_HOST_SLEEP (R89), the frames of SLT_REJOIN, changes and completions that are due at once. -/
def State.afterReply (s : State) (h : Nat) (p : Pkt) (st : Nat) : State :=
  let s1 := if p.op = 0x06 && st = stOk then s.modHost h (fun x => { x with sleepSet := true }) else s
  let s2 := if p.op = 0x63 && st = stAccepted then s1.rejoinSend else s1
  s2.settle.finishJobs

/-- Execute a packet that passed every check, and answer it. -/
def State.execPkt (s : State) (h f : Nat) (p : Pkt) : State :=
  match opOf p.op with
  | none => s
  | some d =>
    let (s1, st, ws) := s.runOp d (p.call h f)
    let logged := logGrew s.log s1.log || ((p.op = 0x04 || p.op = 0x05) && st = stNotPermitted)
    (s1.answer h p st false logged ws).afterReply h p st

/-! ### Packets and chains (R75, R76) -/

/-- The checks of every packet of a chain, from the state before the chain: what they leave and each one's status and LOGGED. -/
def State.checkChain (s : State) (h f : Nat) : List Pkt → State × List (Nat × Bool)
  | [] => (s, [])
  | p :: t =>
    let (s1, st, logged) := s.checkPkt h f p
    let (s2, l) := State.checkChain s1 h f t
    (s2, (st, logged) :: l)

/-- A packet, or a chain with its last packet. -/
def State.serve (s : State) (h f : Nat) (l : List Pkt) : State :=
  let (s0, res) := s.checkChain h f l
  let s1 := s0.modHost h (fun x => { x with due := l.length })
  match res.find? (fun r => r.1 ≠ 0) with
  | none => l.foldl (fun u p => u.execPkt h f p) s1
  | some (first, _) =>
    (l.zip res).foldl (fun u x => if x.2.1 ≠ 0 then u.answer h x.1 x.2.1 false x.2.2 [] else u.answer h x.1 first true false []) s1

/-! ### Salter's turn (R71, R600) -/

/-- The packets that a turn would take from a queue: up to the first without CHAIN; none while a chain is open. -/
def takeUnit : List Pkt → Option (List Pkt)
  | [] => none
  | p :: t => if p.chain then (takeUnit t).map (fun l => p :: l) else some [p]

/-- What host `h`'s turn takes now: no completion is held, and a slot is free for each reply. -/
def State.unitOf (s : State) (h : Nat) : Option (List Pkt) :=
  let x := s.host h
  match takeUnit x.queue with
  | none => none
  | some l => if x.held.isEmpty && decide (l.length ≤ x.freeSlots) then some l else none

/-- SALTER_TAKE_PACKET: the next host whose turn takes something is served. -/
def State.takePacket (s : State) (f : Nat) : State :=
  match ((List.range 4).map (fun i => (s.turn + i) % 4)).find? (fun h => (s.unitOf h).isSome) with
  | none => s
  | some h =>
    let l := (s.unitOf h).getD []
    let s1 := ({ s with turn := (h + 1) % 4 }).modHost h (fun x => { x with queue := x.queue.drop l.length })
    (s1.atF f).serve h f l

/-- Does Salter serve packets now: the hub runs, in ACTIVE? -/
def State.salterRuns (s : State) : Bool := s.pwr.phase = 2 && s.pwr.floor = 0

/-- SALTER_TAKE_PACKET. -/
def execSalterTakePacket (f : Nat) (s : State) : Host.Outcome State Fault Refusal := act (onlyIf s.salterRuns (fun u => u.takePacket f)) s

/-- An open chain ends (R77): the packets with CHAIN at the end of the queue are answered BAD_LENGTH, as slots allow. -/
def State.abortChain (s : State) (h : Nat) : State :=
  let q := (s.host h).queue
  let run := (q.reverse.takeWhile (fun p => p.chain)).reverse
  run.foldl (fun u p =>
    let r : Reply := ⟨p.op, p.tag, stBadLength, false, true, h, false, false, []⟩
    let x := u.host h
    if x.held.isEmpty && 0 < x.freeSlots then u.enqueueReply h r else u.modHost h (fun y => { y with held := y.held ++ [r] }))
    (s.modHost h (fun x => { x with queue := q.take (q.length - run.length) }))

/-- CHAIN_TIMEOUT (R77). -/
def execChainTimeout (host : Nat) (s : State) : Host.Outcome State Fault Refusal :=
  act (onlyIf (host < 4 && s.salterRuns) (fun u => u.abortChain host)) s

/-! ### One opcode on its own -/

/-- The packet of a call, as its host sends it. -/
def callPkt (code : Nat) (c : Call) : Pkt := ⟨code, c.tag, c.reply, false, c.host, false, c.port, c.params⟩

/-- Can the call be served now: Salter runs, the host has a free slot and nothing held, and the port carries that host's packets (R56, R600)? -/
def State.callRuns (s : State) (c : Call) : Bool :=
  s.salterRuns && decide (c.host < 4) && (s.host c.host).held.isEmpty && decide (0 < (s.host c.host).freeSlots) &&
  (c.port == 0 || (c.port == 1 && c.host == s.hp1Host))

/-- One opcode: a packet of it alone, checked and executed. -/
def State.serveCall (s : State) (code : Nat) (c : Call) : State := (s.atF c.f).serve c.host c.f [callPkt code c]

/-- The meaning of an opcode's row. -/
def runCall (code : Nat) (c : Call) (s : State) : Host.Outcome State Fault Refusal := act (onlyIf (s.callRuns c) (fun u => u.serveCall code c)) s

end Sys2Proof.Machine
end

