-- ==== Sys2Proof/Machine/HostPort.lean ====
section
/-! DEFINITION. The host ports HP0 and HP1 (spec 03, R56 to R67; R480, R541, R546): packet writes and reads, queue status, memory reads and writes, and the rows
for single register accesses. -/

namespace Sys2Proof.Machine

/-- Command operands as bytes. -/
def toBytes (l : List Nat) : List Byte := l.map (BitVec.ofNat 8)

/-! ### Receiving packets (R61, R64 to R67) -/

/-- A violation of R66 on a port: counted in the field `hi` to `lo` of HP_VIOLn, and logged. -/
def State.violation (s : State) (port hi lo : Nat) : State := (s.addCnt .hpViol port hi lo 1).logErr 9 port 0x0A

/-- A port reply (R65, R67): in the reserved slot, or lost. -/
def State.portReply (s : State) (h port op tag st : Nat) : State :=
  if (s.host h).replies.any (fun r => r.port) then (s.addCnt .hpViol port 7 0 1).logErr 9 port 0x0B
  else ((s.enqueueReply h ⟨op, tag, st, false, false, h, false, true, []⟩).addCnt .hpViol port 15 8 1).logEnd 9 port 0x0B

/-- The packet in a header and its parameter bytes (R61). -/
def pktOf (port : Nat) (l : List Byte) : Pkt :=
  let b := fun k => (l.getD k 0).toNat
  { op := b 2, tag := b 3, reply := b 4 % 2 == 1, chain := b 4 / 2 % 2 == 1, hostField := b 4 / 16 % 4,
    rsvd := b 4 / 4 % 4 ≠ 0 || b 4 / 64 ≠ 0 || b 5 ≠ 0, port := port,
    params := (List.range (b 1 % 64)).map (fun k => bytesWord ((l.drop (8 + 4 * k)).take 4)) }

/-- The CRC of a packet matches (check 4, R63). -/
def pktCrcOk (l : List Byte) : Bool := (crc16 (l.take 6 ++ l.drop 8)).toNat == (l.getD 6 0).toNat + 256 * (l.getD 7 0).toNat

/-- A packet that passed checks 1 to 4: into the queue, or QUEUE_FULL (check 5). Sixteen packets with CHAIN end their chain (R77). -/
def State.takeIn (s : State) (h port : Nat) (p : Pkt) : State :=
  let q := (s.host h).queue
  if 16 ≤ q.length then s.portReply h port p.op p.tag 0x1A
  else
    let s1 := (s.modHost h (fun x => { x with queue := x.queue ++ [p] })).logEnd 9 port 0x0A
    if q.length = 15 && (q ++ [p]).all (fun x => x.chain) then s1.abortChain h else s1

/-- The port takes one transfer, packet after packet; `n` bounds their number. -/
def State.portRecv (s : State) (h port : Nat) : Nat → List Byte → State
  | 0, _ => s
  | n + 1, l =>
    let b := fun k => (l.getD k 0).toNat
    if b 0 ≠ 0xA5 || l.isEmpty then s.violation port 31 24
    else if l.length < 8 then s.violation port 23 16
    else if b 1 / 64 ≠ 0 || l.length < 8 + 4 * (b 1 % 64) then s.portReply h port (b 2) (b 3) stBadLength
    else
      let size := 8 + 4 * (b 1 % 64)
      let s1 := if pktCrcOk (l.take size) then s.takeIn h port (pktOf port (l.take size)) else s.portReply h port (b 2) (b 3) 0x10
      if (l.drop size).isEmpty then s1 else State.portRecv s1 h port n (l.drop size)

/-- A whole transfer of packets. -/
def State.transfer (s : State) (h port : Nat) (l : List Byte) : State := s.portRecv h port (l.length + 1) l

/-! ### Memory reads and writes (R58, R541, R546) -/

/-- The accesses of a transfer of `len` bytes at a word boundary; `k` bounds their number. -/
def wordAccesses : Nat → Nat → Nat → List (Nat × Nat)
  | 0, _, _ => []
  | _ + 1, _, 0 => []
  | k + 1, a, len =>
    let n := if pairLow a && 8 ≤ len then 8 else min 4 len
    (a, n) :: wordAccesses k (a + n) (len - n)

/-- The accesses of a transfer (R541, R544), as addresses and numbers of bytes; three bytes stand for an unaligned access. -/
def accesses (a len : Nat) : List (Nat × Nat) :=
  if a % 4 = 0 then wordAccesses len a len else if len = 0 then [] else [(a, min 3 len)]

/-- The value that a MEM_READ sends for an access: the read is itself a host transfer in progress, so PLN_RAIL shows PD1 at 0.80 V (R460). -/
def hp0Value (a x : Nat) : Nat := if a = Reg.plnRail.addr 0 then x - x / 4 % 4 * 4 + 8 else x

/-- The later words of a MEM_READ, all in domain `d`: the first that fails, and all after it, are sent as zeros. -/
def State.readRest (s : State) (h d : Nat) : List (Nat × Nat) → State × List Byte
  | [] => (s, [])
  | (a, n) :: t =>
    let zeros := List.replicate ((n :: t.map (·.2)).sum) (0 : Byte)
    if spotDomain a ≠ d then (s.noteAccess h a (.bus stBadParam), zeros)
    else
      let (s1, v, x) := s.accessRead h a n
      match v with
      | .bus _ => (s1, zeros)
      | _ => let (s2, l) := State.readRest s1 h d t; (s2, bytesOf n (hp0Value a x) ++ l)

/-- MEM_READ: the status byte and the data. -/
def State.memRead (s : State) (h a len : Nat) : State × List Byte :=
  match accesses a len with
  | [] => (s, [])
  | (a0, n) :: t =>
    let (s1, v, x) := s.accessRead h a0 n
    match v with
    | .bus _ => (s1, [0xE1#8])
    | _ => let (s2, l) := s1.readRest h (spotDomain a0) t; (s2, 0#8 :: bytesOf n (hp0Value a0 x) ++ l)

/-- A number from its bytes, least significant first. -/
def numOf : List Byte → Nat
  | [] => 0
  | b :: t => b.toNat + 256 * numOf t

/-- MEM_WRITE: each access in order, until one fails; a word that privilege refuses is passed over (R548). -/
def State.writeEach (s : State) (h : Nat) : List (Nat × Nat) → List Byte → State
  | [], _ => s
  | (a, n) :: t, l =>
    let (s1, v) := s.accessWrite h a n (numOf (l.take n))
    match v with
    | .bus _ => s1
    | _ => State.writeEach s1 h t (l.drop n)

/-- MEM_WRITE. -/
def State.memWrite (s : State) (h a : Nat) (l : List Byte) : State := (s.writeEach h (accesses a l.length) l).settle

/-! ### Floors (R479, R480) -/

/-- From a floor to ACTIVE, with the transfer of the wake buffer delivered. -/
def State.wakeAll (s : State) : State :=
  if s.pwr.floor = 0 then s
  else
    let s1 := s.wakeUp
    match s1.pwr.wakeBuf with
    | none => s1
    | some b =>
      let s2 := { s1 with pwr := { s1.pwr with wakeBuf := none } }
      if b.op = 1 then s2.transfer b.host 0 b.bytes else s2.memWrite b.host b.addr b.bytes

/-- A write that finds PD1 off: into the wake buffer, or dropped. -/
def State.bufferWrite (s : State) (b : WakeBuf) : State :=
  let s1 := s.wakeBy 2
  if s1.pwr.wakeBuf.isNone && b.bytes.length ≤ 64 then { s1 with pwr := { s1.pwr with wakeBuf := some b } } else s1.addCnt .sysWakesrc 0 31 24 1

/-- FLOOR_WAKE: the wake that a recorded source asked for; a select on HP0 (2), a header on HP1 (3), or a radio window (5) by itself. -/
def State.floorWake (s : State) (source : Nat) : State :=
  let own := source = 2 || source = 3 || (source = 5 && !s.onHold)
  if s.pwr.floor = 0 || !(s.pwr.wakeReq || own) then s else (if own then s.wakeBy source else s).wakeAll

/-- FLOOR_WAKE. -/
def execFloorWake (source : Nat) (s : State) : Host.Outcome State Fault Refusal := act (onlyIf (s.pwr.phase = 2) (fun u => u.floorWake source)) s

/-! ### The transactions of the host ports -/

/-- Do the host ports take transfers: booting or running? -/
def State.portsUp (s : State) : Bool := s.pwr.phase = 1 || s.pwr.phase = 2

/-- PKT_WRITE: on HP0 the operation in bits 5:0 of the command byte decides (R57); an operation with a row of its own is not this one. -/
def State.pktWrite (s : State) (port host op : Nat) (l : List Byte) : State :=
  if port = 1 then (if s.pwr.floor = 0 then s.transfer s.hp1Host 1 l else s.wakeBy 3)
  else if 2 ≤ op % 64 && op % 64 ≤ 5 then s
  else if op % 64 ≠ 1 then (s.wakeBy 2).violation 0 31 24
  else if s.pwr.floor = 0 then s.transfer host 0 l
  else s.bufferWrite ⟨host, 1, 0, l⟩

/-- PKT_WRITE. -/
def execPktWrite (port host op : Nat) (bytes : List Nat) (s : State) : Host.Outcome State Fault Refusal :=
  act (onlyIf (s.portsUp && decide (port < 2) && decide (host < 4)) (fun u => u.pktWrite port host op (toBytes bytes))) s

/-- The flag byte of a reply (R62). -/
def Reply.flags (r : Reply) : Nat := b2n r.port * 128 + b2n r.logged * 64 + r.host % 4 * 16 + b2n r.chainAbort * 2 + b2n r.isAsync

/-- A reply's bytes (R62, R63). -/
def Reply.bytes (r : Reply) : List Byte :=
  let head := [0x5A#8, BitVec.ofNat 8 (r.words.length % 64), BitVec.ofNat 8 r.op, BitVec.ofNat 8 r.tag, BitVec.ofNat 8 r.status, BitVec.ofNat 8 r.flags]
  let body := wordsBytes r.words
  let c := (crc16 (head ++ body)).toNat
  head ++ [BitVec.ofNat 8 c, BitVec.ofNat 8 (c / 256)] ++ body

/-- The reply of the one PROVISION that bound HP1 (R52, R56). -/
def Reply.provisioned (r : Reply) : Bool := r.op == 0x86 && r.status == 0 && !r.port

/-- H0's session on HP1 closes where it waited for that reply to be read (R56). -/
def State.closeOnHp1 (s : State) : State :=
  s.modHost 0 (fun x => if x.closing then { x with session := none, closing := false } else x)

/-- The front reply has been read to its end: its slot is free (R60, R600); H0's session on HP1 may close (R56). -/
def State.dropReply (s : State) (h : Nat) : State :=
  match (s.host h).replies with
  | [] => s
  | r :: t =>
    let s1 := s.modHost h (fun x => { x with replies := t, readPos := 0 })
    (if r.provisioned then s1.closeOnHp1 else s1).releaseHeld h

/-- Read `n` bytes of replies; `k` bounds the number of replies (R60). -/
def State.readReplies (s : State) (h : Nat) : Nat → Nat → State × List Byte
  | 0, _ => (s, [])
  | k + 1, n =>
    match (s.host h).replies with
    | [] => (s, [])
    | r :: _ =>
      let pos := (s.host h).readPos
      let rest := r.bytes.drop pos
      if n = 0 then (s, [])
      else if n < rest.length then (s.modHost h (fun x => { x with readPos := pos + n }), rest.take n)
      else
        let (s1, l) := State.readReplies (s.dropReply h) h k (n - rest.length)
        (s1, rest ++ l)

/-- PKT_READ: HP0 sends 0x00 past the last byte; HP1 NACKs the header where nothing waits, and its controller ends the read. -/
def State.pktRead (s : State) (port host n : Nat) : State :=
  if s.pwr.floor ≠ 0 then
    if port = 0 then { s.wakeBy 2 with out := List.replicate n 0 } else { s.wakeBy 3 with out := [] }
  else
    let h := if port = 0 then host else s.hp1Host
    let (s1, l) := s.readReplies h (n + 1) n
    let s2 := if port = 1 && (s1.host h).replies.isEmpty then { s1 with hp1Ibi := 0 } else s1
    { s2 with out := if port = 0 then l ++ List.replicate (n - l.length) 0 else l }

/-- PKT_READ. -/
def execPktRead (port host len : Nat) (s : State) : Host.Outcome State Fault Refusal :=
  act (onlyIf (s.portsUp && decide (port < 2) && decide (host < 4)) (fun u => u.pktRead port host len)) s

/-- QUEUE_STATUS (R57, R480): the 4 bytes of HP_QSTATn. -/
def execQueueStatus (host : Nat) (s : State) : Host.Outcome State Fault Refusal :=
  act (onlyIf (s.portsUp && decide (host < 4)) (fun u =>
    if u.pwr.floor = 0 then { u with out := bytesOf 4 (u.qstatWord host).toNat } else { u.wakeBy 2 with out := [0, 0, 0, 0] })) s

/-- MEM_READ (R58): in a floor the hub wakes first. -/
def State.directRead (s : State) (h a len : Nat) : State :=
  let (s1, l) := (s.wakeBy 2).wakeAll.memRead h a len
  { s1 with out := l }

/-- Does the hub serve direct accesses of the host? -/
def State.directUp (s : State) (h : Nat) : Bool := s.pwr.phase = 2 && decide (h < 4)

/-- MEM_READ. -/
def execMemRead (host addr len f : Nat) (s : State) : Host.Outcome State Fault Refusal :=
  act (onlyIf (s.directUp host) (fun u => (u.atF f).directRead host addr len)) s

/-- MEM_WRITE. -/
def execMemWrite (host addr : Nat) (bytes : List Nat) (f : Nat) (s : State) : Host.Outcome State Fault Refusal :=
  act (onlyIf (s.directUp host) (fun u =>
    if u.pwr.floor = 0 then (u.atF f).memWrite host addr (toBytes bytes) else (u.atF f).bufferWrite ⟨host, 5, addr, toBytes bytes⟩)) s

/-! ### Rows for single accesses -/

/-- Is the host's direct write served at once: running, and not in a floor? -/
def State.writeUp (s : State) (h : Nat) : Bool := s.salterRuns && decide (h < 4)

/-- A direct write of one register by a host. -/
def State.hostWrite (s : State) (h : Nat) (r : Reg) (n v : Nat) : State := ((s.accessWrite h (r.addr n) 4 v).1).settle

/-- The meaning of a row that writes register `r` of index `n`, where there is one. -/
def writeRow (h : Nat) (r : Reg) (n bound v f : Nat) (s : State) : Host.Outcome State Fault Refusal :=
  act (onlyIf (s.writeUp h && decide (n < bound)) (fun u => (u.atF f).hostWrite h r n v)) s

/-- A direct write within one memory array. -/
def State.arrayWrite (s : State) (h : Nat) (arrays : List Nat) (a : Nat) (l : List Byte) : State :=
  let inside := fun x => match spotOf x with
    | .mem k => arrays.contains k
    | _ => false
  if s.writeUp h && inside a && inside (a + l.length - 1) then s.memWrite h a l else s

/-- TABLE_WINDOW_WRITE (R97, R116, R117). -/
def execTableWindowWrite (host addr : Nat) (bytes : List Nat) (s : State) : Host.Outcome State Fault Refusal :=
  act (fun u => u.arrayWrite host [0] addr (toBytes bytes)) s

/-- SCRIPT_WINDOW_WRITE (R159). -/
def execScriptWindowWrite (host addr : Nat) (bytes : List Nat) (s : State) : Host.Outcome State Fault Refusal :=
  act (fun u => u.arrayWrite host [1] addr (toBytes bytes)) s

/-- SEED_WINDOW_WRITE (R235). -/
def execSeedWindowWrite (host addr : Nat) (bytes : List Nat) (s : State) : Host.Outcome State Fault Refusal :=
  act (fun u => u.arrayWrite host [2, 3] addr (toBytes bytes)) s

/-- DROP_PACKET (R313). -/
def execDropPacket (host : Nat) (s : State) : Host.Outcome State Fault Refusal := writeRow host .panCmd 0 1 1 0 s

/-- PAN_RP_WRITE (R320). -/
def execPanRpWrite (host stream value : Nat) (s : State) : Host.Outcome State Fault Refusal := writeRow host .panRp stream 32 value 0 s

/-- TB_VAL_READ (R369): the value at the grant. -/
def execTbValRead (host tb f : Nat) (s : State) : Host.Outcome State Fault Refusal :=
  act (onlyIf (s.directUp host && decide (tb < 4)) (fun u => (u.atF f).directRead host (Reg.addr .tbVal tb) 8)) s

/-- CAPTURE (R369). -/
def execCapture (host f : Nat) (s : State) : Host.Outcome State Fault Refusal := writeRow host .tbCapcmd 0 1 1 f s

/-- CAPTURE_GROUP_READ (R555): one word of a group. -/
def execCaptureGroupRead (host addr : Nat) (s : State) : Host.Outcome State Fault Refusal :=
  act (onlyIf (s.directUp host && (match spotOf addr with
    | .reg ref => (groupOf ref.reg ref.inst).isSome
    | _ => false)) (fun u => u.directRead host addr 4)) s

/-- A command bit of TM_CTLn written by a host beside the timer's configuration. -/
def timerRow (host timer bit f : Nat) (s : State) : Host.Outcome State Fault Refusal :=
  writeRow host .tmCtl timer 64 ((s.reg .tmCtl timer).toNat + 2 ^ bit) f s

/-- TIMER_START (R385). -/
def execTimerStart (host timer f : Nat) (s : State) : Host.Outcome State Fault Refusal := timerRow host timer 31 f s

/-- TIMER_RESET (R387). -/
def execTimerReset (host timer f : Nat) (s : State) : Host.Outcome State Fault Refusal := timerRow host timer 30 f s

/-- TIMER_CAPTURE (R388). -/
def execTimerCapture (host timer f : Nat) (s : State) : Host.Outcome State Fault Refusal := timerRow host timer 29 f s

/-- TM_CNT_WRITE (R387). -/
def execTmCntWrite (host timer : Nat) (value : Word) (f : Nat) (s : State) : Host.Outcome State Fault Refusal :=
  writeRow host .tmCnt timer 64 value.toNat f s

/-- LDG_STORE_WRITE (R451, R470). -/
def execLdgStoreWrite (host : Nat) (lo hi : Word) (s : State) : Host.Outcome State Fault Refusal :=
  act (onlyIf (s.writeUp host) (fun u => (u.accessWrite host (Reg.addr .ldgStore 0) 8 (lo.toNat + 2 ^ 32 * hi.toNat)).1)) s

/-- SL_FIRE (R518). -/
def execSlFire (host sluice : Nat) (s : State) : Host.Outcome State Fault Refusal :=
  act (onlyIf (s.writeUp host && decide (sluice < 64)) (fun u => u.hostWrite host .slFire 0 sluice)) s

/-- IC_ACK_READ (R532). -/
def execIcAckRead (host target : Nat) (s : State) : Host.Outcome State Fault Refusal :=
  act (onlyIf (s.directUp host && decide (target < 4)) (fun u => u.directRead host (Reg.addr .icAck target) 4)) s

/-- IC_EOI_WRITE (R533). -/
def execIcEoiWrite (host target vector : Nat) (s : State) : Host.Outcome State Fault Refusal := writeRow host .icEoi target 4 vector 0 s

/-- DOORBELL (R529). -/
def execDoorbell (host target value : Nat) (s : State) : Host.Outcome State Fault Refusal := writeRow host .icDbell target 4 value 0 s

/-- SNAP (R561). -/
def execSnap (host : Nat) (s : State) : Host.Outcome State Fault Refusal := writeRow host .chkCmd 0 1 1 0 s

/-- REGISTER_WRITE (R550). -/
def execRegisterWrite (host addr : Nat) (value : Word) (s : State) : Host.Outcome State Fault Refusal :=
  act (onlyIf (s.writeUp host) (fun u => ((u.accessWrite host addr 4 value.toNat).1).settle)) s

/-! ### Block boundaries (R551) -/

/-- The boundary of the block that buffers register `r`, instance `n`. -/
def State.blockBoundary (s : State) (r : Reg) (n : Nat) : State :=
  match r with
  | .afeAinCfg => s.applyAfeNow n
  | .afePdmCfg => s.applyAfeNow (16 + n)
  | .sspCfg | .sspClk | .sspTiming => s.applySsp n
  | .panTide => s.applyTideCfg
  | .tbUtc | .tbSynccfg | .tbLink => s.applyTimeCfg
  | .plnCfg | .plnLimits | .plnBudget => if s.epochDue then s.applyPln else s
  | .ldgSns => if s.epochDue then s.applyPln else s.applySns n
  | _ => s.applyNow r n

/-- BLOCK_BOUNDARY_APPLY. -/
def execBlockBoundaryApply (addr : Nat) (s : State) : Host.Outcome State Fault Refusal :=
  act (onlyIf (s.salterRuns && !s.isFenced 8 (spotDomain addr)) (fun u => match regAt (addr - addr % 4) with
    | some ref => if ref.reg.row.access = .rwb then (u.blockBoundary ref.reg ref.inst).settle else u
    | none => u)) s

end Sys2Proof.Machine
end

