-- ==== Sys2Proof/Machine/Boot.lean ====
section
/-! DEFINITION. Resets, the cold boot, SHUTDOWN, and errors in PD0 (spec 16, R481 to R498; R43, R91, R92, R572). -/

namespace Sys2Proof.Machine

/-! ### Resets (R482, R486) -/

/-- The store after a reset: a write that it interrupts leaves its sectors invalid (R486). -/
def State.storeKept (s : State) : Store :=
  let x := s.store
  let ring := match s.life.writing with
    | some c => { c with intact := false } :: x.ring
    | none => x.ring
  let images := match x.save with
    | some (k, img, _) => x.images.set (fun _ => none) k (some { img with intact := false })
    | none => x.images
  { x with xfer := none, save := none, images := images, ring := ring }

/-- The log across a reset that PD0 survives: a function that was fenced no longer is, so its runs end. -/
def State.logKept (s : State) : List LogEntry :=
  s.log.map (fun e => if s.fenced.get (fun _ => 0) e.source ≠ 0 then { e with isOpen := false } else e)

/-- What the reset does not touch: the waiting commands, the non-volatile store, and the levels that the outside gives the pins. -/
def State.cleared (s : State) : State :=
  { State.reset with
    pending := s.pending, provisioned := s.provisioned, free := s.free, store := s.storeKept,
    hosts := Tab.mapVals (fun _ => HostSt.reset) s.hosts (fun x => { HostSt.reset with pinAsleep := x.pinAsleep }),
    pins := Tab.mapVals (fun _ => Pin.reset) s.pins (fun x => { Pin.reset with level := x.level }) }

/-- The lifetime counts across a reset that PD0 survives (R498): those gathered since the last write stay, the energies among them; a write in progress is cut off. -/
def State.lifeKept (s : State) : Life :=
  { s.life with base := (List.range 14).map (fun k => (k, s.lifeEnergy k)), writing := none, lastAt := 0, kept := true }

/-- A reset with a cause, FAULT, and the BOOTSEL level at its release; PD0 keeps the log and the calendar or not. TB0 starts at 0, and the hub boots. -/
def State.resetTo (s : State) (cause fault : Nat) (bootsel pd0 logOk : Bool) : State :=
  { s.cleared with
    log := if pd0 && logOk then s.logKept else [],
    logSat := pd0 && logOk && s.logSat,
    cal := if pd0 then { s.cal with mark := s.cal.mark - s.tick } else Calendar.reset,
    life := if pd0 then s.lifeKept else Life.reset,
    svc := if pd0 then { SvcBlk.reset with wear := s.svc.wear } else SvcBlk.reset,
    pwr := { Power.reset with cause := cause, fault := fault, bootsel := bootsel } }

/-- POWER_ON (R481): VBAT has risen from 0. -/
def execPowerOn (bootsel : Bool) (s : State) : Host.Outcome State Fault Refusal := actClock (fun u => u.resetTo 1 0 bootsel false false) s

/-- BROWNOUT (R481). -/
def execBrownout (bootsel : Bool) (s : State) : Host.Outcome State Fault Refusal := actClock (fun u => u.resetTo 2 0 bootsel false false) s

/-- PIN: NRST; out of SHUTDOWN it is an exit, which PD0 does not survive (R43). -/
def execPin (bootsel : Bool) (s : State) : Host.Outcome State Fault Refusal :=
  actClock (fun u => if u.pwr.phase = 3 then u.resetTo 5 0 bootsel false false else u.resetTo 3 0 bootsel true true) s

/-- HOST_RESET (R92): 1 ms after the reply of SYS_RESET. -/
def execHostReset (bootsel : Bool) (s : State) : Host.Outcome State Fault Refusal :=
  actClock (onlyIf (s.pwr.phase = 2 && s.pwr.resetArm) (fun u => u.resetTo 4 0 bootsel true true)) s

/-- WATCHDOG (R482): FAULT holds the core's number. -/
def execWatchdog (core : Nat) (bootsel : Bool) (s : State) : Host.Outcome State Fault Refusal :=
  actClock (onlyIf (s.pwr.phase ≠ 3 && decide (core < 2)) (fun u => u.resetTo 7 core bootsel true true)) s

/-- A reset for an error in PD0 with a fault code: 1 the log, 2 the state area, 3 a domain's fencing, 4 retention, 5 a timebase counter (R572). -/
def State.pd0Fault (s : State) (code : Nat) (logOk bootsel : Bool) : State := s.resetTo 6 code bootsel true (logOk && code ≠ 1)

/-- PD0_FAULT. -/
def execPd0Fault (code : Nat) (logOk bootsel : Bool) (s : State) : Host.Outcome State Fault Refusal :=
  actClock (onlyIf (s.pwr.phase ≠ 3 && decide (1 ≤ code) && decide (code ≤ 5)) (fun u => u.pd0Fault code logOk bootsel)) s

/-- The fence of `kind` and `idx` is not complete in time (R572): its domain is fenced, or a domain's fence ends in a reset. A function of PD0
lies in no domain that can be fenced. -/
def State.fenceTimeout (s : State) (kind idx : Nat) : State :=
  if !s.isFenced kind idx then s
  else if kind = 8 then s.pd0Fault 3 true s.pwr.bootsel
  else if funcDomain kind idx = 0 then s
  else s.fenceDomain (funcDomain kind idx) 0x85

/-- FENCE_TIMEOUT. -/
def execFenceTimeout (sel : Nat) (s : State) : Host.Outcome State Fault Refusal :=
  actClock (onlyIf (s.pwr.phase = 2 && selectorOk (sel / 256) (sel % 256)) (fun u => u.fenceTimeout (sel / 256) (sel % 256))) s

/-! ### SHUTDOWN (R43, R91) -/

/-- Enter SHUTDOWN: only the store stands, and the EV0 wake that was asked for. -/
def State.shutdown (s : State) (wake : Option Bool) : State :=
  { s.cleared with
    doms := (List.range 12).map (fun d => (d, ⟨0, none⟩)),
    pwr := { Power.reset with phase := 3, cause := s.pwr.cause, fault := s.pwr.fault, shutWake := wake } }

/-- SHUTDOWN_ENTRY: the reply has been read, or 1 ms has passed; a lifetime write in progress is finished first. -/
def execShutdownEntry (s : State) : Host.Outcome State Fault Refusal :=
  actClock (fun u => match u.pwr.shutArm with
    | some (_, _, en, falling) =>
      if u.pwr.phase = 2 && u.life.writing.isNone then u.shutdown (if en then some falling else none) else u
    | none => u) s

/-- SHUTDOWN_WAKE: an edge on EV0, when it was enabled at the entry. -/
def execShutdownWake (level bootsel : Bool) (s : State) : Host.Outcome State Fault Refusal :=
  actClock (fun u => if u.pwr.phase = 3 && u.pwr.shutWake == some (!level) then
    (u.resetTo 5 0 bootsel false false).modPin 0 (fun x => { x with level := level }) else u) s

/-! ### The cold boot (R483 to R498) -/

/-- Word `w` of the copy loaded at the boot. -/
def copyWord (c : Option LifeCopy) (w : Nat) : Nat := match c with
  | some x => (x.words.get (fun _ => 0) w).toNat
  | none => 0

/-- Two words of the copy, low word first. -/
def copyPair (c : Option LifeCopy) (w : Nat) : Nat := copyWord c w + 2 ^ 32 * copyWord c (w + 1)

/-- A table of `n` counts. -/
def tabOf (n : Nat) (f : Nat → Nat) : Tab Nat := (List.range n).filterMap (fun k => if f k = 0 then none else some (k, f k))

/-- WEAR of each channel from the copy (R286). -/
def State.loadWear (s : State) (c : Option LifeCopy) : State :=
  (List.range 192).foldl (fun u k =>
    u.setWear k { Wear.reset with hours := copyWord c (136 + 3 * k), range := copyWord c (137 + 3 * k), shocks := copyWord c (138 + 3 * k) }) s

/-- The latest TREND summaries from the copy (R281); one of zeros was never taken. -/
def State.loadTrend (s : State) (c : Option LifeCopy) : State :=
  let words := fun i => (List.range 24).map (fun k => w32 (copyWord c (712 + 24 * i + k)))
  { s with svc := { s.svc with trendLast := (List.range 384).filterMap (fun i => if (words i).all (· == 0) then none else some (i, words i)) } }

/-- The frame counters resume at the stored value plus 65,536 (R430). -/
def State.loadCounters (s : State) (c : Option LifeCopy) : State :=
  let s1 := s.modRf (fun r => { r with ctr := tabOf 4 (fun k => min 0xFFFFFFFF (copyWord c (132 + k) + 65536)) })
  if (List.range 4).any (fun k => s1.keySet k && s1.keyUsedUp k) then s1.keyExhausted else s1

/-- The counts of the newest copy. -/
def copyLife (c : Option LifeCopy) : Life :=
  { secs := (List.range 3).map (fun k => copyPair c (8 + 2 * k)), ticks := [0, 0, 0],
    boots := copyWord c 14, brownouts := copyWord c 15, writes := copyWord c 16,
    resets := tabOf 8 (fun k => if k = 0 then 0 else copyWord c (16 + k)), nvs := tabOf 64 (fun k => copyWord c (60 + k)),
    base := tabOf 14 (fun k => copyPair c (32 + 2 * k)), seq := copyWord c 2, cause := copyWord c 3 % 16, writing := none,
    fresh := false, copyFail := false, lastAt := 0, kept := false }

/-- This boot and its cause are counted (R498). -/
def Life.booted (l : Life) (cause : Nat) : Life :=
  { l with boots := (l.boots + 1) % 2 ^ 32, brownouts := (l.brownouts + b2n (cause == 2)) % 2 ^ 32,
           resets := l.resets.mod (fun _ => 0) cause (fun n => (n + 1) % 2 ^ 32) }

/-- Load the newest copy whose CRC passes, or start a fresh record (R498). Counts that PD0 has kept through the reset go on from where they were. -/
def State.loadLife (s : State) : State :=
  let c := s.newestCopy
  let bad := c.isSome && (s.store.ring.takeWhile (fun x => !x.intact)).length ≠ 0
  let l := if s.life.kept then { s.life with seq := copyWord c 2, kept := false } else copyLife c
  let s0 := { s with life := ({ l with fresh := c.isNone, copyFail := bad }).booted s.pwr.cause }
  let s1 := ((if s.life.kept then s0 else s0.loadWear c).loadTrend c).loadCounters c
  if bad then s1.logErr 14 3 0x8B else s1

/-- Domains at the boot: PD2 at 0.80 V; PD5 and PD9 come up with the AFE and the radio. -/
def State.bootRails (s : State) : State := ((s.powerDom 2 4).powerDom 5 0).powerDom 9 0

/-- A register word of an image, as a write at the boot leaves it. -/
def State.loadReg (s : State) (a : Nat) (w : Word) : State :=
  match regAt a with
  | none => s
  | some ref =>
    if ref.reg.row.pair || ref.reg.row.access = .rwb then s.setWordAt a w
    else s.writeNow 0 ref.reg ref.inst w w

/-- Is it the address of a timer's register? -/
def isTimerReg (a : Nat) : Bool := match regAt a with
  | some ref => [Reg.tmCtl, .tmEnd, .tmMatch].contains ref.reg
  | none => false

/-- The blocks take the registers of an image: nothing runs yet, so each is at its boundary but for those of the epoch, the tide and the timebases. -/
def State.loadRegs (s : State) (img : CfgImage) : State :=
  let s1 := (img.regs.filter (fun p => !isTimerReg p.1)).foldl (fun u p => u.loadReg p.1 p.2) s
  let s2 := (List.range 48).foldl (fun u k => u.setReg .i3cTgt k (u.checkWord .i3cTgt k)) s1
  let s3 := img.regs.foldl (fun u p => match regAt p.1 with
    | some ref => if ref.reg.row.access = .rwb then u.applyNow ref.reg ref.inst else u
    | none => u) s2
  let s4 := match img.store with
    | some v => s3.ldgStoreWrite v
    | none => s3.reserveWatch
  (List.range 28).foldl (fun u i => u.svcApply i) { s4 with svc := { s4.svc with stored := img.svc } }

/-- Start channel `c` as CHAN_START does, with its check result (R495). -/
def State.autoChan (s : State) (l : List Nat) (c : Nat) : State × Bool :=
  let r := s.checkDesc c l
  let code := if r = 0 && s.poolTooFull [c] then 4 else r
  let s1 := s.modChan c (fun x => { x with lastCheck := code })
  if code = 0 then (s1.applyDesc c true false, true) else (if code = 4 && r = 0 then s1.evt .twrEvt 0 2 else s1, false)

/-- Every channel whose ENABLE is 1. -/
def State.autoChans (s : State) : State × Bool :=
  let l := (List.range 192).filter (fun c => (s.tdesc c).enable)
  l.foldl (fun (x : State × Bool) c => let (u, ok) := x.1.autoChan l c; (u, x.2 && ok)) (s, true)

/-- Every seed whose AUTOARM is 1. -/
def State.autoSeeds (s : State) : State × Bool :=
  let l := (List.range 64).filter (fun n => bitAt (s.seedWord n 0) 12)
  l.foldl (fun (x : State × Bool) n =>
    let k := s.seedCheck n l
    if k = 0 then (x.1.armSeed n, x.2) else (x.1.armFail n k, false)) (s, true)

/-- The launch entries of an image, as though programmed at the boot (R376, R495). -/
def State.loadLaunches (s : State) (img : CfgImage) : State :=
  img.launches.foldl (fun u p =>
    let l := p.2
    if l.state = 0 then u
    else (u.setLaunch p.1 { l with state := if l.onStart then 1 else 2, t0 := l.time, k := 0, fired := 0, skipped := 0, firings := 0 }).lateHandle p.1) s

/-- Apply an image in the order of R495; AUTOSTART becomes OK or PARTIAL. -/
def State.applyImage (s : State) (img : CfgImage) : State :=
  let s1 := img.mem.foldl (fun u c => u.wrByte c.1 c.2) (s.loadRegs img)
  let (s2, ok1) := s1.autoChans
  let (s3, ok2) := s2.autoSeeds
  let s4 := (img.regs.filter (fun p => isTimerReg p.1)).foldl (fun u p => u.loadReg p.1 p.2) (s3.loadLaunches img)
  let w := img.role.getD 0 0
  let s5 := { s4 with pwr := { s4.pwr with permit := img.floor, autostart := if ok1 && ok2 then 1 else 2 } }
  let s6 := s5.applyRole ⟨bits w 1 0, bits w 12 8, bits (img.role.getD 1 0) 7 0, bitAt w 16⟩
  s6.setReg .cfgRef 0 img.cfgRef

/-- The autostart of a normal boot with a slot selected (R495). -/
def State.autostart (s : State) : State :=
  if 2 ≤ s.store.selected then s
  else match s.store.images.get (fun _ => none) s.store.selected with
    | some img => if img.intact then s.applyImage img else ({ s with pwr := { s.pwr with autostart := 3 } }).logErr 14 2 0x8A
    | none => ({ s with pwr := { s.pwr with autostart := 3 } }).logErr 14 2 0x8A

/-- The entries of the boot that follows an error (R570). -/
def State.logCause (s : State) : State :=
  if s.pwr.cause = 6 then s.logWrite ⟨s.logTime, selOf 14 0, 0x8C, s.pwr.fault, 0, false⟩
  else if s.pwr.cause = 7 then s.logErr 14 0 0x8D
  else s

/-- The I/O banks are measured, in mV (R588): one below 1.0 V waits for the first enable of a port or pin on it; those of the host ports on VIO2 are enabled by the boot. -/
def State.measureBanks (s : State) (banks : List Nat) : State :=
  { s with pwr := { s.pwr with banks := (List.range 4).map (fun k => bankClass (banks.getD k 0)),
                               bankWait := [0, 1, 3].filter (fun k => decide (banks.getD k 0 < 1000)) } }

/-- COLD_BOOT: the steps of R484 up to the host ports. -/
def State.coldBoot (s : State) (charges banks : List Nat) : State :=
  let rec0 := s.pwr.bootsel && !s.store.lockBootsel
  let s1 := (({ s with pwr := { s.pwr with recovery := rec0 } }).measureBanks banks).bootRails.logCause
  let s2 := (if rec0 then s1 else s1.choosePatch).loadLife
  let s3 := s2.recalAll charges
  let s4 := (if rec0 then s3 else s3.autostart).loadChanged
  ({ s4 with check := Check.reset, pwr := { s4.pwr with phase := 2 } }).logErr 14 0 0x01

/-- COLD_BOOT. -/
def execColdBoot (charges banks : List Nat) (s : State) : Host.Outcome State Fault Refusal :=
  act (onlyIf (s.pwr.phase = 1) (fun u => u.coldBoot charges banks)) s

end Sys2Proof.Machine
end

