-- ==== Sys2Proof/Machine/Opcodes.lean ====
section
/-! DEFINITION. The opcode rows: each is a packet of that opcode alone, checked and executed as R64 and R72 say. -/

namespace Sys2Proof.Machine

/-- SYS_NOP (0x00). -/
def execSysNop (c : Call) (s : State) : Host.Outcome State Fault Refusal := runCall 0x00 c s

/-- SYS_IDENT (0x01). -/
def execSysIdent (c : Call) (s : State) : Host.Outcome State Fault Refusal := runCall 0x01 c s

/-- SYS_SESSION_OPEN (0x02). -/
def execSysSessionOpen (c : Call) (s : State) : Host.Outcome State Fault Refusal := runCall 0x02 c s

/-- SYS_SESSION_CLOSE (0x03). -/
def execSysSessionClose (c : Call) (s : State) : Host.Outcome State Fault Refusal := runCall 0x03 c s

/-- REG_READ (0x04). -/
def execRegRead (c : Call) (s : State) : Host.Outcome State Fault Refusal := runCall 0x04 c s

/-- REG_WRITE (0x05). -/
def execRegWrite (c : Call) (s : State) : Host.Outcome State Fault Refusal := runCall 0x05 c s

/-- SET_HOST_SLEEP (0x06). -/
def execSetHostSleep (c : Call) (s : State) : Host.Outcome State Fault Refusal := runCall 0x06 c s

/-- SYS_FLOOR (0x07). -/
def execSysFloor (c : Call) (s : State) : Host.Outcome State Fault Refusal := runCall 0x07 c s

/-- SYS_SHUTDOWN (0x08). -/
def execSysShutdown (c : Call) (s : State) : Host.Outcome State Fault Refusal := runCall 0x08 c s

/-- SYS_RESET (0x09). -/
def execSysReset (c : Call) (s : State) : Host.Outcome State Fault Refusal := runCall 0x09 c s

/-- CFG_COMMIT (0x0A). -/
def execCfgCommit (c : Call) (s : State) : Host.Outcome State Fault Refusal := runCall 0x0A c s

/-- SNAPSHOT (0x0B). -/
def execSnapshot (c : Call) (s : State) : Host.Outcome State Fault Refusal := runCall 0x0B c s

/-- SYS_STATUS (0x0C). -/
def execSysStatus (c : Call) (s : State) : Host.Outcome State Fault Refusal := runCall 0x0C c s

/-- CHAN_READ (0x10). -/
def execChanRead (c : Call) (s : State) : Host.Outcome State Fault Refusal := runCall 0x10 c s

/-- CHAN_WRITE (0x11). -/
def execChanWrite (c : Call) (s : State) : Host.Outcome State Fault Refusal := runCall 0x11 c s

/-- CHAN_COMMIT (0x12). -/
def execChanCommit (c : Call) (s : State) : Host.Outcome State Fault Refusal := runCall 0x12 c s

/-- CHAN_START (0x13). -/
def execChanStart (c : Call) (s : State) : Host.Outcome State Fault Refusal := runCall 0x13 c s

/-- CHAN_STOP (0x14). -/
def execChanStop (c : Call) (s : State) : Host.Outcome State Fault Refusal := runCall 0x14 c s

/-- CHAN_STATUS (0x15). -/
def execChanStatus (c : Call) (s : State) : Host.Outcome State Fault Refusal := runCall 0x15 c s

/-- SCRIPT_WRITE (0x16). -/
def execScriptWrite (c : Call) (s : State) : Host.Outcome State Fault Refusal := runCall 0x16 c s

/-- SCRIPT_READ (0x17). -/
def execScriptRead (c : Call) (s : State) : Host.Outcome State Fault Refusal := runCall 0x17 c s

/-- PORT_STATUS (0x18). -/
def execPortStatus (c : Call) (s : State) : Host.Outcome State Fault Refusal := runCall 0x18 c s

/-- SEED_WRITE (0x50). -/
def execSeedWrite (c : Call) (s : State) : Host.Outcome State Fault Refusal := runCall 0x50 c s

/-- SEED_READ (0x51). -/
def execSeedRead (c : Call) (s : State) : Host.Outcome State Fault Refusal := runCall 0x51 c s

/-- SEED_ARM (0x52). -/
def execSeedArm (c : Call) (s : State) : Host.Outcome State Fault Refusal := runCall 0x52 c s

/-- TPL_WRITE (0x53). -/
def execTplWrite (c : Call) (s : State) : Host.Outcome State Fault Refusal := runCall 0x53 c s

/-- SVC_CONFIG (0x54). -/
def execSvcConfig (c : Call) (s : State) : Host.Outcome State Fault Refusal := runCall 0x54 c s

/-- SVC_STATUS (0x55). -/
def execSvcStatus (c : Call) (s : State) : Host.Outcome State Fault Refusal := runCall 0x55 c s

/-- PAN_STREAM_CFG (0x20). -/
def execPanStreamCfg (c : Call) (s : State) : Host.Outcome State Fault Refusal := runCall 0x20 c s

/-- HARVEST (0x21). -/
def execHarvest (c : Call) (s : State) : Host.Outcome State Fault Refusal := runCall 0x21 c s

/-- PAN_MARK (0x22). -/
def execPanMark (c : Call) (s : State) : Host.Outcome State Fault Refusal := runCall 0x22 c s

/-- PAN_REWIND (0x23). -/
def execPanRewind (c : Call) (s : State) : Host.Outcome State Fault Refusal := runCall 0x23 c s

/-- PAN_FLUSH (0x24). -/
def execPanFlush (c : Call) (s : State) : Host.Outcome State Fault Refusal := runCall 0x24 c s

/-- PAN_STATUS (0x25). -/
def execPanStatus (c : Call) (s : State) : Host.Outcome State Fault Refusal := runCall 0x25 c s

/-- TB_READ (0x30). -/
def execTbRead (c : Call) (s : State) : Host.Outcome State Fault Refusal := runCall 0x30 c s

/-- TB_SET (0x31). -/
def execTbSet (c : Call) (s : State) : Host.Outcome State Fault Refusal := runCall 0x31 c s

/-- TB_RESTEP (0x32). -/
def execTbRestep (c : Call) (s : State) : Host.Outcome State Fault Refusal := runCall 0x32 c s

/-- TB_ASSIGN (0x33). -/
def execTbAssign (c : Call) (s : State) : Host.Outcome State Fault Refusal := runCall 0x33 c s

/-- LN_WRITE (0x34). -/
def execLnWrite (c : Call) (s : State) : Host.Outcome State Fault Refusal := runCall 0x34 c s

/-- LN_CANCEL (0x35). -/
def execLnCancel (c : Call) (s : State) : Host.Outcome State Fault Refusal := runCall 0x35 c s

/-- TM_WRITE (0x36). -/
def execTmWrite (c : Call) (s : State) : Host.Outcome State Fault Refusal := runCall 0x36 c s

/-- CAL_SET (0x37). -/
def execCalSet (c : Call) (s : State) : Host.Outcome State Fault Refusal := runCall 0x37 c s

/-- CAL_ALARM (0x38). -/
def execCalAlarm (c : Call) (s : State) : Host.Outcome State Fault Refusal := runCall 0x38 c s

/-- PLN_MODE (0x40). -/
def execPlnMode (c : Call) (s : State) : Host.Outcome State Fault Refusal := runCall 0x40 c s

/-- PLN_BUDGET (0x41). -/
def execPlnBudget (c : Call) (s : State) : Host.Outcome State Fault Refusal := runCall 0x41 c s

/-- PLN_REPORT (0x42). -/
def execPlnReport (c : Call) (s : State) : Host.Outcome State Fault Refusal := runCall 0x42 c s

/-- LDG_READ (0x43). -/
def execLdgRead (c : Call) (s : State) : Host.Outcome State Fault Refusal := runCall 0x43 c s

/-- LIFE_READ (0x80). -/
def execLifeRead (c : Call) (s : State) : Host.Outcome State Fault Refusal := runCall 0x80 c s

/-- NVS_CFG_SAVE (0x81). -/
def execNvsCfgSave (c : Call) (s : State) : Host.Outcome State Fault Refusal := runCall 0x81 c s

/-- NVS_CFG_SELECT (0x82). -/
def execNvsCfgSelect (c : Call) (s : State) : Host.Outcome State Fault Refusal := runCall 0x82 c s

/-- FW_BEGIN (0x83). -/
def execFwBegin (c : Call) (s : State) : Host.Outcome State Fault Refusal := runCall 0x83 c s

/-- FW_DATA (0x84). -/
def execFwData (c : Call) (s : State) : Host.Outcome State Fault Refusal := runCall 0x84 c s

/-- FW_VERIFY (0x85). -/
def execFwVerify (c : Call) (s : State) : Host.Outcome State Fault Refusal := runCall 0x85 c s

/-- PROVISION (0x86). -/
def execProvision (c : Call) (s : State) : Host.Outcome State Fault Refusal := runCall 0x86 c s

/-- KEY_LOAD (0x87). -/
def execKeyLoad (c : Call) (s : State) : Host.Outcome State Fault Refusal := runCall 0x87 c s

/-- SLT_ROLE (0x60). -/
def execSltRole (c : Call) (s : State) : Host.Outcome State Fault Refusal := runCall 0x60 c s

/-- SLT_VIEW (0x61). -/
def execSltView (c : Call) (s : State) : Host.Outcome State Fault Refusal := runCall 0x61 c s

/-- SLT_EXPECT (0x62). -/
def execSltExpect (c : Call) (s : State) : Host.Outcome State Fault Refusal := runCall 0x62 c s

/-- SLT_REJOIN (0x63). -/
def execSltRejoin (c : Call) (s : State) : Host.Outcome State Fault Refusal := runCall 0x63 c s

/-- LEG_STATUS (0x64). -/
def execLegStatus (c : Call) (s : State) : Host.Outcome State Fault Refusal := runCall 0x64 c s

/-- RF_CONFIG (0x70). -/
def execRfConfig (c : Call) (s : State) : Host.Outcome State Fault Refusal := runCall 0x70 c s

/-- RF_TX (0x71). -/
def execRfTx (c : Call) (s : State) : Host.Outcome State Fault Refusal := runCall 0x71 c s

/-- RF_RX (0x72). -/
def execRfRx (c : Call) (s : State) : Host.Outcome State Fault Refusal := runCall 0x72 c s

/-- RF_CAL (0x73). -/
def execRfCal (c : Call) (s : State) : Host.Outcome State Fault Refusal := runCall 0x73 c s

/-- RF_STATUS (0x74). -/
def execRfStatus (c : Call) (s : State) : Host.Outcome State Fault Refusal := runCall 0x74 c s

/-- LOG_READ (0x90). -/
def execLogRead (c : Call) (s : State) : Host.Outcome State Fault Refusal := runCall 0x90 c s

/-- LOG_CLEAR (0x91). -/
def execLogClear (c : Call) (s : State) : Host.Outcome State Fault Refusal := runCall 0x91 c s

/-- FENCE (0x92). -/
def execFence (c : Call) (s : State) : Host.Outcome State Fault Refusal := runCall 0x92 c s

/-- UNFENCE (0x93). -/
def execUnfence (c : Call) (s : State) : Host.Outcome State Fault Refusal := runCall 0x93 c s

/-- FENCE_STATUS (0x94). -/
def execFenceStatus (c : Call) (s : State) : Host.Outcome State Fault Refusal := runCall 0x94 c s

/-- A SEED_ARM call with another OP in word 2 (R264). -/
def seedCall (op : Nat) (c : Call) : Call := { c with params := [c.word 0, c.word 1, w32 op] }

/-- SEED_DISARM: SEED_ARM with OP 1. -/
def execSeedDisarm (c : Call) (s : State) : Host.Outcome State Fault Refusal := runCall 0x52 (seedCall 1 c) s

/-- SEED_RESET: SEED_ARM with OP 2. -/
def execSeedReset (c : Call) (s : State) : Host.Outcome State Fault Refusal := runCall 0x52 (seedCall 2 c) s

end Sys2Proof.Machine
end

