-- ==== Sys2Proof/Machine/Dispatch.lean ====
section
/-! DEFINITION. Each command's meaning, one arm for each constructor of `Instr`. -/

namespace Sys2Proof.Machine

def exec (i : Instr) (s : State) : Host.Outcome State Fault Refusal :=
  match i with
  | .pktWrite port host op bytes => Sys2Proof.Machine.execPktWrite port host op bytes s
  | .pktRead port host len => Sys2Proof.Machine.execPktRead port host len s
  | .queueStatus host => Sys2Proof.Machine.execQueueStatus host s
  | .memRead host addr len f => Sys2Proof.Machine.execMemRead host addr len f s
  | .memWrite host addr bytes f => Sys2Proof.Machine.execMemWrite host addr bytes f s
  | .salterTakePacket f => Sys2Proof.Machine.execSalterTakePacket f s
  | .chainTimeout host => Sys2Proof.Machine.execChainTimeout host s
  | .sysNop c => Sys2Proof.Machine.execSysNop c s
  | .sysIdent c => Sys2Proof.Machine.execSysIdent c s
  | .sysSessionOpen c => Sys2Proof.Machine.execSysSessionOpen c s
  | .sysSessionClose c => Sys2Proof.Machine.execSysSessionClose c s
  | .regRead c => Sys2Proof.Machine.execRegRead c s
  | .regWrite c => Sys2Proof.Machine.execRegWrite c s
  | .setHostSleep c => Sys2Proof.Machine.execSetHostSleep c s
  | .sysFloor c => Sys2Proof.Machine.execSysFloor c s
  | .sysShutdown c => Sys2Proof.Machine.execSysShutdown c s
  | .shutdownEntry => Sys2Proof.Machine.execShutdownEntry s
  | .sysReset c => Sys2Proof.Machine.execSysReset c s
  | .hostReset bootsel => Sys2Proof.Machine.execHostReset bootsel s
  | .cfgCommit c => Sys2Proof.Machine.execCfgCommit c s
  | .snapshot c => Sys2Proof.Machine.execSnapshot c s
  | .sysStatus c => Sys2Proof.Machine.execSysStatus c s
  | .chanRead c => Sys2Proof.Machine.execChanRead c s
  | .chanWrite c => Sys2Proof.Machine.execChanWrite c s
  | .chanCommit c => Sys2Proof.Machine.execChanCommit c s
  | .chanStart c => Sys2Proof.Machine.execChanStart c s
  | .chanStop c => Sys2Proof.Machine.execChanStop c s
  | .chanStatus c => Sys2Proof.Machine.execChanStatus c s
  | .descriptorApply chan => Sys2Proof.Machine.execDescriptorApply chan s
  | .streamedBoundaryTimeout chan => Sys2Proof.Machine.execStreamedBoundaryTimeout chan s
  | .scriptWrite c => Sys2Proof.Machine.execScriptWrite c s
  | .scriptRead c => Sys2Proof.Machine.execScriptRead c s
  | .portStatus c => Sys2Proof.Machine.execPortStatus c s
  | .tableWindowWrite host addr bytes => Sys2Proof.Machine.execTableWindowWrite host addr bytes s
  | .scriptWindowWrite host addr bytes => Sys2Proof.Machine.execScriptWindowWrite host addr bytes s
  | .seedWindowWrite host addr bytes => Sys2Proof.Machine.execSeedWindowWrite host addr bytes s
  | .acquisitionStart chan late gap => Sys2Proof.Machine.execAcquisitionStart chan late gap s
  | .transactionStart port f sda => Sys2Proof.Machine.execTransactionStart port f sda s
  | .attemptEnd port cause bytes aux => Sys2Proof.Machine.execAttemptEnd port cause bytes aux s
  | .retryGap port => Sys2Proof.Machine.execRetryGap port s
  | .postDelay port => Sys2Proof.Machine.execPostDelay port s
  | .busWaitTimeout port => Sys2Proof.Machine.execBusWaitTimeout port s
  | .foreignSelectAssert port => Sys2Proof.Machine.execForeignSelectAssert port s
  | .foreignSelectRelease port => Sys2Proof.Machine.execForeignSelectRelease port s
  | .busFree port => Sys2Proof.Machine.execBusFree port s
  | .targetFrame port line f bytes bits => Sys2Proof.Machine.execTargetFrame port line f bytes bits s
  | .busInitialisation port found => Sys2Proof.Machine.execBusInitialisation port found s
  | .ibi port addr f bytes => Sys2Proof.Machine.execIbi port addr f bytes s
  | .hotJoin port found => Sys2Proof.Machine.execHotJoin port found s
  | .stretch port => Sys2Proof.Machine.execStretch port s
  | .streamWatchdog chan => Sys2Proof.Machine.execStreamWatchdog chan s
  | .remotePeriodEnd chan => Sys2Proof.Machine.execRemotePeriodEnd chan s
  | .eventPinEdge pin f rise => Sys2Proof.Machine.execEventPinEdge pin f rise s
  | .composeStamp latch => Sys2Proof.Machine.execComposeStamp latch s
  | .preStageOutput input f bits exc => Sys2Proof.Machine.execPreStageOutput input f bits exc s
  | .afeBlankEnd input => Sys2Proof.Machine.execAfeBlankEnd input s
  | .excLimit exc => Sys2Proof.Machine.execExcLimit exc s
  | .excSettled exc => Sys2Proof.Machine.execExcSettled exc s
  | .engineUnit => Sys2Proof.Machine.execEngineUnit s
  | .outputHandoff => Sys2Proof.Machine.execOutputHandoff s
  | .crystalliserOutput => Sys2Proof.Machine.execCrystalliserOutput s
  | .seedCrcCheck seed => Sys2Proof.Machine.execSeedCrcCheck seed s
  | .seedWrite c => Sys2Proof.Machine.execSeedWrite c s
  | .seedRead c => Sys2Proof.Machine.execSeedRead c s
  | .seedArm c => Sys2Proof.Machine.execSeedArm c s
  | .seedDisarm c => Sys2Proof.Machine.execSeedDisarm c s
  | .seedReset c => Sys2Proof.Machine.execSeedReset c s
  | .tplWrite c => Sys2Proof.Machine.execTplWrite c s
  | .svcConfig c => Sys2Proof.Machine.execSvcConfig c s
  | .svcStatus c => Sys2Proof.Machine.execSvcStatus c s
  | .serviceInput => Sys2Proof.Machine.execServiceInput s
  | .trendPeriodEnd chan day => Sys2Proof.Machine.execTrendPeriodEnd chan day s
  | .wakeRequest => Sys2Proof.Machine.execWakeRequest s
  | .wakeGapEnd host => Sys2Proof.Machine.execWakeGapEnd host s
  | .wakeLimitHour host => Sys2Proof.Machine.execWakeLimitHour host s
  | .panCommit => Sys2Proof.Machine.execPanCommit s
  | .tideInterval => Sys2Proof.Machine.execTideInterval s
  | .panStreamCfg c => Sys2Proof.Machine.execPanStreamCfg c s
  | .harvest c => Sys2Proof.Machine.execHarvest c s
  | .panMark c => Sys2Proof.Machine.execPanMark c s
  | .panRewind c => Sys2Proof.Machine.execPanRewind c s
  | .panFlush c => Sys2Proof.Machine.execPanFlush c s
  | .panStatus c => Sys2Proof.Machine.execPanStatus c s
  | .dropPacket host => Sys2Proof.Machine.execDropPacket host s
  | .panRpWrite host stream value => Sys2Proof.Machine.execPanRpWrite host stream value s
  | .tbRead c => Sys2Proof.Machine.execTbRead c s
  | .tbSet c => Sys2Proof.Machine.execTbSet c s
  | .tbRestep c => Sys2Proof.Machine.execTbRestep c s
  | .tbAssign c => Sys2Proof.Machine.execTbAssign c s
  | .tbValRead host tb f => Sys2Proof.Machine.execTbValRead host tb f s
  | .capture host f => Sys2Proof.Machine.execCapture host f s
  | .captureGroupRead host addr => Sys2Proof.Machine.execCaptureGroupRead host addr s
  | .captureGroupTimeout group host => Sys2Proof.Machine.execCaptureGroupTimeout group host s
  | .sync link f words => Sys2Proof.Machine.execSync link f words s
  | .pdelayReq link f words => Sys2Proof.Machine.execPdelayReq link f words s
  | .pdelayResp link f words => Sys2Proof.Machine.execPdelayResp link f words s
  | .pdelayTimeout link => Sys2Proof.Machine.execPdelayTimeout link s
  | .delayReq f words => Sys2Proof.Machine.execDelayReq f words s
  | .delayResp words => Sys2Proof.Machine.execDelayResp words s
  | .delayRespTimeout => Sys2Proof.Machine.execDelayRespTimeout s
  | .syncSend link f => Sys2Proof.Machine.execSyncSend link f s
  | .pdelaySend link f => Sys2Proof.Machine.execPdelaySend link f s
  | .lossTimeout tb => Sys2Proof.Machine.execLossTimeout tb s
  | .lnWrite c => Sys2Proof.Machine.execLnWrite c s
  | .lnCancel c => Sys2Proof.Machine.execLnCancel c s
  | .lnStart entry => Sys2Proof.Machine.execLnStart entry s
  | .launchFiring entry => Sys2Proof.Machine.execLaunchFiring entry s
  | .pinPulseEnd pin => Sys2Proof.Machine.execPinPulseEnd pin s
  | .tmWrite c => Sys2Proof.Machine.execTmWrite c s
  | .timerStart host timer f => Sys2Proof.Machine.execTimerStart host timer f s
  | .timerReset host timer f => Sys2Proof.Machine.execTimerReset host timer f s
  | .timerCapture host timer f => Sys2Proof.Machine.execTimerCapture host timer f s
  | .tmCntWrite host timer value f => Sys2Proof.Machine.execTmCntWrite host timer value f s
  | .timerMatch timer => Sys2Proof.Machine.execTimerMatch timer s
  | .timerEnd timer => Sys2Proof.Machine.execTimerEnd timer s
  | .calSet c => Sys2Proof.Machine.execCalSet c s
  | .calAlarm c => Sys2Proof.Machine.execCalAlarm c s
  | .calendarSecond => Sys2Proof.Machine.execCalendarSecond s
  | .plnMode c => Sys2Proof.Machine.execPlnMode c s
  | .plnBudget c => Sys2Proof.Machine.execPlnBudget c s
  | .plnReport c => Sys2Proof.Machine.execPlnReport c s
  | .ldgRead c => Sys2Proof.Machine.execLdgRead c s
  | .ldgStoreWrite host lo hi => Sys2Proof.Machine.execLdgStoreWrite host lo hi s
  | .stroke dom count => Sys2Proof.Machine.execStroke dom count s
  | .vbatMeasurement mv => Sys2Proof.Machine.execVbatMeasurement mv s
  | .ledgerRecalibration charges => Sys2Proof.Machine.execLedgerRecalibration charges s
  | .epochBoundary => Sys2Proof.Machine.execEpochBoundary s
  | .overspendTrip => Sys2Proof.Machine.execOverspendTrip s
  | .reserveTrip => Sys2Proof.Machine.execReserveTrip s
  | .railSlewDone dom => Sys2Proof.Machine.execRailSlewDone dom s
  | .descent floor => Sys2Proof.Machine.execDescent floor s
  | .wakeComparator => Sys2Proof.Machine.execWakeComparator s
  | .floorWake source => Sys2Proof.Machine.execFloorWake source s
  | .hsleepEdge host asleep => Sys2Proof.Machine.execHsleepEdge host asleep s
  | .legusWake link => Sys2Proof.Machine.execLegusWake link s
  | .shutdownWake level bootsel => Sys2Proof.Machine.execShutdownWake level bootsel s
  | .powerOn bootsel => Sys2Proof.Machine.execPowerOn bootsel s
  | .brownout bootsel => Sys2Proof.Machine.execBrownout bootsel s
  | .pin bootsel => Sys2Proof.Machine.execPin bootsel s
  | .watchdog core bootsel => Sys2Proof.Machine.execWatchdog core bootsel s
  | .coldBoot charges banks => Sys2Proof.Machine.execColdBoot charges banks s
  | .brownoutWarning => Sys2Proof.Machine.execBrownoutWarning s
  | .lifetimeWrite => Sys2Proof.Machine.execLifetimeWrite s
  | .lifetimeWriteDone => Sys2Proof.Machine.execLifetimeWriteDone s
  | .lifeRead c => Sys2Proof.Machine.execLifeRead c s
  | .nvsCfgSave c => Sys2Proof.Machine.execNvsCfgSave c s
  | .nvsCfgSaveCompletion => Sys2Proof.Machine.execNvsCfgSaveCompletion s
  | .nvsCfgSelect c => Sys2Proof.Machine.execNvsCfgSelect c s
  | .fwBegin c => Sys2Proof.Machine.execFwBegin c s
  | .fwData c => Sys2Proof.Machine.execFwData c s
  | .fwVerify c => Sys2Proof.Machine.execFwVerify c s
  | .fwVerifyCompletion => Sys2Proof.Machine.execFwVerifyCompletion s
  | .provision c => Sys2Proof.Machine.execProvision c s
  | .keyLoad c => Sys2Proof.Machine.execKeyLoad c s
  | .sltRole c => Sys2Proof.Machine.execSltRole c s
  | .sltView c => Sys2Proof.Machine.execSltView c s
  | .sltExpect c => Sys2Proof.Machine.execSltExpect c s
  | .sltRejoin c => Sys2Proof.Machine.execSltRejoin c s
  | .sltRejoinCompletion => Sys2Proof.Machine.execSltRejoinCompletion s
  | .legStatus c => Sys2Proof.Machine.execLegStatus c s
  | .legusFrame link f bytes crc abort => Sys2Proof.Machine.execLegusFrame link f bytes crc abort s
  | .announce path head words => Sys2Proof.Machine.execAnnounce path head words s
  | .view path src words => Sys2Proof.Machine.execView path src words s
  | .samples path src words => Sys2Proof.Machine.execSamples path src words s
  | .announceInterval f => Sys2Proof.Machine.execAnnounceInterval f s
  | .viewTimeout => Sys2Proof.Machine.execViewTimeout s
  | .memberTimeout hub => Sys2Proof.Machine.execMemberTimeout hub s
  | .samplesBatch => Sys2Proof.Machine.execSamplesBatch s
  | .linkUp link => Sys2Proof.Machine.execLinkUp link s
  | .linkDown link => Sys2Proof.Machine.execLinkDown link s
  | .rfConfig c => Sys2Proof.Machine.execRfConfig c s
  | .rfTx c => Sys2Proof.Machine.execRfTx c s
  | .rfTxCompletion result => Sys2Proof.Machine.execRfTxCompletion result s
  | .rfRx c => Sys2Proof.Machine.execRfRx c s
  | .rfCal c => Sys2Proof.Machine.execRfCal c s
  | .rfCalCompletion => Sys2Proof.Machine.execRfCalCompletion s
  | .rfStatus c => Sys2Proof.Machine.execRfStatus c s
  | .radioFrame f bytes crc rssi lqi => Sys2Proof.Machine.execRadioFrame f bytes crc rssi lqi s
  | .immAck => Sys2Proof.Machine.execImmAck s
  | .ackWaitExpiry => Sys2Proof.Machine.execAckWaitExpiry s
  | .xoStart => Sys2Proof.Machine.execXoStart s
  | .synthLock => Sys2Proof.Machine.execSynthLock s
  | .radioCalibration kind ended value => Sys2Proof.Machine.execRadioCalibration kind ended value s
  | .txWait => Sys2Proof.Machine.execTxWait s
  | .launchedTxSynth entry receiving => Sys2Proof.Machine.execLaunchedTxSynth entry receiving s
  | .lateTx => Sys2Proof.Machine.execLateTx s
  | .txDone => Sys2Proof.Machine.execTxDone s
  | .rxWindow start => Sys2Proof.Machine.execRxWindow start s
  | .sluiceEvent => Sys2Proof.Machine.execSluiceEvent s
  | .filterExpiry sluice => Sys2Proof.Machine.execFilterExpiry sluice s
  | .slFire host sluice => Sys2Proof.Machine.execSlFire host sluice s
  | .icAckRead host target => Sys2Proof.Machine.execIcAckRead host target s
  | .icEoiWrite host target vector => Sys2Proof.Machine.execIcEoiWrite host target vector s
  | .doorbell host target value => Sys2Proof.Machine.execDoorbell host target value s
  | .ibiRepeat => Sys2Proof.Machine.execIbiRepeat s
  | .fallback source => Sys2Proof.Machine.execFallback source s
  | .wakePulseEnd target => Sys2Proof.Machine.execWakePulseEnd target s
  | .logRead c => Sys2Proof.Machine.execLogRead c s
  | .logClear c => Sys2Proof.Machine.execLogClear c s
  | .fence c => Sys2Proof.Machine.execFence c s
  | .unfence c => Sys2Proof.Machine.execUnfence c s
  | .fenceStatus c => Sys2Proof.Machine.execFenceStatus c s
  | .fenceTimeout sel => Sys2Proof.Machine.execFenceTimeout sel s
  | .checkPass => Sys2Proof.Machine.execCheckPass s
  | .pd0Fault code logOk bootsel => Sys2Proof.Machine.execPd0Fault code logOk bootsel s
  | .snap host => Sys2Proof.Machine.execSnap host s
  | .registerWrite host addr value => Sys2Proof.Machine.execRegisterWrite host addr value s
  | .blockBoundaryApply addr => Sys2Proof.Machine.execBlockBoundaryApply addr s
  | .crystalTick sns0 sns1 => Sys2Proof.Machine.execCrystalTick sns0 sns1 s
  | .brownoutRecovery => Sys2Proof.Machine.execBrownoutRecovery s
  | .excLimitEnd exc => Sys2Proof.Machine.execExcLimitEnd exc s

end Sys2Proof.Machine
end

