-- ==== Sys2Proof/Safety.lean ====
section
/-! DEFINITION. The terms in which claims are stated: what every command keeps, when an opcode passes the shared packet checks, the state it starts from and
the state once it is answered, and the invariants of the hub. -/

namespace Sys2Proof.Machine

/-! ### Outcomes -/

/-- The state after a command that made `t` of `s`: no command touches the queue of waiting commands, this one does not move TB0's count (R337), and
PROVISIONED is never left (R52). -/
def kept (s t : State) : State := { t with pending := s.pending, tick := s.tick, provisioned := s.provisioned || t.provisioned }

/-- The same for a command that may move TB0's count. -/
def keptClock (s t : State) : State := { t with pending := s.pending, provisioned := s.provisioned || t.provisioned }

/-! ### Opcodes (R64, R70 to R72) -/

/-- The packet of opcode `code` passes checks 1 to 11: Salter serves the host and its port, the session is the port's own (check 10; the opcodes 0x00 to 0x02
need none), the saltern's common command set carries the opcode (check 9), and the host's privilege is at least `priv` (check 11). -/
def Ready (s : State) (code priv : Nat) (c : Call) : Prop :=
  s.callRuns c = true ∧ (2 < code → (s.host c.host).session = some c.port) ∧ 0x0300 ≤ s.slt.common ∧ priv ≤ s.privOf c.host

/-- An ACCEPTED command finds fewer than eight outstanding ones of its host, and none with its tag (R78). -/
def AsyncReady (s : State) (c : Call) : Prop :=
  (s.host c.host).asyncOut.length < 8 ∧ (s.host c.host).asyncOut.any (fun p => p.1 == c.tag) = false

/-- The opcode and the call of a command that is one: its packet is that opcode alone, SEED_DISARM and SEED_RESET being SEED_ARM with OP 1 and 2 (R264). -/
def opcodeCall (i : Instr) : Option (Nat × Call) :=
  match i with
  | .sysNop c => some (0x00, c)
  | .sysIdent c => some (0x01, c)
  | .sysSessionOpen c => some (0x02, c)
  | .sysSessionClose c => some (0x03, c)
  | .regRead c => some (0x04, c)
  | .regWrite c => some (0x05, c)
  | .setHostSleep c => some (0x06, c)
  | .sysFloor c => some (0x07, c)
  | .sysShutdown c => some (0x08, c)
  | .sysReset c => some (0x09, c)
  | .cfgCommit c => some (0x0A, c)
  | .snapshot c => some (0x0B, c)
  | .sysStatus c => some (0x0C, c)
  | .chanRead c => some (0x10, c)
  | .chanWrite c => some (0x11, c)
  | .chanCommit c => some (0x12, c)
  | .chanStart c => some (0x13, c)
  | .chanStop c => some (0x14, c)
  | .chanStatus c => some (0x15, c)
  | .scriptWrite c => some (0x16, c)
  | .scriptRead c => some (0x17, c)
  | .portStatus c => some (0x18, c)
  | .seedWrite c => some (0x50, c)
  | .seedRead c => some (0x51, c)
  | .seedArm c => some (0x52, c)
  | .seedDisarm c => some (0x52, seedCall 1 c)
  | .seedReset c => some (0x52, seedCall 2 c)
  | .tplWrite c => some (0x53, c)
  | .svcConfig c => some (0x54, c)
  | .svcStatus c => some (0x55, c)
  | .panStreamCfg c => some (0x20, c)
  | .harvest c => some (0x21, c)
  | .panMark c => some (0x22, c)
  | .panRewind c => some (0x23, c)
  | .panFlush c => some (0x24, c)
  | .panStatus c => some (0x25, c)
  | .tbRead c => some (0x30, c)
  | .tbSet c => some (0x31, c)
  | .tbRestep c => some (0x32, c)
  | .tbAssign c => some (0x33, c)
  | .lnWrite c => some (0x34, c)
  | .lnCancel c => some (0x35, c)
  | .tmWrite c => some (0x36, c)
  | .calSet c => some (0x37, c)
  | .calAlarm c => some (0x38, c)
  | .plnMode c => some (0x40, c)
  | .plnBudget c => some (0x41, c)
  | .plnReport c => some (0x42, c)
  | .ldgRead c => some (0x43, c)
  | .lifeRead c => some (0x80, c)
  | .nvsCfgSave c => some (0x81, c)
  | .nvsCfgSelect c => some (0x82, c)
  | .fwBegin c => some (0x83, c)
  | .fwData c => some (0x84, c)
  | .fwVerify c => some (0x85, c)
  | .provision c => some (0x86, c)
  | .keyLoad c => some (0x87, c)
  | .sltRole c => some (0x60, c)
  | .sltView c => some (0x61, c)
  | .sltExpect c => some (0x62, c)
  | .sltRejoin c => some (0x63, c)
  | .legStatus c => some (0x64, c)
  | .rfConfig c => some (0x70, c)
  | .rfTx c => some (0x71, c)
  | .rfRx c => some (0x72, c)
  | .rfCal c => some (0x73, c)
  | .rfStatus c => some (0x74, c)
  | .logRead c => some (0x90, c)
  | .logClear c => some (0x91, c)
  | .fence c => some (0x92, c)
  | .unfence c => some (0x93, c)
  | .fenceStatus c => some (0x94, c)
  | _ => none

/-- Checks 6 to 10 of a packet pass: Salter serves the host and its port, and the session is the port's own (R64). -/
def Admissible (s : State) (code : Nat) (c : Call) : Prop :=
  s.callRuns c = true ∧ 0x0300 ≤ s.slt.common ∧ (2 < code → (s.host c.host).session = some c.port)

/-- The state against which checks 12 to 14 of a packet are made: the instant of its grant, with the flag of SET_HOST_SLEEP cleared by every other opcode (R54). -/
def admitted (s : State) (code : Nat) (c : Call) : State :=
  if code = 0x06 then s.atF c.f else (s.atF c.f).modHost c.host (fun x => { x with sleepSet := false })

/-- The state an opcode executes in: a reply slot of its host is kept for it (R600). -/
def started (s : State) (code : Nat) (c : Call) : State := (admitted s code c).modHost c.host (fun x => { x with due := 1 })

/-- The same for an ACCEPTED command, which is outstanding from here on (R78). -/
def startedAsync (s : State) (code : Nat) (c : Call) : State :=
  (started s code c).modHost c.host (fun x => { x with asyncOut := x.asyncOut ++ [(c.tag, code)] })

/-- The reply to the call: its opcode and tag, the status, LOGGED and the words (R62). -/
def replyTo (code : Nat) (c : Call) (st : Nat) (logged : Bool) (ws : List Word) : Reply := ⟨code, c.tag, st, false, false, c.host, logged, false, ws⟩

/-- The state once an opcode that made `u` of its starting state is answered with `st` and `ws`: the reply takes the slot kept for it, unless REPLY is 0 and the
status is OK or ACCEPTED (R70), when a completion that is held takes it (R600); what the reply sets off follows it (R89); then boundaries that are at once and completions that are due (R112, R119). -/
def answered (s : State) (code : Nat) (c : Call) (u : State) (st : Nat) (ws : List Word) : State :=
  let logged := logGrew s.log u.log || ((code = 0x04 || code = 0x05) && st = stNotPermitted)
  let u1 := u.modHost c.host (fun x => { x with due := x.due - 1 })
  let u2 := if replyWanted c.reply st then u1.enqueueReply c.host (replyTo code c st logged ws) else u1.releaseHeld c.host
  kept s (u2.afterReply c.host (callPkt code c) st)

/-- The state once a packet that fails one of checks 6 to 14 is answered with the check's status, `u` being what the checks left: the reply, and nothing else (R64, R72). -/
def refusedWith (s : State) (code : Nat) (c : Call) (u : State) (st : Nat) (logged : Bool) : State :=
  kept s (((u.modHost c.host (fun x => { x with due := 1 })).modHost c.host (fun x => { x with due := x.due - 1 })).enqueueReply c.host
    (replyTo code c st logged []))

/-! ### Packets as a host sends them (R61, R63) -/

/-- A packet that a host can lay out: LEN at most 63, its opcode, tag and HOST in their fields, and no reserved bit. -/
def Pkt.Ok (p : Pkt) : Prop := p.params.length < 64 ∧ p.op < 256 ∧ p.tag < 256 ∧ p.hostField < 4 ∧ p.rsvd = false

/-- The bytes of a packet: the sync byte 0xA5, LEN, the opcode, the tag, the flags (REPLY, CHAIN and HOST), 0, the CRC of R63 over all the other bytes, and the parameter
words, least significant byte first. -/
def Pkt.bytes (p : Pkt) : List Byte :=
  let head : List Byte := [0xA5#8, BitVec.ofNat 8 p.params.length, BitVec.ofNat 8 p.op, BitVec.ofNat 8 p.tag,
    BitVec.ofNat 8 ((if p.reply then 1 else 0) + (if p.chain then 2 else 0) + 16 * p.hostField), 0#8]
  let body := wordsBytes p.params
  let c := (crc16 (head ++ body)).toNat
  head ++ [BitVec.ofNat 8 c, BitVec.ofNat 8 (c / 256)] ++ body

/-- Command operands of these bytes. -/
def asOperand (l : List Byte) : List Nat := l.map (fun b => b.toNat)

/-! ### Register accesses (R541 to R550) -/

/-- The state once an access of host `h` at `a` that made `u` of its starting state is done: the runs of refused accesses end (R569), and boundaries that are at once
are taken. -/
def accessed (s : State) (h a : Nat) (u : State) : State := kept s ((u.noteAccess h a .pass).settle)

/-- The state once a direct read that made `u` of its starting state is done, with the bytes that the host has taken. -/
def shown (s u : State) (l : List Byte) : State := kept s { u with out := l }

/-! ### Invariants -/

/-- The memory's canonical form: addresses strictly rising, and no byte listed that equals what an unlisted address reads as. -/
abbrev Memory.wf (m : List Host.Cell) : Prop := Tab.wf memDefault m = true

end Sys2Proof.Machine
end

