-- ==== Sys2Proof/Certificates/Slice0/Obligations.lean ====
section
/-! DEFINITION. The statements for the provers: what each command does and what the hub as a whole keeps. The exact next states are given in the terms of Safety: `kept`,
`answered`, `refusedWith`, `accessed` and `shown`. -/

open Sys2Proof Sys2Proof.Machine

/-- R70, R84 to R86, R95 and R81: SYS_NOP, SYS_IDENT, SYS_SESSION_OPEN, SYS_SESSION_CLOSE and SYS_STATUS, each with its whole next state: the words of the
reply, and the session it opens or closes. -/
def Obligations.IdentityAndSessionOpcodesComplete : Prop :=
  ∀ (s : State) (c : Call), c.params = [] →
  (Ready s 0x00 0 c → exec (.sysNop c) s = .next (answered s 0x00 c (started s 0x00 c) 0 [])) ∧
  (Ready s 0x01 0 c →
    exec (.sysIdent c) s = .next (answered s 0x01 c (started s 0x01 c) 0
      [w32 (0x0192 * 2 ^ 16 + (if Config.dieIsB then 0x0B else 0x0A) * 2 ^ 8), w32 Config.uid.toNat, w32 (Config.uid.toNat / 2 ^ 32),
        w32 (0x0300 * 2 ^ 16 + s.slt.common), s.salterVer, w32 ((if s.provisioned then 1 else 0) * 2 ^ 30 + s.privOf c.host * 2 ^ 28 + s.pwr.cause)])) ∧
  (Ready s 0x02 0 c → (s.host c.host).asyncOut = [] →
    let n := if 0xFFFF ≤ s.sessionNo then 1 else s.sessionNo + 1
    exec (.sysSessionOpen c) s = .next (answered s 0x02 c
      (({ started s 0x02 c with sessionNo := n }).modHost c.host (fun x => { x with session := some c.port, closing := false })) 0
      [w32 (c.port * 2 ^ 18 + s.privOf c.host * 2 ^ 16 + n), w32 s.life.boots])) ∧
  (Ready s 0x03 0 c → (s.host c.host).asyncOut = [] →
    exec (.sysSessionClose c) s = .next (answered s 0x03 c ((started s 0x03 c).modHost c.host (fun x => { x with session := none, closing := false })) 0 [])) ∧
  (Ready s 0x0C 0 c →
    let role := if s.slt.state = 0 then 0 else if s.isLeader then 2 else 1
    exec (.sysStatus c) s = .next (answered s 0x0C c (started s 0x0C c) 0
      [w32 ((if s.provisioned then 1 else 0) * 2 ^ 12 + role * 2 ^ 10 + s.plnModeInForce * 2 ^ 8 + (if s.pwr.reserveHold then 1 else 0) * 2 ^ 7 +
        s.pwr.permit * 2 ^ 2), w32 s.domFenced]))

/-- R54, R87 to R94, R558: REG_READ, REG_WRITE, SET_HOST_SLEEP, SYS_FLOOR, SYS_SHUTDOWN, SYS_RESET, CFG_COMMIT and SNAPSHOT, each with its whole next state. The
words of REG_READ and REG_WRITE are judged and served one by one by `regRead` and `regWrite`; SET_HOST_SLEEP sets its flag in what follows the reply. -/
def Obligations.ControlOpcodesComplete : Prop :=
  ∀ (s : State) (c : Call),
  (Ready s 0x04 0 c → c.params.length = 2 → 1 ≤ (c.word 1).toNat → (c.word 1).toNat ≤ 62 →
    let r := (started s 0x04 c).regRead c.host (c.word 0).toNat (c.word 1).toNat
    exec (.regRead c) s = .next (answered s 0x04 c r.1 r.2.1 r.2.2)) ∧
  (Ready s 0x05 0 c → 3 ≤ c.params.length → c.params.length ≤ 63 → (c.word 1).toNat + 2 = c.params.length →
    let r := (started s 0x05 c).regWrite c.host (c.word 0).toNat (c.params.drop 2)
    exec (.regWrite c) s = .next (answered s 0x05 c r.1 r.2.1 r.2.2)) ∧
  (Ready s 0x06 0 c → c.params = [] →
    exec (.setHostSleep c) s = .next (answered s 0x06 c (started s 0x06 c) 0 [])) ∧
  (Ready s 0x07 1 c → c.params.length = 1 → (c.word 0).toNat ≤ 2 →
    exec (.sysFloor c) s = .next (answered s 0x07 c { started s 0x07 c with pwr := { s.pwr with permit := (c.word 0).toNat } } 0 [])) ∧
  (Ready s 0x08 1 c → c.params.length = 1 → (c.word 0).toNat < 4 →
    exec (.sysShutdown c) s = .next (answered s 0x08 c
      { started s 0x08 c with pwr := { s.pwr with shutArm := some (c.host, c.tag, bitAt (c.word 0) 0, bitAt (c.word 0) 1) } } 0 [])) ∧
  (Ready s 0x09 1 c → c.params = [] →
    exec (.sysReset c) s = .next (answered s 0x09 c { started s 0x09 c with pwr := { s.pwr with resetArm := true } } 0 [])) ∧
  (Ready s 0x0A 1 c → AsyncReady s c → c.params = [] → s.check.commit = none →
    exec (.cfgCommit c) s = .next (answered s 0x0A c
      { startedAsync s 0x0A c with
        check := { units := Tab.mapVals (fun _ => ChkUnit.reset) s.check.units (fun x => { x with dirty := false, drift := false }),
                   commit := some (c.host, c.tag, c.reply) } } 1 [])) ∧
  (Ready s 0x0B 0 c → c.params = [] →
    exec (.snapshot c) s = .next (answered s 0x0B c (started s 0x0B c).snapshot 0 [w32 (started s 0x0B c).tb0, w32 ((started s 0x0B c).tb0 / 2 ^ 32)]))

/-- R102, R119, R126, R131 to R135, R159, R177 to R179, R465: the channel, script and port opcodes, each with its whole next state. A commit or start whose channels
are neither FENCED nor locked, whose every check passes and which the budget admits is answered ACCEPTED, records PASS in LAST_CHECK, holds at OFF a channel
whose TIER0 does not fit but which may be held there, and is outstanding until each named channel has reached its boundary. -/
def Obligations.ChannelOpcodesComplete : Prop :=
  ∀ (s : State) (c : Call),
  (Ready s 0x10 0 c → c.params.length = 2 → c.fld 0 31 9 = 0 → c.fld 0 7 0 < 192 → c.fld 1 31 9 = 0 → 1 ≤ c.fld 1 8 4 → c.fld 1 3 0 + c.fld 1 8 4 ≤ 16 →
    exec (.chanRead c) s = .next (answered s 0x10 c (started s 0x10 c) 0
      ((List.range (c.fld 1 8 4)).map (fun k =>
        if bitAt (c.word 0) 8 then s.desc (c.fld 0 7 0) (c.fld 1 3 0 + k)
        else s.rdWord (0x20000000 + 64 * c.fld 0 7 0 + 4 * (c.fld 1 3 0 + k)))))) ∧
  (Ready s 0x12 1 c → AsyncReady s c → c.params.length = 6 →
    let u := startedAsync s 0x12 c
    let l := maskChans c
    l ≠ [] → (∀ n ∈ l, (u.chan n).state ≠ 4 ∧ u.locked n = false ∧ u.checkDesc n l = 0) → u.poolTooFull l = false →
    (∀ n ∈ l, (u.tdesc n).enable = true → (u.chan n).state = 0 → u.admission n (u.tdesc n) ≠ 0) →
    exec (.chanCommit c) s =
      let p := l.foldl (fun w n => w.modChan n (fun x => { x with lastCheck := 0 })) u
      let v := (l.filter (fun n => (u.tdesc n).enable && (u.chan n).state == 0)).foldl
        (fun w n => if u.admission n (u.tdesc n) = 2 then w.modChan n (fun x => { x with tierNext := some (0, true) }) else w) p
      .next (answered s 0x12 c { v with jobs := v.jobs ++ [⟨c.host, 0x12, c.tag, c.reply, l, false, [], false⟩] } 1 [])) ∧
  (Ready s 0x13 1 c → AsyncReady s c → c.params.length = 6 →
    let u := startedAsync s 0x13 c
    let l := maskChans c
    let new := l.filter (fun n => !u.running n)
    l ≠ [] → (∀ n ∈ l, (u.chan n).state ≠ 4 ∧ u.locked n = false) →
    let fit := fun n => u.admission n (if u.running n then u.ad n else u.tdesc n)
    (∀ n ∈ new, u.checkDesc n new = 0 ∧ (u.tdesc n).enable = true) → (∀ n ∈ l, fit n ≠ 0) → u.poolTooFull new = false →
    exec (.chanStart c) s =
      let p := new.foldl (fun w n => w.modChan n (fun x => { x with lastCheck := 0 })) u
      let v := l.foldl (fun w n => if fit n = 2 then w.modChan n (fun x => { x with tierNext := some (0, true) })
        else if u.running n && u.plnModeInForce = 2 then w.modChan n (fun x => { x with tierNext := none }) else w) p
      .next (answered s 0x13 c { v with jobs := v.jobs ++ [⟨c.host, 0x13, c.tag, c.reply, l, false, l.filter (fun n => u.running n), false⟩] } 1 [])) ∧
  (Ready s 0x14 1 c → AsyncReady s c → c.params.length = 6 →
    let u := startedAsync s 0x14 c
    let l := maskChans c
    let wait := l.filter (fun n => u.running n && u.undelivered n)
    l ≠ [] → (∀ n ∈ l, (u.chan n).state ≠ 4) →
    exec (.chanStop c) s =
      let v := (l.filter (fun n => !wait.contains n)).foldl (fun w n => w.stopChan n) u
      .next (answered s 0x14 c { v with jobs := v.jobs ++ [⟨c.host, 0x14, c.tag, c.reply, wait, false, [], false⟩] } 1 [])) ∧
  (Ready s 0x15 0 c → c.params.length = 1 → (c.word 0).toNat < 192 →
    let n := (c.word 0).toNat
    let x := s.chan n
    exec (.chanStatus c) s = .next (answered s 0x15 c (started s 0x15 c) 0
      [w32 (x.state * 2 ^ 29 + (if x.pinned.isSome then 1 else 0) * 2 ^ 28 + (if s.locked n then 1 else 0) * 2 ^ 27 + (if x.dirty then 1 else 0) * 2 ^ 26 +
          x.tier * 2 ^ 24 + (if x.tierOff then 1 else 0) * 2 ^ 23 + bits (s.rdWord (0x20000000 + 64 * n + 60)) 31 16),
        w32 (x.lastCheck * 2 ^ 24 + x.failRun * 2 ^ 16 + x.overflow), w32 x.failed, w32 x.lastGood])) ∧
  (Ready s 0x16 1 c → 2 ≤ c.params.length → c.params.length ≤ 63 → (c.word 0).toNat + c.params.length ≤ 4097 →
    exec (.scriptWrite c) s = .next (answered s 0x16 c ((started s 0x16 c).wrWords (0x20010000 + 4 * (c.word 0).toNat) (c.params.drop 1)) 0 [])) ∧
  (Ready s 0x17 0 c → c.params.length = 2 → 1 ≤ (c.word 1).toNat → (c.word 1).toNat < 64 → (c.word 0).toNat + (c.word 1).toNat ≤ 4096 →
    exec (.scriptRead c) s = .next (answered s 0x17 c (started s 0x17 c) 0
      ((List.range (c.word 1).toNat).map (fun k => s.rdWord (0x20010000 + 4 * (c.word 0).toNat + 4 * k))))) ∧
  (Ready s 0x18 0 c → c.params.length = 1 → (c.word 0).toNat ≤ 17 → s.isFenced 8 (portDomain (c.word 0).toNat) = false →
    let p := (c.word 0).toNat
    let x := s.port p
    exec (.portStatus c) s = .next (answered s 0x18 c (started s 0x18 c) 0
      [w32 (s.portState p * 2 ^ 29 + (if s.portTarget p then 1 else 0) * 2 ^ 28 + x.lastFail * 2 ^ 24 + x.skipped), w32 x.transactions, w32 x.failed,
        w32 (if p < 12 then x.frames else x.recoveries * 2 ^ 16)]))

/-- R235, R257, R263 to R265, R272 to R274, R295, R296: the opcodes of the Crystalliser and of Salter's services, each with its whole next state: a write of a
disarmed seed, its words read back, arming when every named seed passes its check, disarming and resetting those of the named seeds that are armed, a
template's words, a service's parameter block and its status. -/
def Obligations.SeedAndServiceOpcodesComplete : Prop :=
  ∀ (s : State) (c : Call),
  (Ready s 0x50 1 c → c.fld 0 31 9 = 0 → c.fld 0 7 6 = 0 → c.fld 1 31 13 = 0 → 1 ≤ c.fld 1 12 6 → c.fld 1 12 6 ≤ 61 → c.fld 1 5 0 + c.fld 1 12 6 ≤ 64 →
    c.params.length = c.fld 1 12 6 + 2 →
    let n := c.fld 0 5 0
    let a := 0x400A8000 + 256 * n
    s.isFenced 8 7 = false → s.isFenced 2 n = false → (s.seed n).armed = false →
    exec (.seedWrite c) s =
      let u := (started s 0x50 c).wrWords (a + 4 * c.fld 1 5 0) (c.params.drop 2)
      .next (answered s 0x50 c (if bitAt (c.word 0) 8 then u.wrWord (a + 252) (setBits (u.rdWord (a + 252)) 15 0 (u.seedCrc n)) else u) 0 [])) ∧
  (Ready s 0x51 0 c → c.params.length = 2 → c.fld 0 31 6 = 0 → c.fld 1 31 13 = 0 → 1 ≤ c.fld 1 12 6 → c.fld 1 12 6 ≤ 62 →
    c.fld 1 5 0 + c.fld 1 12 6 ≤ 64 → s.isFenced 8 7 = false →
    exec (.seedRead c) s = .next (answered s 0x51 c (started s 0x51 c) 0
      ((List.range (c.fld 1 12 6)).map (fun k => s.rdWord (0x400A8000 + 256 * c.fld 0 5 0 + 4 * (c.fld 1 5 0 + k)))))) ∧
  (Ready s 0x52 1 c → c.params.length = 3 → c.word 2 = 0 →
    let u := started s 0x52 c
    maskSeeds c ≠ [] → s.isFenced 8 7 = false → (∀ n ∈ maskSeeds c, s.isFenced 2 n = false ∧ u.seedCheck n (maskSeeds c) = 0) →
    exec (.seedArm c) s = .next (answered s 0x52 c ((maskSeeds c).foldl State.armSeed u) 0 [])) ∧
  (let d := seedCall 1 c;
    Ready s 0x52 1 d → maskSeeds d ≠ [] → s.isFenced 8 7 = false → (∀ n ∈ maskSeeds d, s.isFenced 2 n = false) →
    let u := started s 0x52 d
    exec (.seedDisarm c) s = .next (answered s 0x52 d (((maskSeeds d).filter (fun n => (u.seed n).armed)).foldl State.disarmSeed u) 0 [])) ∧
  (let d := seedCall 2 c;
    Ready s 0x52 1 d → maskSeeds d ≠ [] → s.isFenced 8 7 = false → (∀ n ∈ maskSeeds d, s.isFenced 2 n = false) →
    let u := started s 0x52 d
    let l := (maskSeeds d).filter (fun n => (u.seed n).armed)
    (∀ n ∈ l, u.seedCheck n l = 0) → exec (.seedReset c) s = .next (answered s 0x52 d (l.foldl State.armSeed u) 0 [])) ∧
  (Ready s 0x53 1 c → c.fld 0 31 14 = 0 → c.fld 1 31 6 = 0 → 1 ≤ c.fld 1 5 0 → c.fld 1 5 0 ≤ 61 → c.fld 0 13 0 + c.fld 1 5 0 ≤ 16384 →
    c.params.length = c.fld 1 5 0 + 2 → s.isFenced 8 7 = false →
    let u := started s 0x53 c
    let a := 0x21000000 + 4 * c.fld 0 13 0
    (∀ k < 4 * c.fld 1 5 0, u.seedByteRefused (a + k) = false) →
    exec (.tplWrite c) s = .next (answered s 0x53 c (u.wrWords a (c.params.drop 2)) 0 [])) ∧
  (Ready s 0x54 1 c → 2 ≤ c.params.length → opSvcConfig.valid (started s 0x54 c) c = true → s.isFenced 8 2 = false → s.svcFenced c.svcIdx = false →
    exec (.svcConfig c) s =
      let u := (List.range (c.params.length - 2)).foldl (fun v k =>
        { v with svc := { v.svc with stored := v.svc.stored.set (fun _ => 0) (256 * c.svcIdx + c.fld 1 7 0 + k) (c.word (2 + k)) } }) (started s 0x54 c)
      let v := u.modUnit (249 + c.svcIdx) (fun x => { x with dirty := true })
      .next (answered s 0x54 c (if v.svcIdle c.svcIdx then v.svcApply c.svcIdx else v) 0 [])) ∧
  (Ready s 0x55 0 c → c.params.length = 1 → c.fld 0 31 19 = 0 → c.fld 0 11 0 = 0 → svcNamed c = true → s.isFenced 8 2 = false →
    let i := c.svcIdx
    let x := s.svcInst i
    exec (.svcStatus c) s = .next (answered s 0x55 c (started s 0x55 c) 0
      ([w32 ((if i = 27 ∨ bitAt (s.svcWord i 0) 31 = true then 1 else 0) * 2 ^ 31 + (if s.svcFenced i then 1 else 0) * 2 ^ 30 + x.error * 2 ^ 26),
        w32 x.outputs, w32 x.overrun, w32 x.instr] ++ s.svcOwnWords i)))

/-- R321, R323, R329 to R335: the Pan opcodes on a stream that is not fenced (and enabled where the opcode needs it), each with its whole next state: the words of
whole records a HARVEST gives and how far RP moves, the mark set, cleared and returned to, the words a flush discards, and the stream's status. -/
def Obligations.PanOpcodesComplete : Prop :=
  ∀ (s : State) (c : Call), s.isFenced 8 8 = false →
  (Ready s 0x20 1 c → c.params.length = 4 → (c.word 0).toNat < 32 → c.fld 1 26 16 = 0 → (c.word 2).toNat ≤ 512 → c.word 3 = 0 →
    let n := (c.word 0).toNat
    let u := started s 0x20 c
    s.isFenced 4 n = false → u.panCfgOk n (c.word 1) = true →
    exec (.panStreamCfg c) s = .next (answered s 0x20 c
      ((((u.setReg .panCfg n (c.word 1)).setReg .panWm n (c.word 2)).modUnit (211 + n) (fun x => { x with dirty := true })).applyPanCfg n) 0 [])) ∧
  (Ready s 0x21 0 c → c.params.length = 3 → c.fld 0 31 9 = 0 → c.fld 0 7 5 = 0 → c.fld 1 30 19 = 0 → (bitAt (c.word 1) 31 = true → c.fld 1 18 0 = 0) →
    1 ≤ (c.word 2).toNat → (c.word 2).toNat ≤ 62 →
    let n := c.fld 0 4 0
    let u := started s 0x21 c
    let x := s.stream n
    let cfg := s.app .panCfg n
    let r := ringSize cfg
    let start := if bitAt (c.word 1) 31 then x.rp else c.fld 1 18 0
    s.isFenced 4 n = false → s.streamOn n = true → (u.recStarts cfg x.wp (ringDist r x.keep x.wp) x.keep).contains start = true →
    exec (.harvest c) s =
      let got := u.harvest cfg x.wp 62 (c.word 2).toNat start
      .next (answered s 0x21 c
        (if bitAt (c.word 0) 8 && decide (ringDist r x.keep x.rp < ringDist r x.keep got.2) then u.advanceRp n got.2 else u) 0
        (w32 (got.1.length * 2 ^ 26 + got.2) :: got.1))) ∧
  (Ready s 0x22 0 c → c.params.length = 1 → c.fld 0 31 9 = 0 → c.fld 0 7 5 = 0 →
    let n := c.fld 0 4 0
    let x := s.stream n
    s.isFenced 4 n = false → s.streamOn n = true →
    (bitAt (c.word 0) 8 = false → exec (.panMark c) s = .next (answered s 0x22 c
      (((started s 0x22 c).modStream n (fun x => { x with markValid := true, mark := x.rp, markLost := false })).logEnd 4 n 0x28) 0
      [w32 (2 ^ 31 + x.rp), w32 x.wp])) ∧
    (bitAt (c.word 0) 8 = true → exec (.panMark c) s = .next (answered s 0x22 c
      (((started s 0x22 c).modStream n (fun x => { x with markValid := false, markLost := false })).logEnd 4 n 0x28) 0 [w32 x.mark, w32 x.wp]))) ∧
  (Ready s 0x23 0 c → c.params.length = 1 → (c.word 0).toNat < 32 →
    let n := (c.word 0).toNat
    let x := s.stream n
    s.isFenced 4 n = false → s.streamOn n = true →
    (x.markValid = true → exec (.panRewind c) s = .next (answered s 0x23 c
      (((started s 0x23 c).setStream n { x with rp := x.mark }).wmCheck n) 0 [w32 x.mark])) ∧
    (x.markValid = false → exec (.panRewind c) s = .next (answered s 0x23 c (started s 0x23 c) 0 [w32 (2 ^ 31 + x.rp)]))) ∧
  (Ready s 0x24 1 c → c.params.length = 1 →
    let n := (c.word 0).toNat
    let u := started s 0x24 c
    (n = 32 → exec (.panFlush c) s =
      .next (answered s 0x24 c (u.flushItems (fun _ => true)).1 0 [w32 ((s.pan.fifo.map PanItem.size).sum)])) ∧
    (n < 32 → s.isFenced 4 n = false → exec (.panFlush c) s =
      let v := (u.flushItems (fun i => i.stream == n)).1
      let w := if v.streamOn n then (v.discardAll n).advanceRp n (v.stream n).wp else v
      .next (answered s 0x24 c (w.modStream n (fun x => { x with markValid := false })) 0
        [w32 (((s.pan.fifo.filter (fun i => i.stream == n)).map PanItem.size).sum)]))) ∧
  (Ready s 0x25 0 c → c.params.length = 1 → (c.word 0).toNat < 32 →
    let n := (c.word 0).toNat
    let x := s.stream n
    let cfg := s.app .panCfg n
    s.isFenced 4 n = false →
    exec (.panStatus c) s = .next (answered s 0x25 c (started s 0x25 c) 0
      [w32 (bits cfg 31 28 * 2 ^ 28 + (if x.markValid then 1 else 0) * 2 ^ 27 + (if x.markLost then 1 else 0) * 2 ^ 26 + (if x.holding then 1 else 0) * 2 ^ 25 +
          bits cfg 15 0), w32 x.wp, w32 x.rp, w32 x.mark, w32 (ringDist (ringSize cfg) x.rp x.wp), w32 x.seq]))

/-- R354, R365 to R368, R371: TB_READ, TB_SET, TB_RESTEP and TB_ASSIGN, each with its whole next state: the timebase's value, epoch and state, the value being free where the read latch is full (the model's
choice, log 76); the value that ends UNSET, or a SERVO offset as a measurement; the step of a RESTEP, by VALUE or by the last measured offset; and the word written to TB_CTLn, after which a timebase with a
value and no source is FREE, and a FREE one that is given a source is in HOLDOVER. -/
def Obligations.TimebaseOpcodesComplete : Prop :=
  ∀ (s : State) (c : Call),
  (Ready s 0x30 0 c → c.params.length = 1 → (c.word 0).toNat < 4 →
    let k := (c.word 0).toNat
    let u := started s 0x30 c
    let t := s.tb k
    let last := if k = 0 then w32 (2 ^ 21) else w32 (t.epoch * 2 ^ 24 + t.state * 2 ^ 21 + (if t.locked then 1 else 0) * 2 ^ 20)
    ((u.edgePush 80).2 = true →
      exec (.tbRead c) s = .next (answered s 0x30 c (u.edgePush 80).1 0 [w32 (u.tbNow k), w32 (u.tbNow k / 2 ^ 32), last])) ∧
    ((u.edgePush 80).2 = false →
      let v := (u.edgePush 80).1
      exec (.tbRead c) s = .next (answered s 0x30 c { v with free := v.free + 2 } 0 [Config.freeValue v.free, Config.freeValue (v.free + 1), last]))) ∧
  (Ready s 0x31 1 c → c.params.length = 3 → c.fld 0 31 9 = 0 → c.fld 0 7 2 = 0 →
    let k := c.fld 0 1 0
    let u := started s 0x31 c
    k ≠ 0 →
    (bitAt (c.word 0) 8 = false → (s.tb k).state = 0 → exec (.tbSet c) s = .next (answered s 0x31 c (u.tbFirst k (c.pair 1 * 2 ^ 32 : Nat)) 0 [])) ∧
    (bitAt (c.word 0) 8 = true → s.svcFenced 26 = false → (s.tbSource k = 3 ∨ s.isGm k = true) →
      exec (.tbSet c) s = .next (answered s 0x31 c (u.applyTimeCfg.measure k (signedOf 64 (c.pair 1) * 2 ^ 32) false) 0 []))) ∧
  (Ready s 0x32 1 c → c.params.length = 3 → c.fld 0 31 9 = 0 → c.fld 0 7 2 = 0 →
    let k := c.fld 0 1 0
    let u := started s 0x32 c
    let stepped := fun (d : Int) => (((u.lockOff k).modTb k (fun t => { t with freq := ⟨t.r, 0⟩ })).tbEnter k 3).tbStep k d
    k ≠ 0 → (s.tb k).state ≠ 0 →
    (bitAt (c.word 0) 8 = true →
      let v := stepped ((c.pair 1 * 2 ^ 32 : Nat) - u.tbFine k)
      exec (.tbRestep c) s = .next (answered s 0x32 c v 0 [w32 (v.tb k).epoch])) ∧
    (bitAt (c.word 0) 8 = false → c.pair 1 = 0 → s.svcFenced 26 = false →
      (∃ a, (s.tb k).measAt = some a ∧ u.tb0u - a < u.lossUnits k) →
      let v := stepped (-(s.tb k).offs)
      exec (.tbRestep c) s = .next (answered s 0x32 c v 0 [w32 (v.tb k).epoch]))) ∧
  (Ready s 0x33 1 c → c.params.length = 2 → c.fld 0 31 10 = 0 → c.fld 0 7 2 = 0 → c.fld 1 31 30 = 0 →
    let n := c.fld 0 1 0
    let w := w32 (c.fld 0 9 8 * 2 ^ 30 + c.fld 1 29 0)
    n ≠ 0 → s.tbCtlOk n w = true →
    let v := (((started s 0x33 c).setReg .tbCtl n w).modUnit 244 (fun x => { x with dirty := true })).setApp .tbCtl n w
    exec (.tbAssign c) s = .next (answered s 0x33 c
      (if (s.tb n).state = 0 then v
       else if c.fld 0 9 8 = 0 then v.tbEnter n 1
       else if (s.tb n).state = 1 ∧ c.fld 0 9 8 ≠ s.tbSource n then v.tbEnter n 4
       else v) 0 []))

/-- R372, R375, R376, R390, R391, R501 to R506: LN_WRITE, LN_CANCEL, TM_WRITE, CAL_SET and CAL_ALARM with their whole next states: the entry as its eight words give it, its state cleared with a reply of STATE and FIRINGS, the
timer's registers with its count at 0, started when START is set; a CAL_SET with KEEP leaves the date and time, the first setting of the calendar makes it valid, and a later one fires an alarm it passes over. -/
def Obligations.LaunchTimerAndCalendarOpcodesComplete : Prop :=
  (∀ (s : State) (c : Call), s.isFenced 8 11 = false →
  (Ready s 0x34 1 c → c.params.length = 8 → launchWordsOk c = true → s.pwr.reserveHold = false → s.tbSet (c.fld 0 9 8) = true →
    (s.slt.stale = false ∨ s.saltTb ≠ some (c.fld 0 9 8)) →
    let u := started s 0x34 c
    let period := c.pair 3
    let policy := c.fld 0 13 12
    let l : Launch := { state := if bitAt (c.word 0) 10 then 1 else 2, onStart := bitAt (c.word 0) 10,
                        late := if policy = 0 then (if period = 0 then 1 else 2) else policy, tb := c.fld 0 9 8, time := c.pair 1, period := period,
                        rept := (c.word 5).toNat, action := c.fld 6 31 28, allBound := bitAt (c.word 6) 8, arg := c.fld 6 7 0, pinMode := c.fld 7 17 16,
                        width := c.fld 7 15 0, t0 := c.pair 1, k := 0, fired := 0, skipped := 0, firings := 0 }
    (u.launchLate l = false ∨ l.late ≠ 3) →
    exec (.lnWrite c) s = .next (answered s 0x34 c ((u.setLaunch (c.fld 0 6 0) l).lateHandle (c.fld 0 6 0)) 0 [])) ∧
  (Ready s 0x35 1 c → c.params.length = 1 → (c.word 0).toNat < 128 →
    let n := (c.word 0).toNat
    exec (.lnCancel c) s = .next (answered s 0x35 c ((started s 0x35 c).setLaunch n Launch.reset) 0
      [w32 ((s.launch n).state * 2 ^ 29 + (s.launch n).firings)])) ∧
  (Ready s 0x36 1 c → c.params.length = 4 → c.fld 0 31 9 = 0 → c.fld 0 7 6 = 0 → c.fld 1 31 29 = 0 → c.fld 1 27 24 = 0 → c.fld 1 10 9 = 0 → c.word 2 ≠ 0 →
    (bitAt (c.word 1) 17 = true → (c.word 3).toNat < (c.word 2).toNat) →
    let n := c.fld 0 5 0
    let u := ((((started s 0x36 c).setReg .tmCtl n (c.word 1)).setReg .tmEnd n (c.word 2)).setReg .tmMatch n (c.word 3)).modTimer n
      (fun t => { t with state := 0, count := 0, start := (started s 0x36 c).tb0u, matched := false })
    exec (.tmWrite c) s = .next (answered s 0x36 c (if bitAt (c.word 0) 8 then (u.timerStart n (started s 0x36 c).tb0u).1 else u) 0 []))) ∧
  (∀ (s : State) (c : Call), c.params.length = 4 → s.isFenced 8 2 = false →
  (Ready s 0x37 1 c → c.fld 1 24 16 = 0 → -48 ≤ signedOf 8 (c.fld 1 15 8) → signedOf 8 (c.fld 1 15 8) ≤ 56 → c.fld 1 7 0 ≤ 120 →
    ruleOk (c.word 2) = true → ruleOk (c.word 3) = true →
    let u := (started s 0x37 c).modCal (fun x => { x with offset := signedOf 8 (c.fld 1 15 8), shift := c.fld 1 7 0, dstStart := c.word 2, dstEnd := c.word 3 })
    (bitAt (c.word 1) 25 = true → exec (.calSet c) s = .next (answered s 0x37 c (if s.cal.valid then u.calDst else u) 0 [])) ∧
    (bitAt (c.word 1) 25 = false → dateOk (c.word 0) (c.fld 1 31 26) = true → s.calSource = 0 →
      let v := u.modCal (fun x => { x with valid := true, utc := secondsOf (c.word 0) (c.fld 1 31 26), inLeap := false, mark := s.tick })
      exec (.calSet c) s = .next (answered s 0x37 c
        (if s.cal.valid then v.calMoved s.cal.utc else { v with cal := { v.cal with dst := v.cal.summer (secondsOf (c.word 0) (c.fld 1 31 26)) } }) 0 []))) ∧
  (Ready s 0x38 1 c → opCalAlarm.valid s c = true →
    exec (.calAlarm c) s = .next (answered s 0x38 c ((started s 0x38 c).modCal (fun x =>
      { x with alarms := x.alarms.set (fun _ => Alarm.reset) (c.fld 0 1 0) ⟨c.word 0, c.word 1, c.word 2⟩ })) 0 [])))

/-- R470, R472 to R475: PLN_MODE, PLN_BUDGET, PLN_REPORT and LDG_READ with their whole next states: the words they write, and the accounts and the plan they report. -/
def Obligations.EnergyOpcodesComplete : Prop :=
  ∀ (s : State) (c : Call),
  (Ready s 0x40 1 c → c.params.length = 1 → plnCfgOk (c.word 0) = true → c.fld 0 4 2 = 0 → (c.fld 0 1 0 = 2 → s.reg64 .plnBudget 0 ≠ 0) →
    exec (.plnMode c) s = .next (answered s 0x40 c (((started s 0x40 c).setReg .plnCfg 0 (c.word 0)).afterPlanWrite) 0 [])) ∧
  (Ready s 0x41 1 c → c.params.length = 4 → c.pair 0 ≠ 0 → c.pair 0 < 2 ^ 48 → c.pair 2 < 2 ^ 48 →
    exec (.plnBudget c) s = .next (answered s 0x41 c
      (((((started s 0x41 c).setReg64 .plnBudget 0 (c.pair 0)).setReg64 .plnReserve 0 (c.pair 2)).reserveWatch).afterPlanWrite) 0 [])) ∧
  (Ready s 0x42 0 c → c.params.length = 1 → c.word 0 = 0 →
    let u := started s 0x42 c
    let p := s.pln
    let spent := u.spent.floor.toNat % 2 ^ 48
    exec (.plnReport c) s = .next (answered s 0x42 c u 0
      [w32 (s.plnModeInForce * 2 ^ 30 + (if s.pwr.reserveHold then 1 else 0) * 2 ^ 29 + (if p.isOver then 1 else 0) * 2 ^ 28 +
          (if p.emergency then 1 else 0) * 2 ^ 27 + (if p.overload then 1 else 0) * 2 ^ 26 + p.seq % 65536),
        w32 (satRat 32 p.pa), w32 (satRat 32 p.p), w32 (satRat 32 p.perSec), w32 spent, w32 (spent / 2 ^ 32),
        w32 (u.windowRest * 1000).floor.toNat, w32 p.rails, w32 p.util])) ∧
  (Ready s 0x42 0 c → c.params.length = 1 → c.fld 0 31 16 = 0 → c.fld 0 15 14 = 1 → 1 ≤ c.fld 0 13 8 → c.fld 0 13 8 ≤ 62 → c.fld 0 7 0 + c.fld 0 13 8 ≤ 192 →
    let u := started s 0x42 c
    exec (.plnReport c) s = .next (answered s 0x42 c u 0 ((List.range (c.fld 0 13 8)).map (fun k =>
      let n := c.fld 0 7 0 + k
      let use := if u.enabledChan n then u.planCode n (u.tierInUse n) else 7
      let plan := if u.enabledChan n then (if s.pln.planned.any (fun q => q.1 == n) then s.pln.planned.get (fun _ => 7) n else use) else 7
      w32 (plan * 2 ^ 29 + use * 2 ^ 26 + (if s.pln.emerg.contains n then 1 else 0) * 2 ^ 25 + s.pln.power.get (fun _ => 0) n))))) ∧
  (Ready s 0x43 0 c → c.params.length = 1 →
    let u := started s 0x43 c
    (c.word 0 = 0 → exec (.ldgRead c) s = .next (answered s 0x43 c u 0
      ((List.range 12).flatMap (fun d => [w32 ((s.meter d).en / 10 ^ 9), w32 ((s.meter d).en / 10 ^ 9 / 2 ^ 32)])))) ∧
    (c.word 0 = 0x4000 → exec (.ldgRead c) s = .next (answered s 0x43 c u 0
      (pairOf s.ldg.common.floor.toNat ++ pairOf s.ldg.income.floor.toNat ++ pairOf s.ldg.draw.floor.toNat ++ pairOf s.storeWord64))) ∧
    (c.fld 0 31 16 = 0 → c.fld 0 13 13 = 0 → c.fld 0 15 14 = 2 → 1 ≤ c.fld 0 12 8 → c.fld 0 12 8 ≤ 23 → c.fld 0 7 0 + c.fld 0 12 8 ≤ 192 →
      exec (.ldgRead c) s = .next (answered s 0x43 c u 0
        (w32 (s.pln.seq % 65536) :: (List.range (c.fld 0 12 8)).map (fun k => w32 (s.ldg.ch.get (fun _ => 0) (c.fld 0 7 0 + k)))))))

/-- R485 to R494, R507, R508: the opcodes of the non-volatile store and of the lifecycle, each with its whole next state, while no store operation is in progress. The image
opcodes need SECURE under LOCK_CFG; PROVISION runs only while UNPROVISIONED, and KEY_LOAD and the FW opcodes only while PROVISIONED. The words of a stored lifetime record that does not exist and the size of an image are free
values (log 4): where it exceeds 98,304 bytes the save is answered BAD_PARAM. -/
def Obligations.StoreOpcodesComplete : Prop :=
  ∀ (s : State) (c : Call), s.storeOff = false →
  (Ready s 0x80 0 c → c.params.length = 2 → (c.word 0).toNat < 10240 → 1 ≤ (c.word 1).toNat → (c.word 1).toNat < 64 → (c.word 0).toNat + (c.word 1).toNat ≤ 10240 →
    let u := started s 0x80 c
    exec (.lifeRead c) s = .next (answered s 0x80 c u 0
      ((List.range (c.word 1).toNat).map (fun k => lifeAt (fun w => u.lifeWord u.life.seq u.life.cause w) ((c.word 0).toNat + k))))) ∧
  (Ready s 0x80 0 c → c.params.length = 2 → (c.word 0).toNat = 2 ^ 31 + c.fld 0 13 0 → 1 ≤ (c.word 1).toNat → (c.word 1).toNat < 64 →
    c.fld 0 13 0 + (c.word 1).toNat ≤ 10240 →
    let n := (c.word 1).toNat
    let u := started s 0x80 c
    (∀ x, s.newestCopy = some x → exec (.lifeRead c) s = .next (answered s 0x80 c u 0
      ((List.range n).map (fun k => lifeAt (fun w => x.words.get (fun _ => 0) w) (c.fld 0 13 0 + k))))) ∧
    (s.newestCopy = none → exec (.lifeRead c) s = .next (answered s 0x80 c { u with free := s.free + n } 0
      ((List.range n).map (fun k => Config.freeValue (s.free + k)))))) ∧
  (Ready s 0x81 (if s.store.lockCfg then 2 else 1) c → AsyncReady s c → c.params.length = 1 → c.fld 0 15 1 = 0 → s.storeBusy = false → s.check.commit = none →
    let size := (Config.freeValue s.free).toNat % 2 ^ 17
    let u := { startedAsync s 0x81 c with free := s.free + 1 }
    exec (.nvsCfgSave c) s =
      if 98304 < size then .next (answered s 0x81 c (u.modHost c.host (fun x => { x with asyncOut := x.asyncOut.erase (c.tag, 0x81) })) 0x13 [])
      else .next (answered s 0x81 c
        (u.modStore (fun x => { x with save := some (c.fld 0 0 0, u.image (c.fld 0 31 16) size, c.host, c.tag, c.reply) })) 1 [])) ∧
  (Ready s 0x82 (if s.store.lockCfg then 2 else 1) c → c.params.length = 1 → (c.word 0).toNat < 3 → s.storeBusy = false →
    exec (.nvsCfgSelect c) s = .next (answered s 0x82 c ((started s 0x82 c).secureWrite (fun x => { x with selected := (c.word 0).toNat })) 0 [])) ∧
  (s.provisioned = true → s.verifying = false → s.storeBusy = false →
    (Ready s 0x83 2 c → c.params.length = 2 → 128 ≤ (c.word 0).toNat → (c.word 0).toNat ≤ 90112 → (c.word 0).toNat % 4 = 0 →
      exec (.fwBegin c) s = .next (answered s 0x83 c
        ((((started s 0x83 c).setPatch s.fwSlot PatchSlot.reset).modStore
          (fun x => { x with xfer := some ⟨s.fwSlot, (c.word 0).toNat, c.word 1, [], none, none⟩ })).countSectors (patchSectors s.fwSlot)) 0 [])) ∧
    (∀ x, s.store.xfer = some x →
      (Ready s 0x84 2 c → 2 ≤ c.params.length →
        ((c.word 0).toNat = 4 * x.words.length ∨ x.lastOff = some (c.word 0).toNat) → (c.word 0).toNat + 4 * (c.params.length - 1) ≤ x.length →
        exec (.fwData c) s = .next (answered s 0x84 c ((started s 0x84 c).modStore (fun y =>
          { y with xfer := some { x with words := x.words.take ((c.word 0).toNat / 4) ++ c.params.drop 1, lastOff := some (c.word 0).toNat } })) 0 [])) ∧
      (Ready s 0x85 2 c → AsyncReady s c → c.params = [] →
        exec (.fwVerify c) s = .next (answered s 0x85 c ((startedAsync s 0x85 c).modStore (fun y =>
          { y with xfer := some { x with verify := some (c.host, c.tag, c.reply) } })) 1 [])))) ∧
  (Ready s 0x86 1 c → s.provisioned = false → s.storeBusy = false → c.params.length = 4 → provisionOk c = true →
    exec (.provision c) s =
      let u := ({ started s 0x86 c with provisioned := true }).secureWrite (fun x =>
        { x with privs := c.fld 0 7 0, hp1Host := c.fld 0 9 8, lockCfg := bitAt (c.word 1) 1, lockBootsel := bitAt (c.word 1) 0 })
      .next (answered s 0x86 c
        (if c.fld 0 9 8 ≠ 0 && ((started s 0x86 c).host 0).session = some 1 then
          u.modHost 0 (fun x => if c.reply then { x with closing := true } else { x with session := none }) else u) 0 [])) ∧
  (Ready s 0x87 2 c → s.provisioned = true → s.storeBusy = false → c.params.length = 6 → c.fld 0 31 9 = 0 → c.fld 0 7 2 = 0 →
    let words := (c.params.drop 1).take 4
    let loaded := fun (key : Option (List Byte)) =>
      (((started s 0x87 c).secureWrite (fun x => { x with keys := x.keys.set (fun _ => none) (c.fld 0 1 0) key })).modRf (fun r =>
        { r with ctr := r.ctr.set (fun _ => 0) (c.fld 0 1 0) 0, seen := r.seen.filter (fun e => e.2.1 ≠ c.fld 0 1 0) })).logEnd 5 0 0x87
    (bitAt (c.word 0) 8 = false → crc32c (wordsBytes words) = c.word 5 →
      exec (.keyLoad c) s = .next (answered s 0x87 c (loaded (some (wordsBytes words))) 0 [])) ∧
    (bitAt (c.word 0) 8 = true → c.params.drop 1 = List.replicate 5 0 → exec (.keyLoad c) s = .next (answered s 0x87 c (loaded none) 0 [])))

/-- R417 to R420: the saltern opcodes with PD10 not fenced, each with its whole next state: the role applied at once without a view, or kept for the next view; the view,
the sets and what each hub published; the expected CFG of a hub, and the LEADER's clearing of DIVERGENT on a match; SLT_REJOIN outstanding; a link's words. -/
def Obligations.SalternOpcodesComplete : Prop :=
  ∀ (s : State) (c : Call), s.isFenced 8 10 = false →
  (Ready s 0x60 1 c → c.params.length = 2 → c.fld 0 31 17 = 0 → c.fld 0 15 13 = 0 → c.fld 0 7 2 = 0 → c.fld 0 1 0 ≠ 3 → c.fld 1 31 8 = 0 →
    let r : Role := ⟨c.fld 0 1 0, c.fld 0 12 8, c.fld 1 7 0, bitAt (c.word 0) 16⟩
    let u := started s 0x60 c
    (s.slt.state = 0 → exec (.sltRole c) s = .next (answered s 0x60 c (u.clearSent.applyRole r) 0 [])) ∧
    (s.slt.state ≠ 0 → r.index = s.ownIndex →
      exec (.sltRole c) s = .next (answered s 0x60 c { u with slt := { s.slt with waiting := some r } } 0 []))) ∧
  (Ready s 0x61 0 c → c.params = [] →
    exec (.sltView c) s = .next (answered s 0x61 c (started s 0x61 c) 0
      ([w32 (s.slt.common * 2 ^ 16 + s.slt.epoch), s.slt.members, s.slt.divergent, s.slt.staleSet, s.slt.outliers] ++
        (List.range 32).map (fun i => ((s.published i).map (·.1)).getD 0) ++
        (List.range 8).map (fun k => s.verWord k (fun p => verByte (p.2.1 / 256) (p.2.1 % 256))) ++
        (List.range 8).map (fun k => s.verWord k (fun p => verByte (bits p.2.2 31 16) (bits p.2.2 15 0)))))) ∧
  (Ready s 0x62 1 c → c.params.length = 2 → c.fld 0 30 5 = 0 → s.slt.stale = false →
    let u := (started s 0x62 c).clearSent
    let i := c.fld 0 4 0
    let on := bitAt (c.word 0) 31
    let u1 := u.setReg .legExpval 0 (putBit (u.reg .legExpval 0) i on)
    let u2 := if on then u1.setReg .legExp i (c.word 1) else u1
    let cfg := if i = s.ownIndex then s.slt.ownCfg else (s.peer i).cfg
    exec (.sltExpect c) s = .next (answered s 0x62 c
      (if s.isLeader && on && bitAt s.slt.divergent i && cfg = c.word 1 then
        ({ u2 with slt := { u2.slt with divergent := putBit u2.slt.divergent i false } }).viewChanged u2 else u2) 0 [])) ∧
  (Ready s 0x63 1 c → AsyncReady s c → c.params = [] → s.slt.state ≠ 0 →
    exec (.sltRejoin c) s = .next (answered s 0x63 c
      { startedAsync s 0x63 c with slt := { s.slt with rejoin := s.slt.rejoin ++ [(c.host, c.tag, c.reply)] } } 1 [])) ∧
  (Ready s 0x64 0 c → c.params.length = 1 → (c.word 0).toNat < 2 → s.isFenced 6 (c.word 0).toNat = false →
    let n := (c.word 0).toNat
    exec (.legStatus c) s = .next (answered s 0x64 c (started s 0x64 c) 0
      [s.legLinkWord n, s.reg .legLinkcnt n, w32 (s.legLink n).sent, w32 (s.legLink n).received]))

/-- R438 to R440: the radio opcodes while the radio is not fenced, each with its whole next state: the four configuration words at the radio's boundary, a transmit buffer
filled and, with SEND, its frame requested, the receive mode, a calibration request and the status words. Authenticated frames need PROVISIONED and a loaded key. -/
def Obligations.RadioOpcodesComplete : Prop :=
  ∀ (s : State) (c : Call), s.isFenced 8 9 = false → s.isFenced 5 0 = false →
  (Ready s 0x70 1 c → c.params.length = 4 → rfCfgOk (c.word 0) = true → c.fld 0 23 13 = 0 → rfSyncOk (c.word 2) = true → rfMacOk (c.word 3) = true →
    c.fld 3 7 0 = 0 → (s.provisioned = true ∨ c.fld 3 30 29 = 0) →
    let u := ((((started s 0x70 c).setReg .rfCfg 0 (c.word 0)).setReg .rfAddr 0 (c.word 1)).setReg .rfLasync 0 (c.word 2)).setReg .rfMac 0 (c.word 3)
    exec (.rfConfig c) s = .next (answered s 0x70 c ((u.modUnit 247 (fun x => { x with dirty := true })).rfBoundary.rfKick) 0 [])) ∧
  (Ready s 0x71 0 c → AsyncReady s c → 2 ≤ c.params.length → s.rfTxOk c = true →
    (bitAt (c.word 0) 6 = true → s.provisioned = true ∧ s.keySet (c.fld 0 5 4) = true) →
    let b := c.fld 0 1 0
    let buf : RfBuf := { ackReq := bitAt (c.word 0) 7, auth := bitAt (c.word 0) 6, key := c.fld 0 5 4, dst := c.fld 1 15 0,
                         words := if c.params.length = 2 then (s.rfBuf b).words else c.params.drop 2 }
    let u := (startedAsync s 0x71 c).modRf (fun r => { r with bufs := r.bufs.set (fun _ => RfBuf.reset) b buf })
    (bitAt (c.word 0) 8 = true →
      exec (.rfTx c) s = .next (answered s 0x71 c (u.rfRequest (u.bufFrame b (some (c.host, c.tag, c.reply)) false)) 1 [0])) ∧
    (bitAt (c.word 0) 8 = false →
      exec (.rfTx c) s = .next (answered s 0x71 c (u.modHost c.host (fun x => { x with asyncOut := x.asyncOut.erase (c.tag, 0x71) })) 0 [0]))) ∧
  (Ready s 0x72 0 c → c.params.length = 2 → (c.word 0).toNat < 3 → 10 ≤ (c.word 1).toNat → (c.word 1).toNat ≤ 10000 →
    let l := (c.word 0).toNat
    let u := (started s 0x72 c).modRf (fun r => { r with listen := l, guardTime := (c.word 1).toNat, window := r.window && l = 0 })
    exec (.rfRx c) s = .next (answered s 0x72 c
      (if u.rfReceives = false ∧ (s.rf.state = 5 ∨ (s.rf.state = 3 ∧ s.rf.tx = none ∧ s.rf.launch = none)) then u.rfIdle else u.rfKick) 0 [])) ∧
  (Ready s 0x73 1 c → AsyncReady s c → c.params.length = 1 → (c.word 0).toNat < 16 → s.rf.cal = none →
    exec (.rfCal c) s = .next (answered s 0x73 c
      (((startedAsync s 0x73 c).modRf (fun r => { r with cal := some (c.host, c.tag, c.reply, (c.word 0).toNat, 0, 0) })).rfKick) 1 [])) ∧
  (Ready s 0x74 0 c → c.params = [] →
    exec (.rfStatus c) s = .next (answered s 0x74 c (started s 0x74 c) 0
      [s.rfStatWord, s.reg .rfEvt 0, s.reg .rfCnt 0, w32 (s.rf.ctr.get (fun _ => 0) (s.afld .rfMac 0 28 27))]))

/-- R562 to R567, R573 to R575: the fence and log opcodes, each with its whole next state: FENCE and UNFENCE by selector, the functions that are fenced, entries of the
bittern log as they stand, and LOG_CLEAR, which empties it and answers how many it held. -/
def Obligations.FenceAndLogOpcodesComplete : Prop :=
  ∀ (s : State) (c : Call),
  (Ready s 0x90 0 c → c.params.length = 2 → (c.word 0).toNat < 256 → 1 ≤ (c.word 1).toNat → (c.word 1).toNat < 32 →
    (c.word 0).toNat + (c.word 1).toNat ≤ s.log.length →
    exec (.logRead c) s = .next (answered s 0x90 c (started s 0x90 c) 0
      (w32 (s.log.length * 2 ^ 23 + (c.word 1).toNat * 2 ^ 18 + (if s.logSat then 1 else 0) * 2 ^ 17) ::
        ((s.log.drop (c.word 0).toNat).take (c.word 1).toNat).flatMap (fun e =>
          [w32 e.time, w32 (e.time / 2 ^ 32 % 16 * 2 ^ 28 + e.source % 2 ^ 12 * 2 ^ 16 + e.code * 2 ^ 8 + e.rep)])))) ∧
  (Ready s 0x91 1 c → c.params = [] →
    exec (.logClear c) s = .next (answered s 0x91 c { started s 0x91 c with log := [], logSat := false } 0 [w32 s.log.length])) ∧
  (c.params.length = 1 → (c.word 0).toNat < 4096 →
    let kind := (c.word 0).toNat / 256
    let index := (c.word 0).toNat % 256
    selectorOk kind index = true →
    (Ready s 0x92 1 c → exec (.fence c) s = .next (answered s 0x92 c ((started s 0x92 c).fence kind index 0x80) 0 [])) ∧
    (Ready s 0x93 1 c → (kind = 8 ∨ s.isFenced 8 (funcDomain kind index) = false) →
      exec (.unfence c) s = .next (answered s 0x93 c ((started s 0x93 c).unfence kind index) 0 []))) ∧
  (Ready s 0x94 0 c → c.params = [] →
    exec (.fenceStatus c) s = .next (answered s 0x94 c (started s 0x94 c) 0
      [w32 (s.domFenced + (if s.isFenced 5 0 then 1 else 0) * 2 ^ 12 + maskOf 2 (fun l => s.isFenced 6 l) * 2 ^ 13 + maskOf 4 (fun t => s.isFenced 7 t) * 2 ^ 15),
        w32 (maskOf 18 (fun p => s.isFenced 0 p)), w32 (maskOf 32 (fun n => s.isFenced 4 n)),
        w32 (maskOf 8 (fun k => s.svcFenced k) + maskOf 16 (fun k => s.svcFenced (9 + k)) * 2 ^ 8 + (if s.svcFenced 8 then 1 else 0) * 2 ^ 24 +
          (if s.svcFenced 25 then 1 else 0) * 2 ^ 25 + (if s.svcFenced 26 then 1 else 0) * 2 ^ 26 + (if s.svcFenced 27 then 1 else 0) * 2 ^ 27)]))

/-- R97, R115 to R117, R132, R602: CHAN_WRITE. A descriptor that is neither FENCED, nor locked, nor in need of a seventeenth pin takes the words; the applied descriptor of a RUNNING or
DEGRADED channel without a pin is pinned first; GEN, in W15 bits 31:16, is not written; with AUTO_CRC the CRC in W15 bits 15:0 is that of W0 to W14 as they then are; no
byte outside the descriptor changes, and nothing of the state but memory, the channel's pin and dirty bit, and its check unit's dirty bit. A refused write is answered FENCED or BUSY
and writes nothing. -/
def Obligations.ChanWriteStoresDescriptorWords : Prop :=
  ∀ (s : State) (c : Call), Ready s 0x11 1 c → c.params.length = c.fld 1 8 4 + 2 → c.fld 0 31 9 = 0 → c.fld 0 7 0 < 192 → c.fld 1 31 9 = 0 → 1 ≤ c.fld 1 8 4 →
    c.fld 1 3 0 + c.fld 1 8 4 ≤ 16 →
    let n := c.fld 0 7 0
    let first := c.fld 1 3 0
    let count := c.fld 1 8 4
    let a := 0x20000000 + 64 * n
    let x := s.chan n
    ((s.chan n).state = 4 → exec (.chanWrite c) s = .next (answered s 0x11 c (started s 0x11 c) 0x16 [])) ∧
    ((s.chan n).state ≠ 4 → s.tableRefused n = true → exec (.chanWrite c) s = .next (refusedWith s 0x11 c (admitted s 0x11 c) 0x15 false)) ∧
    ((s.chan n).state ≠ 4 → s.tableRefused n = false →
      let pin := if s.running n && x.pinned.isNone then some (s.rdWords a 16) else x.pinned
      ∃ m, let u := { ((started s 0x11 c).setChan n { x with pinned := pin, dirty := true }).modUnit n (fun y => { y with dirty := true }) with mem := m }
        exec (.chanWrite c) s = .next (answered s 0x11 c u 0 []) ∧
        (∀ k < 15, u.rdWord (a + 4 * k) = if first ≤ k ∧ k < first + count then c.word (2 + (k - first)) else s.rdWord (a + 4 * k)) ∧
        bits (u.rdWord (a + 60)) 31 16 = bits (s.rdWord (a + 60)) 31 16 ∧
        bits (u.rdWord (a + 60)) 15 0 = (if bitAt (c.word 0) 8 then (crc16 (wordsBytes ((List.range 15).map (fun k => u.rdWord (a + 4 * k))))).toNat
          else if first + count = 16 then bits (c.word (1 + count)) 15 0 else bits (s.rdWord (a + 60)) 15 0) ∧
        (∀ b, b < a ∨ a + 64 ≤ b → u.rdByte b = s.rdByte b))

/-- R530, R532, R535: an ACK read that is served, with no fault vector due, takes the deliverable source of the highest priority, and of several the one of the lowest vector: it leaves its pending
bit, enters the stack, and the read gives VALID, its priority and its vector; it gives 0x3FF and takes nothing where nothing is deliverable; the stack fault vector 0x3FD, and after it the log fault
vector 0x3FE, come first, with priority 15 and without entering the stack. -/
def Obligations.AckReadGivesTheVectorThatIsDue : Prop :=
  (∀ (s : State) (h t : Nat), s.pwr.phase = 2 → s.pwr.floor = 0 → h < 4 → t < 4 → s.judge h (Reg.addr .icAck t) 4 none = .pass →
    s.faultVector t = none → s.deliverable t ≠ [] →
    ∃ vec prio, (vec, prio) ∈ s.deliverable t ∧ (∀ x ∈ s.deliverable t, x.2 ≤ prio ∧ (x.2 = prio → vec ≤ x.1)) ∧
      exec (.icAckRead h t) s = .next (shown s
        (((s.takePending t vec).modTarget t (fun x => { x with stack := (vec, prio) :: x.stack })).noteAccess h (Reg.addr .icAck t) .pass)
        (0 :: bytesOf 4 (w32 (2 ^ 31 + prio * 2 ^ 20 + vec)).toNat))) ∧
  (∀ (s : State) (h t : Nat), s.pwr.phase = 2 → s.pwr.floor = 0 → h < 4 → t < 4 → s.judge h (Reg.addr .icAck t) 4 none = .pass →
    let done := fun (u : State) (v : Nat) => Host.Outcome.next (φ := Fault) (ρ := Refusal) (shown s (u.noteAccess h (Reg.addr .icAck t) .pass) (0 :: bytesOf 4 v))
    ((s.target t).stackFault = true → exec (.icAckRead h t) s = done (s.modTarget t (fun x => { x with stackFault := false })) (2 ^ 31 + 15 * 2 ^ 20 + 0x3FD)) ∧
    ((s.target t).stackFault = false → (s.target t).logSat = true → s.bankFenced t = false →
      exec (.icAckRead h t) s = done (s.modTarget t (fun x => { x with logSat := false })) (2 ^ 31 + 15 * 2 ^ 20 + 0x3FE)) ∧
    (s.faultVector t = none → s.deliverable t = [] → exec (.icAckRead h t) s = done s 0x3FF))

/-- R533, R534: an EOI write that is served pops the stack when it names the top vector; any other vector fences the bank with cause MODE_FAULT's code 0x84, empties the stack and
raises the stack fault; 0x3FD to 0x3FF do nothing. -/
def Obligations.EoiWriteEndsTheTopVector : Prop :=
  ∀ (s : State) (h t v : Nat), s.writeUp h = true → t < 4 → v < 1024 → (s.atF 0).judge h (Reg.addr .icEoi t) 4 (some v) = .pass →
    let u := s.atF 0
    (0x3FD ≤ v → exec (.icEoiWrite h t v) s = .next (accessed s h (Reg.addr .icEoi t) u)) ∧
    (v < 0x3FD → ∀ prio rest, (s.target t).stack = (v, prio) :: rest →
      exec (.icEoiWrite h t v) s = .next (accessed s h (Reg.addr .icEoi t) (u.modTarget t (fun x => { x with stack := rest })))) ∧
    (v < 0x3FD → ((s.target t).stack.head?).map (·.1) ≠ some v →
      exec (.icEoiWrite h t v) s = .next (accessed s h (Reg.addr .icEoi t)
        ((((u.modTarget t (fun x => { x with stack := [] })).fenceMark 7 t 0x84).evt .icEvt 0 t).modTarget t (fun x => { x with stackFault := true }))))

/-- R529, R531, R537, R538: DOORBELL sets the target's private source 1; IBI_REPEAT sends HP1's in-band interrupt while a source stays deliverable to its AWAKE host with OUTPUT 1;
FALLBACK moves the pending bit of a source whose wake pulse went unanswered to FB_TGT; WAKE_PULSE_END ends the pulse. -/
def Obligations.InterruptCommandsComplete : Prop :=
  ∀ (s : State),
  (∀ h t v : Nat, s.writeUp h = true → t < 4 → v < 2 → (s.atF 0).judge h (Reg.addr .icDbell t) 4 (some v) = .pass →
    exec (.doorbell h t v) s = .next (accessed s h (Reg.addr .icDbell t)
      (if v = 1 then (s.atF 0).modTarget t (fun x => { x with pend := x.pend ||| 2#16 }) else s.atF 0))) ∧
  (bitAt (s.reg .icTgtcfg s.hp1Host) 31 = true → s.hasDelivery s.hp1Host = true → s.asleep s.hp1Host = false →
    exec .ibiRepeat s = .next { s with hp1Ibi := 2 }) ∧
  (∀ k t : Nat, k < 240 → (s.src k).wakeSent = some t → (s.src k).pending = true → (s.src k).moved = none → s.asleep t = true →
    let cfg := s.reg .icTgtcfg t
    let fb := bits cfg 29 28
    bitAt cfg 30 = true → s.bankFenced fb = false →
    exec (.fallback k) s =
      let u := (s.setSrc k { s.src k with moved := some fb, wakeSent := none }).evt .icEvt 0 (4 + t)
      .next (kept s (if s.asleep fb then u.wakeRequest fb (0x010 + k) (s.fld .icSrc k 27 24) else u))) ∧
  (∀ t : Nat, exec (.wakePulseEnd t) s = .next (s.modTarget t (fun x => { x with pulse := false })))

/-- R511 to R518, R522 to R524: SL_FIRE that is served fires a sluice in use, which starts a new wave, when the host owns it, and is refused with the run of OWN_REFUSED when another owns
it; SLUICE_EVENT takes the oldest event: the timers that count its output and then the sluices fed by it see it, under one new wave, and their outputs go on, at most nine
steps; FILTER_EXPIRY lets the rise that waited count. -/
def Obligations.SluiceCommandsComplete : Prop :=
  ∀ (s : State), s.fabricOff = false →
  (∀ h n : Nat, s.writeUp h = true → n < 64 → s.judge h (Reg.addr .slFire 0) 4 (some n) = .pass → s.slOn n = true →
    let owner := s.fld .slOwn n 2 0
    (owner = h → exec (.slFire h n) s = .next (accessed s h (Reg.addr .slFire 0)
      (State.slWaves 9 { (s.logEnd 12 n 0x26) with wave := (s.wave + 1) % 65536 } [⟨n, 1, (s.wave + 1) % 65536, n, false⟩]))) ∧
    (owner ≠ h → exec (.slFire h n) s = .next (accessed s h (Reg.addr .slFire 0) ((s.evt .slEvt 0 1).logErr 12 n 0x26)))) ∧
  (∀ e t, s.evq = e :: t →
    let u := ({ s with evq := t }).countEvents e.output
    (u.slFed e.output = [] → exec .sluiceEvent s = .next (kept s u)) ∧
    (u.slFed e.output ≠ [] →
      let w := (u.wave + 1) % 65536
      exec .sluiceEvent s =
        let r := (u.slFed e.output).foldl (fun (a : State × List SlOut) p => ((a.1.slEvent p.1 p.2 e.kind w).1, a.2 ++ (a.1.slEvent p.1 p.2 e.kind w).2))
          ({ u with wave := w }, [])
        .next (kept s (State.slWaves 9 r.1 r.2)))) ∧
  (∀ n w : Nat, n < 64 → (s.sluice n).filtering = some w →
    let u := s.modSluice n (fun x => { x with filtering := none })
    (s.slFf n = 0 → exec (.filterExpiry n) s = .next (kept s (State.slWaves 9 u [⟨n, 1, w, n, false⟩]))) ∧
    (s.slFf n ≠ 0 →
      let was := (s.sluice n).q
      let v := u.modSluice n (fun x => { x with q := s.slFf n == 1 || !was })
      exec (.filterExpiry n) s = .next (kept s
        (if was then v else State.slWaves 9 { v with wave := (s.wave + 1) % 65536 } [⟨n, 0, (s.wave + 1) % 65536, n, false⟩]))))

/-- R373, R374, R377, R378, R380: LN_START begins a run of an ON_START entry that waits, is ignored with START_IGN by one that is ARMED, and fails with START_FAIL and a log entry
otherwise; LAUNCH_FIRING moves the entry on to its next period and counts and performs the action of this one, or skips it while the hub is an OUTLIER on its saltern
timebase; PIN_PULSE_END ends the oldest pulse of a pin and, with the last, brings the level that waited or the one before. -/
def Obligations.LaunchCommandsComplete : Prop :=
  ∀ (s : State),
  (∀ n : Nat, n < 128 → s.pd11Stopped = false →
    let l := s.launch n
    (l.onStart = true → l.state = 1 →
      exec (.lnStart n) s = .next (kept s ((s.logEnd 11 n 0x22).setLaunch n { l with state := 2, t0 := s.tbNow l.tb + l.time, k := 0 }))) ∧
    (l.onStart = true → l.state = 2 → exec (.lnStart n) s = .next (kept s ((s.logEnd 11 n 0x22).evt .lnEvt 0 3))) ∧
    (l.onStart = false ∨ l.state = 0 ∨ l.state = 3 → exec (.lnStart n) s = .next (kept s ((s.evt .lnEvt 0 4).logErr 11 n 0x22)))) ∧
  (∀ (n : Nat) (u : State), n < 128 → s.pd11Stopped = false →
    let l := s.launch n
    l.state = 2 → s.tbSet l.tb = true → s.toTb l.tb ((l.t0 + l.k * l.period) * 2 ^ 32) = some u →
    let ended := (l.period = 0 && l.k + 1 ≠ 0) || (l.rept ≠ 0 && decide (l.rept ≤ l.k + 1))
    let v := u.setLaunch n { l with k := l.k + 1, state := if ended then (if l.onStart then 1 else 3) else l.state }
    let outlier := v.slt.outlier && v.saltTb == some (v.launch n).tb
    (outlier = true → exec (.launchFiring n) s = .next (kept s ((v.skipPeriods n 1).logErr 11 n 0x23))) ∧
    (outlier = false →
      let w := v.setLaunch n { (v.launch n) with fired := ((v.launch n).fired + 1) % 65536, firings := min (2 ^ 29 - 1) ((v.launch n).firings + 1) }
      ((w.launchAction n l.k false).2 = true → exec (.launchFiring n) s = .next (kept s ((w.launchAction n l.k false).1.logEnd 11 n 0x21))) ∧
      ((w.launchAction n l.k false).2 = false →
        exec (.launchFiring n) s = .next (kept s (((w.launchAction n l.k false).1.evt .lnEvt 0 2).logErr 11 n 0x21))))) ∧
  (∀ n : Nat, n < 32 →
    (∀ a b t, (s.pin n).pulses = a :: b :: t → exec (.pinPulseEnd n) s = .next (kept s (s.modPin n (fun p => { p with pulses := b :: t })))) ∧
    (∀ a, (s.pin n).pulses = [a] →
      let v := match (s.pin n).after with | some x => x | none => (s.pin n).drive
      exec (.pinPulseEnd n) s = .next (kept s (s.modPin n (fun _ => ⟨v, v, [], none⟩)))))

/-- R384 to R388: TM_CTL's START, RESET and CAPTURE bits, written beside the timer's own configuration, and TM_CNT, each act on the timer at the grant; TIMER_MATCH and TIMER_END
raise the timer's match and end events and perform the bits of MATCH_ACT and END_ACT in ascending order, at the exact instant of the point. -/
def Obligations.TimerCommandsComplete : Prop :=
  ∀ (s : State) (n : Nat), n < 64 →
  (∀ h f : Nat, s.writeUp h = true → (s.reg .tmCtl n).toNat < 2 ^ 29 → s.fld .tmCtl n 27 24 = 0 → s.fld .tmCtl n 10 9 = 0 →
    let a := Reg.addr .tmCtl n
    let w := s.reg .tmCtl n
    let u := (s.atF f).setReg .tmCtl n w
    ((s.atF f).judge h a 4 (some (w.toNat + 2 ^ 31)) = .pass → exec (.timerStart h n f) s = .next (accessed s h a (u.timerStart n u.tb0u).1)) ∧
    ((s.atF f).judge h a 4 (some (w.toNat + 2 ^ 30)) = .pass →
      exec (.timerReset h n f) s = .next (accessed s h a
        (u.modTimer n (fun t => { t with state := if t.state = 2 then 0 else t.state, count := 0, start := u.tb0u, matched := false })))) ∧
    ((s.atF f).judge h a 4 (some (w.toNat + 2 ^ 29)) = .pass → exec (.timerCapture h n f) s = .next (accessed s h a (u.timerCapture n)))) ∧
  (∀ (h f : Nat) (v : Word), s.writeUp h = true → (s.atF f).judge h (Reg.addr .tmCnt n) 4 (some v.toNat) = .pass →
    let u := s.atF f
    exec (.tmCntWrite h n v f) s = .next (accessed s h (Reg.addr .tmCnt n)
      (u.modTimer n (fun t => { t with count := v.toNat, start := (u.countFrom t), matched := decide ((s.reg .tmMatch n).toNat < v.toNat) })))) ∧
  (let u := s.toCount n (s.reg .tmMatch n).toNat;
    s.pd11Stopped = false → u.matchDue n = true →
    let i := u.timerInstant n (s.reg .tmMatch n).toNat
    let a := s.fld .tmCtl n 16 14
    let link := s.fld .tmCtl n 23 18
    let s1 := (u.modTimer n (fun t => { t with matched := true })).raiseEvent (384 + n) 1
    let s2 := if a % 2 = 1 then s1.timerReset n i else s1
    let s3 := if a / 2 % 2 = 1 then s2.timerReset link i else s2
    exec (.timerMatch n) s = .next (kept s (if a / 4 % 2 = 1 then (s3.timerStart link i).1 else s3))) ∧
  (let u := s.toCount n (s.reg .tmEnd n).toNat;
    s.pd11Stopped = false → u.endDue n = true → u.matchDue n = false →
    let i := u.timerInstant n (s.reg .tmEnd n).toNat
    let a := s.fld .tmCtl n 13 11
    let link := s.fld .tmCtl n 23 18
    let t := s.timer n
    let s1 := (u.setTimer n { t with state := 2, count := (s.reg .tmEnd n).toNat }).raiseEvent (384 + n) 2
    let s2 := (s1.timerChans n).foldl (fun u c => u.startAcq c t.late t.gap none) s1
    let s3 := if a % 2 = 1 then ((s2.timerReset n i).timerStart n i).1 else s2
    let s4 := if a / 2 % 2 = 1 then s3.timerReset link i else s3
    exec (.timerEnd n) s = .next (kept s (if a / 4 % 2 = 1 then (s4.timerStart link i).1 else s4)))

/-- R369, R388, R555, R561: CAPTURE copies the four timebases and three epochs into the first stage, or into the second while a host holds the group open, or is lost with CAP_OVR, and is discarded where the read latch is full; SNAP
takes the snapshot; reading a word of a group opens it for the host until it has read every word, and the timeout closes it, when the second stage moves up; TB_VAL is
read as one value at the grant, a free one where the read latch is full (the model's choice, log 76). -/
def Obligations.CaptureCommandsComplete : Prop :=
  ∀ (s : State),
  (∀ h f : Nat, s.writeUp h = true → (s.atF f).judge h (Reg.addr .tbCapcmd 0) 4 (some 1) = .pass →
    let u := s.atF f
    let c : TbCap := ⟨[u.tbNow 0, u.tbNow 1, u.tbNow 2, u.tbNow 3], [u.tbEpoch 1, u.tbEpoch 2, u.tbEpoch 3]⟩
    let e := (u.edgePush 80).1
    ((u.edgePush 80).2 = false → exec (.capture h f) s = .next (accessed s h (Reg.addr .tbCapcmd 0) e)) ∧
    ((u.edgePush 80).2 = true → s.groupOpen 0 = false →
      exec (.capture h f) s = .next (accessed s h (Reg.addr .tbCapcmd 0) { e with time := { e.time with cap := c, capOvr := false } })) ∧
    ((u.edgePush 80).2 = true → s.groupOpen 0 = true → s.time.cap2 = none →
      exec (.capture h f) s = .next (accessed s h (Reg.addr .tbCapcmd 0) { e with time := { e.time with cap2 := some c } })) ∧
    ((u.edgePush 80).2 = true → s.groupOpen 0 = true → s.time.cap2 ≠ none →
      exec (.capture h f) s = .next (accessed s h (Reg.addr .tbCapcmd 0) { e with time := { e.time with capOvr := true } }))) ∧
  (∀ h : Nat, s.writeUp h = true → (s.atF 0).judge h (Reg.addr .chkCmd 0) 4 (some 1) = .pass →
    exec (.snap h) s = .next (accessed s h (Reg.addr .chkCmd 0) (s.atF 0).snapshot)) ∧
  (∀ g h : Nat, g < 66 → h < 4 →
    exec (.captureGroupTimeout g h) s = .next (kept s ({ s with groups := s.groups.filter (fun p => p.1 ≠ 4 * g + h) }.groupMove g))) ∧
  (∀ (h a : Nat) (ref : RegRef) (g total : Nat), s.pwr.phase = 2 → s.pwr.floor = 0 → h < 4 → a % 4 = 0 → spotOf a = .reg ref →
    groupOf ref.reg ref.inst = some (g, total) → s.judge h a 4 none = .pass →
    let r := if ref.reg.row.pair then s.readHalf h a ref else (s, s.regWord ref.reg ref.inst)
    let u := r.1
    let old := ((u.groups.find? (fun p => p.1 == 4 * g + h)).map (·.2)).getD []
    let new := if old.contains a then old else a :: old
    exec (.captureGroupRead h a) s = .next (shown s
      ((if total ≤ new.length then u.groupClose g h else { u with groups := (4 * g + h, new) :: u.groups.filter (fun p => p.1 ≠ 4 * g + h) }).noteAccess h a .pass)
      (0 :: bytesOf 4 r.2.toNat))) ∧
  (∀ h k f : Nat, s.pwr.phase = 2 → s.pwr.floor = 0 → h < 4 → k < 4 → (s.atF f).judge h (Reg.addr .tbVal k) 8 none = .pass →
    let u := s.atF f
    let e := (u.edgePush 80).1
    ((u.edgePush 80).2 = true → exec (.tbValRead h k f) s = .next (shown s (e.noteAccess h (Reg.addr .tbVal k) .pass) (0 :: bytesOf 8 (u.tbNow k)))) ∧
    ((u.edgePush 80).2 = false → exec (.tbValRead h k f) s = .next (shown s (({ e with free := e.free + 2 }).noteAccess h (Reg.addr .tbVal k) .pass)
      (0 :: bytesOf 8 ((Config.freeValue e.free).toNat + 2 ^ 32 * (Config.freeValue (e.free + 1)).toNat)))))

/-- R61, R63, R64: whatever well-formed packets a host lays out, one after another in one transfer to its port, the hub reads exactly those packets, every field and every
parameter word, and takes them one by one in order: none is dropped, none altered, none split. -/
def Obligations.PacketsArriveAsTheyWereSent : Prop :=
  ∀ (s : State) (h : Nat) (ps : List Pkt), s.pwr.floor = 0 → s.portsUp = true → h < 4 → ps ≠ [] → (∀ p ∈ ps, p.Ok) →
    ((∀ p ∈ ps, p.port = 0) →
      exec (.pktWrite 0 h 1 (asOperand (ps.flatMap Pkt.bytes))) s = .next (kept s (ps.foldl (fun u p => u.takeIn h 0 p) s))) ∧
    ((∀ p ∈ ps, p.port = 1) →
      exec (.pktWrite 1 h 1 (asOperand (ps.flatMap Pkt.bytes))) s = .next (kept s (ps.foldl (fun u p => u.takeIn s.hp1Host 1 p) s)))

/-- R56, R59, R64 to R67: one packet sent to HP0 joins the queue of its host when a slot is free, and is answered QUEUE_FULL by the port when none is; a packet whose CRC does not match
is answered BAD_CRC, one whose LEN does not match the transfer BAD_LENGTH, with its opcode and tag; what does not begin with 0xA5 or is cut short is counted as a violation. -/
def Obligations.PacketWriteTakesOrRefuses : Prop :=
  ∀ (s : State) (h : Nat), s.pwr.floor = 0 → s.portsUp = true → h < 4 →
  (∀ p : Pkt, p.Ok → p.port = 0 → let q := (s.host h).queue
    (q.length < 15 → exec (.pktWrite 0 h 1 (asOperand p.bytes)) s =
      .next (kept s ((s.modHost h (fun x => { x with queue := q ++ [p] })).logEnd 9 0 0x0A))) ∧
    (16 ≤ q.length → exec (.pktWrite 0 h 1 (asOperand p.bytes)) s = .next (kept s (s.portReply h 0 p.op p.tag 0x1A)))) ∧
  (∀ (p : Pkt) (l : List Byte), p.Ok → l.length = p.bytes.length → (∀ k, k ≠ 6 → k ≠ 7 → l.getD k 0 = p.bytes.getD k 0) → l ≠ p.bytes →
    exec (.pktWrite 0 h 1 (asOperand l)) s = .next (kept s (s.portReply h 0 p.op p.tag 0x10))) ∧
  (∀ l : List Byte, 8 ≤ l.length → l.getD 0 0 = 0xA5#8 → 64 ≤ (l.getD 1 0).toNat ∨ l.length < 8 + 4 * (l.getD 1 0).toNat →
    exec (.pktWrite 0 h 1 (asOperand l)) s = .next (kept s (s.portReply h 0 (l.getD 2 0).toNat (l.getD 3 0).toNat 0x11))) ∧
  (∀ l : List Byte, l.length < 8 → l.getD 0 0 = 0xA5#8 → l ≠ [] →
    exec (.pktWrite 0 h 1 (asOperand l)) s = .next (kept s ((s.addCnt .hpViol 0 23 16 1).logErr 9 0 0x0A))) ∧
  (∀ l : List Byte, l.getD 0 0 ≠ 0xA5#8 →
    exec (.pktWrite 0 h 1 (asOperand l)) s = .next (kept s ((s.addCnt .hpViol 0 31 24 1).logErr 9 0 0x0A)))

/-- R57, R58, R60, R542 to R546: PKT_READ gives the waiting reply's bytes from where the last read ended, frees its slot with its last byte, and then 0x00; QUEUE_STATUS gives the 4 bytes
of HP_QSTATn; MEM_READ gives the status 0x00 and the data, or the status 0xE1 alone for a bus error on the first word; MEM_WRITE writes a word whose access is served; a transfer
that finds the hub in a floor wakes it, and a packet write of up to 64 bytes waits in the wake buffer. -/
def Obligations.HostTransfersComplete : Prop :=
  ∀ (s : State) (h : Nat), s.portsUp = true → h < 4 →
  (∀ n : Nat, s.pwr.floor = 0 →
    let rest := ((s.host h).replies.head?.map Reply.bytes).getD [] |>.drop (s.host h).readPos
    ((s.host h).replies = [] → exec (.pktRead 0 h n) s = .next (kept s { s with out := List.replicate n 0 })) ∧
    ((s.host h).replies ≠ [] → 0 < n → n < rest.length →
      exec (.pktRead 0 h n) s = .next (kept s { (s.modHost h (fun x => { x with readPos := x.readPos + n })) with out := rest.take n })) ∧
    ((s.host h).replies ≠ [] → 0 < n → n = rest.length → exec (.pktRead 0 h n) s = .next (kept s { (s.dropReply h) with out := rest })) ∧
    (rest ≠ [] → rest.length < n → ∃ t, exec (.pktRead 0 h (n - rest.length)) (s.dropReply h) = .next t ∧
      exec (.pktRead 0 h n) s = .next (kept s { t with out := rest ++ t.out })) ∧
    (s.hp1Host = h → (s.host h).replies = [] → exec (.pktRead 1 h n) s = .next (kept s { s with hp1Ibi := 0, out := [] })) ∧
    (s.hp1Host = h → (s.host h).replies ≠ [] → 0 < n → n < rest.length →
      exec (.pktRead 1 h n) s = .next (kept s { (s.modHost h (fun x => { x with readPos := x.readPos + n })) with out := rest.take n })) ∧
    (s.hp1Host = h → (s.host h).replies ≠ [] → 0 < n → n = rest.length →
      let u := s.dropReply h
      exec (.pktRead 1 h n) s = .next (kept s { (if (u.host h).replies = [] then { u with hp1Ibi := 0 } else u) with out := rest }))) ∧
  (s.pwr.floor = 0 → exec (.queueStatus h) s = .next (kept s { s with out := bytesOf 4 (s.qstatWord h).toNat })) ∧
  (∀ (a f : Nat), s.pwr.phase = 2 → s.pwr.floor = 0 → a % 4 = 0 →
    let u := s.atF f
    (u.judge h a 4 none = .pass → exec (.memRead h a 4 f) s =
      .next (shown s ((u.readUnit h a 4).1.noteAccess h a .pass) (0 :: bytesOf 4 (hp0Value a (u.readUnit h a 4).2)))) ∧
    (∀ st len, 4 ≤ len → pairLow a = false → u.judge h a 4 none = .bus st → exec (.memRead h a len f) s =
      .next (shown s (u.noteAccess h a (.bus st)) [0xE1#8])) ∧
    (pairLow a = true → u.judge h a 8 none = .pass → exec (.memRead h a 8 f) s =
      .next (shown s ((u.readUnit h a 8).1.noteAccess h a .pass) (0 :: bytesOf 8 (hp0Value a (u.readUnit h a 8).2)))) ∧
    (∀ v : Word, u.judge h a 4 (some v.toNat) = .pass → exec (.memWrite h a (asOperand (wordBytes v)) f) s =
      .next (accessed s h a (u.writeUnit h a 4 v.toNat))) ∧
    (∀ (v : Word) (st : Nat), u.judge h a 4 (some v.toNat) = .bus st → exec (.memWrite h a (asOperand (wordBytes v)) f) s =
      .next (kept s (u.noteAccess h a (.bus st)).settle))) ∧
  (∀ l : List Byte, s.pwr.floor ≠ 0 →
    let u := { s.setReg .sysWakesrc 0 (s.reg .sysWakesrc 0 ||| 4#32) with pwr := { s.pwr with wakeReq := true } }
    (l.length ≤ 64 → s.pwr.wakeBuf = none → exec (.pktWrite 0 h 1 (asOperand l)) s =
      .next (kept s { u with pwr := { u.pwr with wakeBuf := some ⟨h, 1, 0, l⟩ } })) ∧
    (64 < l.length ∨ s.pwr.wakeBuf ≠ none → exec (.pktWrite 0 h 1 (asOperand l)) s = .next (kept s (u.addCnt .sysWakesrc 0 31 24 1))))

/-- R59, R71, R75 to R77, R600: SALTER_TAKE_PACKET serves the first host, from the one whose turn it is and round, whose queue begins with a packet or a whole chain, with no completion held
and a free reply slot for each packet; the packets leave the queue, the turn passes to the next host, and every packet is checked before any executes: where all pass, they execute in order, each answered; where one
fails, none executes, each that fails is answered with its own status, and each other one with the status of the first that failed and CHAIN_ABORT. With no such host nothing happens. CHAIN_TIMEOUT takes the open
chain at the end of the queue out of it and answers each of its packets BAD_LENGTH with CHAIN_ABORT, as reply slots allow. -/
def Obligations.PacketServingCompletes : Prop :=
  ∀ (s : State), s.pwr.phase = 2 → s.pwr.floor = 0 →
  (∀ (f i : Nat) (chained : List Pkt) (last : Pkt) (rest : List Pkt), i < 4 → s.turn < 4 →
    let h := (s.turn + i) % 4
    (∀ j < i, s.unitOf ((s.turn + j) % 4) = none) → (s.host h).queue = chained ++ last :: rest → (∀ p ∈ chained, p.chain = true) → last.chain = false →
    (s.host h).held = [] → chained.length + 1 ≤ (s.host h).freeSlots →
    let l := chained ++ [last]
    let checked := (({ s with turn := (h + 1) % 4 }.modHost h (fun x => { x with queue := rest })).atF f).checkChain h f l
    let u := checked.1.modHost h (fun x => { x with due := l.length })
    ((∀ r ∈ checked.2, r.1 = 0) → exec (.salterTakePacket f) s = .next (kept s (l.foldl (fun v p => v.execPkt h f p) u))) ∧
    (∀ (pre post : List (Nat × Bool)) (st : Nat) (lg : Bool), checked.2 = pre ++ (st, lg) :: post → (∀ r ∈ pre, r.1 = 0) → st ≠ 0 →
      exec (.salterTakePacket f) s = .next (kept s ((l.zip checked.2).foldl (fun v x =>
        if x.2.1 ≠ 0 then v.answer h x.1 x.2.1 false x.2.2 [] else v.answer h x.1 st true false []) u)))) ∧
  (∀ f : Nat, s.turn < 4 → (∀ h < 4, s.unitOf h = none) → exec (.salterTakePacket f) s = .next s) ∧
  (∀ (h : Nat) (q run : List Pkt), h < 4 → (s.host h).queue = q ++ run → (∀ p ∈ run, p.chain = true) → (∀ p ∈ q.getLast?, p.chain = false) →
    exec (.chainTimeout h) s = .next (kept s (run.foldl (fun u p =>
      let r : Reply := ⟨p.op, p.tag, 0x11, false, true, h, false, false, []⟩
      if (u.host h).held = [] ∧ 0 < (u.host h).freeSlots then u.enqueueReply h r else u.modHost h (fun y => { y with held := y.held ++ [r] }))
      (s.modHost h (fun x => { x with queue := q })))))

/-- R112, R119 to R126, R195, R345, R461: DESCRIPTOR_APPLY takes the channel's boundary where there is one now: at once while no command of the channel is in hand, at a POLLED channel's grid instant, or, for a
channel whose inputs queue, once its boundary is overdue, which STREAMED_BOUNDARY_TIMEOUT makes it. At the boundary the rails rise ahead of the load that the change brings; if they are there, the commands that wait
apply, then a tier change; then a restart that is owed, and the configuration of the analogue input. COMPOSE_STAMP takes the oldest capture of a latch, once the tick after it has come, and gives every waiting sample,
output, edge and acquisition its stamp. -/
def Obligations.ChannelCommandsComplete : Prop :=
  ∀ (s : State),
  (∀ c : Nat, c < 192 → s.isDue c = true →
    let boundary := fun (u : State) =>
      let r := u.loadAhead c
      let v := if r.2 then (r.1.applyJobs c).applyTier c else r.1
      let w := if (v.chan c).restartOwed && v.running c then
          (v.modChan c (fun x => { x with restartOwed := false, gapOwed := x.gapOwed || x.stepGap, stepGap := false })).restartChan c true
        else v
      let x := match u.afeOf c with
        | none => w
        | some i => w.applyAfe i (if (w.twrCh c).restarts ≠ (u.twrCh c).restarts ∧ w.running c = true then some c else none)
      x.finishJobs
    let u := if (s.ad c).acq = 0 ∧ s.running c = true then s.toGrid c else s
    let here := u.atOnce c = true ∨ (u.fifoBound c = true ∧ (u.chan c).overdue = true) ∨ ((s.ad c).acq = 0 ∧ u.onGrid c = true)
    (here → exec (.descriptorApply c) s = .next (kept s (boundary u))) ∧
    (¬ here → exec (.descriptorApply c) s = .next s) ∧
    (s.fifoBound c = true → exec (.streamedBoundaryTimeout c) s = .next (kept s (boundary (s.modChan c (fun x => { x with overdue := true })))))) ∧
  (∀ (l n f : Nat) (rest : List (Nat × Nat)), s.time.latches.get (fun _ => []) l = (n, f) :: rest → n ≤ s.tick →
    let stamp := fun (c : Nat) (x : Stamp) => x.fill s (s.ad c).tb (l, n, f)
    let out := fun (o : Output) => o.fill s (s.ad o.chan).tb (l, n, f)
    exec (.composeStamp l) s = .next { s with
      time := { s.time with latches := s.time.latches.set (fun _ => []) l rest },
      ports := s.ports.map (fun p => (p.1, { p.2 with acqs := p.2.acqs.map (fun a => { a with stamp := stamp a.chan a.stamp }) })),
      chans := s.chans.map (fun p => (p.1, { p.2 with edge := p.2.edge.map (stamp p.1) })),
      twr := { s.twr with
        entry := s.twr.entry.map (fun x => { x with stamp := stamp x.chan x.stamp }),
        held := s.twr.held.map out,
        ch := s.twr.ch.map (fun p => (p.1, { p.2 with stamps := p.2.stamps.map (stamp p.1), last := p.2.last.map out })) } })

/-- R97, R116, R159, R235, R541, R550, R551: a served write of a word to the Channel Table, to a script slot, to the seeds or templates, or to a register, each with its whole next state (the write itself;
then the runs of refused accesses end and boundaries that are at once are taken); BLOCK_BOUNDARY_APPLY applies the buffered register whose block reaches its boundary. -/
def Obligations.WindowAndRegisterWritesComplete : Prop :=
  ∀ (s : State) (h a : Nat) (v : Word), s.writeUp h = true →
  (a % 4 = 0 → s.judge h a 4 (some v.toNat) = .pass →
    (∀ u, spotOf a = .mem 0 → spotOf (a + 3) = .mem 0 → s.tableStore a (bytesOf 4 v.toNat) = some u →
      exec (.tableWindowWrite h a (asOperand (wordBytes v))) s = .next (accessed s h a u)) ∧
    (spotOf a = .mem 1 → spotOf (a + 3) = .mem 1 →
      exec (.scriptWindowWrite h a (asOperand (wordBytes v))) s = .next (accessed s h a (s.wrBytes a (bytesOf 4 v.toNat)))) ∧
    (∀ k u, k = 2 ∨ k = 3 → spotOf a = .mem k → spotOf (a + 3) = .mem k → s.seedStore a (bytesOf 4 v.toNat) = some u →
      exec (.seedWindowWrite h a (asOperand (wordBytes v))) s = .next (accessed s h a u))) ∧
  (s.judge h a 4 (some v.toNat) = .pass → exec (.registerWrite h a v) s = .next (accessed s h a (s.writeUnit h a 4 v.toNat))) ∧
  (∀ st, s.judge h a 4 (some v.toNat) = .bus st → exec (.registerWrite h a v) s = .next (kept s (s.noteAccess h a (.bus st)).settle)) ∧
  (∀ ref, s.isFenced 8 (spotDomain a) = false → regAt (a - a % 4) = some ref → ref.reg.row.access = .rwb →
    exec (.blockBoundaryApply a) s = .next (kept s (s.blockBoundary ref.reg ref.inst).settle))

/-- R101, R103, R158, R160 to R167, R453, R458: ACQUISITION_START queues a TRIGGERED serial channel's acquisition, with its script copied, on its port, or samples an EVENT_PIN channel at once; a
POLLED channel starts at its grid instant, after its boundary; TRANSACTION_START, RETRY_GAP, POST_DELAY and BUS_WAIT_TIMEOUT move the port's first acquisition on; ATTEMPT_END records
a failed attempt by its cause, goes to the script's next slot, or completes the acquisition with the bytes read, and is a boundary of the port's configuration. -/
def Obligations.AcquisitionCommandsComplete : Prop :=
  ∀ (s : State),
  (∀ (c : Nat) (late gap : Bool), c < 192 → s.acquiring c = true → s.isFenced 8 2 = false →
    let d := s.ad c
    let p := d.kind
    (d.acq = 2 → p < 18 → s.isFenced 0 p = false → s.portOn p = true → s.portTarget p = false → s.scriptOk d (s.copyScript d) = true →
      exec (.acquisitionStart c late gap) s = .next (kept s ((s.countAcq c).modPort p (fun x => { x with acqs := x.acqs ++
        [{ chan := c, due := s.tb0u, prio := d.prio, stamp := Stamp.at (s.tbNow d.tb) (s.tbEpoch d.tb), script := s.copyScript d, idx := 0, tries := 0,
           phase := 0, bytes := [], g := none, late := late, gap := gap, lost := false }] })))) ∧
    (d.acq = 2 → p = 20 →
      exec (.acquisitionStart c late gap) s = .next (kept s ((s.countAcq c).instantSample c late gap none))) ∧
    (d.acq = 0 → let u := s.toGrid c
      let v := u.boundary c
      u.onGrid c = true →
      exec (.acquisitionStart c late gap) s = .next (kept s (if (v.ad c).acq = 0 ∧ v.onGrid c = true then v.startAcq c late gap (v.gridIndex c) else v)))) ∧
  (∀ p : Nat, p < 18 →
    let slot := fun (a : Acq) => a.script.getD a.idx []
    (∀ (f sda : Nat) (a : Acq) (t : List Acq), s.isFenced 8 2 = false →
      let u := (s.atF f).selectAcq p
      (u.port p).acqs = a :: t → a.phase = 0 → s.busWait p = false → s.isFenced 0 p = false → s.portOn p = true → s.portTarget p = false → (p < 12 ∨ sda < 10) →
      let v := u.modPort p (fun x => { x with transactions := (x.transactions + 1) % 2 ^ 32 })
      let w := if isSsp p || sda = 0 then v else v.modPort p (fun x => { x with recoveries := satAt 65535 (x.recoveries + 1) })
      let rest := fun (x : Port) => { x with curSel := if isSsp p then slotAddr (slot a) % 4 else x.curSel, floating := false,
                                             cccs := if 12 ≤ p ∧ slotType (slot a) = 3 then [⟨0x20, none, []⟩] else [] }
      (a.idx ≠ 0 ∨ (s.ad a.chan).acq = 1 → exec (.transactionStart p f sda) s =
        .next (kept s (w.modPort p (fun x => rest (x.mapHead (fun b => { b with phase := 1 })))))) ∧
      (a.idx = 0 → (s.ad a.chan).acq ≠ 1 → let r := w.latchFor (portLatch p) a.chan 0
        exec (.transactionStart p f sda) s =
          .next (kept s (r.1.modPort p (fun x => rest (x.mapHead (fun b => { b with phase := 1, stamp := r.2.getD b.stamp, lost := r.2.isNone }))))))) ∧
    (∀ (cause aux : Nat) (bytes : List Nat) (a : Acq) (t : List Acq), (s.port p).acqs = a :: t → a.phase = 1 →
      (if cause = 0 then bytes.length = slotRead (slot a) else 12 ≤ p ∧ (cause = 1 ∨ cause = 5 ∨ cause = 7) ∧ bytes.length ≤ slotRead (slot a)) →
      let k := if cause = 0 ∧ bitAt ((slot a).getD 1 0) 21 = true ∧ uniform bytes = true then 3 else cause
      let u := s.tallyAttempt p a.chan (slotSent p (slot a) + bytes.length)
      let bound := fun (x : State) => if p < 12 then x.applySsp p else x.applyI3c p
      let b : Acq := { a with bytes := a.bytes ++ bytes.map (BitVec.ofNat 8), tries := 0 }
      let v := u.portGood p (slotAddr (slot a))
      (k ≠ 0 → exec (.attemptEnd p cause bytes aux) s = .next (kept s (bound ((u.recordCause p k (slotAddr (slot a)) aux).attemptFail p k)))) ∧
      (k = 0 → a.idx + 1 < a.script.length → exec (.attemptEnd p cause bytes aux) s =
        .next (kept s (bound (v.modPort p (fun x => x.mapHead (fun _ => { b with idx := a.idx + 1, phase := if slotPost (slot a) = 0 then 0 else 3 })))))) ∧
      (k = 0 → a.script.length ≤ a.idx + 1 → exec (.attemptEnd p cause bytes aux) s = .next (kept s (bound (v.acqDone p b))))) ∧
    exec (.retryGap p) s = .next (kept s (s.modPort p (fun x => x.mapHead (fun a => if a.phase = 2 then { a with phase := 0 } else a)))) ∧
    exec (.postDelay p) s = .next (kept s (s.modPort p (fun x => x.mapHead (fun a => if a.phase = 3 then { a with phase := 0 } else a)))) ∧
    (∀ (a : Acq) (t : List Acq), let u := s.selectAcq p
      (u.port p).acqs = a :: t → a.phase ≠ 1 → a.phase ≠ 3 → s.busWait p = true →
      exec (.busWaitTimeout p) s = .next (kept s
        (((u.modPort p (fun x => { x with transactions := (x.transactions + 1) % 2 ^ 32 })).tallyAttempt p a.chan 0).attemptFail p 2))))

/-- R144 to R152: a foreign select that asserts during a transaction is a mode fault of the acquisition in progress, and otherwise only keeps the port from its bus; it is released, and BUS_FREE passes; a
target frame is accepted, or counted as SHORT or LONG, by its bits, and an accepted one gives its channel a sample, unless its edge is lost (log 70); a STREAMED channel without input for its time fails an acquisition. -/
def Obligations.SspCommandsComplete : Prop :=
  ∀ (s : State) (p : Nat), p < 12 →
  (s.portOn p = true → bitAt (s.portCfg p) 29 = true → s.portTarget p = false → s.isFenced 0 p = false →
    let u := s.modPort p (fun x => { x with foreign := true, busFree := false })
    (∀ a t, (s.port p).acqs = a :: t → a.phase = 1 → (s.port p).foreign = false → exec (.foreignSelectAssert p) s = .next (kept s (u.modeFault p a))) ∧
    ((∀ a ∈ (s.port p).acqs.head?, a.phase ≠ 1) ∨ (s.port p).foreign = true → exec (.foreignSelectAssert p) s = .next (kept s u))) ∧
  exec (.foreignSelectRelease p) s = .next (kept s (s.modPort p (fun x => { x with foreign := false }))) ∧
  ((s.port p).foreign = false → exec (.busFree p) s = .next (kept s (s.modPort p (fun x => { x with busFree := true })))) ∧
  (∀ (line f extra : Nat) (bytes : List Nat), line < 4 → s.portOn p = true → s.portTarget p = true → s.isFenced 0 p = false →
    let u := s.atF f
    let need := match s.frameChan p line with
      | some c => bits (s.desc c 2) 23 16 + (s.ad c).ncomp * (s.ad c).cwidth
      | none => 0
    let kind := frameClass (s.portCfg p) need (8 * bytes.length + extra)
    let v := (u.modPort p (fun x => { x with frames := (x.frames + 1) % 65536 })).logEndRun 0 p 0x12 line
    let next := fun (w : State) => exec (.targetFrame p line f bytes extra) s = .next (kept s (w.applySsp p))
    (kind = 0 → s.frameChan p line = none → next v) ∧
    (∀ c, kind = 0 → s.frameChan p line = some c → v.acquiring c = false → next v) ∧
    (∀ c, kind = 0 → s.frameChan p line = some c → v.acquiring c = true →
      let r := v.latchFor (portLatch p) c 0
      (r.2 = none → next (r.1.countAcq c)) ∧
      (∀ st, r.2 = some st →
        let x := r.1.unpack (r.1.ad c) (bytes.map (BitVec.ofNat 8))
        next ((x.1.countAcq c).goodAcq
          { chan := c, comps := x.2.1, gap := false, stale := false, degraded := false, sat := x.2.2, late := false, stamp := st, g := none } (x.1.stampVal c st)))) ∧
    (kind = 1 → next (((u.portEvt p 1).portCnt p 0).logRun 0 p 0x12 line)) ∧
    (kind = 2 → next (((u.portEvt p 2).portCnt p 1).logRun 0 p 0x12 line))) ∧
  (∀ c : Nat, c < 192 → s.acquiring c = true → (s.ad c).acq = 1 → (s.ad c).kind ≠ 21 → s.desc c 3 ≠ 0 →
    let d := s.ad c
    let cause := if d.isPort then s.refusal d d.kind else 0
    exec (.streamWatchdog c) s = .next (kept s ((if cause = 0 then s else s.modPort d.kind (fun x => { x with lastFail := cause })).failAcq c
      (Stamp.at (s.tbNow d.tb) (s.tbEpoch d.tb)) none)))

/-- R168 to R175: BUS_INITIALISATION gives each valid entry of the target table whose target answered its ASSIGNED bit and identity, and sends the command codes of the sequence; a hot-join is NACKed, or fills the open
entries, with TABLE_FULL where they do not suffice; an in-band interrupt of an unknown target is counted, and one of a known target starts an acquisition of every channel of it with the payload; a stretch beyond
the limit fails the attempt in progress. -/
def Obligations.I3cCommandsComplete : Prop :=
  ∀ (s : State) (p : Nat), 12 ≤ p → p < 18 →
  (∀ found : List Nat, (s.port p).init = true → s.isFenced 0 p = false →
    let s1 := (List.range 8).foldl (fun u k => u.setTgt p k none) s
    let s2 := (s.tgtList p true).foldl (fun u k => if found.getD k 0 = 0 then u else u.setTgt p k (some (found.getD k 0 - 1))) s1
    let s3 := ((s.tgtList p false).zip (((s.tgtList p false).map (fun k => found.getD k 0)).filter (· ≠ 0))).foldl (fun u q => u.setTgt p q.1 (some (q.2 - 1))) s2
    exec (.busInitialisation p found) s = .next (kept s (s3.modPort p (fun x => { x with init := false, cccs := s3.initCccs p })))) ∧
  (∀ found : List Nat, s.portOn p = true → s.isFenced 0 p = false →
    let u := fun (ack : Bool) (x : Ccc) => (s.portEvt p 3).modPort p (fun y => { y with joinAck := ack, cccs := [x] })
    let openOnes := (s.tgtList p false).filter (fun k => !bitAt (s.tgtEntry p k) 25)
    let v := (openOnes.zip found).foldl (fun w q => w.setTgt p q.1 (some q.2)) (u true ⟨0x07, none, []⟩)
    (bitAt (s.portCfg p) 30 = false → exec (.hotJoin p found) s = .next (kept s (u false ⟨0x01, none, [8]⟩))) ∧
    (bitAt (s.portCfg p) 30 = true → openOnes.length < max 1 found.length → exec (.hotJoin p found) s = .next (kept s ((v.portEvt p 4).logErr 0 p 0x16))) ∧
    (bitAt (s.portCfg p) 30 = true → max 1 found.length ≤ openOnes.length → exec (.hotJoin p found) s = .next (kept s (v.logEnd 0 p 0x16)))) ∧
  (∀ (addr f : Nat) (bytes : List Nat), s.portOn p = true → s.isFenced 0 p = false → s.inTransaction p = false →
    let entry := (List.range 8).find? (fun k => bitAt (s.tgtEntry p k) 31 && bits (s.tgtEntry p k) 22 16 == addr && bitAt (s.tgtEntry p k) 28)
    let u := s.atF f
    (entry = none → exec (.ibi p addr f bytes) s = .next (kept s (((u.portEvt p 1).portCnt p 1).logRun 0 p 0x14 addr))) ∧
    (∀ k, entry = some k →
      let v := u.logEndRun 0 p 0x14 addr
      let chans := (List.range 192).filter (fun c => v.acquiring c && (v.ad c).kind == p && (v.ad c).acq == 1 && (v.ad c).unit == addr)
      let payload := (bytes.take (bits (s.tgtEntry p k) 27 26 + 1)).map (BitVec.ofNat 8)
      let r := v.latchPush (portLatch p)
      (chans = [] → exec (.ibi p addr f bytes) s = .next (kept s v)) ∧
      (chans ≠ [] → r.2 = true → exec (.ibi p addr f bytes) s = .next (kept s
        (chans.foldl (fun w c => w.startSerial c false false none payload (some (v.waiting (portLatch p) 0)) false) r.1))) ∧
      (chans ≠ [] → r.2 = false → exec (.ibi p addr f bytes) s = .next (kept s
        (chans.foldl (fun w c => (w.modChan c (fun x => { x with gapOwed := true })).startSerial c false false none payload none true) r.1))))) ∧
  (∀ a t, (s.port p).acqs = a :: t → a.phase = 1 →
    let slot := a.script.getD a.idx []
    bitAt (slot.getD 0 0) 19 = true →
    ∃ n, n ≤ slotSent p slot + slotRead slot ∧ exec (.stretch p) s =
      .next (kept s (((({ s with free := s.free + 1 }.tallyAttempt p a.chan n).recordCause p 6 (slotAddr slot) 0).attemptFail p 6).applyI3c p)))

/-- R184, R187, R188, R192 to R194, R196, R214: the bits of a pre-stage output, each with its overload by the input's voltage, of which one not overloaded before is an event and a log entry, fill the input's stages
while its modulator runs, are tallied and, where the stages give a value and the input's channel acquires, give the channel its sample, latched at this instant, unless the edge is lost (log 70); a blank ends with the
channel's Tower state restarted, unless its boundary has done so; an excitation output settles, limits its current with an event and a log entry, and stops limiting, which ends the entry's run once it has settled. -/
def Obligations.AnalogueCommandsComplete : Prop :=
  ∀ (s : State),
  (∀ (i f exc : Nat) (raw : List (Nat × Int)), i < 24 → s.afePowered = true → bitAt (s.afeCfg i) 31 = true →
    let bs := raw.map (fun b => (b.1, (s.atF f).ainOver i exc b.2))
    let u := (s.atF f).noteOver i (bs.map (·.2))
    let next := fun (w : State) => exec (.preStageOutput i f raw exc) s = .next (kept s w)
    (s.afeRun i = false → next u) ∧
    (∀ c, s.afeRun i = true → s.preChan i = some c → bs.length = 2 ^ s.preDec i →
      (s.isFenced 8 6 = true → u.acquiring c = true → next (u.entryDrop c)) ∧
      (s.isFenced 8 6 = true → u.acquiring c = false → next u) ∧
      (s.isFenced 8 6 = false →
        let r := preBits (s.preDec i) (s.pre i) bs
        let v := (u.setPre i r.1).tallyAdd c 4 6 bs.length
        (r.2 = none ∨ v.acquiring c = false → next v) ∧
        (∀ x, r.2 = some x → v.acquiring c = true →
          let y := v.latchFor (50 + i) c (v.groupDelay i)
          (y.2 = none → next y.1) ∧
          (∀ st, y.2 = some st →
            let z := if x.ovl then y.1 else y.1.logEnd 13 i 0x18
            next (z.goodAcq { chan := c, comps := [x.v], gap := false, stale := false, degraded := false, sat := x.ovl || x.sat, late := false, stamp := st, g := none }
              (z.stampVal c st))))))) ∧
  (∀ i : Nat, i < 24 → (s.pre i).blank = true →
    let u := s.setPre i ⟨[], 0, false, false⟩
    ((s.pre i).noRestart = false → exec (.afeBlankEnd i) s = .next (kept s (u.restartInput i))) ∧
    ((s.pre i).noRestart = true → exec (.afeBlankEnd i) s = .next (kept s u))) ∧
  (s.afePowered = true → exec (.excSettled 4) s = .next { s with afe := { s.afe with refReady := true } }) ∧
  (∀ k : Nat, k < 4 →
    (s.afePowered = true → bitAt (s.reg .afeExc k) 31 = true → let u : State := { s with afe := { s.afe with settled := s.afe.settled ||| (1#4 <<< k) } }
      exec (.excSettled k) s = .next (kept s (if s.afe.limiting.getLsbD k then u else u.logEnd 13 (16 + k) 0x19))) ∧
    (s.afePowered = true → bitAt (s.reg .afeExc k) 31 = true → exec (.excLimit k) s =
      .next (kept s (((({ s with afe := { s.afe with limiting := s.afe.limiting ||| (1#4 <<< k) } } : State)).evt .afeEvt 0 (16 + k)).logErr 13 (16 + k) 0x19))) ∧
    (let u : State := { s with afe := { s.afe with limiting := s.afe.limiting &&& ~~~(1#4 <<< k) } }
     exec (.excLimitEnd k) s = .next (kept s (if s.afe.settled.getLsbD k then u.logEnd 13 (16 + k) 0x19 else u)))) ∧
  (∀ (n f : Nat) (rise : Bool), n < 32 →
    let u := s.atF f
    let v := u.modPin n (fun x => { x with level := rise })
    ((s.pinMode n = 2 ∨ (s.pin n).level = rise) → exec (.eventPinEdge n f rise) s = .next (kept s u)) ∧
    (s.pinMode n ≠ 2 → (s.pin n).level ≠ rise → s.pinMode n ≠ 1 ∨ s.pwr.phase ≠ 2 → exec (.eventPinEdge n f rise) s = .next (kept s v)) ∧
    (s.pinMode n = 1 → (s.pin n).level ≠ rise → s.pwr.phase = 2 →
      let l := v.pinChans n rise
      let r := if l = [] then (v, false) else v.latchPush n
      let w := (l.foldl (fun z c => z.pinSample c (if r.2 then some (v.waiting n 0) else none)) r.1).raiseEvent (448 + n) (if rise then 1 else 2)
      exec (.eventPinEdge n f rise) s = .next (kept s (if s.pwr.floor ≠ 0 && v.pinWakes n rise then
        (w.setReg .sysWakesrc 0 (setBits (w.reg .sysWakesrc 0) 20 16 n)).wakeBy 1 else w))))

/-- R17, R21, R112, R199 to R220, R276: the engine takes the oldest input of the channel it selects, runs one unit of its stages, and then takes the boundary that the end of the unit
may be; the first output whose stamp is composed goes to every destination, once each accepts its copy; the Crystalliser takes the oldest output in its input; the CRC of an
armed seed is checked. -/
def Obligations.EngineCommandsComplete : Prop :=
  ∀ (s : State),
  (s.isFenced 8 6 = false → s.pwr.floor = 0 →
    (∀ c x, s.fanoutHeld = false → s.pickChan = some c → s.twr.entry.find? (fun y => y.chan == c) = some x →
      let u := ({ s with twr := { s.twr with entry := s.twr.entry.erase x } }).runUnit x
      exec .engineUnit s = .next (kept s (u.unitBoundary c (decide (s.twr.held.length < u.twr.held.length))))) ∧
    (∀ o, handoffNext [] s.twr.held = some o → s.destsReady o = true →
      let d := s.delivered o
      let w10 := s.desc o.chan 10
      let u := (s.panItems o).foldl (fun v it => v.panPush it) { s with twr := { s.twr with held := s.twr.held.erase o } }
      (o.sample = false → exec .outputHandoff s = .next (kept s u)) ∧
      (o.sample = true →
        let v := if bitAt w10 1 && !u.cryOff then { u with cry := { u.cry with fifo := u.cry.fifo ++ [d] } } else u
        let w := (v.svcTakers o.chan).foldl (fun z i => z.svcOffer d i) v
        exec .outputHandoff s = .next (kept s (if bitAt w10 5 then w.offerSaltern d else w))))) ∧
  (∀ o t, s.cry.fifo = o :: t → s.pwr.floor = 0 → s.isFenced 8 7 = false →
    let u : State := { s with cry := { s.cry with fifo := t, flags := s.cry.flags.set (fun _ => OutFlags.none) o.chan o.flags } }
    let takers := u.armedSeeds.filter (fun n => !u.isFenced 2 n && (List.range 4).any (fun j => u.seedInOn n j && u.seedIn n j == o.chan))
    let r := takers.foldl (fun (p : State × List (Nat × Bool × Nat)) n => ((p.1.seedTake n o).1, p.2 ++ (p.1.seedTake n o).2)) (u, [])
    exec .crystalliserOutput s = .next (kept s (r.2.foldl State.seedDeferred r.1))) ∧
  (∀ n : Nat, n < 64 → s.pwr.floor = 0 → (s.seed n).armed = true → s.isFenced 2 n = false →
    (s.seedCrc n ≠ bits (s.seedWord n 63) 15 0 → exec (.seedCrcCheck n) s = .next (kept s ((s.evt .cryEvt 0 3).fenceMark 2 n 0x83))) ∧
    (s.seedCrc n = bits (s.seedWord n 63) 15 0 → exec (.seedCrcCheck n) s = .next s))

/-- R299 to R316, R320, R325, R335: PAN_COMMIT takes the oldest item of the FIFO: it is counted and discarded where its stream is not enabled or fenced or, under HOLD, where it does not fit; otherwise OVERWRITE
makes room, a RESUME tide mark that is owed comes first, and the record is committed; TIDE_INTERVAL puts a tide mark into every enabled stream; DROP_PACKET discards the oldest item and counts its words; a
write of PAN_RPn moves RP to a record start and is refused with an event elsewhere. -/
def Obligations.PanCommandsComplete : Prop :=
  ∀ (s : State),
  (∀ it t, s.pan.fifo = it :: t → s.pwr.floor = 0 →
    let u : State := { s with pan := { s.pan with fifo := t } }
    let n := it.stream
    let x := s.stream n
    let cfg := s.app .panCfg n
    let behind := if x.resumeOwed then u.modStream n (fun y => { y with tide := u.tbNow (u.afld .panCfg n 29 28) }) else u
    let need := (behind.recWords n it).length + (if x.resumeOwed then 14 else 0)
    (s.streamOn n = false → exec .panCommit s = .next (kept s
      (let v := (u.countFault .panFifocnt 0 31 24 1).evt .panEvt 0 2
       if it.type = 2 then (v.evt .cryEvt 0 2).countFault .cryCnt 0 31 16 1 else v))) ∧
    (s.streamOn n = true → s.isFenced 4 n = true → exec .panCommit s = .next (kept s (u.dropRec n (some it) false))) ∧
    (s.streamOn n = true → s.isFenced 4 n = false →
      (bitAt cfg 30 = true → x.freeWords (ringSize cfg) < need → exec .panCommit s = .next (kept s (u.dropRec n (some it) true))) ∧
      (need ≤ x.freeWords (ringSize cfg) →
        let v := if x.resumeOwed then u.commitTide n 4 else u
        exec .panCommit s = .next (kept s ((v.commitRec n it.chan (v.recWords n it)).countRec n it))) ∧
      (bitAt cfg 30 = false → x.freeWords (ringSize cfg) < need →
        let r := u.makeRoom n need
        let v := if r.2 || (r.1.stream n).resumeOwed then r.1.commitTide n 4 else r.1
        exec .panCommit s = .next (kept s ((v.commitRec n it.chan (v.recWords n it)).countRec n it))))) ∧
  (s.pwr.floor = 0 → s.tb0u % s.tideInterval ≤ 10000000 * 64 →
    exec .tideInterval s = .next (kept s (s.enabledStreams.foldl (fun u n => u.putTide n 0) s))) ∧
  (∀ h : Nat, s.writeUp h = true → (s.atF 0).judge h (Reg.addr .panCmd 0) 4 (some 1) = .pass →
    let u := s.atF 0
    (s.pan.fifo = [] → exec (.dropPacket h) s = .next (accessed s h (Reg.addr .panCmd 0) u)) ∧
    (∀ it t, s.pan.fifo = it :: t → exec (.dropPacket h) s = .next (accessed s h (Reg.addr .panCmd 0)
      ({ u with pan := { u.pan with fifo := t } }.countFault .panFifocnt 0 11 0 (it.payload.length + 2))))) ∧
  (∀ h n v : Nat, s.writeUp h = true → n < 32 → v < 2 ^ 19 → (s.atF 0).judge h (Reg.addr .panRp n) 4 (some v) = .pass →
    let u := s.atF 0
    let x := s.stream n
    let cfg := s.app .panCfg n
    (s.streamOn n = true → (u.recStarts cfg x.wp (x.fill (ringSize cfg)) x.rp).contains v = true →
      exec (.panRpWrite h n v) s = .next (accessed s h (Reg.addr .panRp n) (u.advanceRp n v))) ∧
    (s.streamOn n = false ∨ (u.recStarts cfg x.wp (x.fill (ringSize cfg)) x.rp).contains v = false →
      exec (.panRpWrite h n v) s = .next (accessed s h (Reg.addr .panRp n) (u.evt .panEvt 0 3))))

/-- R268 to R293: SERVICE_INPUT takes the oldest input of the second core, applies the instance's waiting block where it may, and processes the input by its service, or fences an instance whose state is not sound; the end of a TREND period, which falls
on its calendar or TB0 boundary and once only, puts the summary's words into the last summary, the Pan and the service's sample and starts the next period, and in a floor it
waits for the wake; WAKE_REQUEST pulses at once, with the requests held beyond the limit when it is the hour's first, waits for GAP, or is merged; the end of GAP and of the LIMIT hour release what waits. -/
def Obligations.ServiceCommandsComplete : Prop :=
  ∀ (s : State),
  (∀ i o t, s.svc.queue = (i, o) :: t → s.pwr.floor = 0 → s.isFenced 8 2 = false →
    let u := ({ s with svc := { s.svc with queue := t } } : State).svcApply i
    let v := if !u.svcSound i then (u.svcError i 3).fenceInst i 0x86
      else if u.svcFenced i || !bitAt (u.svcWord i 0) 31 then u else
      match svcCode i with
      | (0, k) => u.orientInput k o
      | (1, _) => if bitAt (u.desc o.chan 13) 31 then u.trendInput o else u
      | (2, k) => if bits (u.svcWord i 0) 7 0 = o.chan then u.machInput k o else u
      | (3, _) => u.wearInput o
      | _ => u
    exec .serviceInput s = .next (kept s (if v.svcIdle i then v.svcApply i else v))) ∧
  (∀ (c : Nat) (day : Bool), c < 192 → s.svcFenced 8 = false → s.isFenced 8 2 = false → bitAt (s.svcStored 8 0) 31 = true → bitAt (s.desc c 13) 31 = true →
    (s.periodPoint day = none → exec (.trendPeriodEnd c day) s = .next (kept s s)) ∧
    (∀ e, s.periodPoint day = some e →
      let no := e.periodNo day
      (e.periodEnded c day = true → exec (.trendPeriodEnd c day) s = .next (kept s s)) ∧
      (e.periodEnded c day = false → e.pwr.floor ≠ 0 → exec (.trendPeriodEnd c day) s = .next (kept s
        { e with svc := { e.svc with trendDue := e.svc.trendDue ++ [(c, day, no, e.cal.valid, e.tb0u)] } })) ∧
      (e.periodEnded c day = false → e.pwr.floor = 0 →
        let u := (if e.svcIdle 8 then e.svcApply 8 else e).svcWork 8 900
        let i := 2 * c + b2n day
        let p := u.trend i
        let words := trendWords c day p no e.cal.valid
        let stats := p.stats
        let k := u.trendTb
        let at' := p.last.getD (((u.tbFineAt k e.tb0u + 2 ^ 31) / 2 ^ 32).toNat, k, u.tbEpoch k)
        let v := ({ u with svc := { u.svc with trendLast := u.svc.trendLast.set (fun _ => []) i words } } : State).setTrend i
          { TrendPeriod.fresh with ended := some (no, e.cal.valid) }
        let w := if bitAt (u.svcWord 8 0) 5 then
            v.panPush { type := 3, chan := c, stream := bits (u.svcWord 8 0) 4 0, flags := { p.flags with gap := p.flags.gap || (u.svcInst 8).gapOwed },
                        stamp := at'.1, tb := at'.2.1, epoch := at'.2.2, payload := words }
          else v
        exec (.trendPeriodEnd c day) s = .next (kept s (w.svcEmit 8 [c + 256 * b2n day + 512 * b2n (p.count == 0), stats.1, stats.2.1, stats.2.2] p.flags
          (some ⟨at'.1, at'.2.1, at'.2.2⟩)))))) ∧
  (∀ t vec prio rest, s.pwr.floor = 0 → s.isFenced 8 2 = false → s.svc.wakeReqs = (t, vec, prio) :: rest →
    (s.svcFenced 27 = true → exec .wakeRequest s = .next (kept s (({ s with svc := { s.svc with wakeReqs := rest } } : State).wakePulse t [vec] 0))) ∧
    (s.svcFenced 27 = false →
      let same := rest.filter (fun r => r.1 == t)
      let vecs := vec :: same.map (fun r => r.2.1)
      let u := ({ s with svc := { s.svc with wakeReqs := rest.filter (fun r => r.1 ≠ t) } } : State).svcWork 27 (250 * vecs.length)
      let w := u.svcWord 27 t
      let x := u.wakeHost t
      let urgent := (prio :: same.map (fun r => r.2.2)).any (fun p => decide (bits w 27 24 ≤ p))
      let merged := u.setWakeHost t { x with merged := x.merged ++ vecs }
      (bitAt w 31 = false ∨ urgent = true →
        let late := if x.hourPulses = 0 then x.held else []
        exec .wakeRequest s = .next (kept s
          ((u.setWakeHost t { x with held := if x.hourPulses = 0 then [] else x.held }).wakePulse t (late ++ vecs) late.length))) ∧
      (bitAt w 31 = true → urgent = false → x.gapRun = true → exec .wakeRequest s = .next (kept s merged)) ∧
      (bitAt w 31 = true → urgent = false → x.gapRun = false → exec .wakeRequest s = .next (kept s (merged.wakeRelease t))))) ∧
  (∀ h : Nat, h < 4 → s.pwr.floor = 0 → (s.wakeHost h).gapRun = true →
    exec (.wakeGapEnd h) s = .next (kept s ((s.modWakeHost h (fun x => { x with gapRun := false })).wakeRelease h))) ∧
  (∀ h : Nat, h < 4 →
    let u := s.modWakeHost h (fun x => { x with hourPulses := 0 })
    ((s.wakeHost h).gapRun = true → exec (.wakeLimitHour h) s = .next (kept s u)) ∧
    ((s.wakeHost h).gapRun = false → exec (.wakeLimitHour h) s = .next (kept s (u.wakeRelease h))))

/-- R341, R344, R351, R358 to R363, R371, R400: the time messages, each stamped by the latch of its path, whose overrun leaves the message without effect (the model's choice, log 76). A SYNC is forwarded onto
the other link, unless it is a duplicate, and disciplines the timebase of its path on a hub that takes SYNC messages; a PDELAY_REQ is answered on its link, a PDELAY_RESP completes the exchange and updates
the link's delay by an eighth, a DELAY_REQ is answered by the LEADER with the instant of its arrival, a DELAY_RESP completes the radio's exchange; an invalid message is counted. -/
def Obligations.TimeMessagesComplete : Prop :=
  ∀ (s : State) (f : Nat) (words : List Word),
  let u := (s.atF f).clearSent
  (∀ (l : Nat) (m : TimeMsg), TimeMsg.parse words = some m → m.type = 1 → ((l < 2 ∧ s.linkRuns l = true) ∨ (l = 2 ∧ s.rfServes = true)) →
    let e := u.edgePush (rxLatch l)
    (e.2 = false → exec (.sync l f words) s = .next (kept s e.1)) ∧
    (e.2 = true →
      let v := e.1.applyTimeCfg
      let dup := v.syncDup l m
      let w := if l < 2 && !dup then v.forwardSync l (u.bareFrame words) m else v
      (s.takesSync = false → exec (.sync l f words) s = .next (kept s w)) ∧
      (s.takesSync = true →
        let x := match w.pathTb l with
          | some k => w.syncFor l k m
          | none => w
        exec (.sync l f words) s = .next (kept s (if l = 2 && !dup then x.radioSynced m else x))))) ∧
  (∀ (l : Nat) (m : TimeMsg), TimeMsg.parse words = some m → l < 2 → s.linkRuns l = true →
    let e := u.edgePush (rxLatch l)
    let y := e.1
    (m.type = 2 → (e.2 = false → exec (.pdelayReq l f words) s = .next (kept s y)) ∧ (e.2 = true →
      let v : State := { y with free := y.free + 1 }
      let r := v.ownFrame 1 (v.ownMsg 3 m.seq (v.tb0u * 2 ^ 26) (Config.freeValue y.free).toNat l).words
      exec (.pdelayReq l f words) s = .next (kept s (r.1.putFrame l r.2)))) ∧
    (m.type = 3 → (e.2 = false → exec (.pdelayResp l f words) s = .next (kept s y)) ∧ (e.2 = true →
      (∀ q t1, (s.link l).req = some (q, t1) →
      (q ≠ m.seq → exec (.pdelayResp l f words) s = .next (kept s y)) ∧
      (q = m.seq →
        let d := ((y.tb0u * 2 ^ 26 : Nat) - t1 - m.corr * 2 ^ 16) / 2
        let delay := match (s.link l).delay with
          | none => d
          | some p => p + (d - p) / 8
        exec (.pdelayResp l f words) s = .next (kept s (y.setLink l { s.link l with delay := some delay, req := none })))) ∧
      ((s.link l).req = none → exec (.pdelayResp l f words) s = .next (kept s y))))) ∧
  (∀ m : TimeMsg, TimeMsg.parse words = some m → s.rfServes = true →
    (m.type = 4 →
      let e := u.edgePush 78
      (e.2 = false → exec (.delayReq f words) s = .next (kept s e.1)) ∧
      (∀ k, e.2 = true → s.saltTb = some k → s.isLeader = true →
        exec (.delayReq f words) s = .next (kept s (e.1.radioTime (e.1.ownMsg 5 m.seq (e.1.tbFine k) 0 2) (if s.rfMode = 2 then m.src else e.1.rfBroadcast)))) ∧
      (e.2 = true → s.saltTb = none ∨ s.isLeader = false → exec (.delayReq f words) s = .next (kept s e.1))) ∧
    (m.type = 5 →
      let e := (s.atF 122071).clearSent.edgePush 78
      let x := s.link 2
      (e.2 = false → exec (.delayResp words) s = .next (kept s e.1)) ∧
      (∀ q t3 t1 t2, e.2 = true → x.req = some (q, t3) → s.time.radioSync = some (t1, t2) → q = m.seq →
        exec (.delayResp words) s = .next (kept s (e.1.setLink 2 { x with delay := some (((t2 - t1) + (m.time * 2 ^ 16 - t3)) / 2 + s.asym 2), req := none }))) ∧
      (e.2 = true → x.req = none ∨ s.time.radioSync = none ∨ x.req.map (·.1) ≠ some m.seq → exec (.delayResp words) s = .next (kept s e.1)))) ∧
  (∀ l : Nat, l < 2 → s.linkRuns l = true → TimeMsg.parse words = none →
    exec (.sync l f words) s = .next (kept s (u.countFault .tbLatcnt 0 23 16 1)))

/-- R349, R351, R359, R360, R362: a PDELAY_REQ goes out on a running link of a hub that is not SOLO; the LEADER sends a SYNC of its saltern timebase; an exchange that is not completed in time is abandoned, the
link's delay kept; a timebase in TRACK without a measurement for LOSS seconds enters HOLDOVER. -/
def Obligations.TimeSendingAndTimeoutsComplete : Prop :=
  ∀ (s : State) (f : Nat),
  let u := (s.atF f).clearSent
  (∀ l : Nat, l < 2 → s.linkRuns l = true → s.slt.state ≠ 0 →
    let q := ((s.link l).seq + 1) % 65536
    let v := u.modLink l (fun x => { x with seq := q, req := some (q, (u.tb0u * 2 ^ 26 : Nat)) })
    let r := v.ownFrame 1 (v.ownMsg 2 q 0 0 l).words
    exec (.pdelaySend l f) s = .next (kept s (r.1.putFrame l r.2))) ∧
  (∀ k : Nat, s.saltTb = some k → s.isLeader = true → s.tbSet k = true →
    let v := u.applyTimeCfg
    let q := (v.time.syncSeq + 1) % 65536
    let w : State := { v with time := { v.time with syncSeq := q } }
    (∀ l : Nat, l < 2 →
      let m := w.ownMsg 1 q (w.tbFine k) 0 l
      let r := w.ownFrame 1 m.words
      exec (.syncSend l f) s = .next (kept s
        ((r.1.putFrame 0 { r.2 with payload := ({ m with srcPort := 0 } : TimeMsg).words }).putFrame 1 { r.2 with payload := ({ m with srcPort := 1 } : TimeMsg).words }))) ∧
    exec (.syncSend 2 f) s = .next (kept s (w.radioTime (w.ownMsg 1 q (w.tbFine k) 0 2) w.rfBroadcast))) ∧
  (∀ l : Nat, l < 2 → exec (.pdelayTimeout l) s = .next (kept s (s.modLink l (fun x => { x with req := none })))) ∧
  exec .delayRespTimeout s = .next (kept s (s.modLink 2 (fun x => { x with req := none }))) ∧
  (∀ k : Nat, 1 ≤ k → k ≤ 3 → (s.tb k).state = 3 →
    (s.lossUnits k ≤ s.tb0u - (s.tb k).accAt.getD 0 → exec (.lossTimeout k) s = .next (kept s (s.tbEnter k 4))) ∧
    (s.tb0u - (s.tb k).accAt.getD 0 < s.lossUnits k → exec (.lossTimeout k) s = .next s))

/-- R351, R352, R354: what a measurement of offset o does to a timebase, by its state: a first one inside WINDOW in ACQUIRE steers it into TRACK and one outside steps it by −o; in TRACK and HOLDOVER one inside WINDOW
steers it, and one outside, or of a value that went backward, leaves the rate alone, enters DISCONTINUITY with an event and a log entry; in DISCONTINUITY it is only logged. -/
def Obligations.MeasurementFollowsTheTimebaseState : Prop :=
  ∀ (s : State) (k : Nat) (o : Int) (backward : Bool), s.svcFenced 26 = false → s.pwr.floor = 0 →
    let st := (s.tb k).state
    let inside := o.natAbs ≤ 1000 * s.afld .tbCtl k 7 0 * 2 ^ 32
    let u := s.modTb k (fun t => { t with offs := o, measAt := some s.tb0u })
    (st = 0 → s.measure k o backward = s) ∧
    (st = 2 → inside → s.measure k o backward = ((u.servoUpdate k o).tbEnter k 3).outlierCheck k (some o)) ∧
    (st = 2 → ¬ inside → s.measure k o backward =
      (((u.modTb k (fun t => { t with accAt := some s.tb0u, freq := ⟨t.r, 0⟩ })).tbEnter k 3).tbStep k (-o)).outlierCheck k (some o)) ∧
    (st = 3 → inside → backward = false → s.measure k o backward = (((u.servoUpdate k o).tbEnter k 3).lockCount k o).outlierCheck k (some o)) ∧
    (st = 4 → inside → backward = false → s.measure k o backward = ((u.servoUpdate k o).tbEnter k 3).outlierCheck k (some o)) ∧
    (st = 3 ∨ st = 4 → ¬ inside ∨ backward = true → s.measure k o backward =
      ((((u.tbEnter k 5).evt .tbEvt 0 (k - 1)).logErr 10 k 0x30).timeEvent 2 k (s.tb k).epoch (fineNs o)).outlierCheck k (some o)) ∧
    (st = 5 → s.measure k o backward = (u.logErr 10 k 0x30).outlierCheck k (some o))

/-- R443 to R447, R451, R470: a stroke adds its charge times VBAT to its domain's energy, whose carry goes to the lifetime record, and to what the next tick takes from the stored energy; at a tick the stored energy gains the
income and loses the draw, each as the sense inputs measure it or, without ISNS1, as the strokes add up; a measurement of VBAT is taken; a recalibration that is due takes each powered domain's new charge,
unless it differs by more than a fifth of the old one, which is an event and a log entry, and a domain without power is left for its next power-up; a served write of LDG_STORE sets the stored energy, signed, and makes it valid. -/
def Obligations.MeteringCommandsComplete : Prop :=
  ∀ s : State,
  (∀ d n : Nat, d < 12 → (s.dom d).rail ≠ 0 →
    let m := s.meter d
    let e := m.q * s.ldg.vbat * n
    let u := s.setMeter d { m with en := (m.en + e) % energyWrap }
    exec (.stroke d n) s = .next (kept s (({ u with ldg := { u.ldg with owed := s.ldg.owed + e } } : State).carryEnergy d ((m.en + e) / energyWrap)))) ∧
  (∀ mv : Nat, exec (.vbatMeasurement mv) s = .next { s with ldg := { s.ldg with vbat := mv % 65536 } }) ∧
  (∀ a b : Int,
    let inc := if s.snsRun 0 then s.senseEnergy 0 a else 0
    let drw := if s.snsRun 1 then s.senseEnergy 1 b else 0
    let t := s.senseTick a b
    t.ldg.store = storeAdd s.ldg.store (inc - s.stepDraw drw) ∧
    t.ldg.income = wrap48 (s.ldg.income + inc) ∧ t.ldg.draw = wrap48 (s.ldg.draw + drw) ∧ t.ldg.owed = 0) ∧
  (∀ l : List Nat, l.length ≤ 12 → s.pwr.phase = 2 →
    (s.recalNow = true → exec (.ledgerRecalibration l) s = .next (kept s
      ((List.range l.length).foldl (fun v d => v.recalDomain d (l.getD d 0)) { s with ldg := { s.ldg with calAt := s.tb0u } }))) ∧
    (s.recalNow = false → exec (.ledgerRecalibration l) s = .next (kept s
      ((List.range l.length).foldl (fun v d => if (v.meter d).calDue && (v.dom d).rail ≠ 0 then v.recalDomain d (l.getD d 0) else v) s)))) ∧
  (∀ d q : Nat, d < 12 →
    let m := { s.meter d with calDue := decide ((s.dom d).rail = 0) }
    ((s.dom d).rail = 0 → s.recalDomain d q = s.setMeter d m) ∧
    ((s.dom d).rail ≠ 0 → m.q ≠ 0 → m.q < 5 * ((q : Int) - m.q).natAbs → s.recalDomain d q = ((s.setMeter d m).evt .ldgEvt 0 0).logErr 14 1 0x38) ∧
    ((s.dom d).rail ≠ 0 → m.q = 0 ∨ 5 * ((q : Int) - m.q).natAbs ≤ m.q → s.recalDomain d q = (s.setMeter d { m with q := q % 2 ^ 20, cal := true }).logEnd 14 1 0x38)) ∧
  (∀ (h : Nat) (lo hi : Word), s.writeUp h = true → s.judge h (Reg.addr .ldgStore 0) 8 (some (lo.toNat + 2 ^ 32 * hi.toNat)) = .pass →
    let v := lo.toNat + 2 ^ 32 * hi.toNat
    let u := (({ s with ldg := { s.ldg with store := (signedOf 64 v : Rat), storeValid := true } }).setReg64 .ldgStore 0 v).reserveWatch
    exec (.ldgStoreWrite h lo hi) s = .next (kept s (u.noteAccess h (Reg.addr .ldgStore 0) .pass)))

/-- R454, R456, R466 to R469: an epoch boundary that is due is one of the Ledger and of the Planner, and ends a reserve hold once the mode is no longer ENFORCE; above the limit of the overspend comparator, OVERSPEND is raised, outside ENFORCE the comparator is
unloaded, and in ENFORCE an emergency plan is applied and the comparator loaded again or, when it can go no lower, unloaded; the reserve comparator trips once, and in ENFORCE it takes the hub into reserve hold. -/
def Obligations.PlannerCommandsComplete : Prop :=
  ∀ s : State, s.pwr.phase = 2 →
  (s.pwr.floor = 0 → s.epochDue = true →
    let e := s.epochBoundary false
    (e.pwr.reserveHold = false ∨ e.plnModeInForce = 2 → exec .epochBoundary s = .next (kept s e.settle)) ∧
    (e.pwr.reserveHold = true → e.plnModeInForce ≠ 2 →
      exec .epochBoundary s = .next (kept s (({ e with pwr := { e.pwr with reserveHold := false } } : State).endHold true).settle))) ∧
  (∀ l, s.pln.limit = some l → l < s.sinceBoundary → s.plnModeInForce ≠ 2 →
    let u := s.evt .plnEvt 0 1
    exec .overspendTrip s = .next (kept s ({ u with pln := { u.pln with limit := none } }).settle)) ∧
  (∀ l, s.pln.limit = some l → l < s.sinceBoundary → s.plnModeInForce = 2 → s.pwr.floor = 0 →
    let raised := s.evt .plnEvt 0 1
    let x := s.planSet s.allowance s.tierInUse
    let plan := (x.1.map (fun q => (q.1, min q.2 (s.tierInUse q.1))), x.2)
    let lowest := s.enabledChans.map (fun c => (c, min (s.lowTier c) (s.tierInUse c)))
    let power := s.cost (s.enabledChans.map (fun c => (c, s.lowTier c)))
    let after := fun (u : State) (lim : Option Rat) => ({ u with pln := { u.pln with emergency := true, trips := u.pln.trips + 1, limit := lim } }).settle
    (0 < s.budgetLeft → s.pln.trips = 0 →
      exec .overspendTrip s = .next (kept s (after ((((if plan.2.2 then raised.evt .plnEvt 0 3 else raised).storePlan s.allowance plan.2.1 plan.1 plan.2.2).applyPlan plan.1 true).evt .plnEvt 0 2)
        (some (s.sinceBoundary + s.budgetLeft))))) ∧
    (s.budgetLeft ≤ 0 ∨ 1 ≤ s.pln.trips →
      exec .overspendTrip s = .next (kept s (after (((raised.storePlan s.allowance power lowest true).applyPlan lowest true).evt .plnEvt 0 2) none)))) ∧
  (s.ldg.storeValid = true → s.ldg.store ≤ (s.reg64 .plnReserve 0 : Rat) → s.pln.reserveReady = true →
    let u := ({ s with pln := { s.pln with reserveReady := false } }).evt .ldgEvt 0 1
    (s.plnModeInForce ≠ 2 ∨ s.pwr.reserveHold = true → exec .reserveTrip s = .next (kept s u)) ∧
    (s.plnModeInForce = 2 → s.pwr.reserveHold = false → exec .reserveTrip s = .next (kept s (u.wakeBy 7).enterHold)))

/-- R501, R503: the calendar's second. Where it counts by itself, 32,768 ticks after its last second it counts one on: an inserted leap second follows 23:59:59 of the UTC day of LEAP_ADD, and LEAP_DEL omits that
second; each new second is judged for summer time and against the alarms. Where it follows a timebase, it takes that timebase's second. -/
def Obligations.CalendarSecondsComplete : Prop :=
  ∀ s : State, s.pwr.phase = 1 ∨ s.pwr.phase = 2 →
  (s.calSource = 0 → s.cal.valid = true → s.cal.mark + 32768 ≤ (s.tick : Int) →
    let u := s.modCal (fun c => { c with mark := c.mark + 32768 })
    let t := s.cal.utc
    (s.cal.inLeap = false → s.leapDue 30 = false → s.leapDue 29 = false →
      exec .calendarSecond s = .next (kept s (u.modCal (fun c => { c with utc := min calendarEnd (t + 1) })).calBegin)) ∧
    (s.cal.inLeap = false → t % 86400 ≠ 86399 → t % 86400 ≠ 86398 →
      exec .calendarSecond s = .next (kept s (u.modCal (fun c => { c with utc := min calendarEnd (t + 1) })).calBegin)) ∧
    (s.cal.inLeap = false → t % 86400 = 86399 → s.leapDue 30 = true → exec .calendarSecond s = .next (kept s ((u.leapDone 1).modCal (fun c => { c with inLeap := true })))) ∧
    (s.cal.inLeap = false → t % 86400 = 86398 → s.leapDue 29 = true →
      exec .calendarSecond s = .next (kept s ((u.leapDone (-1)).modCal (fun c => { c with utc := min calendarEnd (t + 2) })).calBegin)) ∧
    (s.cal.inLeap = true → exec .calendarSecond s = .next (kept s (u.modCal (fun c => { c with utc := min calendarEnd (t + 1), inLeap := false })).calBegin))) ∧
  (s.calSource ≠ 0 →
    let t := s.calByTb
    let u := s.modCal (fun c => { c with mark := s.tick })
    (s.cal.valid = false → exec .calendarSecond s = .next (kept s (u.modCal (fun c => { c with valid := true, utc := t, inLeap := false })).calBegin)) ∧
    (s.cal.valid = true → t = s.cal.utc + 1 → exec .calendarSecond s = .next (kept s u.calTick)) ∧
    (s.cal.valid = true → t = s.cal.utc → exec .calendarSecond s = .next s) ∧
    (s.cal.valid = true → t ≠ s.cal.utc → t ≠ s.cal.utc + 1 →
      exec .calendarSecond s = .next (kept s ((u.modCal (fun c => { c with utc := t, inLeap := false })).calMoved s.cal.utc))))

/-- R29 to R31, R38, R41, R54, R479, R480: a rail reaches what it slews to, a lower one only once no tier change waits; DESCENT enters the floor that R38 gives; at the instant loaded at the descent the wake
comparator requests the wake; a recorded source, a select on HP0, a header on HP1 or a receive window wakes the hub from a floor, with the transfer of the wake buffer delivered; a host's HSLEEP level is
taken; a Legus signal wakes a SOLO hub that has WAKE_EN. -/
def Obligations.FloorCommandsComplete : Prop :=
  ∀ s : State,
  (∀ d r : Nat, d < 12 → (s.dom d).rail ≠ 0 → (s.dom d).slew = some r →
    ((s.dom d).rail ≤ r ∨ (∀ c < 192, (s.chan c).tierNext = none) → exec (.railSlewDone d) s = .next (kept s (s.setDom d ⟨r, none⟩).settle)) ∧
    (∀ c, c < 192 → r < (s.dom d).rail → (s.chan c).tierNext ≠ none → exec (.railSlewDone d) s = .next s)) ∧
  (∀ f : Nat, s.pwr.phase = 2 → s.pwr.floor = 0 → s.onHold = false → s.pwr.brownWait = false →
    (f = 2 → s.floorOk 2 = true → exec (.descent f) s = .next (kept s (s.descend 2))) ∧
    (f = 1 → s.floorOk 2 = false → s.floorOk 1 = true → exec (.descent f) s = .next (kept s (s.descend 1)))) ∧
  (∀ t : Nat, s.pwr.wakeCmp = some t →
    (t ≤ s.tb0u + tickUnits → exec .wakeComparator s = .next (kept s (({ s with pwr := { s.pwr with wakeCmp := none } }).wakeBy 0))) ∧
    (s.tb0u + tickUnits < t → exec .wakeComparator s = .next s)) ∧
  (∀ k : Nat, s.pwr.phase = 2 → s.pwr.floor ≠ 0 →
    (k = 2 ∨ k = 3 ∨ (k = 5 ∧ s.onHold = false) → exec (.floorWake k) s = .next (kept s (s.wakeBy k).wakeAll)) ∧
    (k ≠ 2 → k ≠ 3 → k ≠ 5 → s.pwr.wakeReq = true → exec (.floorWake k) s = .next (kept s s.wakeAll)) ∧
    (k ≠ 2 → k ≠ 3 → k ≠ 5 → s.pwr.wakeReq = false → exec (.floorWake k) s = .next s)) ∧
  (∀ (h : Nat) (b : Bool), h < 4 → exec (.hsleepEdge h b) s = .next (kept s (s.modHost h (fun x => { x with pinAsleep := b })))) ∧
  (∀ l : Nat, l < 2 → s.slt.state = 0 → s.onHold = false → bitAt (s.app .legCfg 0) 28 = true → bitAt (s.app .legCfg 0) (31 - l) = true →
    exec (.legusWake l) s = .next (kept s (s.wakeBy 4)))

/-- R43, R91, R92, R481, R482, R572: each reset, with the cause and FAULT it gives, and what it keeps: POWER_ON and BROWNOUT nothing of PD0, PIN, HOST_RESET and WATCHDOG the log and the calendar, PIN in SHUTDOWN and
an EV0 edge the cause SHUTDOWN_WAKE, an error in PD0 the calendar, and the log only when its own check passes; SHUTDOWN_ENTRY leaves SHUTDOWN with the wake that was asked for; a fence that is not confirmed in time
fences its domain, and a domain's fence resets the hub. -/
def Obligations.ResetCommandsComplete : Prop :=
  ∀ (s : State) (b : Bool),
  exec (.powerOn b) s = .next (keptClock s (s.resetTo 1 0 b false false)) ∧
  exec (.brownout b) s = .next (keptClock s (s.resetTo 2 0 b false false)) ∧
  (s.pwr.phase ≠ 3 → exec (.pin b) s = .next (keptClock s (s.resetTo 3 0 b true true))) ∧
  (s.pwr.phase = 3 → exec (.pin b) s = .next (keptClock s (s.resetTo 5 0 b false false))) ∧
  (s.pwr.phase = 2 → s.pwr.resetArm = true → exec (.hostReset b) s = .next (keptClock s (s.resetTo 4 0 b true true))) ∧
  (∀ core : Nat, core < 2 → s.pwr.phase ≠ 3 → exec (.watchdog core b) s = .next (keptClock s (s.resetTo 7 core b true true))) ∧
  (∀ (code : Nat) (ok : Bool), 1 ≤ code → code ≤ 5 → s.pwr.phase ≠ 3 →
    exec (.pd0Fault code ok b) s = .next (keptClock s (s.resetTo 6 code b true (ok && decide (code ≠ 1))))) ∧
  (∀ (h k : Nat) (en falling : Bool), s.pwr.shutArm = some (h, k, en, falling) → s.pwr.phase = 2 → s.life.writing = none →
    exec .shutdownEntry s = .next (keptClock s (s.shutdown (if en then some falling else none)))) ∧
  (∀ level : Bool, s.pwr.phase = 3 → s.pwr.shutWake = some (!level) →
    exec (.shutdownWake level b) s = .next (keptClock s ((s.resetTo 5 0 b false false).modPin 0 (fun x => { x with level := level })))) ∧
  (∀ kind idx : Nat, idx < 256 → s.pwr.phase = 2 → selectorOk kind idx = true → s.isFenced kind idx = true →
    (kind = 8 → exec (.fenceTimeout (256 * kind + idx)) s = .next (keptClock s (s.resetTo 6 3 s.pwr.bootsel true true))) ∧
    (kind ≠ 8 → funcDomain kind idx ≠ 0 → exec (.fenceTimeout (256 * kind + idx)) s = .next (keptClock s (s.fenceDomain (funcDomain kind idx) 0x85))))

/-- R52, R54, R80, R98, R338, R482, R483, R486: after a reset TB0's count is 0, the hub boots with the cause, FAULT and BOOTSEL given, the Channel Table and every register are at their reset values, no host has a
session, a command, a reply or a completion outstanding, the store is as it was but for what it was writing, PROVISIONED holds, the pins and the HSLEEP levels are those outside; the log stands where PD0 and its
check do, and the calendar with its alarms where PD0 does. -/
def Obligations.ResetLeavesWhatItsCauseKeeps : Prop :=
  ∀ (s : State) (cause fault : Nat) (b pd0 ok : Bool),
  let t := s.resetTo cause fault b pd0 ok
  t.tick = 0 ∧ t.sub = 0 ∧ t.pwr = { Power.reset with cause := cause, fault := fault, bootsel := b } ∧ t.pwr.phase = 1 ∧
  t.mem = State.reset.mem ∧ t.regs = [] ∧ t.applied = [] ∧ t.chans = [] ∧ t.launches = [] ∧ t.timers = [] ∧ t.fenced = [] ∧
  (∀ h, (t.host h).session = none ∧ (t.host h).queue = [] ∧ (t.host h).replies = [] ∧ (t.host h).asyncOut = [] ∧ (t.host h).pinAsleep = (s.host h).pinAsleep) ∧
  (∀ n, (t.pin n).level = (s.pin n).level) ∧
  t.provisioned = s.provisioned ∧ t.store.keys = s.store.keys ∧ t.store.privs = s.store.privs ∧ t.store.selected = s.store.selected ∧
  (s.life.writing = none → t.store.ring = s.store.ring) ∧ (s.store.save = none → t.store.images = s.store.images) ∧
  (pd0 = true → ok = true → t.log.map LogEntry.words = s.log.map LogEntry.words ∧ t.logSat = s.logSat) ∧
  (pd0 = false ∨ ok = false → t.log = [] ∧ t.logSat = false) ∧
  (pd0 = true → t.cal.utc = s.cal.utc ∧ t.cal.valid = s.cal.valid ∧ t.cal.alarms = s.cal.alarms) ∧
  (pd0 = false → t.cal = Calendar.reset)

/-- R52, R337 to R339, R440, R447, R483, R484, R490, R495, R498 to R500: a cold boot takes BOOTSEL's decision, measures the I/O banks, sets the rails of PD2, PD5 and PD9, logs its cause, chooses the patch and loads the
lifetime copy, calibrates the Ledger and applies the selected image, in recovery neither patch nor image, and the hub runs; a brownout warning suspends the channels, takes the analogue front end and the radio down and
PD5 and PD9 off, wakes the hub and writes the lifetime record, unless a write is under way, or PD2 is fenced, when it waits; above the resume level the hub goes on; a crystal tick counts TB0 by one, every set timebase
by its rate, the residency, the wear hours, the front end's energy and the sense inputs. -/
def Obligations.BootAndTickCommandsComplete : Prop :=
  ∀ s : State,
  (∀ charges banks : List Nat, s.pwr.phase = 1 →
    let recovery := s.pwr.bootsel && !s.store.lockBootsel
    let measured : State := { s with pwr := { s.pwr with recovery := recovery, banks := (List.range 4).map (fun k => bankClass (banks.getD k 0)),
                                                          bankWait := [0, 1, 3].filter (fun k => decide (banks.getD k 0 < 1000)) } }
    let caused := (((measured.powerDom 2 4).powerDom 5 0).powerDom 9 0).logCause
    let patched := (if recovery then caused else caused.choosePatch).loadLife
    let charged := (List.range (min 12 charges.length)).foldl (fun v d => v.recalDomain d (charges.getD d 0)) patched
    let loaded := (if recovery then charged else charged.autostart).loadChanged
    exec (.coldBoot charges banks) s = .next (kept s
      (({ loaded with check := Check.reset, pwr := { loaded.pwr with phase := 2 } } : State).logErr 14 0 0x01)) ∧ (s.coldBoot charges banks).pwr.phase = 2) ∧
  (∀ charges banks : List Nat, s.pwr.phase ≠ 1 → exec (.coldBoot charges banks) s = .next (kept s s)) ∧
  ((s.pwr.cause = 6 → s.logCause = s.logWrite ⟨s.logTime, selOf 14 0, 0x8C, s.pwr.fault, 0, false⟩) ∧ (s.pwr.cause = 7 → s.logCause = s.logErr 14 0 0x8D) ∧
    (s.pwr.cause ≠ 6 → s.pwr.cause ≠ 7 → s.logCause = s)) ∧
  (let failed := ({ s with pwr := { s.pwr with fallback := true } } : State).logErr 14 2 0x89;
    let second := fun (k : Nat) => if (s.patch (1 - k)).sound then failed.runPatch (1 - k) else failed;
    (∀ k : Nat, (k = 0 ∧ (s.patch 0).pend = true) ∨ (k = 1 ∧ (s.patch 0).pend = false ∧ (s.patch 1).pend = true) ∨
        ((s.patch 0).pend = false ∧ (s.patch 1).pend = false ∧ ((k = 0 ∧ (s.patch 0).ranLast = true) ∨ (k = 1 ∧ (s.patch 0).ranLast = false ∧ (s.patch 1).ranLast = true))) →
      ((s.patch k).sound = true → s.choosePatch = s.runPatch k) ∧ ((s.patch k).sound = false → s.choosePatch = second k)) ∧
    ((s.patch 0).pend = false → (s.patch 1).pend = false → (s.patch 0).ranLast = false → (s.patch 1).ranLast = false → s.choosePatch = s)) ∧
  (let c := s.newestCopy;
    let bad := c.isSome && (s.store.ring.takeWhile (fun x => !x.intact)).length ≠ 0;
    let l := if s.life.kept then { s.life with seq := copyWord c 2, kept := false } else copyLife c;
    s.loadLife.life = { l with
      fresh := c.isNone, copyFail := bad, boots := (l.boots + 1) % 2 ^ 32, brownouts := (l.brownouts + b2n (s.pwr.cause == 2)) % 2 ^ 32,
      resets := l.resets.set (fun _ => 0) s.pwr.cause ((l.resets.get (fun _ => 0) s.pwr.cause + 1) % 2 ^ 32) }) ∧
  (let failed := ({ s with pwr := { s.pwr with autostart := 3 } } : State).logErr 14 2 0x8A;
    (2 ≤ s.store.selected → s.autostart = s) ∧
    (s.store.selected < 2 →
      (s.store.images.get (fun _ => none) s.store.selected = none → s.autostart = failed) ∧
      (∀ img, s.store.images.get (fun _ => none) s.store.selected = some img →
        (img.intact = true → s.autostart = s.applyImage img) ∧ (img.intact = false → s.autostart = failed)))) ∧
  (let held : State := { s with pwr := { s.pwr with brownHold := true, brownWait := false } };
    let marked := s.runningChans.foldl (fun u c => u.modChan c (fun x => { x with suspended := true })) held
    let idle : State := { marked with ports := Tab.mapVals (fun _ => Port.reset) marked.ports (fun p => { p with acqs := p.acqs.filter (fun a => a.begun) }) }
    let asleep := (s.runningChans.foldl (fun u c => u.applyStops c) idle).wakeBy 8
    let off := ({ asleep with afe := AfeBlk.reset } : State).powerAfe.rfOff.powerRf
    (s.pwr.phase = 2 → s.pwr.brownHold = false → exec .brownoutWarning s = .next (kept s
      (if off.life.writing ≠ none then off
       else if off.isFenced 8 2 then ({ off with pwr := { off.pwr with brownWait := true } } : State).sinkNow
       else off.lifeStart 1))) ∧
    (s.pwr.phase ≠ 2 ∨ s.pwr.brownHold = true → exec .brownoutWarning s = .next (kept s s))) ∧
  (s.pwr.phase = 2 → s.pwr.brownWait = true →
    exec .brownoutRecovery s = .next (kept s
      ((({ s.wakeUp with pwr := { s.wakeUp.pwr with brownHold := false, brownWait := false } } : State).endHold true).settle))) ∧
  (s.pwr.phase ≠ 2 ∨ s.pwr.brownWait = false → exec .brownoutRecovery s = .next (kept s s)) ∧
  (∀ lost : Bool, (s.pwr.reserveHold = true ∨ s.pwr.brownHold = true → s.endHold lost = s) ∧
    (s.pwr.reserveHold = false → s.pwr.brownHold = false →
      let back := (s.runningChans.filter (fun c => (s.chan c).suspended)).foldl (fun u c => (u.modChan c (fun x => { x with suspended := false })).restartChan c false) s
      let late := (back.tideAll 2).launchesWake.timersWake
      let gaps := late.enabledStreams.foldl (fun u n => u.modStream n (fun x => { x with gaps := if x.gaps.contains 192 then x.gaps else x.gaps ++ [192] })) late
      let up := (gaps.afeWake.powerRf.rfWake).rfKick
      let done : State := { up with pwr := { up.pwr with linksLost := false } }
      s.endHold lost = if (lost = true ∨ s.pwr.linksLost = true) ∧ done.slt.state ≠ 0 then done.loseView else done)) ∧
  (∀ a b : Int, s.pwr.phase ≠ 3 →
    let count := fun (u : State) (k : Nat) => if (u.tb k).state = 0 then u else u.setTb k { u.tb k with v := (u.tb k).v + tbInc (u.tb k).r }
    let u := count (count (count { s with tick := s.tick + 1, sub := 0 } 1) 2) 3
    exec (.crystalTick a b) s = .next (keptClock s ((u.lifeTick.wearTick.afeTick).senseTick a b)) ∧ (s.crystalTick a b).tick = s.tick + 1) ∧
  (let f := s.pwr.floor;
    let t := s.life.ticks.getD f 0 + 1;
    (t < 32768 → s.lifeTick = { s with life := { s.life with ticks := s.life.ticks.set f t } }) ∧
    (32768 ≤ t → s.lifeTick = { s with life := { s.life with ticks := s.life.ticks.set f 0, secs := s.life.secs.set f (s.life.secs.getD f 0 + 1) } })) ∧
  ((s.wearOn = false → s.wearTick = s) ∧ (s.wearOn = true → s.wearTick = s.runningChans.foldl (fun u c =>
    if bitAt (u.desc c 13) 30 then
      u.modWear c (fun x => if 32767 ≤ x.ticks then { x with ticks := 0, hours := min (2 ^ 32 - 1) (x.hours + 1) } else { x with ticks := x.ticks + 1 })
    else u) s)) ∧
  (((s.dom 5).rail = 0 → s.afeTick = s) ∧ ((s.dom 5).rail ≠ 0 → s.afeTick = (List.range 16).foldl (fun u i =>
    if bitAt (u.afeCfg i) 31 then u.tallyAdd ((u.preChan i).getD 192) 8 5 (if bitAt (u.afeCfg i) 30 then 3125000 else tickUnits) else u) s)) ∧
  (∀ a b : Int, s.pwr.phase = 3 → exec (.crystalTick a b) s = .next (keptClock s s))

/-- R430, R485, R489, R494, R497, R499: a scheduled write of the lifetime record begins once TB0 has passed a multiple of INTERVAL hours since the last; a copy that is written is the newest one, and one that a brownout warning wrote lets the hub go on above the resume level and otherwise sends it to STANDBY; NVS_CFG_SAVE completes with its
image in the slot, its sectors counted; FW_VERIFY completes with the check's result, a VALID image pending. -/
def Obligations.StoreCompletionsComplete : Prop :=
  ∀ s : State,
  (s.pwr.phase = 2 → s.pwr.floor = 0 → s.isFenced 8 2 = false → s.life.writing = none → s.life.lastAt / s.lifeInterval < s.tb0u / s.lifeInterval →
    exec .lifetimeWrite s = .next (kept s (s.lifeStart 0))) ∧
  (∀ c : LifeCopy, s.life.writing = some c →
    let u : State := { s with life := { s.life with writing := none, seq := c.seq }, store := { s.store with ring := c :: s.store.ring } }
    (s.pwr.brownHold = false → exec .lifetimeWriteDone s = .next (kept s u)) ∧
    (s.pwr.brownHold = true → s.resumeLevel < s.ldg.vbat → exec .lifetimeWriteDone s = .next (kept s u.brownResume)) ∧
    (s.pwr.brownHold = true → s.ldg.vbat ≤ s.resumeLevel →
      exec .lifetimeWriteDone s = .next (kept s ({ u with pwr := { u.pwr with brownWait := true } } : State).sinkNow))) ∧
  (∀ (k : Nat) (img : CfgImage) (h tag : Nat) (want : Bool), s.store.save = some (k, img, h, tag, want) →
    let u := (s.modStore (fun x => { x with save := none, images := x.images.set (fun _ => none) k (some img) })).countSectors (imageSectors k)
    exec .nvsCfgSaveCompletion s = .next (kept s (u.complete h 0x81 tag want 0 [w32 img.bytes] false))) ∧
  (∀ (x : FwXfer) (h tag : Nat) (want : Bool), s.store.xfer = some x → x.verify = some (h, tag, want) →
    let l := wordsBytes x.words
    let short := 4 * x.words.length < x.length
    let wrong := crc32c l ≠ x.crc
    let header := x.words.getD 0 0 ≠ 0x54525A50#32 ∨ (x.words.getD 2 0).toNat ≠ x.length ∨ ((l.drop 14).take 50).any (fun b => b ≠ 0) = true
    let done := fun (u : State) (st r : Nat) => Host.Outcome.next (kept s (u.complete h 0x85 tag want st [w32 r] false))
    let left := s.modStore (fun y => { y with xfer := some { x with verify := none } })
    (short → exec .fwVerifyCompletion s = done left 0x13 1) ∧
    (¬ short → wrong → exec .fwVerifyCompletion s = done left 0x13 2) ∧
    (¬ short → ¬ wrong → header → exec .fwVerifyCompletion s = done left 0x13 3) ∧
    (¬ short → ¬ wrong → ¬ header → bits (x.words.getD 1 0) 31 16 ≠ 3 → exec .fwVerifyCompletion s = done left 0x19 4) ∧
    (¬ short → ¬ wrong → ¬ header → bits (x.words.getD 1 0) 31 16 = 3 → bits (x.words.getD 1 0) 15 0 < s.store.minMinor →
      exec .fwVerifyCompletion s = done left 0x19 5) ∧
    (¬ short → ¬ wrong → ¬ header → bits (x.words.getD 1 0) 31 16 = 3 → s.store.minMinor ≤ bits (x.words.getD 1 0) 15 0 → Config.signatureValid l = false →
      exec .fwVerifyCompletion s = done left 0x13 6) ∧
    (¬ short → ¬ wrong → ¬ header → bits (x.words.getD 1 0) 31 16 = 3 → s.store.minMinor ≤ bits (x.words.getD 1 0) 15 0 → Config.signatureValid l = true →
      let p : PatchSlot := { words := x.words, length := x.length, crc := x.crc, verified := true, pend := true, ranLast := (s.patch x.slot).ranLast }
      exec .fwVerifyCompletion s = done ((s.setPatch x.slot p).modStore (fun y => { y with xfer := none })) 0 0))

/-- R556 to R560: a pass of the configuration check in ACTIVE; for a CFG_COMMIT it takes every unit's CRC as its reference; any other compares each unit that has one, and a unit that differs, and that no host has
written since, is reported and under policy FENCE fenced; the pass ends with CHK_CUR, MATCH and PASSES. -/
def Obligations.CheckPassCompletes : Prop :=
  ∀ s : State, s.pwr.phase = 2 → s.pwr.floor = 0 →
  let crc := crc32c (wordsBytes ((List.range 277).flatMap s.unitWords))
  (s.check.commit ≠ none → exec .checkPass s = .next (kept s (((List.range 277).foldl (fun u k => u.checkUnit true k) s).endPass false crc))) ∧
  (s.check.commit = none → bitAt (s.reg .chkCtl 0) 31 = true → (∃ p ∈ s.check.units, p.2.ref ≠ none) →
    exec .checkPass s = .next (kept s (((List.range 277).foldl (fun u k => u.checkUnit false k) s).endPass false crc))) ∧
  (s.check.commit = none → bitAt (s.reg .chkCtl 0) 31 = false → exec .checkPass s = .next s) ∧
  (∀ u : Nat, let x := s.unit u
    let now := crc32c (wordsBytes (s.unitWords u))
    s.checkUnit true u = s.setUnit u { x with ref := some (if x.last = none ∨ (s.dom (unitDomain u)).rail ≠ 0 then now else x.last.getD 0),
                                               last := some (if x.last = none ∨ (s.dom (unitDomain u)).rail ≠ 0 then now else x.last.getD 0), drift := false } ∧
    ((s.dom (unitDomain u)).rail ≠ 0 → x.ref = some now ∨ x.ref = none ∨ x.dirty = true ∨ x.drift = true → s.checkUnit false u = s.setUnit u { x with last := some now }) ∧
    ((s.dom (unitDomain u)).rail ≠ 0 → ∀ r, x.ref = some r → r ≠ now → x.dirty = false → x.drift = false →
      s.checkUnit false u = (s.setUnit u { x with last := some now }).driftOf u))

/-- R393, R396 to R400: a frame on a running link, by its bytes: one whose CRC-32C does not match is counted in CRC and logged; one of an invalid VERSION, TYPE, LEN or reserved field, or that ends with ABORT, and one that
this hub sent or that repeats its source's last SEQ, is counted in DISCARD; the copy whose forwarding had begun ends with ABORT; any other is received, forwarded onto the other link with HOPS one greater unless it is
a SYNC, which the timebase forwards, has travelled 31 hops or meets the block of a ring, and its content takes effect. -/
def Obligations.LegusFramesComplete : Prop :=
  ∀ (s : State) (l f : Nat) (bytes crc : List Nat), l < 2 → s.linkRuns l = true →
  let u := (s.atF f).clearSent
  let line := (bytes ++ crc).map (BitVec.ofNat 8)
  let body := line.take (line.length - 4)
  let crcOk := 4 ≤ line.length ∧ crc32c body = bytesWord (line.drop (line.length - 4))
  let next := fun (abort : Bool) => exec (.legusFrame l f bytes crc abort) s
  let rejected := fun (w : State) => w.countFault .legLinkcnt l 23 16 1
  let h := LegFrame.ofBytes body
  let begun := legHeaderOk body = true ∧ ¬ (h.src = s.ownIndex ∧ s.slt.state ≠ 0) ∧ (s.peer h.src).lastSeq ≠ some h.seq ∧ h.hops ≠ 31 ∧ s.blocked = false ∧
    s.linkRuns (1 - l) = true ∧ (h.type ≠ 1 ∨ ∃ m, TimeMsg.parse h.payload = some m ∧ m.type = 1 ∧ m.hops ≠ 31 ∧ s.syncDup l m = false)
  let copied := fun (w : State) => ({ w with slt := { w.slt with aborted := [(1 - l, { h with hops := h.hops + 1 })] } } : State)
  let crcFailed := (u.countFault .legLinkcnt l 31 24 1).logErr 6 l 0x31
  let v := u.logEnd 6 l 0x31
  (¬ crcOk → ∀ ab, (begun → next ab = .next (kept s (copied crcFailed))) ∧ (¬ begun → next ab = .next (kept s crcFailed))) ∧
  (crcOk → LegFrame.parse body = none →
    ∀ ab, (begun → next ab = .next (kept s (copied (rejected v)))) ∧ (¬ begun → next ab = .next (kept s (rejected v)))) ∧
  (∀ g, crcOk → LegFrame.parse body = some g →
    let own := g.src = s.ownIndex ∧ s.slt.state ≠ 0
    let w := (v.modPeer g.src (fun p => { p with lastSeq := some g.seq })).modLegLink l
      (fun x => { x with received := (x.received + 1) % 2 ^ 32, nb := if g.hops = 0 then some g.src else x.nb })
    (begun → next true = .next (kept s (copied (rejected v)))) ∧
    (¬ begun → next true = .next (kept s (rejected v))) ∧
    (own → s.clashFrame g = false → next false = .next (kept s (rejected v))) ∧
    (own → s.clashFrame g = true → next false = .next (kept s ((rejected v).ownClash (((rejected v).peer g.src).announced g.payload)))) ∧
    (¬ own → (s.peer g.src).lastSeq = some g.seq → next false = .next (kept s (rejected v))) ∧
    (¬ own → (s.peer g.src).lastSeq ≠ some g.seq → g.type = 1 → next false = .next (kept s (w.saltFrame l g))) ∧
    (¬ own → (s.peer g.src).lastSeq ≠ some g.seq → g.type ≠ 1 →
      (g.hops = 31 ∨ w.blocked = true → next false = .next (kept s (w.saltFrame l g))) ∧
      (g.hops ≠ 31 → w.blocked = false →
        next false = .next (kept s ((w.putFrame (1 - l) { g with hops := g.hops + 1 }).saltFrame l g)))))

/-- R395, R405, R406, R409, R412, R415, R416, R419: the content of ANNOUNCE, VIEW and SAMPLES that a path has accepted; a VIEW that lists the hub, whose index no other holds, and does not hold it STALE, makes a listening hub
a MEMBER with that view, and any other leaves it announcing itself; a view of a higher rank sends a candidate to LISTEN and takes a LEADER's place; a view that does not list a MEMBER sends it to LISTEN and STALE; three
intervals without a VIEW end LISTEN of a candidate in ELECT, ELECT in LEADER, and MEMBER in LISTEN and STALE; the LEADER removes a member not heard for three intervals; each interval the hub announces itself and the
LEADER sends its view; a period of a REMOTE channel without a sample, the fourth of such, fails its acquisition; every SLT_REJOIN without a VIEW completes with RESULT 3; a link that goes up or down is an event. -/
def Obligations.SalternCommandsComplete : Prop :=
  ∀ (s : State),
  (∀ (p src view : Nat) (words : List Word), src < 32 → s.pathRuns p = true →
    let u := s.clearSent
    let i := s.ownIndex
    let w := fun k => words.getD k 0
    let rank := bits (w 5) 7 0
    let uid := (w 6).toNat + 2 ^ 32 * (w 7).toNat
    let listed := bitAt (w 1) i && !s.slt.clash
    let v : State := { u with slt := { u.slt with highest := max u.slt.highest (bits (w 0) 15 0), clash := s.slt.clash && bitAt (w 1) i } }
    let left := (v.takeView src words false).rejoinView words
    let same := (v.takeView src words true).rejoinView words
    (p < 2 → exec (.announce p (src, view) words) s = .next (kept s ((u.hearEpoch view).recvAnnounce src (some view) words))) ∧
    (p = 2 → exec (.announce p (src, view) words) s = .next (kept s (u.recvAnnounce src none words))) ∧
    exec (.samples p src words) s = .next (kept s ((u.recvSamples p words).relaySamples p src words)) ∧
    (s.slt.state = 0 → exec (.view p src words) s = .next (kept s u)) ∧
    (s.slt.state = 1 → listed = true → bitAt (w 3) i = false → exec (.view p src words) s = .next (kept s (((v.sltEnter 3).takeView src words true).rejoinView words))) ∧
    (s.slt.state = 1 → listed = false ∨ bitAt (w 3) i = true → exec (.view p src words) s = .next (kept s (left.announce left.annReq))) ∧
    (s.slt.state = 2 → exec (.view p src words) s = .next (kept s (if v.outranked rank uid then v.sltEnter 1 else v))) ∧
    (s.slt.state = 3 → listed = true → exec (.view p src words) s = .next (kept s
      (if same.slt.state = 3 && same.slt.stale && same.slt.role.autoRejoin then same.announce 3 else same))) ∧
    (s.slt.state = 3 → listed = false → exec (.view p src words) s = .next (kept s ((v.takeView src words false).loseView.rejoinView words))) ∧
    (s.slt.state = 4 → exec (.view p src words) s = .next (kept s (if v.outranked rank uid then v.loseView else v)))) ∧
  (s.pwr.floor = 0 → s.isFenced 8 10 = false →
    let u := s.clearSent
    (s.slt.state = 1 → s.slt.role.role = 2 → exec .viewTimeout s = .next (kept s (u.sltEnter 2))) ∧
    (s.slt.state = 1 → s.slt.role.role ≠ 2 → exec .viewTimeout s = .next (kept s u)) ∧
    (s.slt.state = 2 → exec .viewTimeout s = .next (kept s u.becomeLeader)) ∧
    (s.slt.state = 3 → exec .viewTimeout s = .next (kept s u.loseView)) ∧
    (∀ i : Nat, i < 32 → s.isLeader = true → i ≠ s.ownIndex →
      (bitAt s.slt.members i = true → exec (.memberTimeout i) s = .next (kept s
        (((u.modPeer i (fun x => { x with wasMember := true, heard := false })).putSets i false false false false).viewChanged u))) ∧
      (bitAt s.slt.members i = false → exec (.memberTimeout i) s = .next (kept s (u.modPeer i (fun x => { x with heard := false }))))) ∧
    (∀ f : Nat, let t := (s.atF f).clearSent
      (s.slt.state = 0 → exec (.announceInterval f) s = .next (kept s t)) ∧
      (s.slt.state ≠ 0 → s.isLeader = false →
        let v : State := { t with slt := { t.slt with admitted := [], lifted := false } }
        exec (.announceInterval f) s = .next (kept s (v.announce v.annReq))) ∧
      (s.isLeader = true →
        let v : State := { t with slt := { t.slt with admitted := [], lifted := t.ringBroken } }
        let i := v.ownIndex
        let wrong := v.cfgWrong i (v.reg .cfgRef 0)
        let z := if wrong || v.slt.outlier ≠ bitAt v.slt.outliers i then
          (v.putSets i true (bitAt v.slt.divergent i || wrong) (bitAt v.slt.staleSet i) v.slt.outlier).viewChanged v else v
        let y := z.announce z.annReq
        (z.slt.state = 0 → exec (.announceInterval f) s = .next (kept s z)) ∧
        (z.slt.state ≠ 0 → exec (.announceInterval f) s = .next (kept s (if z.isLeader then y.saltSend 3 y.viewWords else y)))))) ∧
  (s.pwr.floor = 0 →
    (s.slt.batch = [] → exec .samplesBatch s = .next (kept s s.clearSent)) ∧
    (s.slt.batch ≠ [] → exec .samplesBatch s = .next (kept s (({ s.clearSent with slt := { s.clearSent.slt with batch := [] } } : State).saltSend 4 s.slt.batch.flatten))) ∧
    (∀ c : Nat, c < 192 → s.acquiring c = true → (s.ad c).kind = 21 →
      let r := s.remote c
      let n := if r.accepted then 0 else r.failed + 1
      let u := s.setRemote c { r with failed := n, accepted := false, sourceOk := s.standing (s.remoteHub c) }
      (n < 4 → exec (.remotePeriodEnd c) s = .next (kept s u)) ∧
      (4 ≤ n → exec (.remotePeriodEnd c) s = .next (kept s (u.failAcq c (u.stampNow c) none))))) ∧
  exec .sltRejoinCompletion s = .next (kept s
    (s.slt.rejoin.foldl (fun u j => u.complete j.1 0x63 j.2.1 j.2.2 0x1C [w32 (u.slt.epoch * 2 ^ 16 + 3 * 2 ^ 8)] false) { s with slt := { s.slt with rejoin := [] } })) ∧
  (∀ l : Nat, l < 2 →
    (bitAt (s.app .legCfg 0) (31 - l) = true → s.isFenced 8 10 = false → s.pwr.floor = 0 → (s.legLink l).up = false →
      exec (.linkUp l) s = .next (kept s ((s.modLegLink l (fun x => { x with up := true })).evt .legEvt 0 6))) ∧
    ((s.legLink l).up = true →
      exec (.linkDown l) s = .next (kept s (((s.modLegLink l (fun x => { x with up := false, nb := none })).evt .legEvt 0 6).countFault .legLinkcnt l 7 0 1))) ∧
    ((s.legLink l).up = false → exec (.linkDown l) s = .next (kept s s)))

/-- R423 to R427, R430, R433, R435, R436, R437, R439: the transmit side of the radio. The crystal's start leads to a launched frame's calibration or SYNTH, or to IDLE; a lock sends the frame in hand, unless its key bars
it or a launch is too near, takes the oldest waiting one, and receives when there is none; 62 µs before T_k a launched frame takes the synthesiser, and one that is not locked is counted in LATE_TX; the last chip ends a
frame with SENT, its stamp (at a place in the tick that the row does not give, log 4) and its FCS or CRC formed, and a key's last counter value used up is reported, unless it awaits an Imm-Ack, whose absence repeats it up to RETRIES times and then ends it with NO_ACK; the oldest
waiting transmit ends with TX_WAIT; energy in the CCA ends a frame with CCA_BUSY; RF_TX completes with its result and its tries. -/
def Obligations.RadioTransmitCommandsComplete : Prop :=
  ∀ s : State, s.rfStopped = false →
  (s.rf.state = 1 →
    let u := s.modRf (fun r => { r with xo := true })
    (s.rf.launch = none → exec .xoStart s = .next (kept s u.rfIdle)) ∧
    (s.rf.launch ≠ none → exec .xoStart s = .next (kept s (u.modRf (fun r => { r with state := if r.calDue ≠ 0 then 4 else 3, locked := false }))))) ∧
  (s.rf.state = 3 → s.rf.locked = false →
    let u := s.modRf (fun r => { r with locked := true, calValid := r.calValid ||| 4 })
    let sent := fun (v : State) (tx : RfTx) =>
      if v.rfBarred tx then v.rfUnsent tx
      else if v.mustWait tx then (v.modRf (fun r => { r with tx := none, wait := tx :: r.wait })).rfIdle
      else v.modRf (fun r => { r with state := 6 })
    (s.rf.launch ≠ none → exec .synthLock s = .next (kept s u)) ∧
    (∀ tx, s.rf.launch = none → s.rf.tx = some tx → exec .synthLock s = .next (kept s (sent u tx))) ∧
    (∀ tx t, s.rf.launch = none → s.rf.tx = none → s.rf.wait = tx :: t → s.mustWait tx = false →
      exec .synthLock s = .next (kept s (sent (u.modRf (fun r => { r with tx := some tx, wait := t })) tx))) ∧
    (s.rf.launch = none → s.rf.tx = none → (∀ tx t, s.rf.wait = tx :: t → s.mustWait tx = true) →
      (s.rfReceives = true → exec .synthLock s = .next (kept s (u.modRf (fun r => { r with state := 5 })))) ∧
      (s.rfReceives = false → exec .synthLock s = .next (kept s u.rfIdle)))) ∧
  (∀ tx, s.rf.tx = some tx →
    (s.rf.state = 6 → s.rf.ackWait = false → ∃ f, f < 122072 ∧
      (let at' := ({ s with free := s.free + 1 } : State).atF f
      let stamped := if tx.kind = 1 then at'.radioStamp tx.content (at'.tb0u - at'.rfAir tx true * 64000) else (s, tx.content)
      let v := stamped.1
      let tx0 := { tx with content := stamped.2 }
      let seq := if tx.tries = 0 then v.rf.seq else tx.seq
      let ctr := v.rf.ctr.get (fun _ => 0) tx.key
      let tx1 := { tx0 with tries := tx.tries + 1, seq := seq }
      let sent := v.rfBytes tx0 seq ctr
      let air := if v.rfMode = 1 then sent ++ crcBytes (fcs16 sent)
        else List.replicate 4 0x55#8 ++ wordBytes (v.app .rfLasync 0) ++ sent ++ crcBytes (crc16 sent)
      let u := v.modRf (fun r => { r with lastSent := air, seq := if tx.tries = 0 then (r.seq + 1) % 256 else r.seq,
                                           ctr := if tx.auth then r.ctr.set (fun _ => 0) tx.key (min 0xFFFFFFFF (ctr + 1)) else r.ctr })
      let w := if tx.auth && u.keyUsedUp tx.key then (u.evt .rfEvt 0 7).logErr 5 0 0x87 else u
      (tx.ackReq = true → s.rfMode = 1 → tx.dst ≠ 0xFFFF → exec .txDone s = .next (kept s (w.modRf (fun r => { r with tx := some tx1, ackWait := true })))) ∧
      (tx.ackReq = false ∨ s.rfMode ≠ 1 ∨ tx.dst = 0xFFFF → exec .txDone s = .next (kept s (w.rfFinish tx1 0))))) ∧
    (s.rf.ackWait = true →
      let again := tx.launched = false ∧ tx.tries ≤ s.afld .rfMac 0 26 24
      (again → s.rfBarred tx = false → exec .ackWaitExpiry s = .next (kept s (s.modRf (fun r => { r with ackWait := false })))) ∧
      (again → s.rfBarred tx = true →
        let u := if tx.auth && s.keyUsedUp tx.key then (s.evt .rfEvt 0 7).logErr 5 0 0x87 else s
        exec .ackWaitExpiry s = .next (kept s ((u.evt .rfEvt 0 4).rfFinish tx 2))) ∧
      (¬ again → exec .ackWaitExpiry s = .next (kept s ((s.evt .rfEvt 0 4).rfFinish tx 2)))) ∧
    (s.rf.state = 6 → tx.tries = 0 → tx.launched = false → bitAt (s.app .rfMac 0) 31 = true →
      exec (.rfTxCompletion 3) s = .next (kept s ((s.evt .rfEvt 0 3).rfFinish tx 3).rfComplete))) ∧
  (∀ tx t, s.rf.wait = tx :: t → exec .txWait s = .next (kept s
    ((((s.modRf (fun r => { r with wait := t })).rfEnd tx 4).evt .rfEvt 0 2).rfBoundary).rfKick)) ∧
  (∀ (n : Nat) (b : Bool) (u : State), n < 128 → (s.launch n).state = 2 → (s.launch n).action = 6 → s.pd11Stopped = false → s.rf.state ≠ 0 → s.rf.launch = none →
    s.bufReady (s.launch n).arg = true → s.tbSet (s.launch n).tb = true →
    s.toTb (s.launch n).tb (((s.launch n).instant (s.launch n).k - 62000) * 2 ^ 32) = some u →
    let v := u.modRf (fun r => { r with launch := some (u.bufFrame (s.launch n).arg none true), tx := none, ackWait := false, wait := r.tx.toList ++ r.wait, locked := false,
                                         state := if r.state = 1 ∨ r.state = 4 then r.state else if r.state = 2 ∧ u.xoRuns = false then 1
                                                  else if r.state = 2 ∧ r.calDue ≠ 0 then 4 else 3 })
    (b = true → s.rf.state = 5 → exec (.launchedTxSynth n b) s = .next (kept s (v.evt .rfEvt 0 8))) ∧
    (b = false ∨ s.rf.state ≠ 5 → exec (.launchedTxSynth n b) s = .next (kept s v))) ∧
  (∀ tx, s.rf.launch = some tx → s.rf.locked = false → tx.tries = 0 →
    let u := s.modRf (fun r => { r with launch := some { tx with tries := 1 }, state := if r.state = 3 then 2 else r.state })
    exec .lateTx s = .next (kept s (((u.countFault .rfCnt 0 7 0 1).evt .rfEvt 0 1).logErr 5 0 0x36))) ∧
  (∀ (r : Nat) (result tries h tag : Nat) (want : Bool) (t : List (Nat × Nat × Nat × Nat × Bool)), r ≠ 3 → s.rf.ended = (result, tries, h, tag, want) :: t →
    let u := s.modRf (fun x => { x with ended := t })
    let word := w32 (result * 2 ^ 24 + min 15 tries * 2 ^ 20)
    (result ≤ 1 → exec (.rfTxCompletion r) s = .next (kept s (u.complete h 0x71 tag want 0 [word] false))) ∧
    (result = 4 → exec (.rfTxCompletion r) s = .next (kept s (u.complete h 0x71 tag want 0x17 [word] false))) ∧
    (result = 2 ∨ result = 3 → exec (.rfTxCompletion r) s = .next (kept s (u.complete h 0x71 tag want 0x15 [word] false))))

/-- R423, R425 to R427, R431, R433, R434, R438, R439: the receive side. A frame is taken in RX, in SYNTH behind which a transmit waits, and while an Imm-Ack is awaited, by its bytes, FCS or CRC included: a bad one and one for
another hub is dropped, an invalid one counted, an Imm-Ack ends the frame it acknowledges, a body is taken once its authentication holds; an Imm-Ack that is owed is sent; a receive window opens and closes; a calibration
that the crystal's temperature asks for begins in IDLE unless a launch is near, one that passes keeps its result and one that fails keeps the previous one, with CAL_FAIL and a log entry; RF_CAL completes once every
calibration of its mask has run, with INTERNAL when any failed. -/
def Obligations.RadioReceiveCommandsComplete : Prop :=
  ∀ s : State,
  (∀ (f rssi lqi : Nat) (bytes crc : List Nat), s.rfStopped = false → s.rfMode ≠ 0 →
    let u := (s.atF f).clearSent
    let l := (bytes ++ crc).map (BitVec.ofNat 8)
    let b := l.take (l.length - 2)
    let ok := 2 ≤ l.length ∧ l.drop (l.length - 2) = crcBytes (if s.rfMode = 1 then fcs16 b else crc16 b)
    let taken := s.rf.state = 5 ∨ (s.rf.state = 3 ∧ s.rf.tx ≠ none) ∨ s.rf.ackWait = true
    let next := exec (.radioFrame f bytes crc rssi lqi) s
    let discard := u.countFault .rfCnt 0 23 16 1
    (¬ taken → next = .next (kept s u)) ∧
    (taken → s.rfMode = 1 →
      let dst := byteAt b 5 + 256 * byteAt b 6
      let src := byteAt b 7 + 256 * byteAt b 8
      let invalid := macUnsupported b = true ∨ 125 < b.length
      let ours := byteAt b 3 + 256 * byteAt b 4 = s.afld .rfAddr 0 31 16 ∧ (dst = 0xFFFF ∨ dst = s.afld .rfAddr 0 15 0)
      (¬ ok → next = .next (kept s u)) ∧
      (ok → invalid → next = .next (kept s discard)) ∧
      (ok → ¬ invalid → byteAt b 0 % 8 = 2 →
        (∀ tx, s.rf.tx = some tx → s.rf.ackWait = true → byteAt b 2 = tx.seq → next = .next (kept s (u.rfFinish tx 1))) ∧
        (s.rf.tx = none ∨ s.rf.ackWait = false ∨ s.rf.tx.map (·.seq) ≠ some (byteAt b 2) → next = .next (kept s u))) ∧
      (ok → ¬ invalid → byteAt b 0 % 8 ≠ 2 →
        (s.rf.ackWait = true ∨ ¬ ours → next = .next (kept s u)) ∧
        (s.rf.ackWait = false → ours → next = .next (kept s
          (u.rfBody ⟨src, src % 32, byteAt b 2, byteAt b 0 / 32 % 2 = 1 && dst ≠ 0xFFFF, b.take 9, b.drop 9⟩ rssi lqi))))) ∧
    (taken → s.rfMode ≠ 1 →
      let ours := ok ∧ 5 ≤ byteAt b 0 ∧ byteAt b 0 ≤ 127 ∧ b.length = byteAt b 0 + 1 ∧ (byteAt b 1 = 0xFF ∨ byteAt b 1 = s.rfOwn)
      (¬ ours → next = .next (kept s discard)) ∧
      (ours → next = .next (kept s (u.rfBody ⟨byteAt b 2, byteAt b 2, byteAt b 3, false, b.take 4, b.drop 4⟩ rssi lqi))))) ∧
  (∀ (g : RxFrame) (rssi lqi : Nat),
    let b0 := (g.body.getD 0 0).toNat
    let b1 := (g.body.getD 1 0).toNat
    let kind := b0 % 16
    let valid := 2 ≤ g.body.length ∧ b0 / 16 = 3 ∧ 1 ≤ kind ∧ kind ≤ 5 ∧ b1 / 4 % 32 = 0
    let failed := ((s.countFault .rfCnt 0 31 24 1).evt .rfEvt 0 5).logErr 5 0 0x34
    let took := fun (v : State) (content : List Byte) =>
      ((v.modRf (fun r => { r with rssi := rssi % 256, lqi := min 255 lqi, ackOwed := if g.ack then some g.seq else r.ackOwed })).logEnd 5 0 0x34).rfContent g kind content
    (¬ valid → s.rfBody g rssi lqi = s.countFault .rfCnt 0 23 16 1) ∧
    (valid → b1 < 128 → bitAt (s.app .rfMac 0) 29 = true → s.rfBody g rssi lqi = failed) ∧
    (valid → b1 < 128 → bitAt (s.app .rfMac 0) 29 = false → contentFits kind (g.body.drop 2) = false → s.rfBody g rssi lqi = s.countFault .rfCnt 0 23 16 1) ∧
    (valid → b1 < 128 → bitAt (s.app .rfMac 0) 29 = false → contentFits kind (g.body.drop 2) = true → s.rfBody g rssi lqi = took s (g.body.drop 2)) ∧
    (valid → 128 ≤ b1 → s.openBody g = none → s.rfBody g rssi lqi = failed) ∧
    (∀ content, valid → 128 ≤ b1 → s.openBody g = some content →
      let v := s.noteCtr g.src (b1 % 4) (leNat ((g.body.drop 2).take 4))
      (contentFits kind content = false → s.rfBody g rssi lqi = v.countFault .rfCnt 0 23 16 1) ∧
      (contentFits kind content = true → s.rfBody g rssi lqi = took v content))) ∧
  (∀ q, s.rfStopped = false → s.rf.ackOwed = some q →
    exec .immAck s = .next (kept s (s.modRf (fun r => { r with ackOwed := none, lastSent := s.onAir [0x02#8, 0x10#8, BitVec.ofNat 8 q] })))) ∧
  (s.rf.ackOwed = none ∨ s.rfStopped = true → exec .immAck s = .next (kept s s)) ∧
  (∀ b : Bool, s.rfStopped = false → s.rf.listen = 0 →
    let u := s.modRf (fun r => { r with window := b })
    let receiving := s.rf.state = 5 ∨ (s.rf.state = 3 ∧ s.rf.tx = none ∧ s.rf.launch = none)
    (u.rfReceives = false → receiving → exec (.rxWindow b) s = .next (kept s u.rfIdle)) ∧
    (u.rfReceives = true ∨ ¬ receiving → exec (.rxWindow b) s = .next (kept s u.rfKick)) ∧
    (s.rf.launch ≠ none ∨ s.rf.tx ≠ none → u.rfKick = u) ∧
    (s.rf.launch = none → s.rf.tx = none → s.rf.wait = [] →
      (s.rf.state ≠ 2 → u.rfKick = u) ∧
      (s.rf.state = 2 → u.rfReceives = false → s.rfCalLeft = 0 → u.rfKick = u) ∧
      (s.rf.state = 2 → u.rfReceives = true → s.xoRuns = false → u.rfKick = u.modRf (fun r => { r with state := 1 })) ∧
      (s.rf.state = 2 → u.rfReceives = true → s.xoRuns = true → s.rf.calDue ≠ 0 → u.rfKick = u.modRf (fun r => { r with state := 4, locked := false })) ∧
      (s.rf.state = 2 → u.rfReceives = true → s.xoRuns = true → s.rf.calDue = 0 → s.rfCalLeft = 0 → u.rfKick = u.modRf (fun r => { r with state := 3, locked := false })))) ∧
  (∀ (k v : Nat) (ok : Bool), s.rfStopped = false → k < 4 →
    let begins := k < 2 ∧ s.rf.launch = none ∧ (s.rf.state = 2 ∨ (s.rf.state = 4 ∧ s.rf.calTemp ≠ 0)) ∧ s.launchWithin (calTime (2 ^ k) + 62) = false
    let runs := (s.rf.state = 4 ∧ (s.rf.calDue ||| s.rf.calTemp ||| s.rfCalLeft) &&& 2 ^ k ≠ 0) ∨ (k = 3 ∧ s.rf.state = 5)
    let result := fun (p f : Nat) => if s.rfCalLeft &&& 2 ^ k = 0 then (p, f) else if ok then (p ||| 2 ^ k, f) else (p, f ||| 2 ^ k)
    let kept' := s.modRf (fun r => { r with
      calDue := r.calDue &&& (2 ^ k ^^^ 15), calTemp := r.calTemp &&& (2 ^ k ^^^ 15), calValid := if ok then r.calValid ||| 2 ^ k else r.calValid,
      cal := r.cal.map (fun c => (c.1, c.2.1, c.2.2.1, c.2.2.2.1, result c.2.2.2.2.1 c.2.2.2.2.2)) })
    let told := if ok then kept'.calLogEnd k else (kept'.evt .rfEvt 0 6).logRun 5 0 0x35 k
    let u := if ok ∧ k = 2 then (told.setReg .rfCfg 0 (setBits (told.reg .rfCfg 0) 7 0 v)).setApp .rfCfg 0 (setBits (told.app .rfCfg 0) 7 0 v) else told
    (begins → exec (.radioCalibration k none v) s = .next (kept s (s.modRf (fun r => { r with state := 4, locked := false, calTemp := r.calTemp ||| 2 ^ k })))) ∧
    (¬ begins → exec (.radioCalibration k none v) s = .next (kept s s)) ∧
    (¬ runs → exec (.radioCalibration k (some ok) v) s = .next (kept s s)) ∧
    (runs → u.rf.state ≠ 4 ∨ u.rf.calDue ≠ 0 ∨ u.rf.calTemp ≠ 0 → exec (.radioCalibration k (some ok) v) s = .next (kept s u)) ∧
    (runs → u.rf.state = 4 → u.rf.calDue = 0 → u.rf.calTemp = 0 →
      (u.rf.launch ≠ none → exec (.radioCalibration k (some ok) v) s = .next (kept s (u.modRf (fun r => { r with state := 3, locked := false })))) ∧
      (u.rf.launch = none → u.rfCalLeft = 0 → exec (.radioCalibration k (some ok) v) s = .next (kept s u.rfIdle)) ∧
      (u.rf.launch = none → u.rfCalLeft ≠ 0 → exec (.radioCalibration k (some ok) v) s = .next (kept s u)))) ∧
  (∀ (h tag mask pass fail : Nat) (want : Bool), s.rf.cal = some (h, tag, want, mask, pass, fail) →
    let u := s.modRf (fun r => { r with cal := none })
    let word := w32 (s.afld .rfCfg 0 7 0 * 2 ^ 24 + fail * 2 ^ 8 + pass)
    (s.rfCalLeft = 0 → fail = 0 → exec .rfCalCompletion s = .next (kept s (u.complete h 0x73 tag want 0 [word] false))) ∧
    (s.rfCalLeft = 0 → fail ≠ 0 → exec .rfCalCompletion s = .next (kept s (u.complete h 0x73 tag want 0x1F [word] true))) ∧
    (s.rfCalLeft ≠ 0 → exec .rfCalCompletion s = .next (kept s s))) ∧
  (s.rf.cal = none → exec .rfCalCompletion s = .next (kept s s))

/-- Each step takes the command at the front of the queue and runs it with the queue's rest; on an empty queue the block idles (the model's choice, log 2). -/
def Obligations.StepRunsTheFrontCommand : Prop :=
  (∀ (s : State) (i : Instr) (rest : List Instr), s.pending = i :: rest → step s = exec i { s with pending := rest }) ∧
  (∀ s : State, s.pending = [] → step s = .next s)

/-- R491: every step answers a next state; it takes the command at the front of the queue and changes the queue in nothing else (the model's choice, log 2), and PROVISIONED, once reached, is never left ("The change cannot be undone"). -/
def Obligations.EveryStepAnswersAndKeepsTheLifecycle : Prop :=
  ∀ s : State, ∃ t, step s = .next t ∧ t.pending = s.pending.tail ∧ (s.provisioned = true → t.provisioned = true)

/-- R337, R338: every reset that happens sets TB0's count N to 0; a crystal tick outside SHUTDOWN, in every floor, adds one, after which TB0 is N times 1,953,125 units of 1/64 ns, and in SHUTDOWN nothing; the entry of SHUTDOWN and a fence that is not complete in time apart, which may end the
boot, no other command, the cold boot among them, moves the count. -/
def Obligations.Tb0CountsOnlyCrystalTicks : Prop :=
  ∀ (s t : State) (b : Bool),
  (exec (.powerOn b) s = .next t → t.tick = 0) ∧ (exec (.brownout b) s = .next t → t.tick = 0) ∧ (exec (.pin b) s = .next t → t.tick = 0) ∧
  (s.pwr.phase = 2 → s.pwr.resetArm = true → exec (.hostReset b) s = .next t → t.tick = 0) ∧
  (∀ core : Nat, core < 2 → s.pwr.phase ≠ 3 → exec (.watchdog core b) s = .next t → t.tick = 0) ∧
  (∀ (k : Nat) (ok : Bool), 1 ≤ k → k ≤ 5 → s.pwr.phase ≠ 3 → exec (.pd0Fault k ok b) s = .next t → t.tick = 0) ∧
  (∀ level : Bool, s.pwr.phase = 3 → s.pwr.shutWake = some (!level) → exec (.shutdownWake level b) s = .next t → t.tick = 0) ∧
  (∀ x y : Int, s.pwr.phase ≠ 3 → exec (.crystalTick x y) s = .next t → t.tick = s.tick + 1 ∧ t.tb0u = (s.tick + 1) * 1953125) ∧
  (∀ x y : Int, s.pwr.phase = 3 → exec (.crystalTick x y) s = .next t → t.tick = s.tick) ∧
  (∀ i : Instr, (match i with
      | .powerOn _ | .brownout _ | .pin _ | .hostReset _ | .watchdog _ _ | .pd0Fault _ _ _ | .shutdownWake _ _ | .shutdownEntry | .fenceTimeout _ | .crystalTick _ _ => False
      | _ => True) → exec i s = .next t → t.tick = s.tick)

/-- R63: the CRC-16 of the nine ASCII bytes "123456789" is 0x29B1; it starts from 0xFFFF, and each bit, the most significant of each byte first, shifts the register left and, where the bit that leaves differs from it, adds 0x1021; a
packet's CRC, least significant byte first in bytes 6 and 7, is that of bytes 0 to 5 and of the parameter bytes, without bytes 6 and 7, and so is a reply's. -/
def Obligations.PacketCrcIsCcittFalse : Prop :=
  crc16 [0x31, 0x32, 0x33, 0x34, 0x35, 0x36, 0x37, 0x38, 0x39] = 0x29B1#16 ∧ crc16 [] = 0xFFFF#16 ∧
  (∀ (l : List Byte) (b : Byte), crc16 (l ++ [b]) =
    (List.range 8).foldl (fun (c : BitVec 16) k => if c.msb ≠ b.getLsbD (7 - k) then (c <<< 1) ^^^ 0x1021#16 else c <<< 1) (crc16 l)) ∧
  (∀ l : List Byte, pktCrcOk l = true ↔ (crc16 (l.take 6 ++ l.drop 8)).toNat = (l.getD 6 0).toNat + 256 * (l.getD 7 0).toNat) ∧
  (∀ r : Reply, (crc16 (r.bytes.take 6 ++ r.bytes.drop 8)).toNat = (r.bytes.getD 6 0).toNat + 256 * (r.bytes.getD 7 0).toNat)

/-- R64, R68, R70: of a packet of any opcode the first check from 9 on that fails decides the reply, its only one, and nothing else comes of the packet but the log entry of a refusal for privilege: VERSION, NOT_PERMITTED without a
session, NOT_PERMITTED for privilege or lifecycle with the entry and LOGGED, BAD_LENGTH, BAD_PARAM, and the status of check 14. -/
def Obligations.PacketsAreRefusedByTheFirstFailingCheck : Prop :=
  ∀ (i : Instr) (code : Nat) (c : Call) (d : OpDef) (s : State), opcodeCall i = some (code, c) → opOf code = some d → s.callRuns c = true →
  let u := admitted s code c
  let session := 2 < code → (s.host c.host).session = some c.port
  let permitted := s.needPriv d ≤ s.privOf c.host ∧ s.lifecycleOk code = true
  (s.slt.common < 0x0300 → exec i s = .next (refusedWith s code c u 0x19 false)) ∧
  (0x0300 ≤ s.slt.common → ¬ session → exec i s = .next (refusedWith s code c u 0x14 false)) ∧
  (Admissible s code c →
    (¬ permitted → exec i s = .next (refusedWith s code c (u.logErr 15 c.host 0x09) 0x14 true)) ∧
    (permitted → d.lenOk c.params.length c = false → exec i s = .next (refusedWith s code c u 0x11 false)) ∧
    (permitted → d.lenOk c.params.length c = true → d.valid u c = false → exec i s = .next (refusedWith s code c u 0x13 false)) ∧
    (permitted → d.lenOk c.params.length c = true → d.valid u c = true → 2 ≤ d.allow u c →
      exec i s = .next (refusedWith s code c u (d.allow u c) false)))

/-- R78: of the commands that pass checks 1 to 14 and would be answered ACCEPTED, one whose host has eight outstanding is answered BUSY, and otherwise one whose tag is that of an outstanding one BAD_PARAM; neither does
anything; any other is ACCEPTED and outstanding. A command that fails a check is answered with that check's status, whatever is outstanding. -/
def Obligations.AcceptedCommandsAreLimited : Prop :=
  ∀ (i : Instr) (code : Nat) (c : Call) (d : OpDef) (s : State), opcodeCall i = some (code, c) → opOf code = some d → d.async = true →
  Admissible s code c → s.mayUse c.host d = true →
  let out := (s.host c.host).asyncOut
  let run := d.run (startedAsync s code c) c
  ((admitted s code c).lastChecks d c = 0 → run.2.1 = stAccepted →
    (8 ≤ out.length → exec i s = .next (answered s code c (started s code c) stBusy [])) ∧
    (out.length < 8 → (∃ p ∈ out, p.1 = c.tag) → exec i s = .next (answered s code c (started s code c) stBadParam [])) ∧
    (out.length < 8 → (∀ p ∈ out, p.1 ≠ c.tag) → exec i s = .next (answered s code c run.1 stAccepted run.2.2))) ∧
  (2 ≤ (admitted s code c).lastChecks d c → exec i s = .next (refusedWith s code c (admitted s code c) ((admitted s code c).lastChecks d c) false))

/-- R80, R98, R338, R482, R567: right after a POWER_ON reset the hub boots, TB0 is 0, no session is open and no packet, reply or command waits, nothing is fenced, the log is empty, and in each of the 192
descriptors W0 to W14 are 0 and W15 holds the CRC of the 60 zero bytes with GEN 0; every channel is OFF; the memory is in its canonical form. -/
def Obligations.ResetHoldsWhatTheSpecGives : Prop :=
  let r := State.reset
  r.pwr.phase = 1 ∧ r.pwr.cause = 1 ∧ r.tb0u = 0 ∧ r.pending = [] ∧ r.log = [] ∧ r.logSat = false ∧ r.fenced = [] ∧
  (∀ h, (r.host h).session = none ∧ (r.host h).queue = [] ∧ (r.host h).replies = [] ∧ (r.host h).asyncOut = []) ∧
  (∀ c, (r.chan c).state = 0) ∧
  (∀ c k, c < 192 → k < 15 → r.rdWord (0x20000000 + 64 * c + 4 * k) = 0) ∧
  (∀ c, c < 192 → r.rdWord (0x20000000 + 64 * c + 60) = (crc16 (List.replicate 60 0)).setWidth 32) ∧
  Memory.wf r.mem

/-- R97 (the arrays store the bytes written): of every memory, after bytes are written from an address up, each of them reads as written and every other byte, and everything but memory, as before; after a range is cleared it reads as at reset and
the rest as before; both keep the memory's canonical form. -/
def Obligations.MemoryReadsWhatWasWritten : Prop :=
  ∀ (s : State),
  (∀ (a : Nat) (l : List Byte), let t := s.wrBytes a l
    (∀ k, k < l.length → t.rdByte (a + k) = l.getD k 0) ∧ (∀ b, b < a ∨ a + l.length ≤ b → t.rdByte b = s.rdByte b) ∧
    t = { s with mem := t.mem } ∧ (Memory.wf s.mem → Memory.wf t.mem)) ∧
  (∀ lo hi : Nat, let t := s.clearMem lo hi
    (∀ b, lo ≤ b → b < hi → t.rdByte b = State.reset.rdByte b) ∧ (∀ b, b < lo ∨ hi ≤ b → t.rdByte b = s.rdByte b) ∧
    t = { s with mem := t.mem } ∧ (Memory.wf s.mem → Memory.wf t.mem))

/-- R545, R546, R548, R599: a MEM_READ of a word that is unaligned, at a reserved or unmapped address, or of a fenced domain, reads nothing: the status 0xE1 and no data, the address in CHK_BUSERR of the host, its count in CHK_BUSCNT
one more, saturating, and BUS_ERR set in CHK_EVT; of a register whose mark the host does not meet, status 0x00 and zeros, and PRIV set; no byte of memory and no host's queue changes. -/
def Obligations.RefusedReadsAreRecorded : Prop :=
  ∀ (s : State) (h a f : Nat), h < 4 → s.pwr.phase = 2 → s.pwr.floor = 0 →
  (a % 4 ≠ 0 ∨ spotOf a = .none ∨ s.isFenced 8 (spotDomain a) = true →
    ∃ t, exec (.memRead h a 4 f) s = .next t ∧ t.out = [0xE1#8] ∧ t.reg .chkBuserr h = BitVec.ofNat 32 (a - a % 4) ∧
      t.fld .chkBuscnt 0 (8 * h + 7) (8 * h) = min 255 (s.fld .chkBuscnt 0 (8 * h + 7) (8 * h) + 1) ∧
      bitAt (t.reg .chkEvt 0) 1 = true ∧ t.mem = s.mem ∧ t.hosts = s.hosts) ∧
  (∀ ref, a % 4 = 0 → spotOf a = .reg ref → ref.reg.row.priv = true → s.privOf h = 0 → s.isFenced 8 (spotDomain a) = false →
    ∃ t, exec (.memRead h a 4 f) s = .next t ∧ t.out = [0, 0, 0, 0, 0] ∧ bitAt (t.reg .chkEvt 0) 2 = true ∧
      (∀ n < 4, t.reg .chkBuserr n = s.reg .chkBuserr n) ∧ t.mem = s.mem ∧ t.hosts = s.hosts)

/-- R567 to R569: an error whose SOURCE and CODE match an open entry adds one to its REPEAT, saturating at 255, and writes no entry; any other error writes one, with TIME the value of TB0 in units of 2^20 ns and REPEAT 0, open unless its code never is;
in a full log it takes the place of the oldest informational entry, and in one full of fault entries it is only counted in LOG_LOST; the first time that the log is full of faults SATURATED is set. -/
def Obligations.LogEntriesRunAndRepeat : Prop :=
  ∀ (s : State) (kind idx code : Nat),
  let src := selOf kind idx
  let t : State := s.logErr kind idx code
  let new : LogEntry := ⟨s.tb0 / 2 ^ 20, src, code, 0, 0, !logNeverOpen code⟩
  let hit := fun e : LogEntry => e.isOpen = true ∧ e.source = src ∧ e.code = code ∧ e.run = 0
  let saturates := fun l : List LogEntry => s.logSat = true ∨ (256 ≤ l.length ∧ ∀ e ∈ l, 0x80 ≤ e.code)
  ((∃ e ∈ s.log, hit e) → t.log.length = s.log.length ∧ t.logSat = s.logSat ∧
    (∀ (k : Nat) (e : LogEntry), s.log[k]? = some e → (hit e → t.log[k]? = some { e with rep := min 255 (e.rep + 1) }) ∧ (¬ hit e → t.log[k]? = some e))) ∧
  ((∀ e ∈ s.log, ¬ hit e) →
    (s.log.length < 256 → t.log = s.log ++ [new] ∧ (t.logSat = true ↔ saturates t.log)) ∧
    (∀ (l1 l2 : List LogEntry) (x : LogEntry), 256 ≤ s.log.length → s.log = l1 ++ x :: l2 → (∀ e ∈ l1, 0x80 ≤ e.code) → x.code < 0x80 →
      t.log = l1 ++ l2 ++ [new] ∧ (t.logSat = true ↔ saturates t.log)) ∧
    (256 ≤ s.log.length → (∀ e ∈ s.log, 0x80 ≤ e.code) →
      t.log = s.log ∧ t.logSat = s.logSat ∧
      (code < 0x80 → t.fld .logLost 0 15 0 = min 65535 (s.fld .logLost 0 15 0 + 1) ∧ t.fld .logLost 0 31 16 = s.fld .logLost 0 31 16) ∧
      (0x80 ≤ code → t.fld .logLost 0 31 16 = min 65535 (s.fld .logLost 0 31 16 + 1) ∧ t.fld .logLost 0 15 0 = s.fld .logLost 0 15 0)))

/-- R86, R90: a SYS_SESSION_CLOSE that passes its checks up to privilege closes the host's session; where the host has an outstanding ACCEPTED command it is answered BUSY, and the session stays open. A SYS_FLOOR that passes
its checks up to privilege and carries one word sets the floor permission to bits 1:0 of word 0; the value 3, or any other bit set, is answered BAD_PARAM and sets nothing. -/
def Obligations.SessionCloseAndFloorFollowTheirRules : Prop :=
  (∀ (s : State) (c : Call), Ready s 0x03 0 c → c.params = [] →
  let u := (started s 0x03 c).modHost c.host (fun x => { x with session := none, closing := false })
  ((s.host c.host).asyncOut = [] → exec (.sysSessionClose c) s = .next (answered s 0x03 c u 0 []) ∧ (u.host c.host).session = none) ∧
  ((s.host c.host).asyncOut ≠ [] → ∃ t, exec (.sysSessionClose c) s = .next t ∧ t = refusedWith s 0x03 c (admitted s 0x03 c) 0x15 false ∧
    (t.host c.host).session = some c.port)) ∧
  (∀ (s : State) (c : Call), Ready s 0x07 1 c → c.params.length = 1 →
  (bits (c.word 0) 31 2 = 0 → bits (c.word 0) 1 0 ≠ 3 →
    exec (.sysFloor c) s = .next (answered s 0x07 c { started s 0x07 c with pwr := { s.pwr with permit := bits (c.word 0) 1 0 } } 0 [])) ∧
  (bits (c.word 0) 31 2 ≠ 0 ∨ bits (c.word 0) 1 0 = 3 →
    exec (.sysFloor c) s = .next (refusedWith s 0x07 c (admitted s 0x07 c) 0x13 false) ∧ (refusedWith s 0x07 c (admitted s 0x07 c) 0x13 false).pwr = s.pwr))
end

