-- ==== Sys2Proof/Laws/Tab.lean ====
section
/-! SUPPORT. Sparse tables: reading after setting, and the canonical form that every operation keeps. -/

namespace Sys2Proof.Machine

variable {α : Type} [DecidableEq α] {d : Nat → α}

omit [DecidableEq α] in
theorem Tab.get_drop (t : Tab α) (i j : Nat) : Tab.get d (t.drop i) j = if j = i then d j else Tab.get d t j := by
  induction t with
  | nil => simp [Tab.drop, Tab.get]
  | cons p t ih =>
    obtain ⟨k, w⟩ := p
    simp only [Tab.drop, ne_eq, decide_not] at ih
    by_cases hk : k = i
    · simp only [Tab.drop, Tab.get, hk]
      simp only [ne_eq, decide_not, List.filter_cons, decide_true, Bool.not_true, Bool.false_eq_true, if_false, ih]
      by_cases hj : j = i
      · simp [hj]
      · simp only [if_neg hj, if_neg (fun e : i = j => hj e.symm)]
    · simp only [Tab.drop, Tab.get]
      simp [hk, Tab.get, ih]
      by_cases hj : k = j
      · simp [hj]; intro h; omega
      · simp [hj]

/-- Reading after setting: the set key gives the value, every other key what it gave before. -/
theorem Tab.get_set (t : Tab α) (i j : Nat) (v : α) : Tab.get d (t.set d i v) j = if j = i then v else Tab.get d t j := by
  induction t with
  | nil =>
    by_cases hv : v = d i
    · simp only [Tab.set, if_pos hv, Tab.get]; split
      · rename_i h; rw [h, hv]
      · rfl
    · simp only [Tab.set, if_neg hv, Tab.get]; split <;> split <;> first | rfl | omega
  | cons p t ih =>
    obtain ⟨k, w⟩ := p
    by_cases h1 : i < k
    · by_cases hv : v = d i
      · simp only [Tab.set, if_pos h1, if_pos hv, Tab.get, Tab.get_drop]
        by_cases hj : j = i
        · have : k ≠ j := by omega
          simp [hj, hv]; omega
        · simp [hj]
      · simp only [Tab.set, if_pos h1, if_neg hv, Tab.get]
        by_cases hj : j = i
        · simp [hj]
        · have : i ≠ j := fun e => hj e.symm
          simp [hj, this]
    · by_cases h2 : i = k
      · by_cases hv : v = d i
        · simp only [Tab.set, if_neg h1, if_pos h2, if_pos hv, Tab.get, Tab.get_drop]
          by_cases hj : j = i
          · simp [hj, hv]
          · have : k ≠ j := by omega
            simp [hj, this]
        · simp only [Tab.set, if_neg h1, if_pos h2, if_neg hv, Tab.get]
          by_cases hj : j = i
          · simp [hj]
          · have : i ≠ j := fun e => hj e.symm
            have h3 : k ≠ j := by omega
            simp [hj, this, h3]
      · simp only [Tab.set, if_neg h1, if_neg h2, Tab.get, ih]
        by_cases hj : k = j
        · have : j ≠ i := by omega
          simp [hj, this]
        · simp [hj]

@[simp] theorem Tab.get_set_self (t : Tab α) (i : Nat) (v : α) : Tab.get d (t.set d i v) i = v := by simp [Tab.get_set]

theorem Tab.get_set_ne (t : Tab α) {i j : Nat} (v : α) (h : j ≠ i) : Tab.get d (t.set d i v) j = Tab.get d t j := by
  simp [Tab.get_set, h]

/-- Reading after changing one key by a function. -/
theorem Tab.get_mod (t : Tab α) (i j : Nat) (f : α → α) :
    Tab.get d (t.mod d i f) j = if j = i then f (Tab.get d t i) else Tab.get d t j := by simp [Tab.mod, Tab.get_set]

/-- Reading after changing every value by a function that leaves the reset value as it is. -/
theorem Tab.get_mapVals (t : Tab α) (f : α → α) (i : Nat) (h : f (d i) = d i) : Tab.get d (t.mapVals d f) i = f (Tab.get d t i) := by
  induction t with
  | nil => simp [Tab.mapVals, Tab.get, h]
  | cons p t ih =>
    obtain ⟨k, v⟩ := p
    by_cases hv : f v = d k
    · rw [Tab.mapVals, if_pos hv, Tab.get_drop, Tab.get]
      by_cases hk : k = i
      · subst hk; simp [hv]
      · rw [if_neg (fun e => hk e.symm), if_neg hk, ih]
    · rw [Tab.mapVals, if_neg hv, Tab.get, Tab.get]
      by_cases hk : k = i
      · simp [hk]
      · rw [if_neg hk, if_neg hk, ih]

omit [DecidableEq α] in
@[simp] theorem Tab.get_nil (i : Nat) : Tab.get d [] i = d i := rfl

/-! ### The canonical form -/

omit [DecidableEq α] in
theorem Tab.rising_weaken {t : Tab α} {b c : Nat} (h : Tab.rising (some b) t = true) (hc : c ≤ b) : Tab.rising (some c) t = true := by
  cases t with
  | nil => rfl
  | cons p t =>
    simp only [Tab.rising, Bool.and_eq_true, decide_eq_true_eq] at h ⊢
    exact ⟨by omega, h.2⟩

omit [DecidableEq α] in
theorem Tab.rising_none {t : Tab α} {b : Nat} (h : Tab.rising (some b) t = true) : Tab.rising none t = true := by
  cases t with
  | nil => rfl
  | cons p t => simp only [Tab.rising, Bool.and_eq_true] at h ⊢; exact h.2

omit [DecidableEq α] in
/-- What rising means, without the bound: every key lies above the bound, and each lies below those after it. -/
theorem Tab.rising_iff (t : Tab α) (b : Nat) :
    Tab.rising (some b) t = true ↔ (∀ p ∈ t, b < p.1) ∧ t.Pairwise (fun p q => p.1 < q.1) := by
  induction t generalizing b with
  | nil => simp [Tab.rising]
  | cons p t ih =>
    simp only [Tab.rising, Bool.and_eq_true, decide_eq_true_eq, ih, List.mem_cons, forall_eq_or_imp, List.pairwise_cons]
    constructor
    · rintro ⟨h1, h2, h3⟩; exact ⟨⟨h1, fun q hq => lt_trans h1 (h2 q hq)⟩, h2, h3⟩
    · rintro ⟨⟨h1, -⟩, h2, h3⟩; exact ⟨h1, h2, h3⟩

omit [DecidableEq α] in
theorem Tab.rising_none_iff (t : Tab α) : Tab.rising none t = true ↔ t.Pairwise (fun p q => p.1 < q.1) := by
  cases t with
  | nil => simp [Tab.rising]
  | cons p t => simp only [Tab.rising, Tab.rising_iff, List.pairwise_cons]

theorem Tab.wf_iff (t : Tab α) : Tab.wf d t = true ↔ t.Pairwise (fun p q => p.1 < q.1) ∧ ∀ p ∈ t, p.2 ≠ d p.1 := by
  simp [Tab.wf, Tab.rising_none_iff]

omit [DecidableEq α] in
theorem Tab.mem_drop {t : Tab α} {i : Nat} {p : Nat × α} (h : p ∈ t.drop i) : p ∈ t := List.mem_of_mem_filter h

theorem Tab.mem_set {t : Tab α} {i : Nat} {v : α} {p : Nat × α} (h : p ∈ t.set d i v) : p ∈ t ∨ (p = (i, v) ∧ v ≠ d i) := by
  induction t with
  | nil =>
    by_cases hv : v = d i
    · simp [Tab.set, hv] at h
    · simp [Tab.set, hv] at h; exact .inr ⟨h, hv⟩
  | cons q t ih =>
    obtain ⟨k, w⟩ := q
    simp only [Tab.set] at h
    split at h
    · split at h
      · rcases List.mem_cons.1 h with h | h
        · exact .inl (h ▸ List.mem_cons_self)
        · exact .inl (List.mem_cons_of_mem _ (Tab.mem_drop h))
      · rcases List.mem_cons.1 h with h | h
        · exact .inr ⟨h, by assumption⟩
        · exact .inl h
    · split at h
      · split at h
        · exact .inl (List.mem_cons_of_mem _ (Tab.mem_drop h))
        · rcases List.mem_cons.1 h with h | h
          · exact .inr ⟨h, by assumption⟩
          · exact .inl (List.mem_cons_of_mem _ h)
      · rcases List.mem_cons.1 h with h | h
        · exact .inl (h ▸ List.mem_cons_self)
        · rcases ih h with h | h
          · exact .inl (List.mem_cons_of_mem _ h)
          · exact .inr h

theorem Tab.pairwise_set {t : Tab α} {i : Nat} {v : α} (h : t.Pairwise (fun p q => p.1 < q.1)) :
    (t.set d i v).Pairwise (fun p q => p.1 < q.1) := by
  induction t with
  | nil => simp only [Tab.set]; split <;> simp
  | cons q t ih =>
    obtain ⟨k, w⟩ := q
    have ht := (List.pairwise_cons.1 h).2
    have hk := (List.pairwise_cons.1 h).1
    simp only [Tab.set]
    split
    · split
      · exact List.pairwise_cons.2 ⟨fun p hp => hk p (Tab.mem_drop hp), List.Pairwise.filter _ ht⟩
      · refine List.pairwise_cons.2 ⟨fun p hp => ?_, h⟩
        rcases List.mem_cons.1 hp with e | e
        · rw [e]; assumption
        · exact lt_trans (by assumption) (hk p e)
    · split
      · rename_i e
        split
        · exact List.Pairwise.filter _ ht
        · exact List.pairwise_cons.2 ⟨fun p hp => by have := hk p hp; simp only at this ⊢; omega, ht⟩
      · refine List.pairwise_cons.2 ⟨fun p hp => ?_, ih ht⟩
        rcases Tab.mem_set hp with e | ⟨e, -⟩
        · exact hk p e
        · rw [e]; simp only; omega

/-- Setting a key keeps the canonical form. -/
theorem Tab.wf_set {t : Tab α} (h : Tab.wf d t = true) (i : Nat) (v : α) : Tab.wf d (t.set d i v) = true := by
  rw [Tab.wf_iff] at h ⊢
  refine ⟨Tab.pairwise_set h.1, fun p hp => ?_⟩
  rcases Tab.mem_set hp with e | ⟨e, hv⟩
  · exact h.2 p e
  · rw [e]; exact hv

/-- Keeping some of the pairs keeps the canonical form. -/
theorem Tab.wf_filter {t : Tab α} (h : Tab.wf d t = true) (q : Nat × α → Bool) : Tab.wf d (t.filter q) = true := by
  rw [Tab.wf_iff] at h ⊢
  exact ⟨h.1.filter _, fun p hp => h.2 p (List.mem_of_mem_filter hp)⟩

/-- The empty table is canonical. -/
@[simp] theorem Tab.wf_nil : Tab.wf d ([] : Tab α) = true := rfl

end Sys2Proof.Machine
end

