-- ==== Sys2Proof/Laws/State.lean ====
section
/-! SUPPORT. What each update of the state leaves as it was, field by field, and what it reads back: true by unfolding one record update, so
that no later proof unfolds one. -/

namespace Sys2Proof.Machine

variable (s : State) (i j : Nat)

/-! ### `hosts` -/

@[simp] theorem modHost_eq (f : HostSt → HostSt) : s.modHost i f = s.setHost i (f (s.host i)) := rfl
theorem setHost_host (x : HostSt) : (s.setHost i x).host j = if j = i then x else s.host j := Tab.get_set _ _ _ _
@[simp] theorem setHost_host_self (x : HostSt) : (s.setHost i x).host i = x := Tab.get_set_self _ _ _
@[simp] theorem setHost_pending' (x : HostSt) : (s.setHost i x).pending = s.pending := rfl
@[simp] theorem setHost_tick' (x : HostSt) : (s.setHost i x).tick = s.tick := rfl
@[simp] theorem setHost_sub' (x : HostSt) : (s.setHost i x).sub = s.sub := rfl
@[simp] theorem setHost_provisioned' (x : HostSt) : (s.setHost i x).provisioned = s.provisioned := rfl
@[simp] theorem setHost_free' (x : HostSt) : (s.setHost i x).free = s.free := rfl
@[simp] theorem setHost_regs' (x : HostSt) : (s.setHost i x).regs = s.regs := rfl
@[simp] theorem setHost_applied' (x : HostSt) : (s.setHost i x).applied = s.applied := rfl
@[simp] theorem setHost_mem' (x : HostSt) : (s.setHost i x).mem = s.mem := rfl
@[simp] theorem setHost_turn' (x : HostSt) : (s.setHost i x).turn = s.turn := rfl
@[simp] theorem setHost_sessionNo' (x : HostSt) : (s.setHost i x).sessionNo = s.sessionNo := rfl
@[simp] theorem setHost_out' (x : HostSt) : (s.setHost i x).out = s.out := rfl
@[simp] theorem setHost_hp1Ibi' (x : HostSt) : (s.setHost i x).hp1Ibi = s.hp1Ibi := rfl
@[simp] theorem setHost_log' (x : HostSt) : (s.setHost i x).log = s.log := rfl
@[simp] theorem setHost_logSat' (x : HostSt) : (s.setHost i x).logSat = s.logSat := rfl
@[simp] theorem setHost_fenced' (x : HostSt) : (s.setHost i x).fenced = s.fenced := rfl
@[simp] theorem setHost_runs' (x : HostSt) : (s.setHost i x).runs = s.runs := rfl
@[simp] theorem setHost_check' (x : HostSt) : (s.setHost i x).check = s.check := rfl
@[simp] theorem setHost_snap' (x : HostSt) : (s.setHost i x).snap = s.snap := rfl
@[simp] theorem setHost_groups' (x : HostSt) : (s.setHost i x).groups = s.groups := rfl
@[simp] theorem setHost_targets' (x : HostSt) : (s.setHost i x).targets = s.targets := rfl
@[simp] theorem setHost_srcs' (x : HostSt) : (s.setHost i x).srcs = s.srcs := rfl
@[simp] theorem setHost_sluices' (x : HostSt) : (s.setHost i x).sluices = s.sluices := rfl
@[simp] theorem setHost_pins' (x : HostSt) : (s.setHost i x).pins = s.pins := rfl
@[simp] theorem setHost_evq' (x : HostSt) : (s.setHost i x).evq = s.evq := rfl
@[simp] theorem setHost_wave' (x : HostSt) : (s.setHost i x).wave = s.wave := rfl
@[simp] theorem setHost_jobs' (x : HostSt) : (s.setHost i x).jobs = s.jobs := rfl
@[simp] theorem setHost_chans' (x : HostSt) : (s.setHost i x).chans = s.chans := rfl
@[simp] theorem setHost_ports' (x : HostSt) : (s.setHost i x).ports = s.ports := rfl
@[simp] theorem setHost_afe' (x : HostSt) : (s.setHost i x).afe = s.afe := rfl
@[simp] theorem setHost_twr' (x : HostSt) : (s.setHost i x).twr = s.twr := rfl
@[simp] theorem setHost_cry' (x : HostSt) : (s.setHost i x).cry = s.cry := rfl
@[simp] theorem setHost_svc' (x : HostSt) : (s.setHost i x).svc = s.svc := rfl
@[simp] theorem setHost_pan' (x : HostSt) : (s.setHost i x).pan = s.pan := rfl
@[simp] theorem setHost_time' (x : HostSt) : (s.setHost i x).time = s.time := rfl
@[simp] theorem setHost_launches' (x : HostSt) : (s.setHost i x).launches = s.launches := rfl
@[simp] theorem setHost_timers' (x : HostSt) : (s.setHost i x).timers = s.timers := rfl
@[simp] theorem setHost_slt' (x : HostSt) : (s.setHost i x).slt = s.slt := rfl
@[simp] theorem setHost_rf' (x : HostSt) : (s.setHost i x).rf = s.rf := rfl
@[simp] theorem setHost_doms' (x : HostSt) : (s.setHost i x).doms = s.doms := rfl
@[simp] theorem setHost_ldg' (x : HostSt) : (s.setHost i x).ldg = s.ldg := rfl
@[simp] theorem setHost_pln' (x : HostSt) : (s.setHost i x).pln = s.pln := rfl
@[simp] theorem setHost_store' (x : HostSt) : (s.setHost i x).store = s.store := rfl
@[simp] theorem setHost_life' (x : HostSt) : (s.setHost i x).life = s.life := rfl
@[simp] theorem setHost_cal' (x : HostSt) : (s.setHost i x).cal = s.cal := rfl
@[simp] theorem setHost_pwr' (x : HostSt) : (s.setHost i x).pwr = s.pwr := rfl
@[simp] theorem setHost_target (x : HostSt) : (s.setHost i x).target j = s.target j := rfl
@[simp] theorem setHost_src (x : HostSt) : (s.setHost i x).src j = s.src j := rfl
@[simp] theorem setHost_sluice (x : HostSt) : (s.setHost i x).sluice j = s.sluice j := rfl
@[simp] theorem setHost_pin (x : HostSt) : (s.setHost i x).pin j = s.pin j := rfl
@[simp] theorem setHost_chan (x : HostSt) : (s.setHost i x).chan j = s.chan j := rfl
@[simp] theorem setHost_port (x : HostSt) : (s.setHost i x).port j = s.port j := rfl
@[simp] theorem setHost_launch (x : HostSt) : (s.setHost i x).launch j = s.launch j := rfl
@[simp] theorem setHost_timer (x : HostSt) : (s.setHost i x).timer j = s.timer j := rfl
@[simp] theorem setHost_dom (x : HostSt) : (s.setHost i x).dom j = s.dom j := rfl
@[simp] theorem setHost_twrCh (x : HostSt) : (s.setHost i x).twrCh j = s.twrCh j := rfl
@[simp] theorem setHost_pre (x : HostSt) : (s.setHost i x).pre j = s.pre j := rfl
@[simp] theorem setHost_seed (x : HostSt) : (s.setHost i x).seed j = s.seed j := rfl
@[simp] theorem setHost_svcInst (x : HostSt) : (s.setHost i x).svcInst j = s.svcInst j := rfl
@[simp] theorem setHost_orient (x : HostSt) : (s.setHost i x).orient j = s.orient j := rfl
@[simp] theorem setHost_trend (x : HostSt) : (s.setHost i x).trend j = s.trend j := rfl
@[simp] theorem setHost_mach (x : HostSt) : (s.setHost i x).mach j = s.mach j := rfl
@[simp] theorem setHost_wear (x : HostSt) : (s.setHost i x).wear j = s.wear j := rfl
@[simp] theorem setHost_wakeHost (x : HostSt) : (s.setHost i x).wakeHost j = s.wakeHost j := rfl
@[simp] theorem setHost_stream (x : HostSt) : (s.setHost i x).stream j = s.stream j := rfl
@[simp] theorem setHost_tb (x : HostSt) : (s.setHost i x).tb j = s.tb j := rfl
@[simp] theorem setHost_link (x : HostSt) : (s.setHost i x).link j = s.link j := rfl
@[simp] theorem setHost_peer (x : HostSt) : (s.setHost i x).peer j = s.peer j := rfl
@[simp] theorem setHost_legLink (x : HostSt) : (s.setHost i x).legLink j = s.legLink j := rfl
@[simp] theorem setHost_remote (x : HostSt) : (s.setHost i x).remote j = s.remote j := rfl
@[simp] theorem setHost_rfBuf (x : HostSt) : (s.setHost i x).rfBuf j = s.rfBuf j := rfl
@[simp] theorem setHost_meter (x : HostSt) : (s.setHost i x).meter j = s.meter j := rfl
@[simp] theorem setHost_epochNow (x : HostSt) : (s.setHost i x).epochNow j = s.epochNow j := rfl
@[simp] theorem setHost_epochPrev (x : HostSt) : (s.setHost i x).epochPrev j = s.epochPrev j := rfl
@[simp] theorem setHost_patch (x : HostSt) : (s.setHost i x).patch j = s.patch j := rfl
@[simp] theorem setHost_unit (x : HostSt) : (s.setHost i x).unit j = s.unit j := rfl

/-! ### `targets` -/

@[simp] theorem modTarget_eq (f : Target → Target) : s.modTarget i f = s.setTarget i (f (s.target i)) := rfl
theorem setTarget_target (x : Target) : (s.setTarget i x).target j = if j = i then x else s.target j := Tab.get_set _ _ _ _
@[simp] theorem setTarget_target_self (x : Target) : (s.setTarget i x).target i = x := Tab.get_set_self _ _ _
@[simp] theorem setTarget_pending' (x : Target) : (s.setTarget i x).pending = s.pending := rfl
@[simp] theorem setTarget_tick' (x : Target) : (s.setTarget i x).tick = s.tick := rfl
@[simp] theorem setTarget_sub' (x : Target) : (s.setTarget i x).sub = s.sub := rfl
@[simp] theorem setTarget_provisioned' (x : Target) : (s.setTarget i x).provisioned = s.provisioned := rfl
@[simp] theorem setTarget_free' (x : Target) : (s.setTarget i x).free = s.free := rfl
@[simp] theorem setTarget_regs' (x : Target) : (s.setTarget i x).regs = s.regs := rfl
@[simp] theorem setTarget_applied' (x : Target) : (s.setTarget i x).applied = s.applied := rfl
@[simp] theorem setTarget_mem' (x : Target) : (s.setTarget i x).mem = s.mem := rfl
@[simp] theorem setTarget_hosts' (x : Target) : (s.setTarget i x).hosts = s.hosts := rfl
@[simp] theorem setTarget_turn' (x : Target) : (s.setTarget i x).turn = s.turn := rfl
@[simp] theorem setTarget_sessionNo' (x : Target) : (s.setTarget i x).sessionNo = s.sessionNo := rfl
@[simp] theorem setTarget_out' (x : Target) : (s.setTarget i x).out = s.out := rfl
@[simp] theorem setTarget_hp1Ibi' (x : Target) : (s.setTarget i x).hp1Ibi = s.hp1Ibi := rfl
@[simp] theorem setTarget_log' (x : Target) : (s.setTarget i x).log = s.log := rfl
@[simp] theorem setTarget_logSat' (x : Target) : (s.setTarget i x).logSat = s.logSat := rfl
@[simp] theorem setTarget_fenced' (x : Target) : (s.setTarget i x).fenced = s.fenced := rfl
@[simp] theorem setTarget_runs' (x : Target) : (s.setTarget i x).runs = s.runs := rfl
@[simp] theorem setTarget_check' (x : Target) : (s.setTarget i x).check = s.check := rfl
@[simp] theorem setTarget_snap' (x : Target) : (s.setTarget i x).snap = s.snap := rfl
@[simp] theorem setTarget_groups' (x : Target) : (s.setTarget i x).groups = s.groups := rfl
@[simp] theorem setTarget_srcs' (x : Target) : (s.setTarget i x).srcs = s.srcs := rfl
@[simp] theorem setTarget_sluices' (x : Target) : (s.setTarget i x).sluices = s.sluices := rfl
@[simp] theorem setTarget_pins' (x : Target) : (s.setTarget i x).pins = s.pins := rfl
@[simp] theorem setTarget_evq' (x : Target) : (s.setTarget i x).evq = s.evq := rfl
@[simp] theorem setTarget_wave' (x : Target) : (s.setTarget i x).wave = s.wave := rfl
@[simp] theorem setTarget_jobs' (x : Target) : (s.setTarget i x).jobs = s.jobs := rfl
@[simp] theorem setTarget_chans' (x : Target) : (s.setTarget i x).chans = s.chans := rfl
@[simp] theorem setTarget_ports' (x : Target) : (s.setTarget i x).ports = s.ports := rfl
@[simp] theorem setTarget_afe' (x : Target) : (s.setTarget i x).afe = s.afe := rfl
@[simp] theorem setTarget_twr' (x : Target) : (s.setTarget i x).twr = s.twr := rfl
@[simp] theorem setTarget_cry' (x : Target) : (s.setTarget i x).cry = s.cry := rfl
@[simp] theorem setTarget_svc' (x : Target) : (s.setTarget i x).svc = s.svc := rfl
@[simp] theorem setTarget_pan' (x : Target) : (s.setTarget i x).pan = s.pan := rfl
@[simp] theorem setTarget_time' (x : Target) : (s.setTarget i x).time = s.time := rfl
@[simp] theorem setTarget_launches' (x : Target) : (s.setTarget i x).launches = s.launches := rfl
@[simp] theorem setTarget_timers' (x : Target) : (s.setTarget i x).timers = s.timers := rfl
@[simp] theorem setTarget_slt' (x : Target) : (s.setTarget i x).slt = s.slt := rfl
@[simp] theorem setTarget_rf' (x : Target) : (s.setTarget i x).rf = s.rf := rfl
@[simp] theorem setTarget_doms' (x : Target) : (s.setTarget i x).doms = s.doms := rfl
@[simp] theorem setTarget_ldg' (x : Target) : (s.setTarget i x).ldg = s.ldg := rfl
@[simp] theorem setTarget_pln' (x : Target) : (s.setTarget i x).pln = s.pln := rfl
@[simp] theorem setTarget_store' (x : Target) : (s.setTarget i x).store = s.store := rfl
@[simp] theorem setTarget_life' (x : Target) : (s.setTarget i x).life = s.life := rfl
@[simp] theorem setTarget_cal' (x : Target) : (s.setTarget i x).cal = s.cal := rfl
@[simp] theorem setTarget_pwr' (x : Target) : (s.setTarget i x).pwr = s.pwr := rfl
@[simp] theorem setTarget_host (x : Target) : (s.setTarget i x).host j = s.host j := rfl
@[simp] theorem setTarget_src (x : Target) : (s.setTarget i x).src j = s.src j := rfl
@[simp] theorem setTarget_sluice (x : Target) : (s.setTarget i x).sluice j = s.sluice j := rfl
@[simp] theorem setTarget_pin (x : Target) : (s.setTarget i x).pin j = s.pin j := rfl
@[simp] theorem setTarget_chan (x : Target) : (s.setTarget i x).chan j = s.chan j := rfl
@[simp] theorem setTarget_port (x : Target) : (s.setTarget i x).port j = s.port j := rfl
@[simp] theorem setTarget_launch (x : Target) : (s.setTarget i x).launch j = s.launch j := rfl
@[simp] theorem setTarget_timer (x : Target) : (s.setTarget i x).timer j = s.timer j := rfl
@[simp] theorem setTarget_dom (x : Target) : (s.setTarget i x).dom j = s.dom j := rfl
@[simp] theorem setTarget_twrCh (x : Target) : (s.setTarget i x).twrCh j = s.twrCh j := rfl
@[simp] theorem setTarget_pre (x : Target) : (s.setTarget i x).pre j = s.pre j := rfl
@[simp] theorem setTarget_seed (x : Target) : (s.setTarget i x).seed j = s.seed j := rfl
@[simp] theorem setTarget_svcInst (x : Target) : (s.setTarget i x).svcInst j = s.svcInst j := rfl
@[simp] theorem setTarget_orient (x : Target) : (s.setTarget i x).orient j = s.orient j := rfl
@[simp] theorem setTarget_trend (x : Target) : (s.setTarget i x).trend j = s.trend j := rfl
@[simp] theorem setTarget_mach (x : Target) : (s.setTarget i x).mach j = s.mach j := rfl
@[simp] theorem setTarget_wear (x : Target) : (s.setTarget i x).wear j = s.wear j := rfl
@[simp] theorem setTarget_wakeHost (x : Target) : (s.setTarget i x).wakeHost j = s.wakeHost j := rfl
@[simp] theorem setTarget_stream (x : Target) : (s.setTarget i x).stream j = s.stream j := rfl
@[simp] theorem setTarget_tb (x : Target) : (s.setTarget i x).tb j = s.tb j := rfl
@[simp] theorem setTarget_link (x : Target) : (s.setTarget i x).link j = s.link j := rfl
@[simp] theorem setTarget_peer (x : Target) : (s.setTarget i x).peer j = s.peer j := rfl
@[simp] theorem setTarget_legLink (x : Target) : (s.setTarget i x).legLink j = s.legLink j := rfl
@[simp] theorem setTarget_remote (x : Target) : (s.setTarget i x).remote j = s.remote j := rfl
@[simp] theorem setTarget_rfBuf (x : Target) : (s.setTarget i x).rfBuf j = s.rfBuf j := rfl
@[simp] theorem setTarget_meter (x : Target) : (s.setTarget i x).meter j = s.meter j := rfl
@[simp] theorem setTarget_epochNow (x : Target) : (s.setTarget i x).epochNow j = s.epochNow j := rfl
@[simp] theorem setTarget_epochPrev (x : Target) : (s.setTarget i x).epochPrev j = s.epochPrev j := rfl
@[simp] theorem setTarget_patch (x : Target) : (s.setTarget i x).patch j = s.patch j := rfl
@[simp] theorem setTarget_unit (x : Target) : (s.setTarget i x).unit j = s.unit j := rfl

/-! ### `srcs` -/

@[simp] theorem modSrc_eq (f : Src → Src) : s.modSrc i f = s.setSrc i (f (s.src i)) := rfl
theorem setSrc_src (x : Src) : (s.setSrc i x).src j = if j = i then x else s.src j := Tab.get_set _ _ _ _
@[simp] theorem setSrc_src_self (x : Src) : (s.setSrc i x).src i = x := Tab.get_set_self _ _ _
@[simp] theorem setSrc_pending' (x : Src) : (s.setSrc i x).pending = s.pending := rfl
@[simp] theorem setSrc_tick' (x : Src) : (s.setSrc i x).tick = s.tick := rfl
@[simp] theorem setSrc_sub' (x : Src) : (s.setSrc i x).sub = s.sub := rfl
@[simp] theorem setSrc_provisioned' (x : Src) : (s.setSrc i x).provisioned = s.provisioned := rfl
@[simp] theorem setSrc_free' (x : Src) : (s.setSrc i x).free = s.free := rfl
@[simp] theorem setSrc_regs' (x : Src) : (s.setSrc i x).regs = s.regs := rfl
@[simp] theorem setSrc_applied' (x : Src) : (s.setSrc i x).applied = s.applied := rfl
@[simp] theorem setSrc_mem' (x : Src) : (s.setSrc i x).mem = s.mem := rfl
@[simp] theorem setSrc_hosts' (x : Src) : (s.setSrc i x).hosts = s.hosts := rfl
@[simp] theorem setSrc_turn' (x : Src) : (s.setSrc i x).turn = s.turn := rfl
@[simp] theorem setSrc_sessionNo' (x : Src) : (s.setSrc i x).sessionNo = s.sessionNo := rfl
@[simp] theorem setSrc_out' (x : Src) : (s.setSrc i x).out = s.out := rfl
@[simp] theorem setSrc_hp1Ibi' (x : Src) : (s.setSrc i x).hp1Ibi = s.hp1Ibi := rfl
@[simp] theorem setSrc_log' (x : Src) : (s.setSrc i x).log = s.log := rfl
@[simp] theorem setSrc_logSat' (x : Src) : (s.setSrc i x).logSat = s.logSat := rfl
@[simp] theorem setSrc_fenced' (x : Src) : (s.setSrc i x).fenced = s.fenced := rfl
@[simp] theorem setSrc_runs' (x : Src) : (s.setSrc i x).runs = s.runs := rfl
@[simp] theorem setSrc_check' (x : Src) : (s.setSrc i x).check = s.check := rfl
@[simp] theorem setSrc_snap' (x : Src) : (s.setSrc i x).snap = s.snap := rfl
@[simp] theorem setSrc_groups' (x : Src) : (s.setSrc i x).groups = s.groups := rfl
@[simp] theorem setSrc_targets' (x : Src) : (s.setSrc i x).targets = s.targets := rfl
@[simp] theorem setSrc_sluices' (x : Src) : (s.setSrc i x).sluices = s.sluices := rfl
@[simp] theorem setSrc_pins' (x : Src) : (s.setSrc i x).pins = s.pins := rfl
@[simp] theorem setSrc_evq' (x : Src) : (s.setSrc i x).evq = s.evq := rfl
@[simp] theorem setSrc_wave' (x : Src) : (s.setSrc i x).wave = s.wave := rfl
@[simp] theorem setSrc_jobs' (x : Src) : (s.setSrc i x).jobs = s.jobs := rfl
@[simp] theorem setSrc_chans' (x : Src) : (s.setSrc i x).chans = s.chans := rfl
@[simp] theorem setSrc_ports' (x : Src) : (s.setSrc i x).ports = s.ports := rfl
@[simp] theorem setSrc_afe' (x : Src) : (s.setSrc i x).afe = s.afe := rfl
@[simp] theorem setSrc_twr' (x : Src) : (s.setSrc i x).twr = s.twr := rfl
@[simp] theorem setSrc_cry' (x : Src) : (s.setSrc i x).cry = s.cry := rfl
@[simp] theorem setSrc_svc' (x : Src) : (s.setSrc i x).svc = s.svc := rfl
@[simp] theorem setSrc_pan' (x : Src) : (s.setSrc i x).pan = s.pan := rfl
@[simp] theorem setSrc_time' (x : Src) : (s.setSrc i x).time = s.time := rfl
@[simp] theorem setSrc_launches' (x : Src) : (s.setSrc i x).launches = s.launches := rfl
@[simp] theorem setSrc_timers' (x : Src) : (s.setSrc i x).timers = s.timers := rfl
@[simp] theorem setSrc_slt' (x : Src) : (s.setSrc i x).slt = s.slt := rfl
@[simp] theorem setSrc_rf' (x : Src) : (s.setSrc i x).rf = s.rf := rfl
@[simp] theorem setSrc_doms' (x : Src) : (s.setSrc i x).doms = s.doms := rfl
@[simp] theorem setSrc_ldg' (x : Src) : (s.setSrc i x).ldg = s.ldg := rfl
@[simp] theorem setSrc_pln' (x : Src) : (s.setSrc i x).pln = s.pln := rfl
@[simp] theorem setSrc_store' (x : Src) : (s.setSrc i x).store = s.store := rfl
@[simp] theorem setSrc_life' (x : Src) : (s.setSrc i x).life = s.life := rfl
@[simp] theorem setSrc_cal' (x : Src) : (s.setSrc i x).cal = s.cal := rfl
@[simp] theorem setSrc_pwr' (x : Src) : (s.setSrc i x).pwr = s.pwr := rfl
@[simp] theorem setSrc_host (x : Src) : (s.setSrc i x).host j = s.host j := rfl
@[simp] theorem setSrc_target (x : Src) : (s.setSrc i x).target j = s.target j := rfl
@[simp] theorem setSrc_sluice (x : Src) : (s.setSrc i x).sluice j = s.sluice j := rfl
@[simp] theorem setSrc_pin (x : Src) : (s.setSrc i x).pin j = s.pin j := rfl
@[simp] theorem setSrc_chan (x : Src) : (s.setSrc i x).chan j = s.chan j := rfl
@[simp] theorem setSrc_port (x : Src) : (s.setSrc i x).port j = s.port j := rfl
@[simp] theorem setSrc_launch (x : Src) : (s.setSrc i x).launch j = s.launch j := rfl
@[simp] theorem setSrc_timer (x : Src) : (s.setSrc i x).timer j = s.timer j := rfl
@[simp] theorem setSrc_dom (x : Src) : (s.setSrc i x).dom j = s.dom j := rfl
@[simp] theorem setSrc_twrCh (x : Src) : (s.setSrc i x).twrCh j = s.twrCh j := rfl
@[simp] theorem setSrc_pre (x : Src) : (s.setSrc i x).pre j = s.pre j := rfl
@[simp] theorem setSrc_seed (x : Src) : (s.setSrc i x).seed j = s.seed j := rfl
@[simp] theorem setSrc_svcInst (x : Src) : (s.setSrc i x).svcInst j = s.svcInst j := rfl
@[simp] theorem setSrc_orient (x : Src) : (s.setSrc i x).orient j = s.orient j := rfl
@[simp] theorem setSrc_trend (x : Src) : (s.setSrc i x).trend j = s.trend j := rfl
@[simp] theorem setSrc_mach (x : Src) : (s.setSrc i x).mach j = s.mach j := rfl
@[simp] theorem setSrc_wear (x : Src) : (s.setSrc i x).wear j = s.wear j := rfl
@[simp] theorem setSrc_wakeHost (x : Src) : (s.setSrc i x).wakeHost j = s.wakeHost j := rfl
@[simp] theorem setSrc_stream (x : Src) : (s.setSrc i x).stream j = s.stream j := rfl
@[simp] theorem setSrc_tb (x : Src) : (s.setSrc i x).tb j = s.tb j := rfl
@[simp] theorem setSrc_link (x : Src) : (s.setSrc i x).link j = s.link j := rfl
@[simp] theorem setSrc_peer (x : Src) : (s.setSrc i x).peer j = s.peer j := rfl
@[simp] theorem setSrc_legLink (x : Src) : (s.setSrc i x).legLink j = s.legLink j := rfl
@[simp] theorem setSrc_remote (x : Src) : (s.setSrc i x).remote j = s.remote j := rfl
@[simp] theorem setSrc_rfBuf (x : Src) : (s.setSrc i x).rfBuf j = s.rfBuf j := rfl
@[simp] theorem setSrc_meter (x : Src) : (s.setSrc i x).meter j = s.meter j := rfl
@[simp] theorem setSrc_epochNow (x : Src) : (s.setSrc i x).epochNow j = s.epochNow j := rfl
@[simp] theorem setSrc_epochPrev (x : Src) : (s.setSrc i x).epochPrev j = s.epochPrev j := rfl
@[simp] theorem setSrc_patch (x : Src) : (s.setSrc i x).patch j = s.patch j := rfl
@[simp] theorem setSrc_unit (x : Src) : (s.setSrc i x).unit j = s.unit j := rfl

/-! ### `sluices` -/

@[simp] theorem modSluice_eq (f : Sluice → Sluice) : s.modSluice i f = s.setSluice i (f (s.sluice i)) := rfl
theorem setSluice_sluice (x : Sluice) : (s.setSluice i x).sluice j = if j = i then x else s.sluice j := Tab.get_set _ _ _ _
@[simp] theorem setSluice_sluice_self (x : Sluice) : (s.setSluice i x).sluice i = x := Tab.get_set_self _ _ _
@[simp] theorem setSluice_pending' (x : Sluice) : (s.setSluice i x).pending = s.pending := rfl
@[simp] theorem setSluice_tick' (x : Sluice) : (s.setSluice i x).tick = s.tick := rfl
@[simp] theorem setSluice_sub' (x : Sluice) : (s.setSluice i x).sub = s.sub := rfl
@[simp] theorem setSluice_provisioned' (x : Sluice) : (s.setSluice i x).provisioned = s.provisioned := rfl
@[simp] theorem setSluice_free' (x : Sluice) : (s.setSluice i x).free = s.free := rfl
@[simp] theorem setSluice_regs' (x : Sluice) : (s.setSluice i x).regs = s.regs := rfl
@[simp] theorem setSluice_applied' (x : Sluice) : (s.setSluice i x).applied = s.applied := rfl
@[simp] theorem setSluice_mem' (x : Sluice) : (s.setSluice i x).mem = s.mem := rfl
@[simp] theorem setSluice_hosts' (x : Sluice) : (s.setSluice i x).hosts = s.hosts := rfl
@[simp] theorem setSluice_turn' (x : Sluice) : (s.setSluice i x).turn = s.turn := rfl
@[simp] theorem setSluice_sessionNo' (x : Sluice) : (s.setSluice i x).sessionNo = s.sessionNo := rfl
@[simp] theorem setSluice_out' (x : Sluice) : (s.setSluice i x).out = s.out := rfl
@[simp] theorem setSluice_hp1Ibi' (x : Sluice) : (s.setSluice i x).hp1Ibi = s.hp1Ibi := rfl
@[simp] theorem setSluice_log' (x : Sluice) : (s.setSluice i x).log = s.log := rfl
@[simp] theorem setSluice_logSat' (x : Sluice) : (s.setSluice i x).logSat = s.logSat := rfl
@[simp] theorem setSluice_fenced' (x : Sluice) : (s.setSluice i x).fenced = s.fenced := rfl
@[simp] theorem setSluice_runs' (x : Sluice) : (s.setSluice i x).runs = s.runs := rfl
@[simp] theorem setSluice_check' (x : Sluice) : (s.setSluice i x).check = s.check := rfl
@[simp] theorem setSluice_snap' (x : Sluice) : (s.setSluice i x).snap = s.snap := rfl
@[simp] theorem setSluice_groups' (x : Sluice) : (s.setSluice i x).groups = s.groups := rfl
@[simp] theorem setSluice_targets' (x : Sluice) : (s.setSluice i x).targets = s.targets := rfl
@[simp] theorem setSluice_srcs' (x : Sluice) : (s.setSluice i x).srcs = s.srcs := rfl
@[simp] theorem setSluice_pins' (x : Sluice) : (s.setSluice i x).pins = s.pins := rfl
@[simp] theorem setSluice_evq' (x : Sluice) : (s.setSluice i x).evq = s.evq := rfl
@[simp] theorem setSluice_wave' (x : Sluice) : (s.setSluice i x).wave = s.wave := rfl
@[simp] theorem setSluice_jobs' (x : Sluice) : (s.setSluice i x).jobs = s.jobs := rfl
@[simp] theorem setSluice_chans' (x : Sluice) : (s.setSluice i x).chans = s.chans := rfl
@[simp] theorem setSluice_ports' (x : Sluice) : (s.setSluice i x).ports = s.ports := rfl
@[simp] theorem setSluice_afe' (x : Sluice) : (s.setSluice i x).afe = s.afe := rfl
@[simp] theorem setSluice_twr' (x : Sluice) : (s.setSluice i x).twr = s.twr := rfl
@[simp] theorem setSluice_cry' (x : Sluice) : (s.setSluice i x).cry = s.cry := rfl
@[simp] theorem setSluice_svc' (x : Sluice) : (s.setSluice i x).svc = s.svc := rfl
@[simp] theorem setSluice_pan' (x : Sluice) : (s.setSluice i x).pan = s.pan := rfl
@[simp] theorem setSluice_time' (x : Sluice) : (s.setSluice i x).time = s.time := rfl
@[simp] theorem setSluice_launches' (x : Sluice) : (s.setSluice i x).launches = s.launches := rfl
@[simp] theorem setSluice_timers' (x : Sluice) : (s.setSluice i x).timers = s.timers := rfl
@[simp] theorem setSluice_slt' (x : Sluice) : (s.setSluice i x).slt = s.slt := rfl
@[simp] theorem setSluice_rf' (x : Sluice) : (s.setSluice i x).rf = s.rf := rfl
@[simp] theorem setSluice_doms' (x : Sluice) : (s.setSluice i x).doms = s.doms := rfl
@[simp] theorem setSluice_ldg' (x : Sluice) : (s.setSluice i x).ldg = s.ldg := rfl
@[simp] theorem setSluice_pln' (x : Sluice) : (s.setSluice i x).pln = s.pln := rfl
@[simp] theorem setSluice_store' (x : Sluice) : (s.setSluice i x).store = s.store := rfl
@[simp] theorem setSluice_life' (x : Sluice) : (s.setSluice i x).life = s.life := rfl
@[simp] theorem setSluice_cal' (x : Sluice) : (s.setSluice i x).cal = s.cal := rfl
@[simp] theorem setSluice_pwr' (x : Sluice) : (s.setSluice i x).pwr = s.pwr := rfl
@[simp] theorem setSluice_host (x : Sluice) : (s.setSluice i x).host j = s.host j := rfl
@[simp] theorem setSluice_target (x : Sluice) : (s.setSluice i x).target j = s.target j := rfl
@[simp] theorem setSluice_src (x : Sluice) : (s.setSluice i x).src j = s.src j := rfl
@[simp] theorem setSluice_pin (x : Sluice) : (s.setSluice i x).pin j = s.pin j := rfl
@[simp] theorem setSluice_chan (x : Sluice) : (s.setSluice i x).chan j = s.chan j := rfl
@[simp] theorem setSluice_port (x : Sluice) : (s.setSluice i x).port j = s.port j := rfl
@[simp] theorem setSluice_launch (x : Sluice) : (s.setSluice i x).launch j = s.launch j := rfl
@[simp] theorem setSluice_timer (x : Sluice) : (s.setSluice i x).timer j = s.timer j := rfl
@[simp] theorem setSluice_dom (x : Sluice) : (s.setSluice i x).dom j = s.dom j := rfl
@[simp] theorem setSluice_twrCh (x : Sluice) : (s.setSluice i x).twrCh j = s.twrCh j := rfl
@[simp] theorem setSluice_pre (x : Sluice) : (s.setSluice i x).pre j = s.pre j := rfl
@[simp] theorem setSluice_seed (x : Sluice) : (s.setSluice i x).seed j = s.seed j := rfl
@[simp] theorem setSluice_svcInst (x : Sluice) : (s.setSluice i x).svcInst j = s.svcInst j := rfl
@[simp] theorem setSluice_orient (x : Sluice) : (s.setSluice i x).orient j = s.orient j := rfl
@[simp] theorem setSluice_trend (x : Sluice) : (s.setSluice i x).trend j = s.trend j := rfl
@[simp] theorem setSluice_mach (x : Sluice) : (s.setSluice i x).mach j = s.mach j := rfl
@[simp] theorem setSluice_wear (x : Sluice) : (s.setSluice i x).wear j = s.wear j := rfl
@[simp] theorem setSluice_wakeHost (x : Sluice) : (s.setSluice i x).wakeHost j = s.wakeHost j := rfl
@[simp] theorem setSluice_stream (x : Sluice) : (s.setSluice i x).stream j = s.stream j := rfl
@[simp] theorem setSluice_tb (x : Sluice) : (s.setSluice i x).tb j = s.tb j := rfl
@[simp] theorem setSluice_link (x : Sluice) : (s.setSluice i x).link j = s.link j := rfl
@[simp] theorem setSluice_peer (x : Sluice) : (s.setSluice i x).peer j = s.peer j := rfl
@[simp] theorem setSluice_legLink (x : Sluice) : (s.setSluice i x).legLink j = s.legLink j := rfl
@[simp] theorem setSluice_remote (x : Sluice) : (s.setSluice i x).remote j = s.remote j := rfl
@[simp] theorem setSluice_rfBuf (x : Sluice) : (s.setSluice i x).rfBuf j = s.rfBuf j := rfl
@[simp] theorem setSluice_meter (x : Sluice) : (s.setSluice i x).meter j = s.meter j := rfl
@[simp] theorem setSluice_epochNow (x : Sluice) : (s.setSluice i x).epochNow j = s.epochNow j := rfl
@[simp] theorem setSluice_epochPrev (x : Sluice) : (s.setSluice i x).epochPrev j = s.epochPrev j := rfl
@[simp] theorem setSluice_patch (x : Sluice) : (s.setSluice i x).patch j = s.patch j := rfl
@[simp] theorem setSluice_unit (x : Sluice) : (s.setSluice i x).unit j = s.unit j := rfl

/-! ### `pins` -/

@[simp] theorem modPin_eq (f : Pin → Pin) : s.modPin i f = s.setPin i (f (s.pin i)) := rfl
theorem setPin_pin (x : Pin) : (s.setPin i x).pin j = if j = i then x else s.pin j := Tab.get_set _ _ _ _
@[simp] theorem setPin_pin_self (x : Pin) : (s.setPin i x).pin i = x := Tab.get_set_self _ _ _
@[simp] theorem setPin_pending' (x : Pin) : (s.setPin i x).pending = s.pending := rfl
@[simp] theorem setPin_tick' (x : Pin) : (s.setPin i x).tick = s.tick := rfl
@[simp] theorem setPin_sub' (x : Pin) : (s.setPin i x).sub = s.sub := rfl
@[simp] theorem setPin_provisioned' (x : Pin) : (s.setPin i x).provisioned = s.provisioned := rfl
@[simp] theorem setPin_free' (x : Pin) : (s.setPin i x).free = s.free := rfl
@[simp] theorem setPin_regs' (x : Pin) : (s.setPin i x).regs = s.regs := rfl
@[simp] theorem setPin_applied' (x : Pin) : (s.setPin i x).applied = s.applied := rfl
@[simp] theorem setPin_mem' (x : Pin) : (s.setPin i x).mem = s.mem := rfl
@[simp] theorem setPin_hosts' (x : Pin) : (s.setPin i x).hosts = s.hosts := rfl
@[simp] theorem setPin_turn' (x : Pin) : (s.setPin i x).turn = s.turn := rfl
@[simp] theorem setPin_sessionNo' (x : Pin) : (s.setPin i x).sessionNo = s.sessionNo := rfl
@[simp] theorem setPin_out' (x : Pin) : (s.setPin i x).out = s.out := rfl
@[simp] theorem setPin_hp1Ibi' (x : Pin) : (s.setPin i x).hp1Ibi = s.hp1Ibi := rfl
@[simp] theorem setPin_log' (x : Pin) : (s.setPin i x).log = s.log := rfl
@[simp] theorem setPin_logSat' (x : Pin) : (s.setPin i x).logSat = s.logSat := rfl
@[simp] theorem setPin_fenced' (x : Pin) : (s.setPin i x).fenced = s.fenced := rfl
@[simp] theorem setPin_runs' (x : Pin) : (s.setPin i x).runs = s.runs := rfl
@[simp] theorem setPin_check' (x : Pin) : (s.setPin i x).check = s.check := rfl
@[simp] theorem setPin_snap' (x : Pin) : (s.setPin i x).snap = s.snap := rfl
@[simp] theorem setPin_groups' (x : Pin) : (s.setPin i x).groups = s.groups := rfl
@[simp] theorem setPin_targets' (x : Pin) : (s.setPin i x).targets = s.targets := rfl
@[simp] theorem setPin_srcs' (x : Pin) : (s.setPin i x).srcs = s.srcs := rfl
@[simp] theorem setPin_sluices' (x : Pin) : (s.setPin i x).sluices = s.sluices := rfl
@[simp] theorem setPin_evq' (x : Pin) : (s.setPin i x).evq = s.evq := rfl
@[simp] theorem setPin_wave' (x : Pin) : (s.setPin i x).wave = s.wave := rfl
@[simp] theorem setPin_jobs' (x : Pin) : (s.setPin i x).jobs = s.jobs := rfl
@[simp] theorem setPin_chans' (x : Pin) : (s.setPin i x).chans = s.chans := rfl
@[simp] theorem setPin_ports' (x : Pin) : (s.setPin i x).ports = s.ports := rfl
@[simp] theorem setPin_afe' (x : Pin) : (s.setPin i x).afe = s.afe := rfl
@[simp] theorem setPin_twr' (x : Pin) : (s.setPin i x).twr = s.twr := rfl
@[simp] theorem setPin_cry' (x : Pin) : (s.setPin i x).cry = s.cry := rfl
@[simp] theorem setPin_svc' (x : Pin) : (s.setPin i x).svc = s.svc := rfl
@[simp] theorem setPin_pan' (x : Pin) : (s.setPin i x).pan = s.pan := rfl
@[simp] theorem setPin_time' (x : Pin) : (s.setPin i x).time = s.time := rfl
@[simp] theorem setPin_launches' (x : Pin) : (s.setPin i x).launches = s.launches := rfl
@[simp] theorem setPin_timers' (x : Pin) : (s.setPin i x).timers = s.timers := rfl
@[simp] theorem setPin_slt' (x : Pin) : (s.setPin i x).slt = s.slt := rfl
@[simp] theorem setPin_rf' (x : Pin) : (s.setPin i x).rf = s.rf := rfl
@[simp] theorem setPin_doms' (x : Pin) : (s.setPin i x).doms = s.doms := rfl
@[simp] theorem setPin_ldg' (x : Pin) : (s.setPin i x).ldg = s.ldg := rfl
@[simp] theorem setPin_pln' (x : Pin) : (s.setPin i x).pln = s.pln := rfl
@[simp] theorem setPin_store' (x : Pin) : (s.setPin i x).store = s.store := rfl
@[simp] theorem setPin_life' (x : Pin) : (s.setPin i x).life = s.life := rfl
@[simp] theorem setPin_cal' (x : Pin) : (s.setPin i x).cal = s.cal := rfl
@[simp] theorem setPin_pwr' (x : Pin) : (s.setPin i x).pwr = s.pwr := rfl
@[simp] theorem setPin_host (x : Pin) : (s.setPin i x).host j = s.host j := rfl
@[simp] theorem setPin_target (x : Pin) : (s.setPin i x).target j = s.target j := rfl
@[simp] theorem setPin_src (x : Pin) : (s.setPin i x).src j = s.src j := rfl
@[simp] theorem setPin_sluice (x : Pin) : (s.setPin i x).sluice j = s.sluice j := rfl
@[simp] theorem setPin_chan (x : Pin) : (s.setPin i x).chan j = s.chan j := rfl
@[simp] theorem setPin_port (x : Pin) : (s.setPin i x).port j = s.port j := rfl
@[simp] theorem setPin_launch (x : Pin) : (s.setPin i x).launch j = s.launch j := rfl
@[simp] theorem setPin_timer (x : Pin) : (s.setPin i x).timer j = s.timer j := rfl
@[simp] theorem setPin_dom (x : Pin) : (s.setPin i x).dom j = s.dom j := rfl
@[simp] theorem setPin_twrCh (x : Pin) : (s.setPin i x).twrCh j = s.twrCh j := rfl
@[simp] theorem setPin_pre (x : Pin) : (s.setPin i x).pre j = s.pre j := rfl
@[simp] theorem setPin_seed (x : Pin) : (s.setPin i x).seed j = s.seed j := rfl
@[simp] theorem setPin_svcInst (x : Pin) : (s.setPin i x).svcInst j = s.svcInst j := rfl
@[simp] theorem setPin_orient (x : Pin) : (s.setPin i x).orient j = s.orient j := rfl
@[simp] theorem setPin_trend (x : Pin) : (s.setPin i x).trend j = s.trend j := rfl
@[simp] theorem setPin_mach (x : Pin) : (s.setPin i x).mach j = s.mach j := rfl
@[simp] theorem setPin_wear (x : Pin) : (s.setPin i x).wear j = s.wear j := rfl
@[simp] theorem setPin_wakeHost (x : Pin) : (s.setPin i x).wakeHost j = s.wakeHost j := rfl
@[simp] theorem setPin_stream (x : Pin) : (s.setPin i x).stream j = s.stream j := rfl
@[simp] theorem setPin_tb (x : Pin) : (s.setPin i x).tb j = s.tb j := rfl
@[simp] theorem setPin_link (x : Pin) : (s.setPin i x).link j = s.link j := rfl
@[simp] theorem setPin_peer (x : Pin) : (s.setPin i x).peer j = s.peer j := rfl
@[simp] theorem setPin_legLink (x : Pin) : (s.setPin i x).legLink j = s.legLink j := rfl
@[simp] theorem setPin_remote (x : Pin) : (s.setPin i x).remote j = s.remote j := rfl
@[simp] theorem setPin_rfBuf (x : Pin) : (s.setPin i x).rfBuf j = s.rfBuf j := rfl
@[simp] theorem setPin_meter (x : Pin) : (s.setPin i x).meter j = s.meter j := rfl
@[simp] theorem setPin_epochNow (x : Pin) : (s.setPin i x).epochNow j = s.epochNow j := rfl
@[simp] theorem setPin_epochPrev (x : Pin) : (s.setPin i x).epochPrev j = s.epochPrev j := rfl
@[simp] theorem setPin_patch (x : Pin) : (s.setPin i x).patch j = s.patch j := rfl
@[simp] theorem setPin_unit (x : Pin) : (s.setPin i x).unit j = s.unit j := rfl

/-! ### `chans` -/

@[simp] theorem modChan_eq (f : Chan → Chan) : s.modChan i f = s.setChan i (f (s.chan i)) := rfl
theorem setChan_chan (x : Chan) : (s.setChan i x).chan j = if j = i then x else s.chan j := Tab.get_set _ _ _ _
@[simp] theorem setChan_chan_self (x : Chan) : (s.setChan i x).chan i = x := Tab.get_set_self _ _ _
@[simp] theorem setChan_pending' (x : Chan) : (s.setChan i x).pending = s.pending := rfl
@[simp] theorem setChan_tick' (x : Chan) : (s.setChan i x).tick = s.tick := rfl
@[simp] theorem setChan_sub' (x : Chan) : (s.setChan i x).sub = s.sub := rfl
@[simp] theorem setChan_provisioned' (x : Chan) : (s.setChan i x).provisioned = s.provisioned := rfl
@[simp] theorem setChan_free' (x : Chan) : (s.setChan i x).free = s.free := rfl
@[simp] theorem setChan_regs' (x : Chan) : (s.setChan i x).regs = s.regs := rfl
@[simp] theorem setChan_applied' (x : Chan) : (s.setChan i x).applied = s.applied := rfl
@[simp] theorem setChan_mem' (x : Chan) : (s.setChan i x).mem = s.mem := rfl
@[simp] theorem setChan_hosts' (x : Chan) : (s.setChan i x).hosts = s.hosts := rfl
@[simp] theorem setChan_turn' (x : Chan) : (s.setChan i x).turn = s.turn := rfl
@[simp] theorem setChan_sessionNo' (x : Chan) : (s.setChan i x).sessionNo = s.sessionNo := rfl
@[simp] theorem setChan_out' (x : Chan) : (s.setChan i x).out = s.out := rfl
@[simp] theorem setChan_hp1Ibi' (x : Chan) : (s.setChan i x).hp1Ibi = s.hp1Ibi := rfl
@[simp] theorem setChan_log' (x : Chan) : (s.setChan i x).log = s.log := rfl
@[simp] theorem setChan_logSat' (x : Chan) : (s.setChan i x).logSat = s.logSat := rfl
@[simp] theorem setChan_fenced' (x : Chan) : (s.setChan i x).fenced = s.fenced := rfl
@[simp] theorem setChan_runs' (x : Chan) : (s.setChan i x).runs = s.runs := rfl
@[simp] theorem setChan_check' (x : Chan) : (s.setChan i x).check = s.check := rfl
@[simp] theorem setChan_snap' (x : Chan) : (s.setChan i x).snap = s.snap := rfl
@[simp] theorem setChan_groups' (x : Chan) : (s.setChan i x).groups = s.groups := rfl
@[simp] theorem setChan_targets' (x : Chan) : (s.setChan i x).targets = s.targets := rfl
@[simp] theorem setChan_srcs' (x : Chan) : (s.setChan i x).srcs = s.srcs := rfl
@[simp] theorem setChan_sluices' (x : Chan) : (s.setChan i x).sluices = s.sluices := rfl
@[simp] theorem setChan_pins' (x : Chan) : (s.setChan i x).pins = s.pins := rfl
@[simp] theorem setChan_evq' (x : Chan) : (s.setChan i x).evq = s.evq := rfl
@[simp] theorem setChan_wave' (x : Chan) : (s.setChan i x).wave = s.wave := rfl
@[simp] theorem setChan_jobs' (x : Chan) : (s.setChan i x).jobs = s.jobs := rfl
@[simp] theorem setChan_ports' (x : Chan) : (s.setChan i x).ports = s.ports := rfl
@[simp] theorem setChan_afe' (x : Chan) : (s.setChan i x).afe = s.afe := rfl
@[simp] theorem setChan_twr' (x : Chan) : (s.setChan i x).twr = s.twr := rfl
@[simp] theorem setChan_cry' (x : Chan) : (s.setChan i x).cry = s.cry := rfl
@[simp] theorem setChan_svc' (x : Chan) : (s.setChan i x).svc = s.svc := rfl
@[simp] theorem setChan_pan' (x : Chan) : (s.setChan i x).pan = s.pan := rfl
@[simp] theorem setChan_time' (x : Chan) : (s.setChan i x).time = s.time := rfl
@[simp] theorem setChan_launches' (x : Chan) : (s.setChan i x).launches = s.launches := rfl
@[simp] theorem setChan_timers' (x : Chan) : (s.setChan i x).timers = s.timers := rfl
@[simp] theorem setChan_slt' (x : Chan) : (s.setChan i x).slt = s.slt := rfl
@[simp] theorem setChan_rf' (x : Chan) : (s.setChan i x).rf = s.rf := rfl
@[simp] theorem setChan_doms' (x : Chan) : (s.setChan i x).doms = s.doms := rfl
@[simp] theorem setChan_ldg' (x : Chan) : (s.setChan i x).ldg = s.ldg := rfl
@[simp] theorem setChan_pln' (x : Chan) : (s.setChan i x).pln = s.pln := rfl
@[simp] theorem setChan_store' (x : Chan) : (s.setChan i x).store = s.store := rfl
@[simp] theorem setChan_life' (x : Chan) : (s.setChan i x).life = s.life := rfl
@[simp] theorem setChan_cal' (x : Chan) : (s.setChan i x).cal = s.cal := rfl
@[simp] theorem setChan_pwr' (x : Chan) : (s.setChan i x).pwr = s.pwr := rfl
@[simp] theorem setChan_host (x : Chan) : (s.setChan i x).host j = s.host j := rfl
@[simp] theorem setChan_target (x : Chan) : (s.setChan i x).target j = s.target j := rfl
@[simp] theorem setChan_src (x : Chan) : (s.setChan i x).src j = s.src j := rfl
@[simp] theorem setChan_sluice (x : Chan) : (s.setChan i x).sluice j = s.sluice j := rfl
@[simp] theorem setChan_pin (x : Chan) : (s.setChan i x).pin j = s.pin j := rfl
@[simp] theorem setChan_port (x : Chan) : (s.setChan i x).port j = s.port j := rfl
@[simp] theorem setChan_launch (x : Chan) : (s.setChan i x).launch j = s.launch j := rfl
@[simp] theorem setChan_timer (x : Chan) : (s.setChan i x).timer j = s.timer j := rfl
@[simp] theorem setChan_dom (x : Chan) : (s.setChan i x).dom j = s.dom j := rfl
@[simp] theorem setChan_twrCh (x : Chan) : (s.setChan i x).twrCh j = s.twrCh j := rfl
@[simp] theorem setChan_pre (x : Chan) : (s.setChan i x).pre j = s.pre j := rfl
@[simp] theorem setChan_seed (x : Chan) : (s.setChan i x).seed j = s.seed j := rfl
@[simp] theorem setChan_svcInst (x : Chan) : (s.setChan i x).svcInst j = s.svcInst j := rfl
@[simp] theorem setChan_orient (x : Chan) : (s.setChan i x).orient j = s.orient j := rfl
@[simp] theorem setChan_trend (x : Chan) : (s.setChan i x).trend j = s.trend j := rfl
@[simp] theorem setChan_mach (x : Chan) : (s.setChan i x).mach j = s.mach j := rfl
@[simp] theorem setChan_wear (x : Chan) : (s.setChan i x).wear j = s.wear j := rfl
@[simp] theorem setChan_wakeHost (x : Chan) : (s.setChan i x).wakeHost j = s.wakeHost j := rfl
@[simp] theorem setChan_stream (x : Chan) : (s.setChan i x).stream j = s.stream j := rfl
@[simp] theorem setChan_tb (x : Chan) : (s.setChan i x).tb j = s.tb j := rfl
@[simp] theorem setChan_link (x : Chan) : (s.setChan i x).link j = s.link j := rfl
@[simp] theorem setChan_peer (x : Chan) : (s.setChan i x).peer j = s.peer j := rfl
@[simp] theorem setChan_legLink (x : Chan) : (s.setChan i x).legLink j = s.legLink j := rfl
@[simp] theorem setChan_remote (x : Chan) : (s.setChan i x).remote j = s.remote j := rfl
@[simp] theorem setChan_rfBuf (x : Chan) : (s.setChan i x).rfBuf j = s.rfBuf j := rfl
@[simp] theorem setChan_meter (x : Chan) : (s.setChan i x).meter j = s.meter j := rfl
@[simp] theorem setChan_epochNow (x : Chan) : (s.setChan i x).epochNow j = s.epochNow j := rfl
@[simp] theorem setChan_epochPrev (x : Chan) : (s.setChan i x).epochPrev j = s.epochPrev j := rfl
@[simp] theorem setChan_patch (x : Chan) : (s.setChan i x).patch j = s.patch j := rfl
@[simp] theorem setChan_unit (x : Chan) : (s.setChan i x).unit j = s.unit j := rfl

/-! ### `ports` -/

@[simp] theorem modPort_eq (f : Port → Port) : s.modPort i f = s.setPort i (f (s.port i)) := rfl
theorem setPort_port (x : Port) : (s.setPort i x).port j = if j = i then x else s.port j := Tab.get_set _ _ _ _
@[simp] theorem setPort_port_self (x : Port) : (s.setPort i x).port i = x := Tab.get_set_self _ _ _
@[simp] theorem setPort_pending' (x : Port) : (s.setPort i x).pending = s.pending := rfl
@[simp] theorem setPort_tick' (x : Port) : (s.setPort i x).tick = s.tick := rfl
@[simp] theorem setPort_sub' (x : Port) : (s.setPort i x).sub = s.sub := rfl
@[simp] theorem setPort_provisioned' (x : Port) : (s.setPort i x).provisioned = s.provisioned := rfl
@[simp] theorem setPort_free' (x : Port) : (s.setPort i x).free = s.free := rfl
@[simp] theorem setPort_regs' (x : Port) : (s.setPort i x).regs = s.regs := rfl
@[simp] theorem setPort_applied' (x : Port) : (s.setPort i x).applied = s.applied := rfl
@[simp] theorem setPort_mem' (x : Port) : (s.setPort i x).mem = s.mem := rfl
@[simp] theorem setPort_hosts' (x : Port) : (s.setPort i x).hosts = s.hosts := rfl
@[simp] theorem setPort_turn' (x : Port) : (s.setPort i x).turn = s.turn := rfl
@[simp] theorem setPort_sessionNo' (x : Port) : (s.setPort i x).sessionNo = s.sessionNo := rfl
@[simp] theorem setPort_out' (x : Port) : (s.setPort i x).out = s.out := rfl
@[simp] theorem setPort_hp1Ibi' (x : Port) : (s.setPort i x).hp1Ibi = s.hp1Ibi := rfl
@[simp] theorem setPort_log' (x : Port) : (s.setPort i x).log = s.log := rfl
@[simp] theorem setPort_logSat' (x : Port) : (s.setPort i x).logSat = s.logSat := rfl
@[simp] theorem setPort_fenced' (x : Port) : (s.setPort i x).fenced = s.fenced := rfl
@[simp] theorem setPort_runs' (x : Port) : (s.setPort i x).runs = s.runs := rfl
@[simp] theorem setPort_check' (x : Port) : (s.setPort i x).check = s.check := rfl
@[simp] theorem setPort_snap' (x : Port) : (s.setPort i x).snap = s.snap := rfl
@[simp] theorem setPort_groups' (x : Port) : (s.setPort i x).groups = s.groups := rfl
@[simp] theorem setPort_targets' (x : Port) : (s.setPort i x).targets = s.targets := rfl
@[simp] theorem setPort_srcs' (x : Port) : (s.setPort i x).srcs = s.srcs := rfl
@[simp] theorem setPort_sluices' (x : Port) : (s.setPort i x).sluices = s.sluices := rfl
@[simp] theorem setPort_pins' (x : Port) : (s.setPort i x).pins = s.pins := rfl
@[simp] theorem setPort_evq' (x : Port) : (s.setPort i x).evq = s.evq := rfl
@[simp] theorem setPort_wave' (x : Port) : (s.setPort i x).wave = s.wave := rfl
@[simp] theorem setPort_jobs' (x : Port) : (s.setPort i x).jobs = s.jobs := rfl
@[simp] theorem setPort_chans' (x : Port) : (s.setPort i x).chans = s.chans := rfl
@[simp] theorem setPort_afe' (x : Port) : (s.setPort i x).afe = s.afe := rfl
@[simp] theorem setPort_twr' (x : Port) : (s.setPort i x).twr = s.twr := rfl
@[simp] theorem setPort_cry' (x : Port) : (s.setPort i x).cry = s.cry := rfl
@[simp] theorem setPort_svc' (x : Port) : (s.setPort i x).svc = s.svc := rfl
@[simp] theorem setPort_pan' (x : Port) : (s.setPort i x).pan = s.pan := rfl
@[simp] theorem setPort_time' (x : Port) : (s.setPort i x).time = s.time := rfl
@[simp] theorem setPort_launches' (x : Port) : (s.setPort i x).launches = s.launches := rfl
@[simp] theorem setPort_timers' (x : Port) : (s.setPort i x).timers = s.timers := rfl
@[simp] theorem setPort_slt' (x : Port) : (s.setPort i x).slt = s.slt := rfl
@[simp] theorem setPort_rf' (x : Port) : (s.setPort i x).rf = s.rf := rfl
@[simp] theorem setPort_doms' (x : Port) : (s.setPort i x).doms = s.doms := rfl
@[simp] theorem setPort_ldg' (x : Port) : (s.setPort i x).ldg = s.ldg := rfl
@[simp] theorem setPort_pln' (x : Port) : (s.setPort i x).pln = s.pln := rfl
@[simp] theorem setPort_store' (x : Port) : (s.setPort i x).store = s.store := rfl
@[simp] theorem setPort_life' (x : Port) : (s.setPort i x).life = s.life := rfl
@[simp] theorem setPort_cal' (x : Port) : (s.setPort i x).cal = s.cal := rfl
@[simp] theorem setPort_pwr' (x : Port) : (s.setPort i x).pwr = s.pwr := rfl
@[simp] theorem setPort_host (x : Port) : (s.setPort i x).host j = s.host j := rfl
@[simp] theorem setPort_target (x : Port) : (s.setPort i x).target j = s.target j := rfl
@[simp] theorem setPort_src (x : Port) : (s.setPort i x).src j = s.src j := rfl
@[simp] theorem setPort_sluice (x : Port) : (s.setPort i x).sluice j = s.sluice j := rfl
@[simp] theorem setPort_pin (x : Port) : (s.setPort i x).pin j = s.pin j := rfl
@[simp] theorem setPort_chan (x : Port) : (s.setPort i x).chan j = s.chan j := rfl
@[simp] theorem setPort_launch (x : Port) : (s.setPort i x).launch j = s.launch j := rfl
@[simp] theorem setPort_timer (x : Port) : (s.setPort i x).timer j = s.timer j := rfl
@[simp] theorem setPort_dom (x : Port) : (s.setPort i x).dom j = s.dom j := rfl
@[simp] theorem setPort_twrCh (x : Port) : (s.setPort i x).twrCh j = s.twrCh j := rfl
@[simp] theorem setPort_pre (x : Port) : (s.setPort i x).pre j = s.pre j := rfl
@[simp] theorem setPort_seed (x : Port) : (s.setPort i x).seed j = s.seed j := rfl
@[simp] theorem setPort_svcInst (x : Port) : (s.setPort i x).svcInst j = s.svcInst j := rfl
@[simp] theorem setPort_orient (x : Port) : (s.setPort i x).orient j = s.orient j := rfl
@[simp] theorem setPort_trend (x : Port) : (s.setPort i x).trend j = s.trend j := rfl
@[simp] theorem setPort_mach (x : Port) : (s.setPort i x).mach j = s.mach j := rfl
@[simp] theorem setPort_wear (x : Port) : (s.setPort i x).wear j = s.wear j := rfl
@[simp] theorem setPort_wakeHost (x : Port) : (s.setPort i x).wakeHost j = s.wakeHost j := rfl
@[simp] theorem setPort_stream (x : Port) : (s.setPort i x).stream j = s.stream j := rfl
@[simp] theorem setPort_tb (x : Port) : (s.setPort i x).tb j = s.tb j := rfl
@[simp] theorem setPort_link (x : Port) : (s.setPort i x).link j = s.link j := rfl
@[simp] theorem setPort_peer (x : Port) : (s.setPort i x).peer j = s.peer j := rfl
@[simp] theorem setPort_legLink (x : Port) : (s.setPort i x).legLink j = s.legLink j := rfl
@[simp] theorem setPort_remote (x : Port) : (s.setPort i x).remote j = s.remote j := rfl
@[simp] theorem setPort_rfBuf (x : Port) : (s.setPort i x).rfBuf j = s.rfBuf j := rfl
@[simp] theorem setPort_meter (x : Port) : (s.setPort i x).meter j = s.meter j := rfl
@[simp] theorem setPort_epochNow (x : Port) : (s.setPort i x).epochNow j = s.epochNow j := rfl
@[simp] theorem setPort_epochPrev (x : Port) : (s.setPort i x).epochPrev j = s.epochPrev j := rfl
@[simp] theorem setPort_patch (x : Port) : (s.setPort i x).patch j = s.patch j := rfl
@[simp] theorem setPort_unit (x : Port) : (s.setPort i x).unit j = s.unit j := rfl

/-! ### `launches` -/

@[simp] theorem modLaunch_eq (f : Launch → Launch) : s.modLaunch i f = s.setLaunch i (f (s.launch i)) := rfl
theorem setLaunch_launch (x : Launch) : (s.setLaunch i x).launch j = if j = i then x else s.launch j := Tab.get_set _ _ _ _
@[simp] theorem setLaunch_launch_self (x : Launch) : (s.setLaunch i x).launch i = x := Tab.get_set_self _ _ _
@[simp] theorem setLaunch_pending' (x : Launch) : (s.setLaunch i x).pending = s.pending := rfl
@[simp] theorem setLaunch_tick' (x : Launch) : (s.setLaunch i x).tick = s.tick := rfl
@[simp] theorem setLaunch_sub' (x : Launch) : (s.setLaunch i x).sub = s.sub := rfl
@[simp] theorem setLaunch_provisioned' (x : Launch) : (s.setLaunch i x).provisioned = s.provisioned := rfl
@[simp] theorem setLaunch_free' (x : Launch) : (s.setLaunch i x).free = s.free := rfl
@[simp] theorem setLaunch_regs' (x : Launch) : (s.setLaunch i x).regs = s.regs := rfl
@[simp] theorem setLaunch_applied' (x : Launch) : (s.setLaunch i x).applied = s.applied := rfl
@[simp] theorem setLaunch_mem' (x : Launch) : (s.setLaunch i x).mem = s.mem := rfl
@[simp] theorem setLaunch_hosts' (x : Launch) : (s.setLaunch i x).hosts = s.hosts := rfl
@[simp] theorem setLaunch_turn' (x : Launch) : (s.setLaunch i x).turn = s.turn := rfl
@[simp] theorem setLaunch_sessionNo' (x : Launch) : (s.setLaunch i x).sessionNo = s.sessionNo := rfl
@[simp] theorem setLaunch_out' (x : Launch) : (s.setLaunch i x).out = s.out := rfl
@[simp] theorem setLaunch_hp1Ibi' (x : Launch) : (s.setLaunch i x).hp1Ibi = s.hp1Ibi := rfl
@[simp] theorem setLaunch_log' (x : Launch) : (s.setLaunch i x).log = s.log := rfl
@[simp] theorem setLaunch_logSat' (x : Launch) : (s.setLaunch i x).logSat = s.logSat := rfl
@[simp] theorem setLaunch_fenced' (x : Launch) : (s.setLaunch i x).fenced = s.fenced := rfl
@[simp] theorem setLaunch_runs' (x : Launch) : (s.setLaunch i x).runs = s.runs := rfl
@[simp] theorem setLaunch_check' (x : Launch) : (s.setLaunch i x).check = s.check := rfl
@[simp] theorem setLaunch_snap' (x : Launch) : (s.setLaunch i x).snap = s.snap := rfl
@[simp] theorem setLaunch_groups' (x : Launch) : (s.setLaunch i x).groups = s.groups := rfl
@[simp] theorem setLaunch_targets' (x : Launch) : (s.setLaunch i x).targets = s.targets := rfl
@[simp] theorem setLaunch_srcs' (x : Launch) : (s.setLaunch i x).srcs = s.srcs := rfl
@[simp] theorem setLaunch_sluices' (x : Launch) : (s.setLaunch i x).sluices = s.sluices := rfl
@[simp] theorem setLaunch_pins' (x : Launch) : (s.setLaunch i x).pins = s.pins := rfl
@[simp] theorem setLaunch_evq' (x : Launch) : (s.setLaunch i x).evq = s.evq := rfl
@[simp] theorem setLaunch_wave' (x : Launch) : (s.setLaunch i x).wave = s.wave := rfl
@[simp] theorem setLaunch_jobs' (x : Launch) : (s.setLaunch i x).jobs = s.jobs := rfl
@[simp] theorem setLaunch_chans' (x : Launch) : (s.setLaunch i x).chans = s.chans := rfl
@[simp] theorem setLaunch_ports' (x : Launch) : (s.setLaunch i x).ports = s.ports := rfl
@[simp] theorem setLaunch_afe' (x : Launch) : (s.setLaunch i x).afe = s.afe := rfl
@[simp] theorem setLaunch_twr' (x : Launch) : (s.setLaunch i x).twr = s.twr := rfl
@[simp] theorem setLaunch_cry' (x : Launch) : (s.setLaunch i x).cry = s.cry := rfl
@[simp] theorem setLaunch_svc' (x : Launch) : (s.setLaunch i x).svc = s.svc := rfl
@[simp] theorem setLaunch_pan' (x : Launch) : (s.setLaunch i x).pan = s.pan := rfl
@[simp] theorem setLaunch_time' (x : Launch) : (s.setLaunch i x).time = s.time := rfl
@[simp] theorem setLaunch_timers' (x : Launch) : (s.setLaunch i x).timers = s.timers := rfl
@[simp] theorem setLaunch_slt' (x : Launch) : (s.setLaunch i x).slt = s.slt := rfl
@[simp] theorem setLaunch_rf' (x : Launch) : (s.setLaunch i x).rf = s.rf := rfl
@[simp] theorem setLaunch_doms' (x : Launch) : (s.setLaunch i x).doms = s.doms := rfl
@[simp] theorem setLaunch_ldg' (x : Launch) : (s.setLaunch i x).ldg = s.ldg := rfl
@[simp] theorem setLaunch_pln' (x : Launch) : (s.setLaunch i x).pln = s.pln := rfl
@[simp] theorem setLaunch_store' (x : Launch) : (s.setLaunch i x).store = s.store := rfl
@[simp] theorem setLaunch_life' (x : Launch) : (s.setLaunch i x).life = s.life := rfl
@[simp] theorem setLaunch_cal' (x : Launch) : (s.setLaunch i x).cal = s.cal := rfl
@[simp] theorem setLaunch_pwr' (x : Launch) : (s.setLaunch i x).pwr = s.pwr := rfl
@[simp] theorem setLaunch_host (x : Launch) : (s.setLaunch i x).host j = s.host j := rfl
@[simp] theorem setLaunch_target (x : Launch) : (s.setLaunch i x).target j = s.target j := rfl
@[simp] theorem setLaunch_src (x : Launch) : (s.setLaunch i x).src j = s.src j := rfl
@[simp] theorem setLaunch_sluice (x : Launch) : (s.setLaunch i x).sluice j = s.sluice j := rfl
@[simp] theorem setLaunch_pin (x : Launch) : (s.setLaunch i x).pin j = s.pin j := rfl
@[simp] theorem setLaunch_chan (x : Launch) : (s.setLaunch i x).chan j = s.chan j := rfl
@[simp] theorem setLaunch_port (x : Launch) : (s.setLaunch i x).port j = s.port j := rfl
@[simp] theorem setLaunch_timer (x : Launch) : (s.setLaunch i x).timer j = s.timer j := rfl
@[simp] theorem setLaunch_dom (x : Launch) : (s.setLaunch i x).dom j = s.dom j := rfl
@[simp] theorem setLaunch_twrCh (x : Launch) : (s.setLaunch i x).twrCh j = s.twrCh j := rfl
@[simp] theorem setLaunch_pre (x : Launch) : (s.setLaunch i x).pre j = s.pre j := rfl
@[simp] theorem setLaunch_seed (x : Launch) : (s.setLaunch i x).seed j = s.seed j := rfl
@[simp] theorem setLaunch_svcInst (x : Launch) : (s.setLaunch i x).svcInst j = s.svcInst j := rfl
@[simp] theorem setLaunch_orient (x : Launch) : (s.setLaunch i x).orient j = s.orient j := rfl
@[simp] theorem setLaunch_trend (x : Launch) : (s.setLaunch i x).trend j = s.trend j := rfl
@[simp] theorem setLaunch_mach (x : Launch) : (s.setLaunch i x).mach j = s.mach j := rfl
@[simp] theorem setLaunch_wear (x : Launch) : (s.setLaunch i x).wear j = s.wear j := rfl
@[simp] theorem setLaunch_wakeHost (x : Launch) : (s.setLaunch i x).wakeHost j = s.wakeHost j := rfl
@[simp] theorem setLaunch_stream (x : Launch) : (s.setLaunch i x).stream j = s.stream j := rfl
@[simp] theorem setLaunch_tb (x : Launch) : (s.setLaunch i x).tb j = s.tb j := rfl
@[simp] theorem setLaunch_link (x : Launch) : (s.setLaunch i x).link j = s.link j := rfl
@[simp] theorem setLaunch_peer (x : Launch) : (s.setLaunch i x).peer j = s.peer j := rfl
@[simp] theorem setLaunch_legLink (x : Launch) : (s.setLaunch i x).legLink j = s.legLink j := rfl
@[simp] theorem setLaunch_remote (x : Launch) : (s.setLaunch i x).remote j = s.remote j := rfl
@[simp] theorem setLaunch_rfBuf (x : Launch) : (s.setLaunch i x).rfBuf j = s.rfBuf j := rfl
@[simp] theorem setLaunch_meter (x : Launch) : (s.setLaunch i x).meter j = s.meter j := rfl
@[simp] theorem setLaunch_epochNow (x : Launch) : (s.setLaunch i x).epochNow j = s.epochNow j := rfl
@[simp] theorem setLaunch_epochPrev (x : Launch) : (s.setLaunch i x).epochPrev j = s.epochPrev j := rfl
@[simp] theorem setLaunch_patch (x : Launch) : (s.setLaunch i x).patch j = s.patch j := rfl
@[simp] theorem setLaunch_unit (x : Launch) : (s.setLaunch i x).unit j = s.unit j := rfl

/-! ### `timers` -/

@[simp] theorem modTimer_eq (f : Timer → Timer) : s.modTimer i f = s.setTimer i (f (s.timer i)) := rfl
theorem setTimer_timer (x : Timer) : (s.setTimer i x).timer j = if j = i then x else s.timer j := Tab.get_set _ _ _ _
@[simp] theorem setTimer_timer_self (x : Timer) : (s.setTimer i x).timer i = x := Tab.get_set_self _ _ _
@[simp] theorem setTimer_pending' (x : Timer) : (s.setTimer i x).pending = s.pending := rfl
@[simp] theorem setTimer_tick' (x : Timer) : (s.setTimer i x).tick = s.tick := rfl
@[simp] theorem setTimer_sub' (x : Timer) : (s.setTimer i x).sub = s.sub := rfl
@[simp] theorem setTimer_provisioned' (x : Timer) : (s.setTimer i x).provisioned = s.provisioned := rfl
@[simp] theorem setTimer_free' (x : Timer) : (s.setTimer i x).free = s.free := rfl
@[simp] theorem setTimer_regs' (x : Timer) : (s.setTimer i x).regs = s.regs := rfl
@[simp] theorem setTimer_applied' (x : Timer) : (s.setTimer i x).applied = s.applied := rfl
@[simp] theorem setTimer_mem' (x : Timer) : (s.setTimer i x).mem = s.mem := rfl
@[simp] theorem setTimer_hosts' (x : Timer) : (s.setTimer i x).hosts = s.hosts := rfl
@[simp] theorem setTimer_turn' (x : Timer) : (s.setTimer i x).turn = s.turn := rfl
@[simp] theorem setTimer_sessionNo' (x : Timer) : (s.setTimer i x).sessionNo = s.sessionNo := rfl
@[simp] theorem setTimer_out' (x : Timer) : (s.setTimer i x).out = s.out := rfl
@[simp] theorem setTimer_hp1Ibi' (x : Timer) : (s.setTimer i x).hp1Ibi = s.hp1Ibi := rfl
@[simp] theorem setTimer_log' (x : Timer) : (s.setTimer i x).log = s.log := rfl
@[simp] theorem setTimer_logSat' (x : Timer) : (s.setTimer i x).logSat = s.logSat := rfl
@[simp] theorem setTimer_fenced' (x : Timer) : (s.setTimer i x).fenced = s.fenced := rfl
@[simp] theorem setTimer_runs' (x : Timer) : (s.setTimer i x).runs = s.runs := rfl
@[simp] theorem setTimer_check' (x : Timer) : (s.setTimer i x).check = s.check := rfl
@[simp] theorem setTimer_snap' (x : Timer) : (s.setTimer i x).snap = s.snap := rfl
@[simp] theorem setTimer_groups' (x : Timer) : (s.setTimer i x).groups = s.groups := rfl
@[simp] theorem setTimer_targets' (x : Timer) : (s.setTimer i x).targets = s.targets := rfl
@[simp] theorem setTimer_srcs' (x : Timer) : (s.setTimer i x).srcs = s.srcs := rfl
@[simp] theorem setTimer_sluices' (x : Timer) : (s.setTimer i x).sluices = s.sluices := rfl
@[simp] theorem setTimer_pins' (x : Timer) : (s.setTimer i x).pins = s.pins := rfl
@[simp] theorem setTimer_evq' (x : Timer) : (s.setTimer i x).evq = s.evq := rfl
@[simp] theorem setTimer_wave' (x : Timer) : (s.setTimer i x).wave = s.wave := rfl
@[simp] theorem setTimer_jobs' (x : Timer) : (s.setTimer i x).jobs = s.jobs := rfl
@[simp] theorem setTimer_chans' (x : Timer) : (s.setTimer i x).chans = s.chans := rfl
@[simp] theorem setTimer_ports' (x : Timer) : (s.setTimer i x).ports = s.ports := rfl
@[simp] theorem setTimer_afe' (x : Timer) : (s.setTimer i x).afe = s.afe := rfl
@[simp] theorem setTimer_twr' (x : Timer) : (s.setTimer i x).twr = s.twr := rfl
@[simp] theorem setTimer_cry' (x : Timer) : (s.setTimer i x).cry = s.cry := rfl
@[simp] theorem setTimer_svc' (x : Timer) : (s.setTimer i x).svc = s.svc := rfl
@[simp] theorem setTimer_pan' (x : Timer) : (s.setTimer i x).pan = s.pan := rfl
@[simp] theorem setTimer_time' (x : Timer) : (s.setTimer i x).time = s.time := rfl
@[simp] theorem setTimer_launches' (x : Timer) : (s.setTimer i x).launches = s.launches := rfl
@[simp] theorem setTimer_slt' (x : Timer) : (s.setTimer i x).slt = s.slt := rfl
@[simp] theorem setTimer_rf' (x : Timer) : (s.setTimer i x).rf = s.rf := rfl
@[simp] theorem setTimer_doms' (x : Timer) : (s.setTimer i x).doms = s.doms := rfl
@[simp] theorem setTimer_ldg' (x : Timer) : (s.setTimer i x).ldg = s.ldg := rfl
@[simp] theorem setTimer_pln' (x : Timer) : (s.setTimer i x).pln = s.pln := rfl
@[simp] theorem setTimer_store' (x : Timer) : (s.setTimer i x).store = s.store := rfl
@[simp] theorem setTimer_life' (x : Timer) : (s.setTimer i x).life = s.life := rfl
@[simp] theorem setTimer_cal' (x : Timer) : (s.setTimer i x).cal = s.cal := rfl
@[simp] theorem setTimer_pwr' (x : Timer) : (s.setTimer i x).pwr = s.pwr := rfl
@[simp] theorem setTimer_host (x : Timer) : (s.setTimer i x).host j = s.host j := rfl
@[simp] theorem setTimer_target (x : Timer) : (s.setTimer i x).target j = s.target j := rfl
@[simp] theorem setTimer_src (x : Timer) : (s.setTimer i x).src j = s.src j := rfl
@[simp] theorem setTimer_sluice (x : Timer) : (s.setTimer i x).sluice j = s.sluice j := rfl
@[simp] theorem setTimer_pin (x : Timer) : (s.setTimer i x).pin j = s.pin j := rfl
@[simp] theorem setTimer_chan (x : Timer) : (s.setTimer i x).chan j = s.chan j := rfl
@[simp] theorem setTimer_port (x : Timer) : (s.setTimer i x).port j = s.port j := rfl
@[simp] theorem setTimer_launch (x : Timer) : (s.setTimer i x).launch j = s.launch j := rfl
@[simp] theorem setTimer_dom (x : Timer) : (s.setTimer i x).dom j = s.dom j := rfl
@[simp] theorem setTimer_twrCh (x : Timer) : (s.setTimer i x).twrCh j = s.twrCh j := rfl
@[simp] theorem setTimer_pre (x : Timer) : (s.setTimer i x).pre j = s.pre j := rfl
@[simp] theorem setTimer_seed (x : Timer) : (s.setTimer i x).seed j = s.seed j := rfl
@[simp] theorem setTimer_svcInst (x : Timer) : (s.setTimer i x).svcInst j = s.svcInst j := rfl
@[simp] theorem setTimer_orient (x : Timer) : (s.setTimer i x).orient j = s.orient j := rfl
@[simp] theorem setTimer_trend (x : Timer) : (s.setTimer i x).trend j = s.trend j := rfl
@[simp] theorem setTimer_mach (x : Timer) : (s.setTimer i x).mach j = s.mach j := rfl
@[simp] theorem setTimer_wear (x : Timer) : (s.setTimer i x).wear j = s.wear j := rfl
@[simp] theorem setTimer_wakeHost (x : Timer) : (s.setTimer i x).wakeHost j = s.wakeHost j := rfl
@[simp] theorem setTimer_stream (x : Timer) : (s.setTimer i x).stream j = s.stream j := rfl
@[simp] theorem setTimer_tb (x : Timer) : (s.setTimer i x).tb j = s.tb j := rfl
@[simp] theorem setTimer_link (x : Timer) : (s.setTimer i x).link j = s.link j := rfl
@[simp] theorem setTimer_peer (x : Timer) : (s.setTimer i x).peer j = s.peer j := rfl
@[simp] theorem setTimer_legLink (x : Timer) : (s.setTimer i x).legLink j = s.legLink j := rfl
@[simp] theorem setTimer_remote (x : Timer) : (s.setTimer i x).remote j = s.remote j := rfl
@[simp] theorem setTimer_rfBuf (x : Timer) : (s.setTimer i x).rfBuf j = s.rfBuf j := rfl
@[simp] theorem setTimer_meter (x : Timer) : (s.setTimer i x).meter j = s.meter j := rfl
@[simp] theorem setTimer_epochNow (x : Timer) : (s.setTimer i x).epochNow j = s.epochNow j := rfl
@[simp] theorem setTimer_epochPrev (x : Timer) : (s.setTimer i x).epochPrev j = s.epochPrev j := rfl
@[simp] theorem setTimer_patch (x : Timer) : (s.setTimer i x).patch j = s.patch j := rfl
@[simp] theorem setTimer_unit (x : Timer) : (s.setTimer i x).unit j = s.unit j := rfl

/-! ### `doms` -/

@[simp] theorem modDom_eq (f : Dom → Dom) : s.modDom i f = s.setDom i (f (s.dom i)) := rfl
theorem setDom_dom (x : Dom) : (s.setDom i x).dom j = if j = i then x else s.dom j := Tab.get_set _ _ _ _
@[simp] theorem setDom_dom_self (x : Dom) : (s.setDom i x).dom i = x := Tab.get_set_self _ _ _
@[simp] theorem setDom_pending' (x : Dom) : (s.setDom i x).pending = s.pending := rfl
@[simp] theorem setDom_tick' (x : Dom) : (s.setDom i x).tick = s.tick := rfl
@[simp] theorem setDom_sub' (x : Dom) : (s.setDom i x).sub = s.sub := rfl
@[simp] theorem setDom_provisioned' (x : Dom) : (s.setDom i x).provisioned = s.provisioned := rfl
@[simp] theorem setDom_free' (x : Dom) : (s.setDom i x).free = s.free := rfl
@[simp] theorem setDom_regs' (x : Dom) : (s.setDom i x).regs = s.regs := rfl
@[simp] theorem setDom_applied' (x : Dom) : (s.setDom i x).applied = s.applied := rfl
@[simp] theorem setDom_mem' (x : Dom) : (s.setDom i x).mem = s.mem := rfl
@[simp] theorem setDom_hosts' (x : Dom) : (s.setDom i x).hosts = s.hosts := rfl
@[simp] theorem setDom_turn' (x : Dom) : (s.setDom i x).turn = s.turn := rfl
@[simp] theorem setDom_sessionNo' (x : Dom) : (s.setDom i x).sessionNo = s.sessionNo := rfl
@[simp] theorem setDom_out' (x : Dom) : (s.setDom i x).out = s.out := rfl
@[simp] theorem setDom_hp1Ibi' (x : Dom) : (s.setDom i x).hp1Ibi = s.hp1Ibi := rfl
@[simp] theorem setDom_log' (x : Dom) : (s.setDom i x).log = s.log := rfl
@[simp] theorem setDom_logSat' (x : Dom) : (s.setDom i x).logSat = s.logSat := rfl
@[simp] theorem setDom_fenced' (x : Dom) : (s.setDom i x).fenced = s.fenced := rfl
@[simp] theorem setDom_runs' (x : Dom) : (s.setDom i x).runs = s.runs := rfl
@[simp] theorem setDom_check' (x : Dom) : (s.setDom i x).check = s.check := rfl
@[simp] theorem setDom_snap' (x : Dom) : (s.setDom i x).snap = s.snap := rfl
@[simp] theorem setDom_groups' (x : Dom) : (s.setDom i x).groups = s.groups := rfl
@[simp] theorem setDom_targets' (x : Dom) : (s.setDom i x).targets = s.targets := rfl
@[simp] theorem setDom_srcs' (x : Dom) : (s.setDom i x).srcs = s.srcs := rfl
@[simp] theorem setDom_sluices' (x : Dom) : (s.setDom i x).sluices = s.sluices := rfl
@[simp] theorem setDom_pins' (x : Dom) : (s.setDom i x).pins = s.pins := rfl
@[simp] theorem setDom_evq' (x : Dom) : (s.setDom i x).evq = s.evq := rfl
@[simp] theorem setDom_wave' (x : Dom) : (s.setDom i x).wave = s.wave := rfl
@[simp] theorem setDom_jobs' (x : Dom) : (s.setDom i x).jobs = s.jobs := rfl
@[simp] theorem setDom_chans' (x : Dom) : (s.setDom i x).chans = s.chans := rfl
@[simp] theorem setDom_ports' (x : Dom) : (s.setDom i x).ports = s.ports := rfl
@[simp] theorem setDom_afe' (x : Dom) : (s.setDom i x).afe = s.afe := rfl
@[simp] theorem setDom_twr' (x : Dom) : (s.setDom i x).twr = s.twr := rfl
@[simp] theorem setDom_cry' (x : Dom) : (s.setDom i x).cry = s.cry := rfl
@[simp] theorem setDom_svc' (x : Dom) : (s.setDom i x).svc = s.svc := rfl
@[simp] theorem setDom_pan' (x : Dom) : (s.setDom i x).pan = s.pan := rfl
@[simp] theorem setDom_time' (x : Dom) : (s.setDom i x).time = s.time := rfl
@[simp] theorem setDom_launches' (x : Dom) : (s.setDom i x).launches = s.launches := rfl
@[simp] theorem setDom_timers' (x : Dom) : (s.setDom i x).timers = s.timers := rfl
@[simp] theorem setDom_slt' (x : Dom) : (s.setDom i x).slt = s.slt := rfl
@[simp] theorem setDom_rf' (x : Dom) : (s.setDom i x).rf = s.rf := rfl
@[simp] theorem setDom_ldg' (x : Dom) : (s.setDom i x).ldg = s.ldg := rfl
@[simp] theorem setDom_pln' (x : Dom) : (s.setDom i x).pln = s.pln := rfl
@[simp] theorem setDom_store' (x : Dom) : (s.setDom i x).store = s.store := rfl
@[simp] theorem setDom_life' (x : Dom) : (s.setDom i x).life = s.life := rfl
@[simp] theorem setDom_cal' (x : Dom) : (s.setDom i x).cal = s.cal := rfl
@[simp] theorem setDom_pwr' (x : Dom) : (s.setDom i x).pwr = s.pwr := rfl
@[simp] theorem setDom_host (x : Dom) : (s.setDom i x).host j = s.host j := rfl
@[simp] theorem setDom_target (x : Dom) : (s.setDom i x).target j = s.target j := rfl
@[simp] theorem setDom_src (x : Dom) : (s.setDom i x).src j = s.src j := rfl
@[simp] theorem setDom_sluice (x : Dom) : (s.setDom i x).sluice j = s.sluice j := rfl
@[simp] theorem setDom_pin (x : Dom) : (s.setDom i x).pin j = s.pin j := rfl
@[simp] theorem setDom_chan (x : Dom) : (s.setDom i x).chan j = s.chan j := rfl
@[simp] theorem setDom_port (x : Dom) : (s.setDom i x).port j = s.port j := rfl
@[simp] theorem setDom_launch (x : Dom) : (s.setDom i x).launch j = s.launch j := rfl
@[simp] theorem setDom_timer (x : Dom) : (s.setDom i x).timer j = s.timer j := rfl
@[simp] theorem setDom_twrCh (x : Dom) : (s.setDom i x).twrCh j = s.twrCh j := rfl
@[simp] theorem setDom_pre (x : Dom) : (s.setDom i x).pre j = s.pre j := rfl
@[simp] theorem setDom_seed (x : Dom) : (s.setDom i x).seed j = s.seed j := rfl
@[simp] theorem setDom_svcInst (x : Dom) : (s.setDom i x).svcInst j = s.svcInst j := rfl
@[simp] theorem setDom_orient (x : Dom) : (s.setDom i x).orient j = s.orient j := rfl
@[simp] theorem setDom_trend (x : Dom) : (s.setDom i x).trend j = s.trend j := rfl
@[simp] theorem setDom_mach (x : Dom) : (s.setDom i x).mach j = s.mach j := rfl
@[simp] theorem setDom_wear (x : Dom) : (s.setDom i x).wear j = s.wear j := rfl
@[simp] theorem setDom_wakeHost (x : Dom) : (s.setDom i x).wakeHost j = s.wakeHost j := rfl
@[simp] theorem setDom_stream (x : Dom) : (s.setDom i x).stream j = s.stream j := rfl
@[simp] theorem setDom_tb (x : Dom) : (s.setDom i x).tb j = s.tb j := rfl
@[simp] theorem setDom_link (x : Dom) : (s.setDom i x).link j = s.link j := rfl
@[simp] theorem setDom_peer (x : Dom) : (s.setDom i x).peer j = s.peer j := rfl
@[simp] theorem setDom_legLink (x : Dom) : (s.setDom i x).legLink j = s.legLink j := rfl
@[simp] theorem setDom_remote (x : Dom) : (s.setDom i x).remote j = s.remote j := rfl
@[simp] theorem setDom_rfBuf (x : Dom) : (s.setDom i x).rfBuf j = s.rfBuf j := rfl
@[simp] theorem setDom_meter (x : Dom) : (s.setDom i x).meter j = s.meter j := rfl
@[simp] theorem setDom_epochNow (x : Dom) : (s.setDom i x).epochNow j = s.epochNow j := rfl
@[simp] theorem setDom_epochPrev (x : Dom) : (s.setDom i x).epochPrev j = s.epochPrev j := rfl
@[simp] theorem setDom_patch (x : Dom) : (s.setDom i x).patch j = s.patch j := rfl
@[simp] theorem setDom_unit (x : Dom) : (s.setDom i x).unit j = s.unit j := rfl

/-! ### `twr.ch` -/

@[simp] theorem modTwrCh_eq (f : TowerCh → TowerCh) : s.modTwrCh i f = s.setTwrCh i (f (s.twrCh i)) := rfl
theorem setTwrCh_twrCh (x : TowerCh) : (s.setTwrCh i x).twrCh j = if j = i then x else s.twrCh j := Tab.get_set _ _ _ _
@[simp] theorem setTwrCh_twrCh_self (x : TowerCh) : (s.setTwrCh i x).twrCh i = x := Tab.get_set_self _ _ _
@[simp] theorem setTwrCh_pending' (x : TowerCh) : (s.setTwrCh i x).pending = s.pending := rfl
@[simp] theorem setTwrCh_tick' (x : TowerCh) : (s.setTwrCh i x).tick = s.tick := rfl
@[simp] theorem setTwrCh_sub' (x : TowerCh) : (s.setTwrCh i x).sub = s.sub := rfl
@[simp] theorem setTwrCh_provisioned' (x : TowerCh) : (s.setTwrCh i x).provisioned = s.provisioned := rfl
@[simp] theorem setTwrCh_free' (x : TowerCh) : (s.setTwrCh i x).free = s.free := rfl
@[simp] theorem setTwrCh_regs' (x : TowerCh) : (s.setTwrCh i x).regs = s.regs := rfl
@[simp] theorem setTwrCh_applied' (x : TowerCh) : (s.setTwrCh i x).applied = s.applied := rfl
@[simp] theorem setTwrCh_mem' (x : TowerCh) : (s.setTwrCh i x).mem = s.mem := rfl
@[simp] theorem setTwrCh_hosts' (x : TowerCh) : (s.setTwrCh i x).hosts = s.hosts := rfl
@[simp] theorem setTwrCh_turn' (x : TowerCh) : (s.setTwrCh i x).turn = s.turn := rfl
@[simp] theorem setTwrCh_sessionNo' (x : TowerCh) : (s.setTwrCh i x).sessionNo = s.sessionNo := rfl
@[simp] theorem setTwrCh_out' (x : TowerCh) : (s.setTwrCh i x).out = s.out := rfl
@[simp] theorem setTwrCh_hp1Ibi' (x : TowerCh) : (s.setTwrCh i x).hp1Ibi = s.hp1Ibi := rfl
@[simp] theorem setTwrCh_log' (x : TowerCh) : (s.setTwrCh i x).log = s.log := rfl
@[simp] theorem setTwrCh_logSat' (x : TowerCh) : (s.setTwrCh i x).logSat = s.logSat := rfl
@[simp] theorem setTwrCh_fenced' (x : TowerCh) : (s.setTwrCh i x).fenced = s.fenced := rfl
@[simp] theorem setTwrCh_runs' (x : TowerCh) : (s.setTwrCh i x).runs = s.runs := rfl
@[simp] theorem setTwrCh_check' (x : TowerCh) : (s.setTwrCh i x).check = s.check := rfl
@[simp] theorem setTwrCh_snap' (x : TowerCh) : (s.setTwrCh i x).snap = s.snap := rfl
@[simp] theorem setTwrCh_groups' (x : TowerCh) : (s.setTwrCh i x).groups = s.groups := rfl
@[simp] theorem setTwrCh_targets' (x : TowerCh) : (s.setTwrCh i x).targets = s.targets := rfl
@[simp] theorem setTwrCh_srcs' (x : TowerCh) : (s.setTwrCh i x).srcs = s.srcs := rfl
@[simp] theorem setTwrCh_sluices' (x : TowerCh) : (s.setTwrCh i x).sluices = s.sluices := rfl
@[simp] theorem setTwrCh_pins' (x : TowerCh) : (s.setTwrCh i x).pins = s.pins := rfl
@[simp] theorem setTwrCh_evq' (x : TowerCh) : (s.setTwrCh i x).evq = s.evq := rfl
@[simp] theorem setTwrCh_wave' (x : TowerCh) : (s.setTwrCh i x).wave = s.wave := rfl
@[simp] theorem setTwrCh_jobs' (x : TowerCh) : (s.setTwrCh i x).jobs = s.jobs := rfl
@[simp] theorem setTwrCh_chans' (x : TowerCh) : (s.setTwrCh i x).chans = s.chans := rfl
@[simp] theorem setTwrCh_ports' (x : TowerCh) : (s.setTwrCh i x).ports = s.ports := rfl
@[simp] theorem setTwrCh_afe' (x : TowerCh) : (s.setTwrCh i x).afe = s.afe := rfl
@[simp] theorem setTwrCh_twr_entry' (x : TowerCh) : (s.setTwrCh i x).twr.entry = s.twr.entry := rfl
@[simp] theorem setTwrCh_twr_lastServed' (x : TowerCh) : (s.setTwrCh i x).twr.lastServed = s.twr.lastServed := rfl
@[simp] theorem setTwrCh_twr_held' (x : TowerCh) : (s.setTwrCh i x).twr.held = s.twr.held := rfl
@[simp] theorem setTwrCh_twr_pool' (x : TowerCh) : (s.setTwrCh i x).twr.pool = s.twr.pool := rfl
@[simp] theorem setTwrCh_twr_macs' (x : TowerCh) : (s.setTwrCh i x).twr.macs = s.twr.macs := rfl
@[simp] theorem setTwrCh_twr_pre' (x : TowerCh) : (s.setTwrCh i x).twr.pre = s.twr.pre := rfl
@[simp] theorem setTwrCh_cry' (x : TowerCh) : (s.setTwrCh i x).cry = s.cry := rfl
@[simp] theorem setTwrCh_svc' (x : TowerCh) : (s.setTwrCh i x).svc = s.svc := rfl
@[simp] theorem setTwrCh_pan' (x : TowerCh) : (s.setTwrCh i x).pan = s.pan := rfl
@[simp] theorem setTwrCh_time' (x : TowerCh) : (s.setTwrCh i x).time = s.time := rfl
@[simp] theorem setTwrCh_launches' (x : TowerCh) : (s.setTwrCh i x).launches = s.launches := rfl
@[simp] theorem setTwrCh_timers' (x : TowerCh) : (s.setTwrCh i x).timers = s.timers := rfl
@[simp] theorem setTwrCh_slt' (x : TowerCh) : (s.setTwrCh i x).slt = s.slt := rfl
@[simp] theorem setTwrCh_rf' (x : TowerCh) : (s.setTwrCh i x).rf = s.rf := rfl
@[simp] theorem setTwrCh_doms' (x : TowerCh) : (s.setTwrCh i x).doms = s.doms := rfl
@[simp] theorem setTwrCh_ldg' (x : TowerCh) : (s.setTwrCh i x).ldg = s.ldg := rfl
@[simp] theorem setTwrCh_pln' (x : TowerCh) : (s.setTwrCh i x).pln = s.pln := rfl
@[simp] theorem setTwrCh_store' (x : TowerCh) : (s.setTwrCh i x).store = s.store := rfl
@[simp] theorem setTwrCh_life' (x : TowerCh) : (s.setTwrCh i x).life = s.life := rfl
@[simp] theorem setTwrCh_cal' (x : TowerCh) : (s.setTwrCh i x).cal = s.cal := rfl
@[simp] theorem setTwrCh_pwr' (x : TowerCh) : (s.setTwrCh i x).pwr = s.pwr := rfl
@[simp] theorem setTwrCh_host (x : TowerCh) : (s.setTwrCh i x).host j = s.host j := rfl
@[simp] theorem setTwrCh_target (x : TowerCh) : (s.setTwrCh i x).target j = s.target j := rfl
@[simp] theorem setTwrCh_src (x : TowerCh) : (s.setTwrCh i x).src j = s.src j := rfl
@[simp] theorem setTwrCh_sluice (x : TowerCh) : (s.setTwrCh i x).sluice j = s.sluice j := rfl
@[simp] theorem setTwrCh_pin (x : TowerCh) : (s.setTwrCh i x).pin j = s.pin j := rfl
@[simp] theorem setTwrCh_chan (x : TowerCh) : (s.setTwrCh i x).chan j = s.chan j := rfl
@[simp] theorem setTwrCh_port (x : TowerCh) : (s.setTwrCh i x).port j = s.port j := rfl
@[simp] theorem setTwrCh_launch (x : TowerCh) : (s.setTwrCh i x).launch j = s.launch j := rfl
@[simp] theorem setTwrCh_timer (x : TowerCh) : (s.setTwrCh i x).timer j = s.timer j := rfl
@[simp] theorem setTwrCh_dom (x : TowerCh) : (s.setTwrCh i x).dom j = s.dom j := rfl
@[simp] theorem setTwrCh_pre (x : TowerCh) : (s.setTwrCh i x).pre j = s.pre j := rfl
@[simp] theorem setTwrCh_seed (x : TowerCh) : (s.setTwrCh i x).seed j = s.seed j := rfl
@[simp] theorem setTwrCh_svcInst (x : TowerCh) : (s.setTwrCh i x).svcInst j = s.svcInst j := rfl
@[simp] theorem setTwrCh_orient (x : TowerCh) : (s.setTwrCh i x).orient j = s.orient j := rfl
@[simp] theorem setTwrCh_trend (x : TowerCh) : (s.setTwrCh i x).trend j = s.trend j := rfl
@[simp] theorem setTwrCh_mach (x : TowerCh) : (s.setTwrCh i x).mach j = s.mach j := rfl
@[simp] theorem setTwrCh_wear (x : TowerCh) : (s.setTwrCh i x).wear j = s.wear j := rfl
@[simp] theorem setTwrCh_wakeHost (x : TowerCh) : (s.setTwrCh i x).wakeHost j = s.wakeHost j := rfl
@[simp] theorem setTwrCh_stream (x : TowerCh) : (s.setTwrCh i x).stream j = s.stream j := rfl
@[simp] theorem setTwrCh_tb (x : TowerCh) : (s.setTwrCh i x).tb j = s.tb j := rfl
@[simp] theorem setTwrCh_link (x : TowerCh) : (s.setTwrCh i x).link j = s.link j := rfl
@[simp] theorem setTwrCh_peer (x : TowerCh) : (s.setTwrCh i x).peer j = s.peer j := rfl
@[simp] theorem setTwrCh_legLink (x : TowerCh) : (s.setTwrCh i x).legLink j = s.legLink j := rfl
@[simp] theorem setTwrCh_remote (x : TowerCh) : (s.setTwrCh i x).remote j = s.remote j := rfl
@[simp] theorem setTwrCh_rfBuf (x : TowerCh) : (s.setTwrCh i x).rfBuf j = s.rfBuf j := rfl
@[simp] theorem setTwrCh_meter (x : TowerCh) : (s.setTwrCh i x).meter j = s.meter j := rfl
@[simp] theorem setTwrCh_epochNow (x : TowerCh) : (s.setTwrCh i x).epochNow j = s.epochNow j := rfl
@[simp] theorem setTwrCh_epochPrev (x : TowerCh) : (s.setTwrCh i x).epochPrev j = s.epochPrev j := rfl
@[simp] theorem setTwrCh_patch (x : TowerCh) : (s.setTwrCh i x).patch j = s.patch j := rfl
@[simp] theorem setTwrCh_unit (x : TowerCh) : (s.setTwrCh i x).unit j = s.unit j := rfl

/-! ### `twr.pre` -/

@[simp] theorem modPre_eq (f : PreStage → PreStage) : s.modPre i f = s.setPre i (f (s.pre i)) := rfl
theorem setPre_pre (x : PreStage) : (s.setPre i x).pre j = if j = i then x else s.pre j := Tab.get_set _ _ _ _
@[simp] theorem setPre_pre_self (x : PreStage) : (s.setPre i x).pre i = x := Tab.get_set_self _ _ _
@[simp] theorem setPre_pending' (x : PreStage) : (s.setPre i x).pending = s.pending := rfl
@[simp] theorem setPre_tick' (x : PreStage) : (s.setPre i x).tick = s.tick := rfl
@[simp] theorem setPre_sub' (x : PreStage) : (s.setPre i x).sub = s.sub := rfl
@[simp] theorem setPre_provisioned' (x : PreStage) : (s.setPre i x).provisioned = s.provisioned := rfl
@[simp] theorem setPre_free' (x : PreStage) : (s.setPre i x).free = s.free := rfl
@[simp] theorem setPre_regs' (x : PreStage) : (s.setPre i x).regs = s.regs := rfl
@[simp] theorem setPre_applied' (x : PreStage) : (s.setPre i x).applied = s.applied := rfl
@[simp] theorem setPre_mem' (x : PreStage) : (s.setPre i x).mem = s.mem := rfl
@[simp] theorem setPre_hosts' (x : PreStage) : (s.setPre i x).hosts = s.hosts := rfl
@[simp] theorem setPre_turn' (x : PreStage) : (s.setPre i x).turn = s.turn := rfl
@[simp] theorem setPre_sessionNo' (x : PreStage) : (s.setPre i x).sessionNo = s.sessionNo := rfl
@[simp] theorem setPre_out' (x : PreStage) : (s.setPre i x).out = s.out := rfl
@[simp] theorem setPre_hp1Ibi' (x : PreStage) : (s.setPre i x).hp1Ibi = s.hp1Ibi := rfl
@[simp] theorem setPre_log' (x : PreStage) : (s.setPre i x).log = s.log := rfl
@[simp] theorem setPre_logSat' (x : PreStage) : (s.setPre i x).logSat = s.logSat := rfl
@[simp] theorem setPre_fenced' (x : PreStage) : (s.setPre i x).fenced = s.fenced := rfl
@[simp] theorem setPre_runs' (x : PreStage) : (s.setPre i x).runs = s.runs := rfl
@[simp] theorem setPre_check' (x : PreStage) : (s.setPre i x).check = s.check := rfl
@[simp] theorem setPre_snap' (x : PreStage) : (s.setPre i x).snap = s.snap := rfl
@[simp] theorem setPre_groups' (x : PreStage) : (s.setPre i x).groups = s.groups := rfl
@[simp] theorem setPre_targets' (x : PreStage) : (s.setPre i x).targets = s.targets := rfl
@[simp] theorem setPre_srcs' (x : PreStage) : (s.setPre i x).srcs = s.srcs := rfl
@[simp] theorem setPre_sluices' (x : PreStage) : (s.setPre i x).sluices = s.sluices := rfl
@[simp] theorem setPre_pins' (x : PreStage) : (s.setPre i x).pins = s.pins := rfl
@[simp] theorem setPre_evq' (x : PreStage) : (s.setPre i x).evq = s.evq := rfl
@[simp] theorem setPre_wave' (x : PreStage) : (s.setPre i x).wave = s.wave := rfl
@[simp] theorem setPre_jobs' (x : PreStage) : (s.setPre i x).jobs = s.jobs := rfl
@[simp] theorem setPre_chans' (x : PreStage) : (s.setPre i x).chans = s.chans := rfl
@[simp] theorem setPre_ports' (x : PreStage) : (s.setPre i x).ports = s.ports := rfl
@[simp] theorem setPre_afe' (x : PreStage) : (s.setPre i x).afe = s.afe := rfl
@[simp] theorem setPre_twr_entry' (x : PreStage) : (s.setPre i x).twr.entry = s.twr.entry := rfl
@[simp] theorem setPre_twr_lastServed' (x : PreStage) : (s.setPre i x).twr.lastServed = s.twr.lastServed := rfl
@[simp] theorem setPre_twr_ch' (x : PreStage) : (s.setPre i x).twr.ch = s.twr.ch := rfl
@[simp] theorem setPre_twr_held' (x : PreStage) : (s.setPre i x).twr.held = s.twr.held := rfl
@[simp] theorem setPre_twr_pool' (x : PreStage) : (s.setPre i x).twr.pool = s.twr.pool := rfl
@[simp] theorem setPre_twr_macs' (x : PreStage) : (s.setPre i x).twr.macs = s.twr.macs := rfl
@[simp] theorem setPre_cry' (x : PreStage) : (s.setPre i x).cry = s.cry := rfl
@[simp] theorem setPre_svc' (x : PreStage) : (s.setPre i x).svc = s.svc := rfl
@[simp] theorem setPre_pan' (x : PreStage) : (s.setPre i x).pan = s.pan := rfl
@[simp] theorem setPre_time' (x : PreStage) : (s.setPre i x).time = s.time := rfl
@[simp] theorem setPre_launches' (x : PreStage) : (s.setPre i x).launches = s.launches := rfl
@[simp] theorem setPre_timers' (x : PreStage) : (s.setPre i x).timers = s.timers := rfl
@[simp] theorem setPre_slt' (x : PreStage) : (s.setPre i x).slt = s.slt := rfl
@[simp] theorem setPre_rf' (x : PreStage) : (s.setPre i x).rf = s.rf := rfl
@[simp] theorem setPre_doms' (x : PreStage) : (s.setPre i x).doms = s.doms := rfl
@[simp] theorem setPre_ldg' (x : PreStage) : (s.setPre i x).ldg = s.ldg := rfl
@[simp] theorem setPre_pln' (x : PreStage) : (s.setPre i x).pln = s.pln := rfl
@[simp] theorem setPre_store' (x : PreStage) : (s.setPre i x).store = s.store := rfl
@[simp] theorem setPre_life' (x : PreStage) : (s.setPre i x).life = s.life := rfl
@[simp] theorem setPre_cal' (x : PreStage) : (s.setPre i x).cal = s.cal := rfl
@[simp] theorem setPre_pwr' (x : PreStage) : (s.setPre i x).pwr = s.pwr := rfl
@[simp] theorem setPre_host (x : PreStage) : (s.setPre i x).host j = s.host j := rfl
@[simp] theorem setPre_target (x : PreStage) : (s.setPre i x).target j = s.target j := rfl
@[simp] theorem setPre_src (x : PreStage) : (s.setPre i x).src j = s.src j := rfl
@[simp] theorem setPre_sluice (x : PreStage) : (s.setPre i x).sluice j = s.sluice j := rfl
@[simp] theorem setPre_pin (x : PreStage) : (s.setPre i x).pin j = s.pin j := rfl
@[simp] theorem setPre_chan (x : PreStage) : (s.setPre i x).chan j = s.chan j := rfl
@[simp] theorem setPre_port (x : PreStage) : (s.setPre i x).port j = s.port j := rfl
@[simp] theorem setPre_launch (x : PreStage) : (s.setPre i x).launch j = s.launch j := rfl
@[simp] theorem setPre_timer (x : PreStage) : (s.setPre i x).timer j = s.timer j := rfl
@[simp] theorem setPre_dom (x : PreStage) : (s.setPre i x).dom j = s.dom j := rfl
@[simp] theorem setPre_twrCh (x : PreStage) : (s.setPre i x).twrCh j = s.twrCh j := rfl
@[simp] theorem setPre_seed (x : PreStage) : (s.setPre i x).seed j = s.seed j := rfl
@[simp] theorem setPre_svcInst (x : PreStage) : (s.setPre i x).svcInst j = s.svcInst j := rfl
@[simp] theorem setPre_orient (x : PreStage) : (s.setPre i x).orient j = s.orient j := rfl
@[simp] theorem setPre_trend (x : PreStage) : (s.setPre i x).trend j = s.trend j := rfl
@[simp] theorem setPre_mach (x : PreStage) : (s.setPre i x).mach j = s.mach j := rfl
@[simp] theorem setPre_wear (x : PreStage) : (s.setPre i x).wear j = s.wear j := rfl
@[simp] theorem setPre_wakeHost (x : PreStage) : (s.setPre i x).wakeHost j = s.wakeHost j := rfl
@[simp] theorem setPre_stream (x : PreStage) : (s.setPre i x).stream j = s.stream j := rfl
@[simp] theorem setPre_tb (x : PreStage) : (s.setPre i x).tb j = s.tb j := rfl
@[simp] theorem setPre_link (x : PreStage) : (s.setPre i x).link j = s.link j := rfl
@[simp] theorem setPre_peer (x : PreStage) : (s.setPre i x).peer j = s.peer j := rfl
@[simp] theorem setPre_legLink (x : PreStage) : (s.setPre i x).legLink j = s.legLink j := rfl
@[simp] theorem setPre_remote (x : PreStage) : (s.setPre i x).remote j = s.remote j := rfl
@[simp] theorem setPre_rfBuf (x : PreStage) : (s.setPre i x).rfBuf j = s.rfBuf j := rfl
@[simp] theorem setPre_meter (x : PreStage) : (s.setPre i x).meter j = s.meter j := rfl
@[simp] theorem setPre_epochNow (x : PreStage) : (s.setPre i x).epochNow j = s.epochNow j := rfl
@[simp] theorem setPre_epochPrev (x : PreStage) : (s.setPre i x).epochPrev j = s.epochPrev j := rfl
@[simp] theorem setPre_patch (x : PreStage) : (s.setPre i x).patch j = s.patch j := rfl
@[simp] theorem setPre_unit (x : PreStage) : (s.setPre i x).unit j = s.unit j := rfl

/-! ### `cry.seeds` -/

@[simp] theorem modSeed_eq (f : Seed → Seed) : s.modSeed i f = s.setSeed i (f (s.seed i)) := rfl
theorem setSeed_seed (x : Seed) : (s.setSeed i x).seed j = if j = i then x else s.seed j := Tab.get_set _ _ _ _
@[simp] theorem setSeed_seed_self (x : Seed) : (s.setSeed i x).seed i = x := Tab.get_set_self _ _ _
@[simp] theorem setSeed_pending' (x : Seed) : (s.setSeed i x).pending = s.pending := rfl
@[simp] theorem setSeed_tick' (x : Seed) : (s.setSeed i x).tick = s.tick := rfl
@[simp] theorem setSeed_sub' (x : Seed) : (s.setSeed i x).sub = s.sub := rfl
@[simp] theorem setSeed_provisioned' (x : Seed) : (s.setSeed i x).provisioned = s.provisioned := rfl
@[simp] theorem setSeed_free' (x : Seed) : (s.setSeed i x).free = s.free := rfl
@[simp] theorem setSeed_regs' (x : Seed) : (s.setSeed i x).regs = s.regs := rfl
@[simp] theorem setSeed_applied' (x : Seed) : (s.setSeed i x).applied = s.applied := rfl
@[simp] theorem setSeed_mem' (x : Seed) : (s.setSeed i x).mem = s.mem := rfl
@[simp] theorem setSeed_hosts' (x : Seed) : (s.setSeed i x).hosts = s.hosts := rfl
@[simp] theorem setSeed_turn' (x : Seed) : (s.setSeed i x).turn = s.turn := rfl
@[simp] theorem setSeed_sessionNo' (x : Seed) : (s.setSeed i x).sessionNo = s.sessionNo := rfl
@[simp] theorem setSeed_out' (x : Seed) : (s.setSeed i x).out = s.out := rfl
@[simp] theorem setSeed_hp1Ibi' (x : Seed) : (s.setSeed i x).hp1Ibi = s.hp1Ibi := rfl
@[simp] theorem setSeed_log' (x : Seed) : (s.setSeed i x).log = s.log := rfl
@[simp] theorem setSeed_logSat' (x : Seed) : (s.setSeed i x).logSat = s.logSat := rfl
@[simp] theorem setSeed_fenced' (x : Seed) : (s.setSeed i x).fenced = s.fenced := rfl
@[simp] theorem setSeed_runs' (x : Seed) : (s.setSeed i x).runs = s.runs := rfl
@[simp] theorem setSeed_check' (x : Seed) : (s.setSeed i x).check = s.check := rfl
@[simp] theorem setSeed_snap' (x : Seed) : (s.setSeed i x).snap = s.snap := rfl
@[simp] theorem setSeed_groups' (x : Seed) : (s.setSeed i x).groups = s.groups := rfl
@[simp] theorem setSeed_targets' (x : Seed) : (s.setSeed i x).targets = s.targets := rfl
@[simp] theorem setSeed_srcs' (x : Seed) : (s.setSeed i x).srcs = s.srcs := rfl
@[simp] theorem setSeed_sluices' (x : Seed) : (s.setSeed i x).sluices = s.sluices := rfl
@[simp] theorem setSeed_pins' (x : Seed) : (s.setSeed i x).pins = s.pins := rfl
@[simp] theorem setSeed_evq' (x : Seed) : (s.setSeed i x).evq = s.evq := rfl
@[simp] theorem setSeed_wave' (x : Seed) : (s.setSeed i x).wave = s.wave := rfl
@[simp] theorem setSeed_jobs' (x : Seed) : (s.setSeed i x).jobs = s.jobs := rfl
@[simp] theorem setSeed_chans' (x : Seed) : (s.setSeed i x).chans = s.chans := rfl
@[simp] theorem setSeed_ports' (x : Seed) : (s.setSeed i x).ports = s.ports := rfl
@[simp] theorem setSeed_afe' (x : Seed) : (s.setSeed i x).afe = s.afe := rfl
@[simp] theorem setSeed_twr' (x : Seed) : (s.setSeed i x).twr = s.twr := rfl
@[simp] theorem setSeed_cry_fifo' (x : Seed) : (s.setSeed i x).cry.fifo = s.cry.fifo := rfl
@[simp] theorem setSeed_cry_macs' (x : Seed) : (s.setSeed i x).cry.macs = s.cry.macs := rfl
@[simp] theorem setSeed_cry_flags' (x : Seed) : (s.setSeed i x).cry.flags = s.cry.flags := rfl
@[simp] theorem setSeed_svc' (x : Seed) : (s.setSeed i x).svc = s.svc := rfl
@[simp] theorem setSeed_pan' (x : Seed) : (s.setSeed i x).pan = s.pan := rfl
@[simp] theorem setSeed_time' (x : Seed) : (s.setSeed i x).time = s.time := rfl
@[simp] theorem setSeed_launches' (x : Seed) : (s.setSeed i x).launches = s.launches := rfl
@[simp] theorem setSeed_timers' (x : Seed) : (s.setSeed i x).timers = s.timers := rfl
@[simp] theorem setSeed_slt' (x : Seed) : (s.setSeed i x).slt = s.slt := rfl
@[simp] theorem setSeed_rf' (x : Seed) : (s.setSeed i x).rf = s.rf := rfl
@[simp] theorem setSeed_doms' (x : Seed) : (s.setSeed i x).doms = s.doms := rfl
@[simp] theorem setSeed_ldg' (x : Seed) : (s.setSeed i x).ldg = s.ldg := rfl
@[simp] theorem setSeed_pln' (x : Seed) : (s.setSeed i x).pln = s.pln := rfl
@[simp] theorem setSeed_store' (x : Seed) : (s.setSeed i x).store = s.store := rfl
@[simp] theorem setSeed_life' (x : Seed) : (s.setSeed i x).life = s.life := rfl
@[simp] theorem setSeed_cal' (x : Seed) : (s.setSeed i x).cal = s.cal := rfl
@[simp] theorem setSeed_pwr' (x : Seed) : (s.setSeed i x).pwr = s.pwr := rfl
@[simp] theorem setSeed_host (x : Seed) : (s.setSeed i x).host j = s.host j := rfl
@[simp] theorem setSeed_target (x : Seed) : (s.setSeed i x).target j = s.target j := rfl
@[simp] theorem setSeed_src (x : Seed) : (s.setSeed i x).src j = s.src j := rfl
@[simp] theorem setSeed_sluice (x : Seed) : (s.setSeed i x).sluice j = s.sluice j := rfl
@[simp] theorem setSeed_pin (x : Seed) : (s.setSeed i x).pin j = s.pin j := rfl
@[simp] theorem setSeed_chan (x : Seed) : (s.setSeed i x).chan j = s.chan j := rfl
@[simp] theorem setSeed_port (x : Seed) : (s.setSeed i x).port j = s.port j := rfl
@[simp] theorem setSeed_launch (x : Seed) : (s.setSeed i x).launch j = s.launch j := rfl
@[simp] theorem setSeed_timer (x : Seed) : (s.setSeed i x).timer j = s.timer j := rfl
@[simp] theorem setSeed_dom (x : Seed) : (s.setSeed i x).dom j = s.dom j := rfl
@[simp] theorem setSeed_twrCh (x : Seed) : (s.setSeed i x).twrCh j = s.twrCh j := rfl
@[simp] theorem setSeed_pre (x : Seed) : (s.setSeed i x).pre j = s.pre j := rfl
@[simp] theorem setSeed_svcInst (x : Seed) : (s.setSeed i x).svcInst j = s.svcInst j := rfl
@[simp] theorem setSeed_orient (x : Seed) : (s.setSeed i x).orient j = s.orient j := rfl
@[simp] theorem setSeed_trend (x : Seed) : (s.setSeed i x).trend j = s.trend j := rfl
@[simp] theorem setSeed_mach (x : Seed) : (s.setSeed i x).mach j = s.mach j := rfl
@[simp] theorem setSeed_wear (x : Seed) : (s.setSeed i x).wear j = s.wear j := rfl
@[simp] theorem setSeed_wakeHost (x : Seed) : (s.setSeed i x).wakeHost j = s.wakeHost j := rfl
@[simp] theorem setSeed_stream (x : Seed) : (s.setSeed i x).stream j = s.stream j := rfl
@[simp] theorem setSeed_tb (x : Seed) : (s.setSeed i x).tb j = s.tb j := rfl
@[simp] theorem setSeed_link (x : Seed) : (s.setSeed i x).link j = s.link j := rfl
@[simp] theorem setSeed_peer (x : Seed) : (s.setSeed i x).peer j = s.peer j := rfl
@[simp] theorem setSeed_legLink (x : Seed) : (s.setSeed i x).legLink j = s.legLink j := rfl
@[simp] theorem setSeed_remote (x : Seed) : (s.setSeed i x).remote j = s.remote j := rfl
@[simp] theorem setSeed_rfBuf (x : Seed) : (s.setSeed i x).rfBuf j = s.rfBuf j := rfl
@[simp] theorem setSeed_meter (x : Seed) : (s.setSeed i x).meter j = s.meter j := rfl
@[simp] theorem setSeed_epochNow (x : Seed) : (s.setSeed i x).epochNow j = s.epochNow j := rfl
@[simp] theorem setSeed_epochPrev (x : Seed) : (s.setSeed i x).epochPrev j = s.epochPrev j := rfl
@[simp] theorem setSeed_patch (x : Seed) : (s.setSeed i x).patch j = s.patch j := rfl
@[simp] theorem setSeed_unit (x : Seed) : (s.setSeed i x).unit j = s.unit j := rfl

/-! ### `svc.inst` -/

@[simp] theorem modSvcInst_eq (f : SvcInst → SvcInst) : s.modSvcInst i f = s.setSvcInst i (f (s.svcInst i)) := rfl
theorem setSvcInst_svcInst (x : SvcInst) : (s.setSvcInst i x).svcInst j = if j = i then x else s.svcInst j := Tab.get_set _ _ _ _
@[simp] theorem setSvcInst_svcInst_self (x : SvcInst) : (s.setSvcInst i x).svcInst i = x := Tab.get_set_self _ _ _
@[simp] theorem setSvcInst_pending' (x : SvcInst) : (s.setSvcInst i x).pending = s.pending := rfl
@[simp] theorem setSvcInst_tick' (x : SvcInst) : (s.setSvcInst i x).tick = s.tick := rfl
@[simp] theorem setSvcInst_sub' (x : SvcInst) : (s.setSvcInst i x).sub = s.sub := rfl
@[simp] theorem setSvcInst_provisioned' (x : SvcInst) : (s.setSvcInst i x).provisioned = s.provisioned := rfl
@[simp] theorem setSvcInst_free' (x : SvcInst) : (s.setSvcInst i x).free = s.free := rfl
@[simp] theorem setSvcInst_regs' (x : SvcInst) : (s.setSvcInst i x).regs = s.regs := rfl
@[simp] theorem setSvcInst_applied' (x : SvcInst) : (s.setSvcInst i x).applied = s.applied := rfl
@[simp] theorem setSvcInst_mem' (x : SvcInst) : (s.setSvcInst i x).mem = s.mem := rfl
@[simp] theorem setSvcInst_hosts' (x : SvcInst) : (s.setSvcInst i x).hosts = s.hosts := rfl
@[simp] theorem setSvcInst_turn' (x : SvcInst) : (s.setSvcInst i x).turn = s.turn := rfl
@[simp] theorem setSvcInst_sessionNo' (x : SvcInst) : (s.setSvcInst i x).sessionNo = s.sessionNo := rfl
@[simp] theorem setSvcInst_out' (x : SvcInst) : (s.setSvcInst i x).out = s.out := rfl
@[simp] theorem setSvcInst_hp1Ibi' (x : SvcInst) : (s.setSvcInst i x).hp1Ibi = s.hp1Ibi := rfl
@[simp] theorem setSvcInst_log' (x : SvcInst) : (s.setSvcInst i x).log = s.log := rfl
@[simp] theorem setSvcInst_logSat' (x : SvcInst) : (s.setSvcInst i x).logSat = s.logSat := rfl
@[simp] theorem setSvcInst_fenced' (x : SvcInst) : (s.setSvcInst i x).fenced = s.fenced := rfl
@[simp] theorem setSvcInst_runs' (x : SvcInst) : (s.setSvcInst i x).runs = s.runs := rfl
@[simp] theorem setSvcInst_check' (x : SvcInst) : (s.setSvcInst i x).check = s.check := rfl
@[simp] theorem setSvcInst_snap' (x : SvcInst) : (s.setSvcInst i x).snap = s.snap := rfl
@[simp] theorem setSvcInst_groups' (x : SvcInst) : (s.setSvcInst i x).groups = s.groups := rfl
@[simp] theorem setSvcInst_targets' (x : SvcInst) : (s.setSvcInst i x).targets = s.targets := rfl
@[simp] theorem setSvcInst_srcs' (x : SvcInst) : (s.setSvcInst i x).srcs = s.srcs := rfl
@[simp] theorem setSvcInst_sluices' (x : SvcInst) : (s.setSvcInst i x).sluices = s.sluices := rfl
@[simp] theorem setSvcInst_pins' (x : SvcInst) : (s.setSvcInst i x).pins = s.pins := rfl
@[simp] theorem setSvcInst_evq' (x : SvcInst) : (s.setSvcInst i x).evq = s.evq := rfl
@[simp] theorem setSvcInst_wave' (x : SvcInst) : (s.setSvcInst i x).wave = s.wave := rfl
@[simp] theorem setSvcInst_jobs' (x : SvcInst) : (s.setSvcInst i x).jobs = s.jobs := rfl
@[simp] theorem setSvcInst_chans' (x : SvcInst) : (s.setSvcInst i x).chans = s.chans := rfl
@[simp] theorem setSvcInst_ports' (x : SvcInst) : (s.setSvcInst i x).ports = s.ports := rfl
@[simp] theorem setSvcInst_afe' (x : SvcInst) : (s.setSvcInst i x).afe = s.afe := rfl
@[simp] theorem setSvcInst_twr' (x : SvcInst) : (s.setSvcInst i x).twr = s.twr := rfl
@[simp] theorem setSvcInst_cry' (x : SvcInst) : (s.setSvcInst i x).cry = s.cry := rfl
@[simp] theorem setSvcInst_svc_stored' (x : SvcInst) : (s.setSvcInst i x).svc.stored = s.svc.stored := rfl
@[simp] theorem setSvcInst_svc_applied' (x : SvcInst) : (s.setSvcInst i x).svc.applied = s.svc.applied := rfl
@[simp] theorem setSvcInst_svc_orient' (x : SvcInst) : (s.setSvcInst i x).svc.orient = s.svc.orient := rfl
@[simp] theorem setSvcInst_svc_trend' (x : SvcInst) : (s.setSvcInst i x).svc.trend = s.svc.trend := rfl
@[simp] theorem setSvcInst_svc_trendLast' (x : SvcInst) : (s.setSvcInst i x).svc.trendLast = s.svc.trendLast := rfl
@[simp] theorem setSvcInst_svc_mach' (x : SvcInst) : (s.setSvcInst i x).svc.mach = s.svc.mach := rfl
@[simp] theorem setSvcInst_svc_wear' (x : SvcInst) : (s.setSvcInst i x).svc.wear = s.svc.wear := rfl
@[simp] theorem setSvcInst_svc_wake' (x : SvcInst) : (s.setSvcInst i x).svc.wake = s.svc.wake := rfl
@[simp] theorem setSvcInst_svc_queue' (x : SvcInst) : (s.setSvcInst i x).svc.queue = s.svc.queue := rfl
@[simp] theorem setSvcInst_svc_wakeReqs' (x : SvcInst) : (s.setSvcInst i x).svc.wakeReqs = s.svc.wakeReqs := rfl
@[simp] theorem setSvcInst_pan' (x : SvcInst) : (s.setSvcInst i x).pan = s.pan := rfl
@[simp] theorem setSvcInst_time' (x : SvcInst) : (s.setSvcInst i x).time = s.time := rfl
@[simp] theorem setSvcInst_launches' (x : SvcInst) : (s.setSvcInst i x).launches = s.launches := rfl
@[simp] theorem setSvcInst_timers' (x : SvcInst) : (s.setSvcInst i x).timers = s.timers := rfl
@[simp] theorem setSvcInst_slt' (x : SvcInst) : (s.setSvcInst i x).slt = s.slt := rfl
@[simp] theorem setSvcInst_rf' (x : SvcInst) : (s.setSvcInst i x).rf = s.rf := rfl
@[simp] theorem setSvcInst_doms' (x : SvcInst) : (s.setSvcInst i x).doms = s.doms := rfl
@[simp] theorem setSvcInst_ldg' (x : SvcInst) : (s.setSvcInst i x).ldg = s.ldg := rfl
@[simp] theorem setSvcInst_pln' (x : SvcInst) : (s.setSvcInst i x).pln = s.pln := rfl
@[simp] theorem setSvcInst_store' (x : SvcInst) : (s.setSvcInst i x).store = s.store := rfl
@[simp] theorem setSvcInst_life' (x : SvcInst) : (s.setSvcInst i x).life = s.life := rfl
@[simp] theorem setSvcInst_cal' (x : SvcInst) : (s.setSvcInst i x).cal = s.cal := rfl
@[simp] theorem setSvcInst_pwr' (x : SvcInst) : (s.setSvcInst i x).pwr = s.pwr := rfl
@[simp] theorem setSvcInst_host (x : SvcInst) : (s.setSvcInst i x).host j = s.host j := rfl
@[simp] theorem setSvcInst_target (x : SvcInst) : (s.setSvcInst i x).target j = s.target j := rfl
@[simp] theorem setSvcInst_src (x : SvcInst) : (s.setSvcInst i x).src j = s.src j := rfl
@[simp] theorem setSvcInst_sluice (x : SvcInst) : (s.setSvcInst i x).sluice j = s.sluice j := rfl
@[simp] theorem setSvcInst_pin (x : SvcInst) : (s.setSvcInst i x).pin j = s.pin j := rfl
@[simp] theorem setSvcInst_chan (x : SvcInst) : (s.setSvcInst i x).chan j = s.chan j := rfl
@[simp] theorem setSvcInst_port (x : SvcInst) : (s.setSvcInst i x).port j = s.port j := rfl
@[simp] theorem setSvcInst_launch (x : SvcInst) : (s.setSvcInst i x).launch j = s.launch j := rfl
@[simp] theorem setSvcInst_timer (x : SvcInst) : (s.setSvcInst i x).timer j = s.timer j := rfl
@[simp] theorem setSvcInst_dom (x : SvcInst) : (s.setSvcInst i x).dom j = s.dom j := rfl
@[simp] theorem setSvcInst_twrCh (x : SvcInst) : (s.setSvcInst i x).twrCh j = s.twrCh j := rfl
@[simp] theorem setSvcInst_pre (x : SvcInst) : (s.setSvcInst i x).pre j = s.pre j := rfl
@[simp] theorem setSvcInst_seed (x : SvcInst) : (s.setSvcInst i x).seed j = s.seed j := rfl
@[simp] theorem setSvcInst_orient (x : SvcInst) : (s.setSvcInst i x).orient j = s.orient j := rfl
@[simp] theorem setSvcInst_trend (x : SvcInst) : (s.setSvcInst i x).trend j = s.trend j := rfl
@[simp] theorem setSvcInst_mach (x : SvcInst) : (s.setSvcInst i x).mach j = s.mach j := rfl
@[simp] theorem setSvcInst_wear (x : SvcInst) : (s.setSvcInst i x).wear j = s.wear j := rfl
@[simp] theorem setSvcInst_wakeHost (x : SvcInst) : (s.setSvcInst i x).wakeHost j = s.wakeHost j := rfl
@[simp] theorem setSvcInst_stream (x : SvcInst) : (s.setSvcInst i x).stream j = s.stream j := rfl
@[simp] theorem setSvcInst_tb (x : SvcInst) : (s.setSvcInst i x).tb j = s.tb j := rfl
@[simp] theorem setSvcInst_link (x : SvcInst) : (s.setSvcInst i x).link j = s.link j := rfl
@[simp] theorem setSvcInst_peer (x : SvcInst) : (s.setSvcInst i x).peer j = s.peer j := rfl
@[simp] theorem setSvcInst_legLink (x : SvcInst) : (s.setSvcInst i x).legLink j = s.legLink j := rfl
@[simp] theorem setSvcInst_remote (x : SvcInst) : (s.setSvcInst i x).remote j = s.remote j := rfl
@[simp] theorem setSvcInst_rfBuf (x : SvcInst) : (s.setSvcInst i x).rfBuf j = s.rfBuf j := rfl
@[simp] theorem setSvcInst_meter (x : SvcInst) : (s.setSvcInst i x).meter j = s.meter j := rfl
@[simp] theorem setSvcInst_epochNow (x : SvcInst) : (s.setSvcInst i x).epochNow j = s.epochNow j := rfl
@[simp] theorem setSvcInst_epochPrev (x : SvcInst) : (s.setSvcInst i x).epochPrev j = s.epochPrev j := rfl
@[simp] theorem setSvcInst_patch (x : SvcInst) : (s.setSvcInst i x).patch j = s.patch j := rfl
@[simp] theorem setSvcInst_unit (x : SvcInst) : (s.setSvcInst i x).unit j = s.unit j := rfl

/-! ### `svc.orient` -/

@[simp] theorem modOrient_eq (f : Orient → Orient) : s.modOrient i f = s.setOrient i (f (s.orient i)) := rfl
theorem setOrient_orient (x : Orient) : (s.setOrient i x).orient j = if j = i then x else s.orient j := Tab.get_set _ _ _ _
@[simp] theorem setOrient_orient_self (x : Orient) : (s.setOrient i x).orient i = x := Tab.get_set_self _ _ _
@[simp] theorem setOrient_pending' (x : Orient) : (s.setOrient i x).pending = s.pending := rfl
@[simp] theorem setOrient_tick' (x : Orient) : (s.setOrient i x).tick = s.tick := rfl
@[simp] theorem setOrient_sub' (x : Orient) : (s.setOrient i x).sub = s.sub := rfl
@[simp] theorem setOrient_provisioned' (x : Orient) : (s.setOrient i x).provisioned = s.provisioned := rfl
@[simp] theorem setOrient_free' (x : Orient) : (s.setOrient i x).free = s.free := rfl
@[simp] theorem setOrient_regs' (x : Orient) : (s.setOrient i x).regs = s.regs := rfl
@[simp] theorem setOrient_applied' (x : Orient) : (s.setOrient i x).applied = s.applied := rfl
@[simp] theorem setOrient_mem' (x : Orient) : (s.setOrient i x).mem = s.mem := rfl
@[simp] theorem setOrient_hosts' (x : Orient) : (s.setOrient i x).hosts = s.hosts := rfl
@[simp] theorem setOrient_turn' (x : Orient) : (s.setOrient i x).turn = s.turn := rfl
@[simp] theorem setOrient_sessionNo' (x : Orient) : (s.setOrient i x).sessionNo = s.sessionNo := rfl
@[simp] theorem setOrient_out' (x : Orient) : (s.setOrient i x).out = s.out := rfl
@[simp] theorem setOrient_hp1Ibi' (x : Orient) : (s.setOrient i x).hp1Ibi = s.hp1Ibi := rfl
@[simp] theorem setOrient_log' (x : Orient) : (s.setOrient i x).log = s.log := rfl
@[simp] theorem setOrient_logSat' (x : Orient) : (s.setOrient i x).logSat = s.logSat := rfl
@[simp] theorem setOrient_fenced' (x : Orient) : (s.setOrient i x).fenced = s.fenced := rfl
@[simp] theorem setOrient_runs' (x : Orient) : (s.setOrient i x).runs = s.runs := rfl
@[simp] theorem setOrient_check' (x : Orient) : (s.setOrient i x).check = s.check := rfl
@[simp] theorem setOrient_snap' (x : Orient) : (s.setOrient i x).snap = s.snap := rfl
@[simp] theorem setOrient_groups' (x : Orient) : (s.setOrient i x).groups = s.groups := rfl
@[simp] theorem setOrient_targets' (x : Orient) : (s.setOrient i x).targets = s.targets := rfl
@[simp] theorem setOrient_srcs' (x : Orient) : (s.setOrient i x).srcs = s.srcs := rfl
@[simp] theorem setOrient_sluices' (x : Orient) : (s.setOrient i x).sluices = s.sluices := rfl
@[simp] theorem setOrient_pins' (x : Orient) : (s.setOrient i x).pins = s.pins := rfl
@[simp] theorem setOrient_evq' (x : Orient) : (s.setOrient i x).evq = s.evq := rfl
@[simp] theorem setOrient_wave' (x : Orient) : (s.setOrient i x).wave = s.wave := rfl
@[simp] theorem setOrient_jobs' (x : Orient) : (s.setOrient i x).jobs = s.jobs := rfl
@[simp] theorem setOrient_chans' (x : Orient) : (s.setOrient i x).chans = s.chans := rfl
@[simp] theorem setOrient_ports' (x : Orient) : (s.setOrient i x).ports = s.ports := rfl
@[simp] theorem setOrient_afe' (x : Orient) : (s.setOrient i x).afe = s.afe := rfl
@[simp] theorem setOrient_twr' (x : Orient) : (s.setOrient i x).twr = s.twr := rfl
@[simp] theorem setOrient_cry' (x : Orient) : (s.setOrient i x).cry = s.cry := rfl
@[simp] theorem setOrient_svc_stored' (x : Orient) : (s.setOrient i x).svc.stored = s.svc.stored := rfl
@[simp] theorem setOrient_svc_applied' (x : Orient) : (s.setOrient i x).svc.applied = s.svc.applied := rfl
@[simp] theorem setOrient_svc_inst' (x : Orient) : (s.setOrient i x).svc.inst = s.svc.inst := rfl
@[simp] theorem setOrient_svc_trend' (x : Orient) : (s.setOrient i x).svc.trend = s.svc.trend := rfl
@[simp] theorem setOrient_svc_trendLast' (x : Orient) : (s.setOrient i x).svc.trendLast = s.svc.trendLast := rfl
@[simp] theorem setOrient_svc_mach' (x : Orient) : (s.setOrient i x).svc.mach = s.svc.mach := rfl
@[simp] theorem setOrient_svc_wear' (x : Orient) : (s.setOrient i x).svc.wear = s.svc.wear := rfl
@[simp] theorem setOrient_svc_wake' (x : Orient) : (s.setOrient i x).svc.wake = s.svc.wake := rfl
@[simp] theorem setOrient_svc_queue' (x : Orient) : (s.setOrient i x).svc.queue = s.svc.queue := rfl
@[simp] theorem setOrient_svc_wakeReqs' (x : Orient) : (s.setOrient i x).svc.wakeReqs = s.svc.wakeReqs := rfl
@[simp] theorem setOrient_pan' (x : Orient) : (s.setOrient i x).pan = s.pan := rfl
@[simp] theorem setOrient_time' (x : Orient) : (s.setOrient i x).time = s.time := rfl
@[simp] theorem setOrient_launches' (x : Orient) : (s.setOrient i x).launches = s.launches := rfl
@[simp] theorem setOrient_timers' (x : Orient) : (s.setOrient i x).timers = s.timers := rfl
@[simp] theorem setOrient_slt' (x : Orient) : (s.setOrient i x).slt = s.slt := rfl
@[simp] theorem setOrient_rf' (x : Orient) : (s.setOrient i x).rf = s.rf := rfl
@[simp] theorem setOrient_doms' (x : Orient) : (s.setOrient i x).doms = s.doms := rfl
@[simp] theorem setOrient_ldg' (x : Orient) : (s.setOrient i x).ldg = s.ldg := rfl
@[simp] theorem setOrient_pln' (x : Orient) : (s.setOrient i x).pln = s.pln := rfl
@[simp] theorem setOrient_store' (x : Orient) : (s.setOrient i x).store = s.store := rfl
@[simp] theorem setOrient_life' (x : Orient) : (s.setOrient i x).life = s.life := rfl
@[simp] theorem setOrient_cal' (x : Orient) : (s.setOrient i x).cal = s.cal := rfl
@[simp] theorem setOrient_pwr' (x : Orient) : (s.setOrient i x).pwr = s.pwr := rfl
@[simp] theorem setOrient_host (x : Orient) : (s.setOrient i x).host j = s.host j := rfl
@[simp] theorem setOrient_target (x : Orient) : (s.setOrient i x).target j = s.target j := rfl
@[simp] theorem setOrient_src (x : Orient) : (s.setOrient i x).src j = s.src j := rfl
@[simp] theorem setOrient_sluice (x : Orient) : (s.setOrient i x).sluice j = s.sluice j := rfl
@[simp] theorem setOrient_pin (x : Orient) : (s.setOrient i x).pin j = s.pin j := rfl
@[simp] theorem setOrient_chan (x : Orient) : (s.setOrient i x).chan j = s.chan j := rfl
@[simp] theorem setOrient_port (x : Orient) : (s.setOrient i x).port j = s.port j := rfl
@[simp] theorem setOrient_launch (x : Orient) : (s.setOrient i x).launch j = s.launch j := rfl
@[simp] theorem setOrient_timer (x : Orient) : (s.setOrient i x).timer j = s.timer j := rfl
@[simp] theorem setOrient_dom (x : Orient) : (s.setOrient i x).dom j = s.dom j := rfl
@[simp] theorem setOrient_twrCh (x : Orient) : (s.setOrient i x).twrCh j = s.twrCh j := rfl
@[simp] theorem setOrient_pre (x : Orient) : (s.setOrient i x).pre j = s.pre j := rfl
@[simp] theorem setOrient_seed (x : Orient) : (s.setOrient i x).seed j = s.seed j := rfl
@[simp] theorem setOrient_svcInst (x : Orient) : (s.setOrient i x).svcInst j = s.svcInst j := rfl
@[simp] theorem setOrient_trend (x : Orient) : (s.setOrient i x).trend j = s.trend j := rfl
@[simp] theorem setOrient_mach (x : Orient) : (s.setOrient i x).mach j = s.mach j := rfl
@[simp] theorem setOrient_wear (x : Orient) : (s.setOrient i x).wear j = s.wear j := rfl
@[simp] theorem setOrient_wakeHost (x : Orient) : (s.setOrient i x).wakeHost j = s.wakeHost j := rfl
@[simp] theorem setOrient_stream (x : Orient) : (s.setOrient i x).stream j = s.stream j := rfl
@[simp] theorem setOrient_tb (x : Orient) : (s.setOrient i x).tb j = s.tb j := rfl
@[simp] theorem setOrient_link (x : Orient) : (s.setOrient i x).link j = s.link j := rfl
@[simp] theorem setOrient_peer (x : Orient) : (s.setOrient i x).peer j = s.peer j := rfl
@[simp] theorem setOrient_legLink (x : Orient) : (s.setOrient i x).legLink j = s.legLink j := rfl
@[simp] theorem setOrient_remote (x : Orient) : (s.setOrient i x).remote j = s.remote j := rfl
@[simp] theorem setOrient_rfBuf (x : Orient) : (s.setOrient i x).rfBuf j = s.rfBuf j := rfl
@[simp] theorem setOrient_meter (x : Orient) : (s.setOrient i x).meter j = s.meter j := rfl
@[simp] theorem setOrient_epochNow (x : Orient) : (s.setOrient i x).epochNow j = s.epochNow j := rfl
@[simp] theorem setOrient_epochPrev (x : Orient) : (s.setOrient i x).epochPrev j = s.epochPrev j := rfl
@[simp] theorem setOrient_patch (x : Orient) : (s.setOrient i x).patch j = s.patch j := rfl
@[simp] theorem setOrient_unit (x : Orient) : (s.setOrient i x).unit j = s.unit j := rfl

/-! ### `svc.trend` -/

@[simp] theorem modTrend_eq (f : TrendPeriod → TrendPeriod) : s.modTrend i f = s.setTrend i (f (s.trend i)) := rfl
theorem setTrend_trend (x : TrendPeriod) : (s.setTrend i x).trend j = if j = i then x else s.trend j := Tab.get_set _ _ _ _
@[simp] theorem setTrend_trend_self (x : TrendPeriod) : (s.setTrend i x).trend i = x := Tab.get_set_self _ _ _
@[simp] theorem setTrend_pending' (x : TrendPeriod) : (s.setTrend i x).pending = s.pending := rfl
@[simp] theorem setTrend_tick' (x : TrendPeriod) : (s.setTrend i x).tick = s.tick := rfl
@[simp] theorem setTrend_sub' (x : TrendPeriod) : (s.setTrend i x).sub = s.sub := rfl
@[simp] theorem setTrend_provisioned' (x : TrendPeriod) : (s.setTrend i x).provisioned = s.provisioned := rfl
@[simp] theorem setTrend_free' (x : TrendPeriod) : (s.setTrend i x).free = s.free := rfl
@[simp] theorem setTrend_regs' (x : TrendPeriod) : (s.setTrend i x).regs = s.regs := rfl
@[simp] theorem setTrend_applied' (x : TrendPeriod) : (s.setTrend i x).applied = s.applied := rfl
@[simp] theorem setTrend_mem' (x : TrendPeriod) : (s.setTrend i x).mem = s.mem := rfl
@[simp] theorem setTrend_hosts' (x : TrendPeriod) : (s.setTrend i x).hosts = s.hosts := rfl
@[simp] theorem setTrend_turn' (x : TrendPeriod) : (s.setTrend i x).turn = s.turn := rfl
@[simp] theorem setTrend_sessionNo' (x : TrendPeriod) : (s.setTrend i x).sessionNo = s.sessionNo := rfl
@[simp] theorem setTrend_out' (x : TrendPeriod) : (s.setTrend i x).out = s.out := rfl
@[simp] theorem setTrend_hp1Ibi' (x : TrendPeriod) : (s.setTrend i x).hp1Ibi = s.hp1Ibi := rfl
@[simp] theorem setTrend_log' (x : TrendPeriod) : (s.setTrend i x).log = s.log := rfl
@[simp] theorem setTrend_logSat' (x : TrendPeriod) : (s.setTrend i x).logSat = s.logSat := rfl
@[simp] theorem setTrend_fenced' (x : TrendPeriod) : (s.setTrend i x).fenced = s.fenced := rfl
@[simp] theorem setTrend_runs' (x : TrendPeriod) : (s.setTrend i x).runs = s.runs := rfl
@[simp] theorem setTrend_check' (x : TrendPeriod) : (s.setTrend i x).check = s.check := rfl
@[simp] theorem setTrend_snap' (x : TrendPeriod) : (s.setTrend i x).snap = s.snap := rfl
@[simp] theorem setTrend_groups' (x : TrendPeriod) : (s.setTrend i x).groups = s.groups := rfl
@[simp] theorem setTrend_targets' (x : TrendPeriod) : (s.setTrend i x).targets = s.targets := rfl
@[simp] theorem setTrend_srcs' (x : TrendPeriod) : (s.setTrend i x).srcs = s.srcs := rfl
@[simp] theorem setTrend_sluices' (x : TrendPeriod) : (s.setTrend i x).sluices = s.sluices := rfl
@[simp] theorem setTrend_pins' (x : TrendPeriod) : (s.setTrend i x).pins = s.pins := rfl
@[simp] theorem setTrend_evq' (x : TrendPeriod) : (s.setTrend i x).evq = s.evq := rfl
@[simp] theorem setTrend_wave' (x : TrendPeriod) : (s.setTrend i x).wave = s.wave := rfl
@[simp] theorem setTrend_jobs' (x : TrendPeriod) : (s.setTrend i x).jobs = s.jobs := rfl
@[simp] theorem setTrend_chans' (x : TrendPeriod) : (s.setTrend i x).chans = s.chans := rfl
@[simp] theorem setTrend_ports' (x : TrendPeriod) : (s.setTrend i x).ports = s.ports := rfl
@[simp] theorem setTrend_afe' (x : TrendPeriod) : (s.setTrend i x).afe = s.afe := rfl
@[simp] theorem setTrend_twr' (x : TrendPeriod) : (s.setTrend i x).twr = s.twr := rfl
@[simp] theorem setTrend_cry' (x : TrendPeriod) : (s.setTrend i x).cry = s.cry := rfl
@[simp] theorem setTrend_svc_stored' (x : TrendPeriod) : (s.setTrend i x).svc.stored = s.svc.stored := rfl
@[simp] theorem setTrend_svc_applied' (x : TrendPeriod) : (s.setTrend i x).svc.applied = s.svc.applied := rfl
@[simp] theorem setTrend_svc_inst' (x : TrendPeriod) : (s.setTrend i x).svc.inst = s.svc.inst := rfl
@[simp] theorem setTrend_svc_orient' (x : TrendPeriod) : (s.setTrend i x).svc.orient = s.svc.orient := rfl
@[simp] theorem setTrend_svc_trendLast' (x : TrendPeriod) : (s.setTrend i x).svc.trendLast = s.svc.trendLast := rfl
@[simp] theorem setTrend_svc_mach' (x : TrendPeriod) : (s.setTrend i x).svc.mach = s.svc.mach := rfl
@[simp] theorem setTrend_svc_wear' (x : TrendPeriod) : (s.setTrend i x).svc.wear = s.svc.wear := rfl
@[simp] theorem setTrend_svc_wake' (x : TrendPeriod) : (s.setTrend i x).svc.wake = s.svc.wake := rfl
@[simp] theorem setTrend_svc_queue' (x : TrendPeriod) : (s.setTrend i x).svc.queue = s.svc.queue := rfl
@[simp] theorem setTrend_svc_wakeReqs' (x : TrendPeriod) : (s.setTrend i x).svc.wakeReqs = s.svc.wakeReqs := rfl
@[simp] theorem setTrend_pan' (x : TrendPeriod) : (s.setTrend i x).pan = s.pan := rfl
@[simp] theorem setTrend_time' (x : TrendPeriod) : (s.setTrend i x).time = s.time := rfl
@[simp] theorem setTrend_launches' (x : TrendPeriod) : (s.setTrend i x).launches = s.launches := rfl
@[simp] theorem setTrend_timers' (x : TrendPeriod) : (s.setTrend i x).timers = s.timers := rfl
@[simp] theorem setTrend_slt' (x : TrendPeriod) : (s.setTrend i x).slt = s.slt := rfl
@[simp] theorem setTrend_rf' (x : TrendPeriod) : (s.setTrend i x).rf = s.rf := rfl
@[simp] theorem setTrend_doms' (x : TrendPeriod) : (s.setTrend i x).doms = s.doms := rfl
@[simp] theorem setTrend_ldg' (x : TrendPeriod) : (s.setTrend i x).ldg = s.ldg := rfl
@[simp] theorem setTrend_pln' (x : TrendPeriod) : (s.setTrend i x).pln = s.pln := rfl
@[simp] theorem setTrend_store' (x : TrendPeriod) : (s.setTrend i x).store = s.store := rfl
@[simp] theorem setTrend_life' (x : TrendPeriod) : (s.setTrend i x).life = s.life := rfl
@[simp] theorem setTrend_cal' (x : TrendPeriod) : (s.setTrend i x).cal = s.cal := rfl
@[simp] theorem setTrend_pwr' (x : TrendPeriod) : (s.setTrend i x).pwr = s.pwr := rfl
@[simp] theorem setTrend_host (x : TrendPeriod) : (s.setTrend i x).host j = s.host j := rfl
@[simp] theorem setTrend_target (x : TrendPeriod) : (s.setTrend i x).target j = s.target j := rfl
@[simp] theorem setTrend_src (x : TrendPeriod) : (s.setTrend i x).src j = s.src j := rfl
@[simp] theorem setTrend_sluice (x : TrendPeriod) : (s.setTrend i x).sluice j = s.sluice j := rfl
@[simp] theorem setTrend_pin (x : TrendPeriod) : (s.setTrend i x).pin j = s.pin j := rfl
@[simp] theorem setTrend_chan (x : TrendPeriod) : (s.setTrend i x).chan j = s.chan j := rfl
@[simp] theorem setTrend_port (x : TrendPeriod) : (s.setTrend i x).port j = s.port j := rfl
@[simp] theorem setTrend_launch (x : TrendPeriod) : (s.setTrend i x).launch j = s.launch j := rfl
@[simp] theorem setTrend_timer (x : TrendPeriod) : (s.setTrend i x).timer j = s.timer j := rfl
@[simp] theorem setTrend_dom (x : TrendPeriod) : (s.setTrend i x).dom j = s.dom j := rfl
@[simp] theorem setTrend_twrCh (x : TrendPeriod) : (s.setTrend i x).twrCh j = s.twrCh j := rfl
@[simp] theorem setTrend_pre (x : TrendPeriod) : (s.setTrend i x).pre j = s.pre j := rfl
@[simp] theorem setTrend_seed (x : TrendPeriod) : (s.setTrend i x).seed j = s.seed j := rfl
@[simp] theorem setTrend_svcInst (x : TrendPeriod) : (s.setTrend i x).svcInst j = s.svcInst j := rfl
@[simp] theorem setTrend_orient (x : TrendPeriod) : (s.setTrend i x).orient j = s.orient j := rfl
@[simp] theorem setTrend_mach (x : TrendPeriod) : (s.setTrend i x).mach j = s.mach j := rfl
@[simp] theorem setTrend_wear (x : TrendPeriod) : (s.setTrend i x).wear j = s.wear j := rfl
@[simp] theorem setTrend_wakeHost (x : TrendPeriod) : (s.setTrend i x).wakeHost j = s.wakeHost j := rfl
@[simp] theorem setTrend_stream (x : TrendPeriod) : (s.setTrend i x).stream j = s.stream j := rfl
@[simp] theorem setTrend_tb (x : TrendPeriod) : (s.setTrend i x).tb j = s.tb j := rfl
@[simp] theorem setTrend_link (x : TrendPeriod) : (s.setTrend i x).link j = s.link j := rfl
@[simp] theorem setTrend_peer (x : TrendPeriod) : (s.setTrend i x).peer j = s.peer j := rfl
@[simp] theorem setTrend_legLink (x : TrendPeriod) : (s.setTrend i x).legLink j = s.legLink j := rfl
@[simp] theorem setTrend_remote (x : TrendPeriod) : (s.setTrend i x).remote j = s.remote j := rfl
@[simp] theorem setTrend_rfBuf (x : TrendPeriod) : (s.setTrend i x).rfBuf j = s.rfBuf j := rfl
@[simp] theorem setTrend_meter (x : TrendPeriod) : (s.setTrend i x).meter j = s.meter j := rfl
@[simp] theorem setTrend_epochNow (x : TrendPeriod) : (s.setTrend i x).epochNow j = s.epochNow j := rfl
@[simp] theorem setTrend_epochPrev (x : TrendPeriod) : (s.setTrend i x).epochPrev j = s.epochPrev j := rfl
@[simp] theorem setTrend_patch (x : TrendPeriod) : (s.setTrend i x).patch j = s.patch j := rfl
@[simp] theorem setTrend_unit (x : TrendPeriod) : (s.setTrend i x).unit j = s.unit j := rfl

/-! ### `svc.mach` -/

@[simp] theorem modMach_eq (f : Mach → Mach) : s.modMach i f = s.setMach i (f (s.mach i)) := rfl
theorem setMach_mach (x : Mach) : (s.setMach i x).mach j = if j = i then x else s.mach j := Tab.get_set _ _ _ _
@[simp] theorem setMach_mach_self (x : Mach) : (s.setMach i x).mach i = x := Tab.get_set_self _ _ _
@[simp] theorem setMach_pending' (x : Mach) : (s.setMach i x).pending = s.pending := rfl
@[simp] theorem setMach_tick' (x : Mach) : (s.setMach i x).tick = s.tick := rfl
@[simp] theorem setMach_sub' (x : Mach) : (s.setMach i x).sub = s.sub := rfl
@[simp] theorem setMach_provisioned' (x : Mach) : (s.setMach i x).provisioned = s.provisioned := rfl
@[simp] theorem setMach_free' (x : Mach) : (s.setMach i x).free = s.free := rfl
@[simp] theorem setMach_regs' (x : Mach) : (s.setMach i x).regs = s.regs := rfl
@[simp] theorem setMach_applied' (x : Mach) : (s.setMach i x).applied = s.applied := rfl
@[simp] theorem setMach_mem' (x : Mach) : (s.setMach i x).mem = s.mem := rfl
@[simp] theorem setMach_hosts' (x : Mach) : (s.setMach i x).hosts = s.hosts := rfl
@[simp] theorem setMach_turn' (x : Mach) : (s.setMach i x).turn = s.turn := rfl
@[simp] theorem setMach_sessionNo' (x : Mach) : (s.setMach i x).sessionNo = s.sessionNo := rfl
@[simp] theorem setMach_out' (x : Mach) : (s.setMach i x).out = s.out := rfl
@[simp] theorem setMach_hp1Ibi' (x : Mach) : (s.setMach i x).hp1Ibi = s.hp1Ibi := rfl
@[simp] theorem setMach_log' (x : Mach) : (s.setMach i x).log = s.log := rfl
@[simp] theorem setMach_logSat' (x : Mach) : (s.setMach i x).logSat = s.logSat := rfl
@[simp] theorem setMach_fenced' (x : Mach) : (s.setMach i x).fenced = s.fenced := rfl
@[simp] theorem setMach_runs' (x : Mach) : (s.setMach i x).runs = s.runs := rfl
@[simp] theorem setMach_check' (x : Mach) : (s.setMach i x).check = s.check := rfl
@[simp] theorem setMach_snap' (x : Mach) : (s.setMach i x).snap = s.snap := rfl
@[simp] theorem setMach_groups' (x : Mach) : (s.setMach i x).groups = s.groups := rfl
@[simp] theorem setMach_targets' (x : Mach) : (s.setMach i x).targets = s.targets := rfl
@[simp] theorem setMach_srcs' (x : Mach) : (s.setMach i x).srcs = s.srcs := rfl
@[simp] theorem setMach_sluices' (x : Mach) : (s.setMach i x).sluices = s.sluices := rfl
@[simp] theorem setMach_pins' (x : Mach) : (s.setMach i x).pins = s.pins := rfl
@[simp] theorem setMach_evq' (x : Mach) : (s.setMach i x).evq = s.evq := rfl
@[simp] theorem setMach_wave' (x : Mach) : (s.setMach i x).wave = s.wave := rfl
@[simp] theorem setMach_jobs' (x : Mach) : (s.setMach i x).jobs = s.jobs := rfl
@[simp] theorem setMach_chans' (x : Mach) : (s.setMach i x).chans = s.chans := rfl
@[simp] theorem setMach_ports' (x : Mach) : (s.setMach i x).ports = s.ports := rfl
@[simp] theorem setMach_afe' (x : Mach) : (s.setMach i x).afe = s.afe := rfl
@[simp] theorem setMach_twr' (x : Mach) : (s.setMach i x).twr = s.twr := rfl
@[simp] theorem setMach_cry' (x : Mach) : (s.setMach i x).cry = s.cry := rfl
@[simp] theorem setMach_svc_stored' (x : Mach) : (s.setMach i x).svc.stored = s.svc.stored := rfl
@[simp] theorem setMach_svc_applied' (x : Mach) : (s.setMach i x).svc.applied = s.svc.applied := rfl
@[simp] theorem setMach_svc_inst' (x : Mach) : (s.setMach i x).svc.inst = s.svc.inst := rfl
@[simp] theorem setMach_svc_orient' (x : Mach) : (s.setMach i x).svc.orient = s.svc.orient := rfl
@[simp] theorem setMach_svc_trend' (x : Mach) : (s.setMach i x).svc.trend = s.svc.trend := rfl
@[simp] theorem setMach_svc_trendLast' (x : Mach) : (s.setMach i x).svc.trendLast = s.svc.trendLast := rfl
@[simp] theorem setMach_svc_wear' (x : Mach) : (s.setMach i x).svc.wear = s.svc.wear := rfl
@[simp] theorem setMach_svc_wake' (x : Mach) : (s.setMach i x).svc.wake = s.svc.wake := rfl
@[simp] theorem setMach_svc_queue' (x : Mach) : (s.setMach i x).svc.queue = s.svc.queue := rfl
@[simp] theorem setMach_svc_wakeReqs' (x : Mach) : (s.setMach i x).svc.wakeReqs = s.svc.wakeReqs := rfl
@[simp] theorem setMach_pan' (x : Mach) : (s.setMach i x).pan = s.pan := rfl
@[simp] theorem setMach_time' (x : Mach) : (s.setMach i x).time = s.time := rfl
@[simp] theorem setMach_launches' (x : Mach) : (s.setMach i x).launches = s.launches := rfl
@[simp] theorem setMach_timers' (x : Mach) : (s.setMach i x).timers = s.timers := rfl
@[simp] theorem setMach_slt' (x : Mach) : (s.setMach i x).slt = s.slt := rfl
@[simp] theorem setMach_rf' (x : Mach) : (s.setMach i x).rf = s.rf := rfl
@[simp] theorem setMach_doms' (x : Mach) : (s.setMach i x).doms = s.doms := rfl
@[simp] theorem setMach_ldg' (x : Mach) : (s.setMach i x).ldg = s.ldg := rfl
@[simp] theorem setMach_pln' (x : Mach) : (s.setMach i x).pln = s.pln := rfl
@[simp] theorem setMach_store' (x : Mach) : (s.setMach i x).store = s.store := rfl
@[simp] theorem setMach_life' (x : Mach) : (s.setMach i x).life = s.life := rfl
@[simp] theorem setMach_cal' (x : Mach) : (s.setMach i x).cal = s.cal := rfl
@[simp] theorem setMach_pwr' (x : Mach) : (s.setMach i x).pwr = s.pwr := rfl
@[simp] theorem setMach_host (x : Mach) : (s.setMach i x).host j = s.host j := rfl
@[simp] theorem setMach_target (x : Mach) : (s.setMach i x).target j = s.target j := rfl
@[simp] theorem setMach_src (x : Mach) : (s.setMach i x).src j = s.src j := rfl
@[simp] theorem setMach_sluice (x : Mach) : (s.setMach i x).sluice j = s.sluice j := rfl
@[simp] theorem setMach_pin (x : Mach) : (s.setMach i x).pin j = s.pin j := rfl
@[simp] theorem setMach_chan (x : Mach) : (s.setMach i x).chan j = s.chan j := rfl
@[simp] theorem setMach_port (x : Mach) : (s.setMach i x).port j = s.port j := rfl
@[simp] theorem setMach_launch (x : Mach) : (s.setMach i x).launch j = s.launch j := rfl
@[simp] theorem setMach_timer (x : Mach) : (s.setMach i x).timer j = s.timer j := rfl
@[simp] theorem setMach_dom (x : Mach) : (s.setMach i x).dom j = s.dom j := rfl
@[simp] theorem setMach_twrCh (x : Mach) : (s.setMach i x).twrCh j = s.twrCh j := rfl
@[simp] theorem setMach_pre (x : Mach) : (s.setMach i x).pre j = s.pre j := rfl
@[simp] theorem setMach_seed (x : Mach) : (s.setMach i x).seed j = s.seed j := rfl
@[simp] theorem setMach_svcInst (x : Mach) : (s.setMach i x).svcInst j = s.svcInst j := rfl
@[simp] theorem setMach_orient (x : Mach) : (s.setMach i x).orient j = s.orient j := rfl
@[simp] theorem setMach_trend (x : Mach) : (s.setMach i x).trend j = s.trend j := rfl
@[simp] theorem setMach_wear (x : Mach) : (s.setMach i x).wear j = s.wear j := rfl
@[simp] theorem setMach_wakeHost (x : Mach) : (s.setMach i x).wakeHost j = s.wakeHost j := rfl
@[simp] theorem setMach_stream (x : Mach) : (s.setMach i x).stream j = s.stream j := rfl
@[simp] theorem setMach_tb (x : Mach) : (s.setMach i x).tb j = s.tb j := rfl
@[simp] theorem setMach_link (x : Mach) : (s.setMach i x).link j = s.link j := rfl
@[simp] theorem setMach_peer (x : Mach) : (s.setMach i x).peer j = s.peer j := rfl
@[simp] theorem setMach_legLink (x : Mach) : (s.setMach i x).legLink j = s.legLink j := rfl
@[simp] theorem setMach_remote (x : Mach) : (s.setMach i x).remote j = s.remote j := rfl
@[simp] theorem setMach_rfBuf (x : Mach) : (s.setMach i x).rfBuf j = s.rfBuf j := rfl
@[simp] theorem setMach_meter (x : Mach) : (s.setMach i x).meter j = s.meter j := rfl
@[simp] theorem setMach_epochNow (x : Mach) : (s.setMach i x).epochNow j = s.epochNow j := rfl
@[simp] theorem setMach_epochPrev (x : Mach) : (s.setMach i x).epochPrev j = s.epochPrev j := rfl
@[simp] theorem setMach_patch (x : Mach) : (s.setMach i x).patch j = s.patch j := rfl
@[simp] theorem setMach_unit (x : Mach) : (s.setMach i x).unit j = s.unit j := rfl

/-! ### `svc.wear` -/

@[simp] theorem modWear_eq (f : Wear → Wear) : s.modWear i f = s.setWear i (f (s.wear i)) := rfl
theorem setWear_wear (x : Wear) : (s.setWear i x).wear j = if j = i then x else s.wear j := Tab.get_set _ _ _ _
@[simp] theorem setWear_wear_self (x : Wear) : (s.setWear i x).wear i = x := Tab.get_set_self _ _ _
@[simp] theorem setWear_pending' (x : Wear) : (s.setWear i x).pending = s.pending := rfl
@[simp] theorem setWear_tick' (x : Wear) : (s.setWear i x).tick = s.tick := rfl
@[simp] theorem setWear_sub' (x : Wear) : (s.setWear i x).sub = s.sub := rfl
@[simp] theorem setWear_provisioned' (x : Wear) : (s.setWear i x).provisioned = s.provisioned := rfl
@[simp] theorem setWear_free' (x : Wear) : (s.setWear i x).free = s.free := rfl
@[simp] theorem setWear_regs' (x : Wear) : (s.setWear i x).regs = s.regs := rfl
@[simp] theorem setWear_applied' (x : Wear) : (s.setWear i x).applied = s.applied := rfl
@[simp] theorem setWear_mem' (x : Wear) : (s.setWear i x).mem = s.mem := rfl
@[simp] theorem setWear_hosts' (x : Wear) : (s.setWear i x).hosts = s.hosts := rfl
@[simp] theorem setWear_turn' (x : Wear) : (s.setWear i x).turn = s.turn := rfl
@[simp] theorem setWear_sessionNo' (x : Wear) : (s.setWear i x).sessionNo = s.sessionNo := rfl
@[simp] theorem setWear_out' (x : Wear) : (s.setWear i x).out = s.out := rfl
@[simp] theorem setWear_hp1Ibi' (x : Wear) : (s.setWear i x).hp1Ibi = s.hp1Ibi := rfl
@[simp] theorem setWear_log' (x : Wear) : (s.setWear i x).log = s.log := rfl
@[simp] theorem setWear_logSat' (x : Wear) : (s.setWear i x).logSat = s.logSat := rfl
@[simp] theorem setWear_fenced' (x : Wear) : (s.setWear i x).fenced = s.fenced := rfl
@[simp] theorem setWear_runs' (x : Wear) : (s.setWear i x).runs = s.runs := rfl
@[simp] theorem setWear_check' (x : Wear) : (s.setWear i x).check = s.check := rfl
@[simp] theorem setWear_snap' (x : Wear) : (s.setWear i x).snap = s.snap := rfl
@[simp] theorem setWear_groups' (x : Wear) : (s.setWear i x).groups = s.groups := rfl
@[simp] theorem setWear_targets' (x : Wear) : (s.setWear i x).targets = s.targets := rfl
@[simp] theorem setWear_srcs' (x : Wear) : (s.setWear i x).srcs = s.srcs := rfl
@[simp] theorem setWear_sluices' (x : Wear) : (s.setWear i x).sluices = s.sluices := rfl
@[simp] theorem setWear_pins' (x : Wear) : (s.setWear i x).pins = s.pins := rfl
@[simp] theorem setWear_evq' (x : Wear) : (s.setWear i x).evq = s.evq := rfl
@[simp] theorem setWear_wave' (x : Wear) : (s.setWear i x).wave = s.wave := rfl
@[simp] theorem setWear_jobs' (x : Wear) : (s.setWear i x).jobs = s.jobs := rfl
@[simp] theorem setWear_chans' (x : Wear) : (s.setWear i x).chans = s.chans := rfl
@[simp] theorem setWear_ports' (x : Wear) : (s.setWear i x).ports = s.ports := rfl
@[simp] theorem setWear_afe' (x : Wear) : (s.setWear i x).afe = s.afe := rfl
@[simp] theorem setWear_twr' (x : Wear) : (s.setWear i x).twr = s.twr := rfl
@[simp] theorem setWear_cry' (x : Wear) : (s.setWear i x).cry = s.cry := rfl
@[simp] theorem setWear_svc_stored' (x : Wear) : (s.setWear i x).svc.stored = s.svc.stored := rfl
@[simp] theorem setWear_svc_applied' (x : Wear) : (s.setWear i x).svc.applied = s.svc.applied := rfl
@[simp] theorem setWear_svc_inst' (x : Wear) : (s.setWear i x).svc.inst = s.svc.inst := rfl
@[simp] theorem setWear_svc_orient' (x : Wear) : (s.setWear i x).svc.orient = s.svc.orient := rfl
@[simp] theorem setWear_svc_trend' (x : Wear) : (s.setWear i x).svc.trend = s.svc.trend := rfl
@[simp] theorem setWear_svc_trendLast' (x : Wear) : (s.setWear i x).svc.trendLast = s.svc.trendLast := rfl
@[simp] theorem setWear_svc_mach' (x : Wear) : (s.setWear i x).svc.mach = s.svc.mach := rfl
@[simp] theorem setWear_svc_wake' (x : Wear) : (s.setWear i x).svc.wake = s.svc.wake := rfl
@[simp] theorem setWear_svc_queue' (x : Wear) : (s.setWear i x).svc.queue = s.svc.queue := rfl
@[simp] theorem setWear_svc_wakeReqs' (x : Wear) : (s.setWear i x).svc.wakeReqs = s.svc.wakeReqs := rfl
@[simp] theorem setWear_pan' (x : Wear) : (s.setWear i x).pan = s.pan := rfl
@[simp] theorem setWear_time' (x : Wear) : (s.setWear i x).time = s.time := rfl
@[simp] theorem setWear_launches' (x : Wear) : (s.setWear i x).launches = s.launches := rfl
@[simp] theorem setWear_timers' (x : Wear) : (s.setWear i x).timers = s.timers := rfl
@[simp] theorem setWear_slt' (x : Wear) : (s.setWear i x).slt = s.slt := rfl
@[simp] theorem setWear_rf' (x : Wear) : (s.setWear i x).rf = s.rf := rfl
@[simp] theorem setWear_doms' (x : Wear) : (s.setWear i x).doms = s.doms := rfl
@[simp] theorem setWear_ldg' (x : Wear) : (s.setWear i x).ldg = s.ldg := rfl
@[simp] theorem setWear_pln' (x : Wear) : (s.setWear i x).pln = s.pln := rfl
@[simp] theorem setWear_store' (x : Wear) : (s.setWear i x).store = s.store := rfl
@[simp] theorem setWear_life' (x : Wear) : (s.setWear i x).life = s.life := rfl
@[simp] theorem setWear_cal' (x : Wear) : (s.setWear i x).cal = s.cal := rfl
@[simp] theorem setWear_pwr' (x : Wear) : (s.setWear i x).pwr = s.pwr := rfl
@[simp] theorem setWear_host (x : Wear) : (s.setWear i x).host j = s.host j := rfl
@[simp] theorem setWear_target (x : Wear) : (s.setWear i x).target j = s.target j := rfl
@[simp] theorem setWear_src (x : Wear) : (s.setWear i x).src j = s.src j := rfl
@[simp] theorem setWear_sluice (x : Wear) : (s.setWear i x).sluice j = s.sluice j := rfl
@[simp] theorem setWear_pin (x : Wear) : (s.setWear i x).pin j = s.pin j := rfl
@[simp] theorem setWear_chan (x : Wear) : (s.setWear i x).chan j = s.chan j := rfl
@[simp] theorem setWear_port (x : Wear) : (s.setWear i x).port j = s.port j := rfl
@[simp] theorem setWear_launch (x : Wear) : (s.setWear i x).launch j = s.launch j := rfl
@[simp] theorem setWear_timer (x : Wear) : (s.setWear i x).timer j = s.timer j := rfl
@[simp] theorem setWear_dom (x : Wear) : (s.setWear i x).dom j = s.dom j := rfl
@[simp] theorem setWear_twrCh (x : Wear) : (s.setWear i x).twrCh j = s.twrCh j := rfl
@[simp] theorem setWear_pre (x : Wear) : (s.setWear i x).pre j = s.pre j := rfl
@[simp] theorem setWear_seed (x : Wear) : (s.setWear i x).seed j = s.seed j := rfl
@[simp] theorem setWear_svcInst (x : Wear) : (s.setWear i x).svcInst j = s.svcInst j := rfl
@[simp] theorem setWear_orient (x : Wear) : (s.setWear i x).orient j = s.orient j := rfl
@[simp] theorem setWear_trend (x : Wear) : (s.setWear i x).trend j = s.trend j := rfl
@[simp] theorem setWear_mach (x : Wear) : (s.setWear i x).mach j = s.mach j := rfl
@[simp] theorem setWear_wakeHost (x : Wear) : (s.setWear i x).wakeHost j = s.wakeHost j := rfl
@[simp] theorem setWear_stream (x : Wear) : (s.setWear i x).stream j = s.stream j := rfl
@[simp] theorem setWear_tb (x : Wear) : (s.setWear i x).tb j = s.tb j := rfl
@[simp] theorem setWear_link (x : Wear) : (s.setWear i x).link j = s.link j := rfl
@[simp] theorem setWear_peer (x : Wear) : (s.setWear i x).peer j = s.peer j := rfl
@[simp] theorem setWear_legLink (x : Wear) : (s.setWear i x).legLink j = s.legLink j := rfl
@[simp] theorem setWear_remote (x : Wear) : (s.setWear i x).remote j = s.remote j := rfl
@[simp] theorem setWear_rfBuf (x : Wear) : (s.setWear i x).rfBuf j = s.rfBuf j := rfl
@[simp] theorem setWear_meter (x : Wear) : (s.setWear i x).meter j = s.meter j := rfl
@[simp] theorem setWear_epochNow (x : Wear) : (s.setWear i x).epochNow j = s.epochNow j := rfl
@[simp] theorem setWear_epochPrev (x : Wear) : (s.setWear i x).epochPrev j = s.epochPrev j := rfl
@[simp] theorem setWear_patch (x : Wear) : (s.setWear i x).patch j = s.patch j := rfl
@[simp] theorem setWear_unit (x : Wear) : (s.setWear i x).unit j = s.unit j := rfl

/-! ### `svc.wake` -/

@[simp] theorem modWakeHost_eq (f : WakeHost → WakeHost) : s.modWakeHost i f = s.setWakeHost i (f (s.wakeHost i)) := rfl
theorem setWakeHost_wakeHost (x : WakeHost) : (s.setWakeHost i x).wakeHost j = if j = i then x else s.wakeHost j := Tab.get_set _ _ _ _
@[simp] theorem setWakeHost_wakeHost_self (x : WakeHost) : (s.setWakeHost i x).wakeHost i = x := Tab.get_set_self _ _ _
@[simp] theorem setWakeHost_pending' (x : WakeHost) : (s.setWakeHost i x).pending = s.pending := rfl
@[simp] theorem setWakeHost_tick' (x : WakeHost) : (s.setWakeHost i x).tick = s.tick := rfl
@[simp] theorem setWakeHost_sub' (x : WakeHost) : (s.setWakeHost i x).sub = s.sub := rfl
@[simp] theorem setWakeHost_provisioned' (x : WakeHost) : (s.setWakeHost i x).provisioned = s.provisioned := rfl
@[simp] theorem setWakeHost_free' (x : WakeHost) : (s.setWakeHost i x).free = s.free := rfl
@[simp] theorem setWakeHost_regs' (x : WakeHost) : (s.setWakeHost i x).regs = s.regs := rfl
@[simp] theorem setWakeHost_applied' (x : WakeHost) : (s.setWakeHost i x).applied = s.applied := rfl
@[simp] theorem setWakeHost_mem' (x : WakeHost) : (s.setWakeHost i x).mem = s.mem := rfl
@[simp] theorem setWakeHost_hosts' (x : WakeHost) : (s.setWakeHost i x).hosts = s.hosts := rfl
@[simp] theorem setWakeHost_turn' (x : WakeHost) : (s.setWakeHost i x).turn = s.turn := rfl
@[simp] theorem setWakeHost_sessionNo' (x : WakeHost) : (s.setWakeHost i x).sessionNo = s.sessionNo := rfl
@[simp] theorem setWakeHost_out' (x : WakeHost) : (s.setWakeHost i x).out = s.out := rfl
@[simp] theorem setWakeHost_hp1Ibi' (x : WakeHost) : (s.setWakeHost i x).hp1Ibi = s.hp1Ibi := rfl
@[simp] theorem setWakeHost_log' (x : WakeHost) : (s.setWakeHost i x).log = s.log := rfl
@[simp] theorem setWakeHost_logSat' (x : WakeHost) : (s.setWakeHost i x).logSat = s.logSat := rfl
@[simp] theorem setWakeHost_fenced' (x : WakeHost) : (s.setWakeHost i x).fenced = s.fenced := rfl
@[simp] theorem setWakeHost_runs' (x : WakeHost) : (s.setWakeHost i x).runs = s.runs := rfl
@[simp] theorem setWakeHost_check' (x : WakeHost) : (s.setWakeHost i x).check = s.check := rfl
@[simp] theorem setWakeHost_snap' (x : WakeHost) : (s.setWakeHost i x).snap = s.snap := rfl
@[simp] theorem setWakeHost_groups' (x : WakeHost) : (s.setWakeHost i x).groups = s.groups := rfl
@[simp] theorem setWakeHost_targets' (x : WakeHost) : (s.setWakeHost i x).targets = s.targets := rfl
@[simp] theorem setWakeHost_srcs' (x : WakeHost) : (s.setWakeHost i x).srcs = s.srcs := rfl
@[simp] theorem setWakeHost_sluices' (x : WakeHost) : (s.setWakeHost i x).sluices = s.sluices := rfl
@[simp] theorem setWakeHost_pins' (x : WakeHost) : (s.setWakeHost i x).pins = s.pins := rfl
@[simp] theorem setWakeHost_evq' (x : WakeHost) : (s.setWakeHost i x).evq = s.evq := rfl
@[simp] theorem setWakeHost_wave' (x : WakeHost) : (s.setWakeHost i x).wave = s.wave := rfl
@[simp] theorem setWakeHost_jobs' (x : WakeHost) : (s.setWakeHost i x).jobs = s.jobs := rfl
@[simp] theorem setWakeHost_chans' (x : WakeHost) : (s.setWakeHost i x).chans = s.chans := rfl
@[simp] theorem setWakeHost_ports' (x : WakeHost) : (s.setWakeHost i x).ports = s.ports := rfl
@[simp] theorem setWakeHost_afe' (x : WakeHost) : (s.setWakeHost i x).afe = s.afe := rfl
@[simp] theorem setWakeHost_twr' (x : WakeHost) : (s.setWakeHost i x).twr = s.twr := rfl
@[simp] theorem setWakeHost_cry' (x : WakeHost) : (s.setWakeHost i x).cry = s.cry := rfl
@[simp] theorem setWakeHost_svc_stored' (x : WakeHost) : (s.setWakeHost i x).svc.stored = s.svc.stored := rfl
@[simp] theorem setWakeHost_svc_applied' (x : WakeHost) : (s.setWakeHost i x).svc.applied = s.svc.applied := rfl
@[simp] theorem setWakeHost_svc_inst' (x : WakeHost) : (s.setWakeHost i x).svc.inst = s.svc.inst := rfl
@[simp] theorem setWakeHost_svc_orient' (x : WakeHost) : (s.setWakeHost i x).svc.orient = s.svc.orient := rfl
@[simp] theorem setWakeHost_svc_trend' (x : WakeHost) : (s.setWakeHost i x).svc.trend = s.svc.trend := rfl
@[simp] theorem setWakeHost_svc_trendLast' (x : WakeHost) : (s.setWakeHost i x).svc.trendLast = s.svc.trendLast := rfl
@[simp] theorem setWakeHost_svc_mach' (x : WakeHost) : (s.setWakeHost i x).svc.mach = s.svc.mach := rfl
@[simp] theorem setWakeHost_svc_wear' (x : WakeHost) : (s.setWakeHost i x).svc.wear = s.svc.wear := rfl
@[simp] theorem setWakeHost_svc_queue' (x : WakeHost) : (s.setWakeHost i x).svc.queue = s.svc.queue := rfl
@[simp] theorem setWakeHost_svc_wakeReqs' (x : WakeHost) : (s.setWakeHost i x).svc.wakeReqs = s.svc.wakeReqs := rfl
@[simp] theorem setWakeHost_pan' (x : WakeHost) : (s.setWakeHost i x).pan = s.pan := rfl
@[simp] theorem setWakeHost_time' (x : WakeHost) : (s.setWakeHost i x).time = s.time := rfl
@[simp] theorem setWakeHost_launches' (x : WakeHost) : (s.setWakeHost i x).launches = s.launches := rfl
@[simp] theorem setWakeHost_timers' (x : WakeHost) : (s.setWakeHost i x).timers = s.timers := rfl
@[simp] theorem setWakeHost_slt' (x : WakeHost) : (s.setWakeHost i x).slt = s.slt := rfl
@[simp] theorem setWakeHost_rf' (x : WakeHost) : (s.setWakeHost i x).rf = s.rf := rfl
@[simp] theorem setWakeHost_doms' (x : WakeHost) : (s.setWakeHost i x).doms = s.doms := rfl
@[simp] theorem setWakeHost_ldg' (x : WakeHost) : (s.setWakeHost i x).ldg = s.ldg := rfl
@[simp] theorem setWakeHost_pln' (x : WakeHost) : (s.setWakeHost i x).pln = s.pln := rfl
@[simp] theorem setWakeHost_store' (x : WakeHost) : (s.setWakeHost i x).store = s.store := rfl
@[simp] theorem setWakeHost_life' (x : WakeHost) : (s.setWakeHost i x).life = s.life := rfl
@[simp] theorem setWakeHost_cal' (x : WakeHost) : (s.setWakeHost i x).cal = s.cal := rfl
@[simp] theorem setWakeHost_pwr' (x : WakeHost) : (s.setWakeHost i x).pwr = s.pwr := rfl
@[simp] theorem setWakeHost_host (x : WakeHost) : (s.setWakeHost i x).host j = s.host j := rfl
@[simp] theorem setWakeHost_target (x : WakeHost) : (s.setWakeHost i x).target j = s.target j := rfl
@[simp] theorem setWakeHost_src (x : WakeHost) : (s.setWakeHost i x).src j = s.src j := rfl
@[simp] theorem setWakeHost_sluice (x : WakeHost) : (s.setWakeHost i x).sluice j = s.sluice j := rfl
@[simp] theorem setWakeHost_pin (x : WakeHost) : (s.setWakeHost i x).pin j = s.pin j := rfl
@[simp] theorem setWakeHost_chan (x : WakeHost) : (s.setWakeHost i x).chan j = s.chan j := rfl
@[simp] theorem setWakeHost_port (x : WakeHost) : (s.setWakeHost i x).port j = s.port j := rfl
@[simp] theorem setWakeHost_launch (x : WakeHost) : (s.setWakeHost i x).launch j = s.launch j := rfl
@[simp] theorem setWakeHost_timer (x : WakeHost) : (s.setWakeHost i x).timer j = s.timer j := rfl
@[simp] theorem setWakeHost_dom (x : WakeHost) : (s.setWakeHost i x).dom j = s.dom j := rfl
@[simp] theorem setWakeHost_twrCh (x : WakeHost) : (s.setWakeHost i x).twrCh j = s.twrCh j := rfl
@[simp] theorem setWakeHost_pre (x : WakeHost) : (s.setWakeHost i x).pre j = s.pre j := rfl
@[simp] theorem setWakeHost_seed (x : WakeHost) : (s.setWakeHost i x).seed j = s.seed j := rfl
@[simp] theorem setWakeHost_svcInst (x : WakeHost) : (s.setWakeHost i x).svcInst j = s.svcInst j := rfl
@[simp] theorem setWakeHost_orient (x : WakeHost) : (s.setWakeHost i x).orient j = s.orient j := rfl
@[simp] theorem setWakeHost_trend (x : WakeHost) : (s.setWakeHost i x).trend j = s.trend j := rfl
@[simp] theorem setWakeHost_mach (x : WakeHost) : (s.setWakeHost i x).mach j = s.mach j := rfl
@[simp] theorem setWakeHost_wear (x : WakeHost) : (s.setWakeHost i x).wear j = s.wear j := rfl
@[simp] theorem setWakeHost_stream (x : WakeHost) : (s.setWakeHost i x).stream j = s.stream j := rfl
@[simp] theorem setWakeHost_tb (x : WakeHost) : (s.setWakeHost i x).tb j = s.tb j := rfl
@[simp] theorem setWakeHost_link (x : WakeHost) : (s.setWakeHost i x).link j = s.link j := rfl
@[simp] theorem setWakeHost_peer (x : WakeHost) : (s.setWakeHost i x).peer j = s.peer j := rfl
@[simp] theorem setWakeHost_legLink (x : WakeHost) : (s.setWakeHost i x).legLink j = s.legLink j := rfl
@[simp] theorem setWakeHost_remote (x : WakeHost) : (s.setWakeHost i x).remote j = s.remote j := rfl
@[simp] theorem setWakeHost_rfBuf (x : WakeHost) : (s.setWakeHost i x).rfBuf j = s.rfBuf j := rfl
@[simp] theorem setWakeHost_meter (x : WakeHost) : (s.setWakeHost i x).meter j = s.meter j := rfl
@[simp] theorem setWakeHost_epochNow (x : WakeHost) : (s.setWakeHost i x).epochNow j = s.epochNow j := rfl
@[simp] theorem setWakeHost_epochPrev (x : WakeHost) : (s.setWakeHost i x).epochPrev j = s.epochPrev j := rfl
@[simp] theorem setWakeHost_patch (x : WakeHost) : (s.setWakeHost i x).patch j = s.patch j := rfl
@[simp] theorem setWakeHost_unit (x : WakeHost) : (s.setWakeHost i x).unit j = s.unit j := rfl

/-! ### `pan.streams` -/

@[simp] theorem modStream_eq (f : Stream → Stream) : s.modStream i f = s.setStream i (f (s.stream i)) := rfl
theorem setStream_stream (x : Stream) : (s.setStream i x).stream j = if j = i then x else s.stream j := Tab.get_set _ _ _ _
@[simp] theorem setStream_stream_self (x : Stream) : (s.setStream i x).stream i = x := Tab.get_set_self _ _ _
@[simp] theorem setStream_pending' (x : Stream) : (s.setStream i x).pending = s.pending := rfl
@[simp] theorem setStream_tick' (x : Stream) : (s.setStream i x).tick = s.tick := rfl
@[simp] theorem setStream_sub' (x : Stream) : (s.setStream i x).sub = s.sub := rfl
@[simp] theorem setStream_provisioned' (x : Stream) : (s.setStream i x).provisioned = s.provisioned := rfl
@[simp] theorem setStream_free' (x : Stream) : (s.setStream i x).free = s.free := rfl
@[simp] theorem setStream_regs' (x : Stream) : (s.setStream i x).regs = s.regs := rfl
@[simp] theorem setStream_applied' (x : Stream) : (s.setStream i x).applied = s.applied := rfl
@[simp] theorem setStream_mem' (x : Stream) : (s.setStream i x).mem = s.mem := rfl
@[simp] theorem setStream_hosts' (x : Stream) : (s.setStream i x).hosts = s.hosts := rfl
@[simp] theorem setStream_turn' (x : Stream) : (s.setStream i x).turn = s.turn := rfl
@[simp] theorem setStream_sessionNo' (x : Stream) : (s.setStream i x).sessionNo = s.sessionNo := rfl
@[simp] theorem setStream_out' (x : Stream) : (s.setStream i x).out = s.out := rfl
@[simp] theorem setStream_hp1Ibi' (x : Stream) : (s.setStream i x).hp1Ibi = s.hp1Ibi := rfl
@[simp] theorem setStream_log' (x : Stream) : (s.setStream i x).log = s.log := rfl
@[simp] theorem setStream_logSat' (x : Stream) : (s.setStream i x).logSat = s.logSat := rfl
@[simp] theorem setStream_fenced' (x : Stream) : (s.setStream i x).fenced = s.fenced := rfl
@[simp] theorem setStream_runs' (x : Stream) : (s.setStream i x).runs = s.runs := rfl
@[simp] theorem setStream_check' (x : Stream) : (s.setStream i x).check = s.check := rfl
@[simp] theorem setStream_snap' (x : Stream) : (s.setStream i x).snap = s.snap := rfl
@[simp] theorem setStream_groups' (x : Stream) : (s.setStream i x).groups = s.groups := rfl
@[simp] theorem setStream_targets' (x : Stream) : (s.setStream i x).targets = s.targets := rfl
@[simp] theorem setStream_srcs' (x : Stream) : (s.setStream i x).srcs = s.srcs := rfl
@[simp] theorem setStream_sluices' (x : Stream) : (s.setStream i x).sluices = s.sluices := rfl
@[simp] theorem setStream_pins' (x : Stream) : (s.setStream i x).pins = s.pins := rfl
@[simp] theorem setStream_evq' (x : Stream) : (s.setStream i x).evq = s.evq := rfl
@[simp] theorem setStream_wave' (x : Stream) : (s.setStream i x).wave = s.wave := rfl
@[simp] theorem setStream_jobs' (x : Stream) : (s.setStream i x).jobs = s.jobs := rfl
@[simp] theorem setStream_chans' (x : Stream) : (s.setStream i x).chans = s.chans := rfl
@[simp] theorem setStream_ports' (x : Stream) : (s.setStream i x).ports = s.ports := rfl
@[simp] theorem setStream_afe' (x : Stream) : (s.setStream i x).afe = s.afe := rfl
@[simp] theorem setStream_twr' (x : Stream) : (s.setStream i x).twr = s.twr := rfl
@[simp] theorem setStream_cry' (x : Stream) : (s.setStream i x).cry = s.cry := rfl
@[simp] theorem setStream_svc' (x : Stream) : (s.setStream i x).svc = s.svc := rfl
@[simp] theorem setStream_pan_fifo' (x : Stream) : (s.setStream i x).pan.fifo = s.pan.fifo := rfl
@[simp] theorem setStream_time' (x : Stream) : (s.setStream i x).time = s.time := rfl
@[simp] theorem setStream_launches' (x : Stream) : (s.setStream i x).launches = s.launches := rfl
@[simp] theorem setStream_timers' (x : Stream) : (s.setStream i x).timers = s.timers := rfl
@[simp] theorem setStream_slt' (x : Stream) : (s.setStream i x).slt = s.slt := rfl
@[simp] theorem setStream_rf' (x : Stream) : (s.setStream i x).rf = s.rf := rfl
@[simp] theorem setStream_doms' (x : Stream) : (s.setStream i x).doms = s.doms := rfl
@[simp] theorem setStream_ldg' (x : Stream) : (s.setStream i x).ldg = s.ldg := rfl
@[simp] theorem setStream_pln' (x : Stream) : (s.setStream i x).pln = s.pln := rfl
@[simp] theorem setStream_store' (x : Stream) : (s.setStream i x).store = s.store := rfl
@[simp] theorem setStream_life' (x : Stream) : (s.setStream i x).life = s.life := rfl
@[simp] theorem setStream_cal' (x : Stream) : (s.setStream i x).cal = s.cal := rfl
@[simp] theorem setStream_pwr' (x : Stream) : (s.setStream i x).pwr = s.pwr := rfl
@[simp] theorem setStream_host (x : Stream) : (s.setStream i x).host j = s.host j := rfl
@[simp] theorem setStream_target (x : Stream) : (s.setStream i x).target j = s.target j := rfl
@[simp] theorem setStream_src (x : Stream) : (s.setStream i x).src j = s.src j := rfl
@[simp] theorem setStream_sluice (x : Stream) : (s.setStream i x).sluice j = s.sluice j := rfl
@[simp] theorem setStream_pin (x : Stream) : (s.setStream i x).pin j = s.pin j := rfl
@[simp] theorem setStream_chan (x : Stream) : (s.setStream i x).chan j = s.chan j := rfl
@[simp] theorem setStream_port (x : Stream) : (s.setStream i x).port j = s.port j := rfl
@[simp] theorem setStream_launch (x : Stream) : (s.setStream i x).launch j = s.launch j := rfl
@[simp] theorem setStream_timer (x : Stream) : (s.setStream i x).timer j = s.timer j := rfl
@[simp] theorem setStream_dom (x : Stream) : (s.setStream i x).dom j = s.dom j := rfl
@[simp] theorem setStream_twrCh (x : Stream) : (s.setStream i x).twrCh j = s.twrCh j := rfl
@[simp] theorem setStream_pre (x : Stream) : (s.setStream i x).pre j = s.pre j := rfl
@[simp] theorem setStream_seed (x : Stream) : (s.setStream i x).seed j = s.seed j := rfl
@[simp] theorem setStream_svcInst (x : Stream) : (s.setStream i x).svcInst j = s.svcInst j := rfl
@[simp] theorem setStream_orient (x : Stream) : (s.setStream i x).orient j = s.orient j := rfl
@[simp] theorem setStream_trend (x : Stream) : (s.setStream i x).trend j = s.trend j := rfl
@[simp] theorem setStream_mach (x : Stream) : (s.setStream i x).mach j = s.mach j := rfl
@[simp] theorem setStream_wear (x : Stream) : (s.setStream i x).wear j = s.wear j := rfl
@[simp] theorem setStream_wakeHost (x : Stream) : (s.setStream i x).wakeHost j = s.wakeHost j := rfl
@[simp] theorem setStream_tb (x : Stream) : (s.setStream i x).tb j = s.tb j := rfl
@[simp] theorem setStream_link (x : Stream) : (s.setStream i x).link j = s.link j := rfl
@[simp] theorem setStream_peer (x : Stream) : (s.setStream i x).peer j = s.peer j := rfl
@[simp] theorem setStream_legLink (x : Stream) : (s.setStream i x).legLink j = s.legLink j := rfl
@[simp] theorem setStream_remote (x : Stream) : (s.setStream i x).remote j = s.remote j := rfl
@[simp] theorem setStream_rfBuf (x : Stream) : (s.setStream i x).rfBuf j = s.rfBuf j := rfl
@[simp] theorem setStream_meter (x : Stream) : (s.setStream i x).meter j = s.meter j := rfl
@[simp] theorem setStream_epochNow (x : Stream) : (s.setStream i x).epochNow j = s.epochNow j := rfl
@[simp] theorem setStream_epochPrev (x : Stream) : (s.setStream i x).epochPrev j = s.epochPrev j := rfl
@[simp] theorem setStream_patch (x : Stream) : (s.setStream i x).patch j = s.patch j := rfl
@[simp] theorem setStream_unit (x : Stream) : (s.setStream i x).unit j = s.unit j := rfl

/-! ### `time.tb` -/

@[simp] theorem modTb_eq (f : Tb → Tb) : s.modTb i f = s.setTb i (f (s.tb i)) := rfl
theorem setTb_tb (x : Tb) : (s.setTb i x).tb j = if j = i then x else s.tb j := Tab.get_set _ _ _ _
@[simp] theorem setTb_tb_self (x : Tb) : (s.setTb i x).tb i = x := Tab.get_set_self _ _ _
@[simp] theorem setTb_pending' (x : Tb) : (s.setTb i x).pending = s.pending := rfl
@[simp] theorem setTb_tick' (x : Tb) : (s.setTb i x).tick = s.tick := rfl
@[simp] theorem setTb_sub' (x : Tb) : (s.setTb i x).sub = s.sub := rfl
@[simp] theorem setTb_provisioned' (x : Tb) : (s.setTb i x).provisioned = s.provisioned := rfl
@[simp] theorem setTb_free' (x : Tb) : (s.setTb i x).free = s.free := rfl
@[simp] theorem setTb_regs' (x : Tb) : (s.setTb i x).regs = s.regs := rfl
@[simp] theorem setTb_applied' (x : Tb) : (s.setTb i x).applied = s.applied := rfl
@[simp] theorem setTb_mem' (x : Tb) : (s.setTb i x).mem = s.mem := rfl
@[simp] theorem setTb_hosts' (x : Tb) : (s.setTb i x).hosts = s.hosts := rfl
@[simp] theorem setTb_turn' (x : Tb) : (s.setTb i x).turn = s.turn := rfl
@[simp] theorem setTb_sessionNo' (x : Tb) : (s.setTb i x).sessionNo = s.sessionNo := rfl
@[simp] theorem setTb_out' (x : Tb) : (s.setTb i x).out = s.out := rfl
@[simp] theorem setTb_hp1Ibi' (x : Tb) : (s.setTb i x).hp1Ibi = s.hp1Ibi := rfl
@[simp] theorem setTb_log' (x : Tb) : (s.setTb i x).log = s.log := rfl
@[simp] theorem setTb_logSat' (x : Tb) : (s.setTb i x).logSat = s.logSat := rfl
@[simp] theorem setTb_fenced' (x : Tb) : (s.setTb i x).fenced = s.fenced := rfl
@[simp] theorem setTb_runs' (x : Tb) : (s.setTb i x).runs = s.runs := rfl
@[simp] theorem setTb_check' (x : Tb) : (s.setTb i x).check = s.check := rfl
@[simp] theorem setTb_snap' (x : Tb) : (s.setTb i x).snap = s.snap := rfl
@[simp] theorem setTb_groups' (x : Tb) : (s.setTb i x).groups = s.groups := rfl
@[simp] theorem setTb_targets' (x : Tb) : (s.setTb i x).targets = s.targets := rfl
@[simp] theorem setTb_srcs' (x : Tb) : (s.setTb i x).srcs = s.srcs := rfl
@[simp] theorem setTb_sluices' (x : Tb) : (s.setTb i x).sluices = s.sluices := rfl
@[simp] theorem setTb_pins' (x : Tb) : (s.setTb i x).pins = s.pins := rfl
@[simp] theorem setTb_evq' (x : Tb) : (s.setTb i x).evq = s.evq := rfl
@[simp] theorem setTb_wave' (x : Tb) : (s.setTb i x).wave = s.wave := rfl
@[simp] theorem setTb_jobs' (x : Tb) : (s.setTb i x).jobs = s.jobs := rfl
@[simp] theorem setTb_chans' (x : Tb) : (s.setTb i x).chans = s.chans := rfl
@[simp] theorem setTb_ports' (x : Tb) : (s.setTb i x).ports = s.ports := rfl
@[simp] theorem setTb_afe' (x : Tb) : (s.setTb i x).afe = s.afe := rfl
@[simp] theorem setTb_twr' (x : Tb) : (s.setTb i x).twr = s.twr := rfl
@[simp] theorem setTb_cry' (x : Tb) : (s.setTb i x).cry = s.cry := rfl
@[simp] theorem setTb_svc' (x : Tb) : (s.setTb i x).svc = s.svc := rfl
@[simp] theorem setTb_pan' (x : Tb) : (s.setTb i x).pan = s.pan := rfl
@[simp] theorem setTb_time_latches' (x : Tb) : (s.setTb i x).time.latches = s.time.latches := rfl
@[simp] theorem setTb_time_cap' (x : Tb) : (s.setTb i x).time.cap = s.time.cap := rfl
@[simp] theorem setTb_time_cap2' (x : Tb) : (s.setTb i x).time.cap2 = s.time.cap2 := rfl
@[simp] theorem setTb_time_capOvr' (x : Tb) : (s.setTb i x).time.capOvr = s.time.capOvr := rfl
@[simp] theorem setTb_time_links' (x : Tb) : (s.setTb i x).time.links = s.time.links := rfl
@[simp] theorem setTb_time_radioSync' (x : Tb) : (s.setTb i x).time.radioSync = s.time.radioSync := rfl
@[simp] theorem setTb_time_syncCount' (x : Tb) : (s.setTb i x).time.syncCount = s.time.syncCount := rfl
@[simp] theorem setTb_time_syncSeq' (x : Tb) : (s.setTb i x).time.syncSeq = s.time.syncSeq := rfl
@[simp] theorem setTb_launches' (x : Tb) : (s.setTb i x).launches = s.launches := rfl
@[simp] theorem setTb_timers' (x : Tb) : (s.setTb i x).timers = s.timers := rfl
@[simp] theorem setTb_slt' (x : Tb) : (s.setTb i x).slt = s.slt := rfl
@[simp] theorem setTb_rf' (x : Tb) : (s.setTb i x).rf = s.rf := rfl
@[simp] theorem setTb_doms' (x : Tb) : (s.setTb i x).doms = s.doms := rfl
@[simp] theorem setTb_ldg' (x : Tb) : (s.setTb i x).ldg = s.ldg := rfl
@[simp] theorem setTb_pln' (x : Tb) : (s.setTb i x).pln = s.pln := rfl
@[simp] theorem setTb_store' (x : Tb) : (s.setTb i x).store = s.store := rfl
@[simp] theorem setTb_life' (x : Tb) : (s.setTb i x).life = s.life := rfl
@[simp] theorem setTb_cal' (x : Tb) : (s.setTb i x).cal = s.cal := rfl
@[simp] theorem setTb_pwr' (x : Tb) : (s.setTb i x).pwr = s.pwr := rfl
@[simp] theorem setTb_host (x : Tb) : (s.setTb i x).host j = s.host j := rfl
@[simp] theorem setTb_target (x : Tb) : (s.setTb i x).target j = s.target j := rfl
@[simp] theorem setTb_src (x : Tb) : (s.setTb i x).src j = s.src j := rfl
@[simp] theorem setTb_sluice (x : Tb) : (s.setTb i x).sluice j = s.sluice j := rfl
@[simp] theorem setTb_pin (x : Tb) : (s.setTb i x).pin j = s.pin j := rfl
@[simp] theorem setTb_chan (x : Tb) : (s.setTb i x).chan j = s.chan j := rfl
@[simp] theorem setTb_port (x : Tb) : (s.setTb i x).port j = s.port j := rfl
@[simp] theorem setTb_launch (x : Tb) : (s.setTb i x).launch j = s.launch j := rfl
@[simp] theorem setTb_timer (x : Tb) : (s.setTb i x).timer j = s.timer j := rfl
@[simp] theorem setTb_dom (x : Tb) : (s.setTb i x).dom j = s.dom j := rfl
@[simp] theorem setTb_twrCh (x : Tb) : (s.setTb i x).twrCh j = s.twrCh j := rfl
@[simp] theorem setTb_pre (x : Tb) : (s.setTb i x).pre j = s.pre j := rfl
@[simp] theorem setTb_seed (x : Tb) : (s.setTb i x).seed j = s.seed j := rfl
@[simp] theorem setTb_svcInst (x : Tb) : (s.setTb i x).svcInst j = s.svcInst j := rfl
@[simp] theorem setTb_orient (x : Tb) : (s.setTb i x).orient j = s.orient j := rfl
@[simp] theorem setTb_trend (x : Tb) : (s.setTb i x).trend j = s.trend j := rfl
@[simp] theorem setTb_mach (x : Tb) : (s.setTb i x).mach j = s.mach j := rfl
@[simp] theorem setTb_wear (x : Tb) : (s.setTb i x).wear j = s.wear j := rfl
@[simp] theorem setTb_wakeHost (x : Tb) : (s.setTb i x).wakeHost j = s.wakeHost j := rfl
@[simp] theorem setTb_stream (x : Tb) : (s.setTb i x).stream j = s.stream j := rfl
@[simp] theorem setTb_link (x : Tb) : (s.setTb i x).link j = s.link j := rfl
@[simp] theorem setTb_peer (x : Tb) : (s.setTb i x).peer j = s.peer j := rfl
@[simp] theorem setTb_legLink (x : Tb) : (s.setTb i x).legLink j = s.legLink j := rfl
@[simp] theorem setTb_remote (x : Tb) : (s.setTb i x).remote j = s.remote j := rfl
@[simp] theorem setTb_rfBuf (x : Tb) : (s.setTb i x).rfBuf j = s.rfBuf j := rfl
@[simp] theorem setTb_meter (x : Tb) : (s.setTb i x).meter j = s.meter j := rfl
@[simp] theorem setTb_epochNow (x : Tb) : (s.setTb i x).epochNow j = s.epochNow j := rfl
@[simp] theorem setTb_epochPrev (x : Tb) : (s.setTb i x).epochPrev j = s.epochPrev j := rfl
@[simp] theorem setTb_patch (x : Tb) : (s.setTb i x).patch j = s.patch j := rfl
@[simp] theorem setTb_unit (x : Tb) : (s.setTb i x).unit j = s.unit j := rfl

/-! ### `time.links` -/

@[simp] theorem modLink_eq (f : TimeLink → TimeLink) : s.modLink i f = s.setLink i (f (s.link i)) := rfl
theorem setLink_link (x : TimeLink) : (s.setLink i x).link j = if j = i then x else s.link j := Tab.get_set _ _ _ _
@[simp] theorem setLink_link_self (x : TimeLink) : (s.setLink i x).link i = x := Tab.get_set_self _ _ _
@[simp] theorem setLink_pending' (x : TimeLink) : (s.setLink i x).pending = s.pending := rfl
@[simp] theorem setLink_tick' (x : TimeLink) : (s.setLink i x).tick = s.tick := rfl
@[simp] theorem setLink_sub' (x : TimeLink) : (s.setLink i x).sub = s.sub := rfl
@[simp] theorem setLink_provisioned' (x : TimeLink) : (s.setLink i x).provisioned = s.provisioned := rfl
@[simp] theorem setLink_free' (x : TimeLink) : (s.setLink i x).free = s.free := rfl
@[simp] theorem setLink_regs' (x : TimeLink) : (s.setLink i x).regs = s.regs := rfl
@[simp] theorem setLink_applied' (x : TimeLink) : (s.setLink i x).applied = s.applied := rfl
@[simp] theorem setLink_mem' (x : TimeLink) : (s.setLink i x).mem = s.mem := rfl
@[simp] theorem setLink_hosts' (x : TimeLink) : (s.setLink i x).hosts = s.hosts := rfl
@[simp] theorem setLink_turn' (x : TimeLink) : (s.setLink i x).turn = s.turn := rfl
@[simp] theorem setLink_sessionNo' (x : TimeLink) : (s.setLink i x).sessionNo = s.sessionNo := rfl
@[simp] theorem setLink_out' (x : TimeLink) : (s.setLink i x).out = s.out := rfl
@[simp] theorem setLink_hp1Ibi' (x : TimeLink) : (s.setLink i x).hp1Ibi = s.hp1Ibi := rfl
@[simp] theorem setLink_log' (x : TimeLink) : (s.setLink i x).log = s.log := rfl
@[simp] theorem setLink_logSat' (x : TimeLink) : (s.setLink i x).logSat = s.logSat := rfl
@[simp] theorem setLink_fenced' (x : TimeLink) : (s.setLink i x).fenced = s.fenced := rfl
@[simp] theorem setLink_runs' (x : TimeLink) : (s.setLink i x).runs = s.runs := rfl
@[simp] theorem setLink_check' (x : TimeLink) : (s.setLink i x).check = s.check := rfl
@[simp] theorem setLink_snap' (x : TimeLink) : (s.setLink i x).snap = s.snap := rfl
@[simp] theorem setLink_groups' (x : TimeLink) : (s.setLink i x).groups = s.groups := rfl
@[simp] theorem setLink_targets' (x : TimeLink) : (s.setLink i x).targets = s.targets := rfl
@[simp] theorem setLink_srcs' (x : TimeLink) : (s.setLink i x).srcs = s.srcs := rfl
@[simp] theorem setLink_sluices' (x : TimeLink) : (s.setLink i x).sluices = s.sluices := rfl
@[simp] theorem setLink_pins' (x : TimeLink) : (s.setLink i x).pins = s.pins := rfl
@[simp] theorem setLink_evq' (x : TimeLink) : (s.setLink i x).evq = s.evq := rfl
@[simp] theorem setLink_wave' (x : TimeLink) : (s.setLink i x).wave = s.wave := rfl
@[simp] theorem setLink_jobs' (x : TimeLink) : (s.setLink i x).jobs = s.jobs := rfl
@[simp] theorem setLink_chans' (x : TimeLink) : (s.setLink i x).chans = s.chans := rfl
@[simp] theorem setLink_ports' (x : TimeLink) : (s.setLink i x).ports = s.ports := rfl
@[simp] theorem setLink_afe' (x : TimeLink) : (s.setLink i x).afe = s.afe := rfl
@[simp] theorem setLink_twr' (x : TimeLink) : (s.setLink i x).twr = s.twr := rfl
@[simp] theorem setLink_cry' (x : TimeLink) : (s.setLink i x).cry = s.cry := rfl
@[simp] theorem setLink_svc' (x : TimeLink) : (s.setLink i x).svc = s.svc := rfl
@[simp] theorem setLink_pan' (x : TimeLink) : (s.setLink i x).pan = s.pan := rfl
@[simp] theorem setLink_time_tb' (x : TimeLink) : (s.setLink i x).time.tb = s.time.tb := rfl
@[simp] theorem setLink_time_latches' (x : TimeLink) : (s.setLink i x).time.latches = s.time.latches := rfl
@[simp] theorem setLink_time_cap' (x : TimeLink) : (s.setLink i x).time.cap = s.time.cap := rfl
@[simp] theorem setLink_time_cap2' (x : TimeLink) : (s.setLink i x).time.cap2 = s.time.cap2 := rfl
@[simp] theorem setLink_time_capOvr' (x : TimeLink) : (s.setLink i x).time.capOvr = s.time.capOvr := rfl
@[simp] theorem setLink_time_radioSync' (x : TimeLink) : (s.setLink i x).time.radioSync = s.time.radioSync := rfl
@[simp] theorem setLink_time_syncCount' (x : TimeLink) : (s.setLink i x).time.syncCount = s.time.syncCount := rfl
@[simp] theorem setLink_time_syncSeq' (x : TimeLink) : (s.setLink i x).time.syncSeq = s.time.syncSeq := rfl
@[simp] theorem setLink_launches' (x : TimeLink) : (s.setLink i x).launches = s.launches := rfl
@[simp] theorem setLink_timers' (x : TimeLink) : (s.setLink i x).timers = s.timers := rfl
@[simp] theorem setLink_slt' (x : TimeLink) : (s.setLink i x).slt = s.slt := rfl
@[simp] theorem setLink_rf' (x : TimeLink) : (s.setLink i x).rf = s.rf := rfl
@[simp] theorem setLink_doms' (x : TimeLink) : (s.setLink i x).doms = s.doms := rfl
@[simp] theorem setLink_ldg' (x : TimeLink) : (s.setLink i x).ldg = s.ldg := rfl
@[simp] theorem setLink_pln' (x : TimeLink) : (s.setLink i x).pln = s.pln := rfl
@[simp] theorem setLink_store' (x : TimeLink) : (s.setLink i x).store = s.store := rfl
@[simp] theorem setLink_life' (x : TimeLink) : (s.setLink i x).life = s.life := rfl
@[simp] theorem setLink_cal' (x : TimeLink) : (s.setLink i x).cal = s.cal := rfl
@[simp] theorem setLink_pwr' (x : TimeLink) : (s.setLink i x).pwr = s.pwr := rfl
@[simp] theorem setLink_host (x : TimeLink) : (s.setLink i x).host j = s.host j := rfl
@[simp] theorem setLink_target (x : TimeLink) : (s.setLink i x).target j = s.target j := rfl
@[simp] theorem setLink_src (x : TimeLink) : (s.setLink i x).src j = s.src j := rfl
@[simp] theorem setLink_sluice (x : TimeLink) : (s.setLink i x).sluice j = s.sluice j := rfl
@[simp] theorem setLink_pin (x : TimeLink) : (s.setLink i x).pin j = s.pin j := rfl
@[simp] theorem setLink_chan (x : TimeLink) : (s.setLink i x).chan j = s.chan j := rfl
@[simp] theorem setLink_port (x : TimeLink) : (s.setLink i x).port j = s.port j := rfl
@[simp] theorem setLink_launch (x : TimeLink) : (s.setLink i x).launch j = s.launch j := rfl
@[simp] theorem setLink_timer (x : TimeLink) : (s.setLink i x).timer j = s.timer j := rfl
@[simp] theorem setLink_dom (x : TimeLink) : (s.setLink i x).dom j = s.dom j := rfl
@[simp] theorem setLink_twrCh (x : TimeLink) : (s.setLink i x).twrCh j = s.twrCh j := rfl
@[simp] theorem setLink_pre (x : TimeLink) : (s.setLink i x).pre j = s.pre j := rfl
@[simp] theorem setLink_seed (x : TimeLink) : (s.setLink i x).seed j = s.seed j := rfl
@[simp] theorem setLink_svcInst (x : TimeLink) : (s.setLink i x).svcInst j = s.svcInst j := rfl
@[simp] theorem setLink_orient (x : TimeLink) : (s.setLink i x).orient j = s.orient j := rfl
@[simp] theorem setLink_trend (x : TimeLink) : (s.setLink i x).trend j = s.trend j := rfl
@[simp] theorem setLink_mach (x : TimeLink) : (s.setLink i x).mach j = s.mach j := rfl
@[simp] theorem setLink_wear (x : TimeLink) : (s.setLink i x).wear j = s.wear j := rfl
@[simp] theorem setLink_wakeHost (x : TimeLink) : (s.setLink i x).wakeHost j = s.wakeHost j := rfl
@[simp] theorem setLink_stream (x : TimeLink) : (s.setLink i x).stream j = s.stream j := rfl
@[simp] theorem setLink_tb (x : TimeLink) : (s.setLink i x).tb j = s.tb j := rfl
@[simp] theorem setLink_peer (x : TimeLink) : (s.setLink i x).peer j = s.peer j := rfl
@[simp] theorem setLink_legLink (x : TimeLink) : (s.setLink i x).legLink j = s.legLink j := rfl
@[simp] theorem setLink_remote (x : TimeLink) : (s.setLink i x).remote j = s.remote j := rfl
@[simp] theorem setLink_rfBuf (x : TimeLink) : (s.setLink i x).rfBuf j = s.rfBuf j := rfl
@[simp] theorem setLink_meter (x : TimeLink) : (s.setLink i x).meter j = s.meter j := rfl
@[simp] theorem setLink_epochNow (x : TimeLink) : (s.setLink i x).epochNow j = s.epochNow j := rfl
@[simp] theorem setLink_epochPrev (x : TimeLink) : (s.setLink i x).epochPrev j = s.epochPrev j := rfl
@[simp] theorem setLink_patch (x : TimeLink) : (s.setLink i x).patch j = s.patch j := rfl
@[simp] theorem setLink_unit (x : TimeLink) : (s.setLink i x).unit j = s.unit j := rfl

/-! ### `slt.peers` -/

@[simp] theorem modPeer_eq (f : Peer → Peer) : s.modPeer i f = s.setPeer i (f (s.peer i)) := rfl
theorem setPeer_peer (x : Peer) : (s.setPeer i x).peer j = if j = i then x else s.peer j := Tab.get_set _ _ _ _
@[simp] theorem setPeer_peer_self (x : Peer) : (s.setPeer i x).peer i = x := Tab.get_set_self _ _ _
@[simp] theorem setPeer_pending' (x : Peer) : (s.setPeer i x).pending = s.pending := rfl
@[simp] theorem setPeer_tick' (x : Peer) : (s.setPeer i x).tick = s.tick := rfl
@[simp] theorem setPeer_sub' (x : Peer) : (s.setPeer i x).sub = s.sub := rfl
@[simp] theorem setPeer_provisioned' (x : Peer) : (s.setPeer i x).provisioned = s.provisioned := rfl
@[simp] theorem setPeer_free' (x : Peer) : (s.setPeer i x).free = s.free := rfl
@[simp] theorem setPeer_regs' (x : Peer) : (s.setPeer i x).regs = s.regs := rfl
@[simp] theorem setPeer_applied' (x : Peer) : (s.setPeer i x).applied = s.applied := rfl
@[simp] theorem setPeer_mem' (x : Peer) : (s.setPeer i x).mem = s.mem := rfl
@[simp] theorem setPeer_hosts' (x : Peer) : (s.setPeer i x).hosts = s.hosts := rfl
@[simp] theorem setPeer_turn' (x : Peer) : (s.setPeer i x).turn = s.turn := rfl
@[simp] theorem setPeer_sessionNo' (x : Peer) : (s.setPeer i x).sessionNo = s.sessionNo := rfl
@[simp] theorem setPeer_out' (x : Peer) : (s.setPeer i x).out = s.out := rfl
@[simp] theorem setPeer_hp1Ibi' (x : Peer) : (s.setPeer i x).hp1Ibi = s.hp1Ibi := rfl
@[simp] theorem setPeer_log' (x : Peer) : (s.setPeer i x).log = s.log := rfl
@[simp] theorem setPeer_logSat' (x : Peer) : (s.setPeer i x).logSat = s.logSat := rfl
@[simp] theorem setPeer_fenced' (x : Peer) : (s.setPeer i x).fenced = s.fenced := rfl
@[simp] theorem setPeer_runs' (x : Peer) : (s.setPeer i x).runs = s.runs := rfl
@[simp] theorem setPeer_check' (x : Peer) : (s.setPeer i x).check = s.check := rfl
@[simp] theorem setPeer_snap' (x : Peer) : (s.setPeer i x).snap = s.snap := rfl
@[simp] theorem setPeer_groups' (x : Peer) : (s.setPeer i x).groups = s.groups := rfl
@[simp] theorem setPeer_targets' (x : Peer) : (s.setPeer i x).targets = s.targets := rfl
@[simp] theorem setPeer_srcs' (x : Peer) : (s.setPeer i x).srcs = s.srcs := rfl
@[simp] theorem setPeer_sluices' (x : Peer) : (s.setPeer i x).sluices = s.sluices := rfl
@[simp] theorem setPeer_pins' (x : Peer) : (s.setPeer i x).pins = s.pins := rfl
@[simp] theorem setPeer_evq' (x : Peer) : (s.setPeer i x).evq = s.evq := rfl
@[simp] theorem setPeer_wave' (x : Peer) : (s.setPeer i x).wave = s.wave := rfl
@[simp] theorem setPeer_jobs' (x : Peer) : (s.setPeer i x).jobs = s.jobs := rfl
@[simp] theorem setPeer_chans' (x : Peer) : (s.setPeer i x).chans = s.chans := rfl
@[simp] theorem setPeer_ports' (x : Peer) : (s.setPeer i x).ports = s.ports := rfl
@[simp] theorem setPeer_afe' (x : Peer) : (s.setPeer i x).afe = s.afe := rfl
@[simp] theorem setPeer_twr' (x : Peer) : (s.setPeer i x).twr = s.twr := rfl
@[simp] theorem setPeer_cry' (x : Peer) : (s.setPeer i x).cry = s.cry := rfl
@[simp] theorem setPeer_svc' (x : Peer) : (s.setPeer i x).svc = s.svc := rfl
@[simp] theorem setPeer_pan' (x : Peer) : (s.setPeer i x).pan = s.pan := rfl
@[simp] theorem setPeer_time' (x : Peer) : (s.setPeer i x).time = s.time := rfl
@[simp] theorem setPeer_launches' (x : Peer) : (s.setPeer i x).launches = s.launches := rfl
@[simp] theorem setPeer_timers' (x : Peer) : (s.setPeer i x).timers = s.timers := rfl
@[simp] theorem setPeer_slt_role' (x : Peer) : (s.setPeer i x).slt.role = s.slt.role := rfl
@[simp] theorem setPeer_slt_waiting' (x : Peer) : (s.setPeer i x).slt.waiting = s.slt.waiting := rfl
@[simp] theorem setPeer_slt_state' (x : Peer) : (s.setPeer i x).slt.state = s.slt.state := rfl
@[simp] theorem setPeer_slt_epoch' (x : Peer) : (s.setPeer i x).slt.epoch = s.slt.epoch := rfl
@[simp] theorem setPeer_slt_common' (x : Peer) : (s.setPeer i x).slt.common = s.slt.common := rfl
@[simp] theorem setPeer_slt_members' (x : Peer) : (s.setPeer i x).slt.members = s.slt.members := rfl
@[simp] theorem setPeer_slt_divergent' (x : Peer) : (s.setPeer i x).slt.divergent = s.slt.divergent := rfl
@[simp] theorem setPeer_slt_staleSet' (x : Peer) : (s.setPeer i x).slt.staleSet = s.slt.staleSet := rfl
@[simp] theorem setPeer_slt_outliers' (x : Peer) : (s.setPeer i x).slt.outliers = s.slt.outliers := rfl
@[simp] theorem setPeer_slt_leader' (x : Peer) : (s.setPeer i x).slt.leader = s.slt.leader := rfl
@[simp] theorem setPeer_slt_leaderPrio' (x : Peer) : (s.setPeer i x).slt.leaderPrio = s.slt.leaderPrio := rfl
@[simp] theorem setPeer_slt_leaderUid' (x : Peer) : (s.setPeer i x).slt.leaderUid = s.slt.leaderUid := rfl
@[simp] theorem setPeer_slt_stale' (x : Peer) : (s.setPeer i x).slt.stale = s.slt.stale := rfl
@[simp] theorem setPeer_slt_diverged' (x : Peer) : (s.setPeer i x).slt.diverged = s.slt.diverged := rfl
@[simp] theorem setPeer_slt_outlier' (x : Peer) : (s.setPeer i x).slt.outlier = s.slt.outlier := rfl
@[simp] theorem setPeer_slt_highest' (x : Peer) : (s.setPeer i x).slt.highest = s.slt.highest := rfl
@[simp] theorem setPeer_slt_better' (x : Peer) : (s.setPeer i x).slt.better = s.slt.better := rfl
@[simp] theorem setPeer_slt_lockedOnce' (x : Peer) : (s.setPeer i x).slt.lockedOnce = s.slt.lockedOnce := rfl
@[simp] theorem setPeer_slt_links' (x : Peer) : (s.setPeer i x).slt.links = s.slt.links := rfl
@[simp] theorem setPeer_slt_lifted' (x : Peer) : (s.setPeer i x).slt.lifted = s.slt.lifted := rfl
@[simp] theorem setPeer_slt_rejoin' (x : Peer) : (s.setPeer i x).slt.rejoin = s.slt.rejoin := rfl
@[simp] theorem setPeer_slt_seq' (x : Peer) : (s.setPeer i x).slt.seq = s.slt.seq := rfl
@[simp] theorem setPeer_slt_batch' (x : Peer) : (s.setPeer i x).slt.batch = s.slt.batch := rfl
@[simp] theorem setPeer_slt_remote' (x : Peer) : (s.setPeer i x).slt.remote = s.slt.remote := rfl
@[simp] theorem setPeer_slt_admitted' (x : Peer) : (s.setPeer i x).slt.admitted = s.slt.admitted := rfl
@[simp] theorem setPeer_slt_sent' (x : Peer) : (s.setPeer i x).slt.sent = s.slt.sent := rfl
@[simp] theorem setPeer_rf' (x : Peer) : (s.setPeer i x).rf = s.rf := rfl
@[simp] theorem setPeer_doms' (x : Peer) : (s.setPeer i x).doms = s.doms := rfl
@[simp] theorem setPeer_ldg' (x : Peer) : (s.setPeer i x).ldg = s.ldg := rfl
@[simp] theorem setPeer_pln' (x : Peer) : (s.setPeer i x).pln = s.pln := rfl
@[simp] theorem setPeer_store' (x : Peer) : (s.setPeer i x).store = s.store := rfl
@[simp] theorem setPeer_life' (x : Peer) : (s.setPeer i x).life = s.life := rfl
@[simp] theorem setPeer_cal' (x : Peer) : (s.setPeer i x).cal = s.cal := rfl
@[simp] theorem setPeer_pwr' (x : Peer) : (s.setPeer i x).pwr = s.pwr := rfl
@[simp] theorem setPeer_host (x : Peer) : (s.setPeer i x).host j = s.host j := rfl
@[simp] theorem setPeer_target (x : Peer) : (s.setPeer i x).target j = s.target j := rfl
@[simp] theorem setPeer_src (x : Peer) : (s.setPeer i x).src j = s.src j := rfl
@[simp] theorem setPeer_sluice (x : Peer) : (s.setPeer i x).sluice j = s.sluice j := rfl
@[simp] theorem setPeer_pin (x : Peer) : (s.setPeer i x).pin j = s.pin j := rfl
@[simp] theorem setPeer_chan (x : Peer) : (s.setPeer i x).chan j = s.chan j := rfl
@[simp] theorem setPeer_port (x : Peer) : (s.setPeer i x).port j = s.port j := rfl
@[simp] theorem setPeer_launch (x : Peer) : (s.setPeer i x).launch j = s.launch j := rfl
@[simp] theorem setPeer_timer (x : Peer) : (s.setPeer i x).timer j = s.timer j := rfl
@[simp] theorem setPeer_dom (x : Peer) : (s.setPeer i x).dom j = s.dom j := rfl
@[simp] theorem setPeer_twrCh (x : Peer) : (s.setPeer i x).twrCh j = s.twrCh j := rfl
@[simp] theorem setPeer_pre (x : Peer) : (s.setPeer i x).pre j = s.pre j := rfl
@[simp] theorem setPeer_seed (x : Peer) : (s.setPeer i x).seed j = s.seed j := rfl
@[simp] theorem setPeer_svcInst (x : Peer) : (s.setPeer i x).svcInst j = s.svcInst j := rfl
@[simp] theorem setPeer_orient (x : Peer) : (s.setPeer i x).orient j = s.orient j := rfl
@[simp] theorem setPeer_trend (x : Peer) : (s.setPeer i x).trend j = s.trend j := rfl
@[simp] theorem setPeer_mach (x : Peer) : (s.setPeer i x).mach j = s.mach j := rfl
@[simp] theorem setPeer_wear (x : Peer) : (s.setPeer i x).wear j = s.wear j := rfl
@[simp] theorem setPeer_wakeHost (x : Peer) : (s.setPeer i x).wakeHost j = s.wakeHost j := rfl
@[simp] theorem setPeer_stream (x : Peer) : (s.setPeer i x).stream j = s.stream j := rfl
@[simp] theorem setPeer_tb (x : Peer) : (s.setPeer i x).tb j = s.tb j := rfl
@[simp] theorem setPeer_link (x : Peer) : (s.setPeer i x).link j = s.link j := rfl
@[simp] theorem setPeer_legLink (x : Peer) : (s.setPeer i x).legLink j = s.legLink j := rfl
@[simp] theorem setPeer_remote (x : Peer) : (s.setPeer i x).remote j = s.remote j := rfl
@[simp] theorem setPeer_rfBuf (x : Peer) : (s.setPeer i x).rfBuf j = s.rfBuf j := rfl
@[simp] theorem setPeer_meter (x : Peer) : (s.setPeer i x).meter j = s.meter j := rfl
@[simp] theorem setPeer_epochNow (x : Peer) : (s.setPeer i x).epochNow j = s.epochNow j := rfl
@[simp] theorem setPeer_epochPrev (x : Peer) : (s.setPeer i x).epochPrev j = s.epochPrev j := rfl
@[simp] theorem setPeer_patch (x : Peer) : (s.setPeer i x).patch j = s.patch j := rfl
@[simp] theorem setPeer_unit (x : Peer) : (s.setPeer i x).unit j = s.unit j := rfl

/-! ### `slt.links` -/

@[simp] theorem modLegLink_eq (f : LegLink → LegLink) : s.modLegLink i f = s.setLegLink i (f (s.legLink i)) := rfl
theorem setLegLink_legLink (x : LegLink) : (s.setLegLink i x).legLink j = if j = i then x else s.legLink j := Tab.get_set _ _ _ _
@[simp] theorem setLegLink_legLink_self (x : LegLink) : (s.setLegLink i x).legLink i = x := Tab.get_set_self _ _ _
@[simp] theorem setLegLink_pending' (x : LegLink) : (s.setLegLink i x).pending = s.pending := rfl
@[simp] theorem setLegLink_tick' (x : LegLink) : (s.setLegLink i x).tick = s.tick := rfl
@[simp] theorem setLegLink_sub' (x : LegLink) : (s.setLegLink i x).sub = s.sub := rfl
@[simp] theorem setLegLink_provisioned' (x : LegLink) : (s.setLegLink i x).provisioned = s.provisioned := rfl
@[simp] theorem setLegLink_free' (x : LegLink) : (s.setLegLink i x).free = s.free := rfl
@[simp] theorem setLegLink_regs' (x : LegLink) : (s.setLegLink i x).regs = s.regs := rfl
@[simp] theorem setLegLink_applied' (x : LegLink) : (s.setLegLink i x).applied = s.applied := rfl
@[simp] theorem setLegLink_mem' (x : LegLink) : (s.setLegLink i x).mem = s.mem := rfl
@[simp] theorem setLegLink_hosts' (x : LegLink) : (s.setLegLink i x).hosts = s.hosts := rfl
@[simp] theorem setLegLink_turn' (x : LegLink) : (s.setLegLink i x).turn = s.turn := rfl
@[simp] theorem setLegLink_sessionNo' (x : LegLink) : (s.setLegLink i x).sessionNo = s.sessionNo := rfl
@[simp] theorem setLegLink_out' (x : LegLink) : (s.setLegLink i x).out = s.out := rfl
@[simp] theorem setLegLink_hp1Ibi' (x : LegLink) : (s.setLegLink i x).hp1Ibi = s.hp1Ibi := rfl
@[simp] theorem setLegLink_log' (x : LegLink) : (s.setLegLink i x).log = s.log := rfl
@[simp] theorem setLegLink_logSat' (x : LegLink) : (s.setLegLink i x).logSat = s.logSat := rfl
@[simp] theorem setLegLink_fenced' (x : LegLink) : (s.setLegLink i x).fenced = s.fenced := rfl
@[simp] theorem setLegLink_runs' (x : LegLink) : (s.setLegLink i x).runs = s.runs := rfl
@[simp] theorem setLegLink_check' (x : LegLink) : (s.setLegLink i x).check = s.check := rfl
@[simp] theorem setLegLink_snap' (x : LegLink) : (s.setLegLink i x).snap = s.snap := rfl
@[simp] theorem setLegLink_groups' (x : LegLink) : (s.setLegLink i x).groups = s.groups := rfl
@[simp] theorem setLegLink_targets' (x : LegLink) : (s.setLegLink i x).targets = s.targets := rfl
@[simp] theorem setLegLink_srcs' (x : LegLink) : (s.setLegLink i x).srcs = s.srcs := rfl
@[simp] theorem setLegLink_sluices' (x : LegLink) : (s.setLegLink i x).sluices = s.sluices := rfl
@[simp] theorem setLegLink_pins' (x : LegLink) : (s.setLegLink i x).pins = s.pins := rfl
@[simp] theorem setLegLink_evq' (x : LegLink) : (s.setLegLink i x).evq = s.evq := rfl
@[simp] theorem setLegLink_wave' (x : LegLink) : (s.setLegLink i x).wave = s.wave := rfl
@[simp] theorem setLegLink_jobs' (x : LegLink) : (s.setLegLink i x).jobs = s.jobs := rfl
@[simp] theorem setLegLink_chans' (x : LegLink) : (s.setLegLink i x).chans = s.chans := rfl
@[simp] theorem setLegLink_ports' (x : LegLink) : (s.setLegLink i x).ports = s.ports := rfl
@[simp] theorem setLegLink_afe' (x : LegLink) : (s.setLegLink i x).afe = s.afe := rfl
@[simp] theorem setLegLink_twr' (x : LegLink) : (s.setLegLink i x).twr = s.twr := rfl
@[simp] theorem setLegLink_cry' (x : LegLink) : (s.setLegLink i x).cry = s.cry := rfl
@[simp] theorem setLegLink_svc' (x : LegLink) : (s.setLegLink i x).svc = s.svc := rfl
@[simp] theorem setLegLink_pan' (x : LegLink) : (s.setLegLink i x).pan = s.pan := rfl
@[simp] theorem setLegLink_time' (x : LegLink) : (s.setLegLink i x).time = s.time := rfl
@[simp] theorem setLegLink_launches' (x : LegLink) : (s.setLegLink i x).launches = s.launches := rfl
@[simp] theorem setLegLink_timers' (x : LegLink) : (s.setLegLink i x).timers = s.timers := rfl
@[simp] theorem setLegLink_slt_role' (x : LegLink) : (s.setLegLink i x).slt.role = s.slt.role := rfl
@[simp] theorem setLegLink_slt_waiting' (x : LegLink) : (s.setLegLink i x).slt.waiting = s.slt.waiting := rfl
@[simp] theorem setLegLink_slt_state' (x : LegLink) : (s.setLegLink i x).slt.state = s.slt.state := rfl
@[simp] theorem setLegLink_slt_epoch' (x : LegLink) : (s.setLegLink i x).slt.epoch = s.slt.epoch := rfl
@[simp] theorem setLegLink_slt_common' (x : LegLink) : (s.setLegLink i x).slt.common = s.slt.common := rfl
@[simp] theorem setLegLink_slt_members' (x : LegLink) : (s.setLegLink i x).slt.members = s.slt.members := rfl
@[simp] theorem setLegLink_slt_divergent' (x : LegLink) : (s.setLegLink i x).slt.divergent = s.slt.divergent := rfl
@[simp] theorem setLegLink_slt_staleSet' (x : LegLink) : (s.setLegLink i x).slt.staleSet = s.slt.staleSet := rfl
@[simp] theorem setLegLink_slt_outliers' (x : LegLink) : (s.setLegLink i x).slt.outliers = s.slt.outliers := rfl
@[simp] theorem setLegLink_slt_leader' (x : LegLink) : (s.setLegLink i x).slt.leader = s.slt.leader := rfl
@[simp] theorem setLegLink_slt_leaderPrio' (x : LegLink) : (s.setLegLink i x).slt.leaderPrio = s.slt.leaderPrio := rfl
@[simp] theorem setLegLink_slt_leaderUid' (x : LegLink) : (s.setLegLink i x).slt.leaderUid = s.slt.leaderUid := rfl
@[simp] theorem setLegLink_slt_stale' (x : LegLink) : (s.setLegLink i x).slt.stale = s.slt.stale := rfl
@[simp] theorem setLegLink_slt_diverged' (x : LegLink) : (s.setLegLink i x).slt.diverged = s.slt.diverged := rfl
@[simp] theorem setLegLink_slt_outlier' (x : LegLink) : (s.setLegLink i x).slt.outlier = s.slt.outlier := rfl
@[simp] theorem setLegLink_slt_highest' (x : LegLink) : (s.setLegLink i x).slt.highest = s.slt.highest := rfl
@[simp] theorem setLegLink_slt_better' (x : LegLink) : (s.setLegLink i x).slt.better = s.slt.better := rfl
@[simp] theorem setLegLink_slt_lockedOnce' (x : LegLink) : (s.setLegLink i x).slt.lockedOnce = s.slt.lockedOnce := rfl
@[simp] theorem setLegLink_slt_peers' (x : LegLink) : (s.setLegLink i x).slt.peers = s.slt.peers := rfl
@[simp] theorem setLegLink_slt_lifted' (x : LegLink) : (s.setLegLink i x).slt.lifted = s.slt.lifted := rfl
@[simp] theorem setLegLink_slt_rejoin' (x : LegLink) : (s.setLegLink i x).slt.rejoin = s.slt.rejoin := rfl
@[simp] theorem setLegLink_slt_seq' (x : LegLink) : (s.setLegLink i x).slt.seq = s.slt.seq := rfl
@[simp] theorem setLegLink_slt_batch' (x : LegLink) : (s.setLegLink i x).slt.batch = s.slt.batch := rfl
@[simp] theorem setLegLink_slt_remote' (x : LegLink) : (s.setLegLink i x).slt.remote = s.slt.remote := rfl
@[simp] theorem setLegLink_slt_admitted' (x : LegLink) : (s.setLegLink i x).slt.admitted = s.slt.admitted := rfl
@[simp] theorem setLegLink_slt_sent' (x : LegLink) : (s.setLegLink i x).slt.sent = s.slt.sent := rfl
@[simp] theorem setLegLink_rf' (x : LegLink) : (s.setLegLink i x).rf = s.rf := rfl
@[simp] theorem setLegLink_doms' (x : LegLink) : (s.setLegLink i x).doms = s.doms := rfl
@[simp] theorem setLegLink_ldg' (x : LegLink) : (s.setLegLink i x).ldg = s.ldg := rfl
@[simp] theorem setLegLink_pln' (x : LegLink) : (s.setLegLink i x).pln = s.pln := rfl
@[simp] theorem setLegLink_store' (x : LegLink) : (s.setLegLink i x).store = s.store := rfl
@[simp] theorem setLegLink_life' (x : LegLink) : (s.setLegLink i x).life = s.life := rfl
@[simp] theorem setLegLink_cal' (x : LegLink) : (s.setLegLink i x).cal = s.cal := rfl
@[simp] theorem setLegLink_pwr' (x : LegLink) : (s.setLegLink i x).pwr = s.pwr := rfl
@[simp] theorem setLegLink_host (x : LegLink) : (s.setLegLink i x).host j = s.host j := rfl
@[simp] theorem setLegLink_target (x : LegLink) : (s.setLegLink i x).target j = s.target j := rfl
@[simp] theorem setLegLink_src (x : LegLink) : (s.setLegLink i x).src j = s.src j := rfl
@[simp] theorem setLegLink_sluice (x : LegLink) : (s.setLegLink i x).sluice j = s.sluice j := rfl
@[simp] theorem setLegLink_pin (x : LegLink) : (s.setLegLink i x).pin j = s.pin j := rfl
@[simp] theorem setLegLink_chan (x : LegLink) : (s.setLegLink i x).chan j = s.chan j := rfl
@[simp] theorem setLegLink_port (x : LegLink) : (s.setLegLink i x).port j = s.port j := rfl
@[simp] theorem setLegLink_launch (x : LegLink) : (s.setLegLink i x).launch j = s.launch j := rfl
@[simp] theorem setLegLink_timer (x : LegLink) : (s.setLegLink i x).timer j = s.timer j := rfl
@[simp] theorem setLegLink_dom (x : LegLink) : (s.setLegLink i x).dom j = s.dom j := rfl
@[simp] theorem setLegLink_twrCh (x : LegLink) : (s.setLegLink i x).twrCh j = s.twrCh j := rfl
@[simp] theorem setLegLink_pre (x : LegLink) : (s.setLegLink i x).pre j = s.pre j := rfl
@[simp] theorem setLegLink_seed (x : LegLink) : (s.setLegLink i x).seed j = s.seed j := rfl
@[simp] theorem setLegLink_svcInst (x : LegLink) : (s.setLegLink i x).svcInst j = s.svcInst j := rfl
@[simp] theorem setLegLink_orient (x : LegLink) : (s.setLegLink i x).orient j = s.orient j := rfl
@[simp] theorem setLegLink_trend (x : LegLink) : (s.setLegLink i x).trend j = s.trend j := rfl
@[simp] theorem setLegLink_mach (x : LegLink) : (s.setLegLink i x).mach j = s.mach j := rfl
@[simp] theorem setLegLink_wear (x : LegLink) : (s.setLegLink i x).wear j = s.wear j := rfl
@[simp] theorem setLegLink_wakeHost (x : LegLink) : (s.setLegLink i x).wakeHost j = s.wakeHost j := rfl
@[simp] theorem setLegLink_stream (x : LegLink) : (s.setLegLink i x).stream j = s.stream j := rfl
@[simp] theorem setLegLink_tb (x : LegLink) : (s.setLegLink i x).tb j = s.tb j := rfl
@[simp] theorem setLegLink_link (x : LegLink) : (s.setLegLink i x).link j = s.link j := rfl
@[simp] theorem setLegLink_peer (x : LegLink) : (s.setLegLink i x).peer j = s.peer j := rfl
@[simp] theorem setLegLink_remote (x : LegLink) : (s.setLegLink i x).remote j = s.remote j := rfl
@[simp] theorem setLegLink_rfBuf (x : LegLink) : (s.setLegLink i x).rfBuf j = s.rfBuf j := rfl
@[simp] theorem setLegLink_meter (x : LegLink) : (s.setLegLink i x).meter j = s.meter j := rfl
@[simp] theorem setLegLink_epochNow (x : LegLink) : (s.setLegLink i x).epochNow j = s.epochNow j := rfl
@[simp] theorem setLegLink_epochPrev (x : LegLink) : (s.setLegLink i x).epochPrev j = s.epochPrev j := rfl
@[simp] theorem setLegLink_patch (x : LegLink) : (s.setLegLink i x).patch j = s.patch j := rfl
@[simp] theorem setLegLink_unit (x : LegLink) : (s.setLegLink i x).unit j = s.unit j := rfl

/-! ### `slt.remote` -/

@[simp] theorem modRemote_eq (f : Remote → Remote) : s.modRemote i f = s.setRemote i (f (s.remote i)) := rfl
theorem setRemote_remote (x : Remote) : (s.setRemote i x).remote j = if j = i then x else s.remote j := Tab.get_set _ _ _ _
@[simp] theorem setRemote_remote_self (x : Remote) : (s.setRemote i x).remote i = x := Tab.get_set_self _ _ _
@[simp] theorem setRemote_pending' (x : Remote) : (s.setRemote i x).pending = s.pending := rfl
@[simp] theorem setRemote_tick' (x : Remote) : (s.setRemote i x).tick = s.tick := rfl
@[simp] theorem setRemote_sub' (x : Remote) : (s.setRemote i x).sub = s.sub := rfl
@[simp] theorem setRemote_provisioned' (x : Remote) : (s.setRemote i x).provisioned = s.provisioned := rfl
@[simp] theorem setRemote_free' (x : Remote) : (s.setRemote i x).free = s.free := rfl
@[simp] theorem setRemote_regs' (x : Remote) : (s.setRemote i x).regs = s.regs := rfl
@[simp] theorem setRemote_applied' (x : Remote) : (s.setRemote i x).applied = s.applied := rfl
@[simp] theorem setRemote_mem' (x : Remote) : (s.setRemote i x).mem = s.mem := rfl
@[simp] theorem setRemote_hosts' (x : Remote) : (s.setRemote i x).hosts = s.hosts := rfl
@[simp] theorem setRemote_turn' (x : Remote) : (s.setRemote i x).turn = s.turn := rfl
@[simp] theorem setRemote_sessionNo' (x : Remote) : (s.setRemote i x).sessionNo = s.sessionNo := rfl
@[simp] theorem setRemote_out' (x : Remote) : (s.setRemote i x).out = s.out := rfl
@[simp] theorem setRemote_hp1Ibi' (x : Remote) : (s.setRemote i x).hp1Ibi = s.hp1Ibi := rfl
@[simp] theorem setRemote_log' (x : Remote) : (s.setRemote i x).log = s.log := rfl
@[simp] theorem setRemote_logSat' (x : Remote) : (s.setRemote i x).logSat = s.logSat := rfl
@[simp] theorem setRemote_fenced' (x : Remote) : (s.setRemote i x).fenced = s.fenced := rfl
@[simp] theorem setRemote_runs' (x : Remote) : (s.setRemote i x).runs = s.runs := rfl
@[simp] theorem setRemote_check' (x : Remote) : (s.setRemote i x).check = s.check := rfl
@[simp] theorem setRemote_snap' (x : Remote) : (s.setRemote i x).snap = s.snap := rfl
@[simp] theorem setRemote_groups' (x : Remote) : (s.setRemote i x).groups = s.groups := rfl
@[simp] theorem setRemote_targets' (x : Remote) : (s.setRemote i x).targets = s.targets := rfl
@[simp] theorem setRemote_srcs' (x : Remote) : (s.setRemote i x).srcs = s.srcs := rfl
@[simp] theorem setRemote_sluices' (x : Remote) : (s.setRemote i x).sluices = s.sluices := rfl
@[simp] theorem setRemote_pins' (x : Remote) : (s.setRemote i x).pins = s.pins := rfl
@[simp] theorem setRemote_evq' (x : Remote) : (s.setRemote i x).evq = s.evq := rfl
@[simp] theorem setRemote_wave' (x : Remote) : (s.setRemote i x).wave = s.wave := rfl
@[simp] theorem setRemote_jobs' (x : Remote) : (s.setRemote i x).jobs = s.jobs := rfl
@[simp] theorem setRemote_chans' (x : Remote) : (s.setRemote i x).chans = s.chans := rfl
@[simp] theorem setRemote_ports' (x : Remote) : (s.setRemote i x).ports = s.ports := rfl
@[simp] theorem setRemote_afe' (x : Remote) : (s.setRemote i x).afe = s.afe := rfl
@[simp] theorem setRemote_twr' (x : Remote) : (s.setRemote i x).twr = s.twr := rfl
@[simp] theorem setRemote_cry' (x : Remote) : (s.setRemote i x).cry = s.cry := rfl
@[simp] theorem setRemote_svc' (x : Remote) : (s.setRemote i x).svc = s.svc := rfl
@[simp] theorem setRemote_pan' (x : Remote) : (s.setRemote i x).pan = s.pan := rfl
@[simp] theorem setRemote_time' (x : Remote) : (s.setRemote i x).time = s.time := rfl
@[simp] theorem setRemote_launches' (x : Remote) : (s.setRemote i x).launches = s.launches := rfl
@[simp] theorem setRemote_timers' (x : Remote) : (s.setRemote i x).timers = s.timers := rfl
@[simp] theorem setRemote_slt_role' (x : Remote) : (s.setRemote i x).slt.role = s.slt.role := rfl
@[simp] theorem setRemote_slt_waiting' (x : Remote) : (s.setRemote i x).slt.waiting = s.slt.waiting := rfl
@[simp] theorem setRemote_slt_state' (x : Remote) : (s.setRemote i x).slt.state = s.slt.state := rfl
@[simp] theorem setRemote_slt_epoch' (x : Remote) : (s.setRemote i x).slt.epoch = s.slt.epoch := rfl
@[simp] theorem setRemote_slt_common' (x : Remote) : (s.setRemote i x).slt.common = s.slt.common := rfl
@[simp] theorem setRemote_slt_members' (x : Remote) : (s.setRemote i x).slt.members = s.slt.members := rfl
@[simp] theorem setRemote_slt_divergent' (x : Remote) : (s.setRemote i x).slt.divergent = s.slt.divergent := rfl
@[simp] theorem setRemote_slt_staleSet' (x : Remote) : (s.setRemote i x).slt.staleSet = s.slt.staleSet := rfl
@[simp] theorem setRemote_slt_outliers' (x : Remote) : (s.setRemote i x).slt.outliers = s.slt.outliers := rfl
@[simp] theorem setRemote_slt_leader' (x : Remote) : (s.setRemote i x).slt.leader = s.slt.leader := rfl
@[simp] theorem setRemote_slt_leaderPrio' (x : Remote) : (s.setRemote i x).slt.leaderPrio = s.slt.leaderPrio := rfl
@[simp] theorem setRemote_slt_leaderUid' (x : Remote) : (s.setRemote i x).slt.leaderUid = s.slt.leaderUid := rfl
@[simp] theorem setRemote_slt_stale' (x : Remote) : (s.setRemote i x).slt.stale = s.slt.stale := rfl
@[simp] theorem setRemote_slt_diverged' (x : Remote) : (s.setRemote i x).slt.diverged = s.slt.diverged := rfl
@[simp] theorem setRemote_slt_outlier' (x : Remote) : (s.setRemote i x).slt.outlier = s.slt.outlier := rfl
@[simp] theorem setRemote_slt_highest' (x : Remote) : (s.setRemote i x).slt.highest = s.slt.highest := rfl
@[simp] theorem setRemote_slt_better' (x : Remote) : (s.setRemote i x).slt.better = s.slt.better := rfl
@[simp] theorem setRemote_slt_lockedOnce' (x : Remote) : (s.setRemote i x).slt.lockedOnce = s.slt.lockedOnce := rfl
@[simp] theorem setRemote_slt_peers' (x : Remote) : (s.setRemote i x).slt.peers = s.slt.peers := rfl
@[simp] theorem setRemote_slt_links' (x : Remote) : (s.setRemote i x).slt.links = s.slt.links := rfl
@[simp] theorem setRemote_slt_lifted' (x : Remote) : (s.setRemote i x).slt.lifted = s.slt.lifted := rfl
@[simp] theorem setRemote_slt_rejoin' (x : Remote) : (s.setRemote i x).slt.rejoin = s.slt.rejoin := rfl
@[simp] theorem setRemote_slt_seq' (x : Remote) : (s.setRemote i x).slt.seq = s.slt.seq := rfl
@[simp] theorem setRemote_slt_batch' (x : Remote) : (s.setRemote i x).slt.batch = s.slt.batch := rfl
@[simp] theorem setRemote_slt_admitted' (x : Remote) : (s.setRemote i x).slt.admitted = s.slt.admitted := rfl
@[simp] theorem setRemote_slt_sent' (x : Remote) : (s.setRemote i x).slt.sent = s.slt.sent := rfl
@[simp] theorem setRemote_rf' (x : Remote) : (s.setRemote i x).rf = s.rf := rfl
@[simp] theorem setRemote_doms' (x : Remote) : (s.setRemote i x).doms = s.doms := rfl
@[simp] theorem setRemote_ldg' (x : Remote) : (s.setRemote i x).ldg = s.ldg := rfl
@[simp] theorem setRemote_pln' (x : Remote) : (s.setRemote i x).pln = s.pln := rfl
@[simp] theorem setRemote_store' (x : Remote) : (s.setRemote i x).store = s.store := rfl
@[simp] theorem setRemote_life' (x : Remote) : (s.setRemote i x).life = s.life := rfl
@[simp] theorem setRemote_cal' (x : Remote) : (s.setRemote i x).cal = s.cal := rfl
@[simp] theorem setRemote_pwr' (x : Remote) : (s.setRemote i x).pwr = s.pwr := rfl
@[simp] theorem setRemote_host (x : Remote) : (s.setRemote i x).host j = s.host j := rfl
@[simp] theorem setRemote_target (x : Remote) : (s.setRemote i x).target j = s.target j := rfl
@[simp] theorem setRemote_src (x : Remote) : (s.setRemote i x).src j = s.src j := rfl
@[simp] theorem setRemote_sluice (x : Remote) : (s.setRemote i x).sluice j = s.sluice j := rfl
@[simp] theorem setRemote_pin (x : Remote) : (s.setRemote i x).pin j = s.pin j := rfl
@[simp] theorem setRemote_chan (x : Remote) : (s.setRemote i x).chan j = s.chan j := rfl
@[simp] theorem setRemote_port (x : Remote) : (s.setRemote i x).port j = s.port j := rfl
@[simp] theorem setRemote_launch (x : Remote) : (s.setRemote i x).launch j = s.launch j := rfl
@[simp] theorem setRemote_timer (x : Remote) : (s.setRemote i x).timer j = s.timer j := rfl
@[simp] theorem setRemote_dom (x : Remote) : (s.setRemote i x).dom j = s.dom j := rfl
@[simp] theorem setRemote_twrCh (x : Remote) : (s.setRemote i x).twrCh j = s.twrCh j := rfl
@[simp] theorem setRemote_pre (x : Remote) : (s.setRemote i x).pre j = s.pre j := rfl
@[simp] theorem setRemote_seed (x : Remote) : (s.setRemote i x).seed j = s.seed j := rfl
@[simp] theorem setRemote_svcInst (x : Remote) : (s.setRemote i x).svcInst j = s.svcInst j := rfl
@[simp] theorem setRemote_orient (x : Remote) : (s.setRemote i x).orient j = s.orient j := rfl
@[simp] theorem setRemote_trend (x : Remote) : (s.setRemote i x).trend j = s.trend j := rfl
@[simp] theorem setRemote_mach (x : Remote) : (s.setRemote i x).mach j = s.mach j := rfl
@[simp] theorem setRemote_wear (x : Remote) : (s.setRemote i x).wear j = s.wear j := rfl
@[simp] theorem setRemote_wakeHost (x : Remote) : (s.setRemote i x).wakeHost j = s.wakeHost j := rfl
@[simp] theorem setRemote_stream (x : Remote) : (s.setRemote i x).stream j = s.stream j := rfl
@[simp] theorem setRemote_tb (x : Remote) : (s.setRemote i x).tb j = s.tb j := rfl
@[simp] theorem setRemote_link (x : Remote) : (s.setRemote i x).link j = s.link j := rfl
@[simp] theorem setRemote_peer (x : Remote) : (s.setRemote i x).peer j = s.peer j := rfl
@[simp] theorem setRemote_legLink (x : Remote) : (s.setRemote i x).legLink j = s.legLink j := rfl
@[simp] theorem setRemote_rfBuf (x : Remote) : (s.setRemote i x).rfBuf j = s.rfBuf j := rfl
@[simp] theorem setRemote_meter (x : Remote) : (s.setRemote i x).meter j = s.meter j := rfl
@[simp] theorem setRemote_epochNow (x : Remote) : (s.setRemote i x).epochNow j = s.epochNow j := rfl
@[simp] theorem setRemote_epochPrev (x : Remote) : (s.setRemote i x).epochPrev j = s.epochPrev j := rfl
@[simp] theorem setRemote_patch (x : Remote) : (s.setRemote i x).patch j = s.patch j := rfl
@[simp] theorem setRemote_unit (x : Remote) : (s.setRemote i x).unit j = s.unit j := rfl

/-! ### `rf.bufs` -/

@[simp] theorem modRfBuf_eq (f : RfBuf → RfBuf) : s.modRfBuf i f = s.setRfBuf i (f (s.rfBuf i)) := rfl
theorem setRfBuf_rfBuf (x : RfBuf) : (s.setRfBuf i x).rfBuf j = if j = i then x else s.rfBuf j := Tab.get_set _ _ _ _
@[simp] theorem setRfBuf_rfBuf_self (x : RfBuf) : (s.setRfBuf i x).rfBuf i = x := Tab.get_set_self _ _ _
@[simp] theorem setRfBuf_pending' (x : RfBuf) : (s.setRfBuf i x).pending = s.pending := rfl
@[simp] theorem setRfBuf_tick' (x : RfBuf) : (s.setRfBuf i x).tick = s.tick := rfl
@[simp] theorem setRfBuf_sub' (x : RfBuf) : (s.setRfBuf i x).sub = s.sub := rfl
@[simp] theorem setRfBuf_provisioned' (x : RfBuf) : (s.setRfBuf i x).provisioned = s.provisioned := rfl
@[simp] theorem setRfBuf_free' (x : RfBuf) : (s.setRfBuf i x).free = s.free := rfl
@[simp] theorem setRfBuf_regs' (x : RfBuf) : (s.setRfBuf i x).regs = s.regs := rfl
@[simp] theorem setRfBuf_applied' (x : RfBuf) : (s.setRfBuf i x).applied = s.applied := rfl
@[simp] theorem setRfBuf_mem' (x : RfBuf) : (s.setRfBuf i x).mem = s.mem := rfl
@[simp] theorem setRfBuf_hosts' (x : RfBuf) : (s.setRfBuf i x).hosts = s.hosts := rfl
@[simp] theorem setRfBuf_turn' (x : RfBuf) : (s.setRfBuf i x).turn = s.turn := rfl
@[simp] theorem setRfBuf_sessionNo' (x : RfBuf) : (s.setRfBuf i x).sessionNo = s.sessionNo := rfl
@[simp] theorem setRfBuf_out' (x : RfBuf) : (s.setRfBuf i x).out = s.out := rfl
@[simp] theorem setRfBuf_hp1Ibi' (x : RfBuf) : (s.setRfBuf i x).hp1Ibi = s.hp1Ibi := rfl
@[simp] theorem setRfBuf_log' (x : RfBuf) : (s.setRfBuf i x).log = s.log := rfl
@[simp] theorem setRfBuf_logSat' (x : RfBuf) : (s.setRfBuf i x).logSat = s.logSat := rfl
@[simp] theorem setRfBuf_fenced' (x : RfBuf) : (s.setRfBuf i x).fenced = s.fenced := rfl
@[simp] theorem setRfBuf_runs' (x : RfBuf) : (s.setRfBuf i x).runs = s.runs := rfl
@[simp] theorem setRfBuf_check' (x : RfBuf) : (s.setRfBuf i x).check = s.check := rfl
@[simp] theorem setRfBuf_snap' (x : RfBuf) : (s.setRfBuf i x).snap = s.snap := rfl
@[simp] theorem setRfBuf_groups' (x : RfBuf) : (s.setRfBuf i x).groups = s.groups := rfl
@[simp] theorem setRfBuf_targets' (x : RfBuf) : (s.setRfBuf i x).targets = s.targets := rfl
@[simp] theorem setRfBuf_srcs' (x : RfBuf) : (s.setRfBuf i x).srcs = s.srcs := rfl
@[simp] theorem setRfBuf_sluices' (x : RfBuf) : (s.setRfBuf i x).sluices = s.sluices := rfl
@[simp] theorem setRfBuf_pins' (x : RfBuf) : (s.setRfBuf i x).pins = s.pins := rfl
@[simp] theorem setRfBuf_evq' (x : RfBuf) : (s.setRfBuf i x).evq = s.evq := rfl
@[simp] theorem setRfBuf_wave' (x : RfBuf) : (s.setRfBuf i x).wave = s.wave := rfl
@[simp] theorem setRfBuf_jobs' (x : RfBuf) : (s.setRfBuf i x).jobs = s.jobs := rfl
@[simp] theorem setRfBuf_chans' (x : RfBuf) : (s.setRfBuf i x).chans = s.chans := rfl
@[simp] theorem setRfBuf_ports' (x : RfBuf) : (s.setRfBuf i x).ports = s.ports := rfl
@[simp] theorem setRfBuf_afe' (x : RfBuf) : (s.setRfBuf i x).afe = s.afe := rfl
@[simp] theorem setRfBuf_twr' (x : RfBuf) : (s.setRfBuf i x).twr = s.twr := rfl
@[simp] theorem setRfBuf_cry' (x : RfBuf) : (s.setRfBuf i x).cry = s.cry := rfl
@[simp] theorem setRfBuf_svc' (x : RfBuf) : (s.setRfBuf i x).svc = s.svc := rfl
@[simp] theorem setRfBuf_pan' (x : RfBuf) : (s.setRfBuf i x).pan = s.pan := rfl
@[simp] theorem setRfBuf_time' (x : RfBuf) : (s.setRfBuf i x).time = s.time := rfl
@[simp] theorem setRfBuf_launches' (x : RfBuf) : (s.setRfBuf i x).launches = s.launches := rfl
@[simp] theorem setRfBuf_timers' (x : RfBuf) : (s.setRfBuf i x).timers = s.timers := rfl
@[simp] theorem setRfBuf_slt' (x : RfBuf) : (s.setRfBuf i x).slt = s.slt := rfl
@[simp] theorem setRfBuf_rf_state' (x : RfBuf) : (s.setRfBuf i x).rf.state = s.rf.state := rfl
@[simp] theorem setRfBuf_rf_locked' (x : RfBuf) : (s.setRfBuf i x).rf.locked = s.rf.locked := rfl
@[simp] theorem setRfBuf_rf_listen' (x : RfBuf) : (s.setRfBuf i x).rf.listen = s.rf.listen := rfl
@[simp] theorem setRfBuf_rf_guardTime' (x : RfBuf) : (s.setRfBuf i x).rf.guardTime = s.rf.guardTime := rfl
@[simp] theorem setRfBuf_rf_calValid' (x : RfBuf) : (s.setRfBuf i x).rf.calValid = s.rf.calValid := rfl
@[simp] theorem setRfBuf_rf_rssi' (x : RfBuf) : (s.setRfBuf i x).rf.rssi = s.rf.rssi := rfl
@[simp] theorem setRfBuf_rf_lqi' (x : RfBuf) : (s.setRfBuf i x).rf.lqi = s.rf.lqi := rfl
@[simp] theorem setRfBuf_rf_tx' (x : RfBuf) : (s.setRfBuf i x).rf.tx = s.rf.tx := rfl
@[simp] theorem setRfBuf_rf_wait' (x : RfBuf) : (s.setRfBuf i x).rf.wait = s.rf.wait := rfl
@[simp] theorem setRfBuf_rf_launch' (x : RfBuf) : (s.setRfBuf i x).rf.launch = s.rf.launch := rfl
@[simp] theorem setRfBuf_rf_ackOwed' (x : RfBuf) : (s.setRfBuf i x).rf.ackOwed = s.rf.ackOwed := rfl
@[simp] theorem setRfBuf_rf_ackWait' (x : RfBuf) : (s.setRfBuf i x).rf.ackWait = s.rf.ackWait := rfl
@[simp] theorem setRfBuf_rf_seq' (x : RfBuf) : (s.setRfBuf i x).rf.seq = s.rf.seq := rfl
@[simp] theorem setRfBuf_rf_ctr' (x : RfBuf) : (s.setRfBuf i x).rf.ctr = s.rf.ctr := rfl
@[simp] theorem setRfBuf_rf_seen' (x : RfBuf) : (s.setRfBuf i x).rf.seen = s.rf.seen := rfl
@[simp] theorem setRfBuf_rf_cal' (x : RfBuf) : (s.setRfBuf i x).rf.cal = s.rf.cal := rfl
@[simp] theorem setRfBuf_rf_calDue' (x : RfBuf) : (s.setRfBuf i x).rf.calDue = s.rf.calDue := rfl
@[simp] theorem setRfBuf_rf_lastSent' (x : RfBuf) : (s.setRfBuf i x).rf.lastSent = s.rf.lastSent := rfl
@[simp] theorem setRfBuf_rf_ended' (x : RfBuf) : (s.setRfBuf i x).rf.ended = s.rf.ended := rfl
@[simp] theorem setRfBuf_doms' (x : RfBuf) : (s.setRfBuf i x).doms = s.doms := rfl
@[simp] theorem setRfBuf_ldg' (x : RfBuf) : (s.setRfBuf i x).ldg = s.ldg := rfl
@[simp] theorem setRfBuf_pln' (x : RfBuf) : (s.setRfBuf i x).pln = s.pln := rfl
@[simp] theorem setRfBuf_store' (x : RfBuf) : (s.setRfBuf i x).store = s.store := rfl
@[simp] theorem setRfBuf_life' (x : RfBuf) : (s.setRfBuf i x).life = s.life := rfl
@[simp] theorem setRfBuf_cal' (x : RfBuf) : (s.setRfBuf i x).cal = s.cal := rfl
@[simp] theorem setRfBuf_pwr' (x : RfBuf) : (s.setRfBuf i x).pwr = s.pwr := rfl
@[simp] theorem setRfBuf_host (x : RfBuf) : (s.setRfBuf i x).host j = s.host j := rfl
@[simp] theorem setRfBuf_target (x : RfBuf) : (s.setRfBuf i x).target j = s.target j := rfl
@[simp] theorem setRfBuf_src (x : RfBuf) : (s.setRfBuf i x).src j = s.src j := rfl
@[simp] theorem setRfBuf_sluice (x : RfBuf) : (s.setRfBuf i x).sluice j = s.sluice j := rfl
@[simp] theorem setRfBuf_pin (x : RfBuf) : (s.setRfBuf i x).pin j = s.pin j := rfl
@[simp] theorem setRfBuf_chan (x : RfBuf) : (s.setRfBuf i x).chan j = s.chan j := rfl
@[simp] theorem setRfBuf_port (x : RfBuf) : (s.setRfBuf i x).port j = s.port j := rfl
@[simp] theorem setRfBuf_launch (x : RfBuf) : (s.setRfBuf i x).launch j = s.launch j := rfl
@[simp] theorem setRfBuf_timer (x : RfBuf) : (s.setRfBuf i x).timer j = s.timer j := rfl
@[simp] theorem setRfBuf_dom (x : RfBuf) : (s.setRfBuf i x).dom j = s.dom j := rfl
@[simp] theorem setRfBuf_twrCh (x : RfBuf) : (s.setRfBuf i x).twrCh j = s.twrCh j := rfl
@[simp] theorem setRfBuf_pre (x : RfBuf) : (s.setRfBuf i x).pre j = s.pre j := rfl
@[simp] theorem setRfBuf_seed (x : RfBuf) : (s.setRfBuf i x).seed j = s.seed j := rfl
@[simp] theorem setRfBuf_svcInst (x : RfBuf) : (s.setRfBuf i x).svcInst j = s.svcInst j := rfl
@[simp] theorem setRfBuf_orient (x : RfBuf) : (s.setRfBuf i x).orient j = s.orient j := rfl
@[simp] theorem setRfBuf_trend (x : RfBuf) : (s.setRfBuf i x).trend j = s.trend j := rfl
@[simp] theorem setRfBuf_mach (x : RfBuf) : (s.setRfBuf i x).mach j = s.mach j := rfl
@[simp] theorem setRfBuf_wear (x : RfBuf) : (s.setRfBuf i x).wear j = s.wear j := rfl
@[simp] theorem setRfBuf_wakeHost (x : RfBuf) : (s.setRfBuf i x).wakeHost j = s.wakeHost j := rfl
@[simp] theorem setRfBuf_stream (x : RfBuf) : (s.setRfBuf i x).stream j = s.stream j := rfl
@[simp] theorem setRfBuf_tb (x : RfBuf) : (s.setRfBuf i x).tb j = s.tb j := rfl
@[simp] theorem setRfBuf_link (x : RfBuf) : (s.setRfBuf i x).link j = s.link j := rfl
@[simp] theorem setRfBuf_peer (x : RfBuf) : (s.setRfBuf i x).peer j = s.peer j := rfl
@[simp] theorem setRfBuf_legLink (x : RfBuf) : (s.setRfBuf i x).legLink j = s.legLink j := rfl
@[simp] theorem setRfBuf_remote (x : RfBuf) : (s.setRfBuf i x).remote j = s.remote j := rfl
@[simp] theorem setRfBuf_meter (x : RfBuf) : (s.setRfBuf i x).meter j = s.meter j := rfl
@[simp] theorem setRfBuf_epochNow (x : RfBuf) : (s.setRfBuf i x).epochNow j = s.epochNow j := rfl
@[simp] theorem setRfBuf_epochPrev (x : RfBuf) : (s.setRfBuf i x).epochPrev j = s.epochPrev j := rfl
@[simp] theorem setRfBuf_patch (x : RfBuf) : (s.setRfBuf i x).patch j = s.patch j := rfl
@[simp] theorem setRfBuf_unit (x : RfBuf) : (s.setRfBuf i x).unit j = s.unit j := rfl

/-! ### `ldg.dom` -/

@[simp] theorem modMeter_eq (f : Meter → Meter) : s.modMeter i f = s.setMeter i (f (s.meter i)) := rfl
theorem setMeter_meter (x : Meter) : (s.setMeter i x).meter j = if j = i then x else s.meter j := Tab.get_set _ _ _ _
@[simp] theorem setMeter_meter_self (x : Meter) : (s.setMeter i x).meter i = x := Tab.get_set_self _ _ _
@[simp] theorem setMeter_pending' (x : Meter) : (s.setMeter i x).pending = s.pending := rfl
@[simp] theorem setMeter_tick' (x : Meter) : (s.setMeter i x).tick = s.tick := rfl
@[simp] theorem setMeter_sub' (x : Meter) : (s.setMeter i x).sub = s.sub := rfl
@[simp] theorem setMeter_provisioned' (x : Meter) : (s.setMeter i x).provisioned = s.provisioned := rfl
@[simp] theorem setMeter_free' (x : Meter) : (s.setMeter i x).free = s.free := rfl
@[simp] theorem setMeter_regs' (x : Meter) : (s.setMeter i x).regs = s.regs := rfl
@[simp] theorem setMeter_applied' (x : Meter) : (s.setMeter i x).applied = s.applied := rfl
@[simp] theorem setMeter_mem' (x : Meter) : (s.setMeter i x).mem = s.mem := rfl
@[simp] theorem setMeter_hosts' (x : Meter) : (s.setMeter i x).hosts = s.hosts := rfl
@[simp] theorem setMeter_turn' (x : Meter) : (s.setMeter i x).turn = s.turn := rfl
@[simp] theorem setMeter_sessionNo' (x : Meter) : (s.setMeter i x).sessionNo = s.sessionNo := rfl
@[simp] theorem setMeter_out' (x : Meter) : (s.setMeter i x).out = s.out := rfl
@[simp] theorem setMeter_hp1Ibi' (x : Meter) : (s.setMeter i x).hp1Ibi = s.hp1Ibi := rfl
@[simp] theorem setMeter_log' (x : Meter) : (s.setMeter i x).log = s.log := rfl
@[simp] theorem setMeter_logSat' (x : Meter) : (s.setMeter i x).logSat = s.logSat := rfl
@[simp] theorem setMeter_fenced' (x : Meter) : (s.setMeter i x).fenced = s.fenced := rfl
@[simp] theorem setMeter_runs' (x : Meter) : (s.setMeter i x).runs = s.runs := rfl
@[simp] theorem setMeter_check' (x : Meter) : (s.setMeter i x).check = s.check := rfl
@[simp] theorem setMeter_snap' (x : Meter) : (s.setMeter i x).snap = s.snap := rfl
@[simp] theorem setMeter_groups' (x : Meter) : (s.setMeter i x).groups = s.groups := rfl
@[simp] theorem setMeter_targets' (x : Meter) : (s.setMeter i x).targets = s.targets := rfl
@[simp] theorem setMeter_srcs' (x : Meter) : (s.setMeter i x).srcs = s.srcs := rfl
@[simp] theorem setMeter_sluices' (x : Meter) : (s.setMeter i x).sluices = s.sluices := rfl
@[simp] theorem setMeter_pins' (x : Meter) : (s.setMeter i x).pins = s.pins := rfl
@[simp] theorem setMeter_evq' (x : Meter) : (s.setMeter i x).evq = s.evq := rfl
@[simp] theorem setMeter_wave' (x : Meter) : (s.setMeter i x).wave = s.wave := rfl
@[simp] theorem setMeter_jobs' (x : Meter) : (s.setMeter i x).jobs = s.jobs := rfl
@[simp] theorem setMeter_chans' (x : Meter) : (s.setMeter i x).chans = s.chans := rfl
@[simp] theorem setMeter_ports' (x : Meter) : (s.setMeter i x).ports = s.ports := rfl
@[simp] theorem setMeter_afe' (x : Meter) : (s.setMeter i x).afe = s.afe := rfl
@[simp] theorem setMeter_twr' (x : Meter) : (s.setMeter i x).twr = s.twr := rfl
@[simp] theorem setMeter_cry' (x : Meter) : (s.setMeter i x).cry = s.cry := rfl
@[simp] theorem setMeter_svc' (x : Meter) : (s.setMeter i x).svc = s.svc := rfl
@[simp] theorem setMeter_pan' (x : Meter) : (s.setMeter i x).pan = s.pan := rfl
@[simp] theorem setMeter_time' (x : Meter) : (s.setMeter i x).time = s.time := rfl
@[simp] theorem setMeter_launches' (x : Meter) : (s.setMeter i x).launches = s.launches := rfl
@[simp] theorem setMeter_timers' (x : Meter) : (s.setMeter i x).timers = s.timers := rfl
@[simp] theorem setMeter_slt' (x : Meter) : (s.setMeter i x).slt = s.slt := rfl
@[simp] theorem setMeter_rf' (x : Meter) : (s.setMeter i x).rf = s.rf := rfl
@[simp] theorem setMeter_doms' (x : Meter) : (s.setMeter i x).doms = s.doms := rfl
@[simp] theorem setMeter_ldg_common' (x : Meter) : (s.setMeter i x).ldg.common = s.ldg.common := rfl
@[simp] theorem setMeter_ldg_income' (x : Meter) : (s.setMeter i x).ldg.income = s.ldg.income := rfl
@[simp] theorem setMeter_ldg_draw' (x : Meter) : (s.setMeter i x).ldg.draw = s.ldg.draw := rfl
@[simp] theorem setMeter_ldg_store' (x : Meter) : (s.setMeter i x).ldg.store = s.ldg.store := rfl
@[simp] theorem setMeter_ldg_storeValid' (x : Meter) : (s.setMeter i x).ldg.storeValid = s.ldg.storeValid := rfl
@[simp] theorem setMeter_ldg_vbat' (x : Meter) : (s.setMeter i x).ldg.vbat = s.ldg.vbat := rfl
@[simp] theorem setMeter_ldg_tally' (x : Meter) : (s.setMeter i x).ldg.tally = s.ldg.tally := rfl
@[simp] theorem setMeter_ldg_now' (x : Meter) : (s.setMeter i x).ldg.now = s.ldg.now := rfl
@[simp] theorem setMeter_ldg_prev' (x : Meter) : (s.setMeter i x).ldg.prev = s.ldg.prev := rfl
@[simp] theorem setMeter_ldg_measured' (x : Meter) : (s.setMeter i x).ldg.measured = s.ldg.measured := rfl
@[simp] theorem setMeter_ldg_ch' (x : Meter) : (s.setMeter i x).ldg.ch = s.ldg.ch := rfl
@[simp] theorem setMeter_ldg_bound' (x : Meter) : (s.setMeter i x).ldg.bound = s.ldg.bound := rfl
@[simp] theorem setMeter_ldg_lastCommon' (x : Meter) : (s.setMeter i x).ldg.lastCommon = s.ldg.lastCommon := rfl
@[simp] theorem setMeter_ldg_lastTotal' (x : Meter) : (s.setMeter i x).ldg.lastTotal = s.ldg.lastTotal := rfl
@[simp] theorem setMeter_ldg_lastLen' (x : Meter) : (s.setMeter i x).ldg.lastLen = s.ldg.lastLen := rfl
@[simp] theorem setMeter_pln' (x : Meter) : (s.setMeter i x).pln = s.pln := rfl
@[simp] theorem setMeter_store' (x : Meter) : (s.setMeter i x).store = s.store := rfl
@[simp] theorem setMeter_life' (x : Meter) : (s.setMeter i x).life = s.life := rfl
@[simp] theorem setMeter_cal' (x : Meter) : (s.setMeter i x).cal = s.cal := rfl
@[simp] theorem setMeter_pwr' (x : Meter) : (s.setMeter i x).pwr = s.pwr := rfl
@[simp] theorem setMeter_host (x : Meter) : (s.setMeter i x).host j = s.host j := rfl
@[simp] theorem setMeter_target (x : Meter) : (s.setMeter i x).target j = s.target j := rfl
@[simp] theorem setMeter_src (x : Meter) : (s.setMeter i x).src j = s.src j := rfl
@[simp] theorem setMeter_sluice (x : Meter) : (s.setMeter i x).sluice j = s.sluice j := rfl
@[simp] theorem setMeter_pin (x : Meter) : (s.setMeter i x).pin j = s.pin j := rfl
@[simp] theorem setMeter_chan (x : Meter) : (s.setMeter i x).chan j = s.chan j := rfl
@[simp] theorem setMeter_port (x : Meter) : (s.setMeter i x).port j = s.port j := rfl
@[simp] theorem setMeter_launch (x : Meter) : (s.setMeter i x).launch j = s.launch j := rfl
@[simp] theorem setMeter_timer (x : Meter) : (s.setMeter i x).timer j = s.timer j := rfl
@[simp] theorem setMeter_dom (x : Meter) : (s.setMeter i x).dom j = s.dom j := rfl
@[simp] theorem setMeter_twrCh (x : Meter) : (s.setMeter i x).twrCh j = s.twrCh j := rfl
@[simp] theorem setMeter_pre (x : Meter) : (s.setMeter i x).pre j = s.pre j := rfl
@[simp] theorem setMeter_seed (x : Meter) : (s.setMeter i x).seed j = s.seed j := rfl
@[simp] theorem setMeter_svcInst (x : Meter) : (s.setMeter i x).svcInst j = s.svcInst j := rfl
@[simp] theorem setMeter_orient (x : Meter) : (s.setMeter i x).orient j = s.orient j := rfl
@[simp] theorem setMeter_trend (x : Meter) : (s.setMeter i x).trend j = s.trend j := rfl
@[simp] theorem setMeter_mach (x : Meter) : (s.setMeter i x).mach j = s.mach j := rfl
@[simp] theorem setMeter_wear (x : Meter) : (s.setMeter i x).wear j = s.wear j := rfl
@[simp] theorem setMeter_wakeHost (x : Meter) : (s.setMeter i x).wakeHost j = s.wakeHost j := rfl
@[simp] theorem setMeter_stream (x : Meter) : (s.setMeter i x).stream j = s.stream j := rfl
@[simp] theorem setMeter_tb (x : Meter) : (s.setMeter i x).tb j = s.tb j := rfl
@[simp] theorem setMeter_link (x : Meter) : (s.setMeter i x).link j = s.link j := rfl
@[simp] theorem setMeter_peer (x : Meter) : (s.setMeter i x).peer j = s.peer j := rfl
@[simp] theorem setMeter_legLink (x : Meter) : (s.setMeter i x).legLink j = s.legLink j := rfl
@[simp] theorem setMeter_remote (x : Meter) : (s.setMeter i x).remote j = s.remote j := rfl
@[simp] theorem setMeter_rfBuf (x : Meter) : (s.setMeter i x).rfBuf j = s.rfBuf j := rfl
@[simp] theorem setMeter_epochNow (x : Meter) : (s.setMeter i x).epochNow j = s.epochNow j := rfl
@[simp] theorem setMeter_epochPrev (x : Meter) : (s.setMeter i x).epochPrev j = s.epochPrev j := rfl
@[simp] theorem setMeter_patch (x : Meter) : (s.setMeter i x).patch j = s.patch j := rfl
@[simp] theorem setMeter_unit (x : Meter) : (s.setMeter i x).unit j = s.unit j := rfl

/-! ### `ldg.now` -/

@[simp] theorem modEpochNow_eq (f : EpochCnt → EpochCnt) : s.modEpochNow i f = s.setEpochNow i (f (s.epochNow i)) := rfl
theorem setEpochNow_epochNow (x : EpochCnt) : (s.setEpochNow i x).epochNow j = if j = i then x else s.epochNow j := Tab.get_set _ _ _ _
@[simp] theorem setEpochNow_epochNow_self (x : EpochCnt) : (s.setEpochNow i x).epochNow i = x := Tab.get_set_self _ _ _
@[simp] theorem setEpochNow_pending' (x : EpochCnt) : (s.setEpochNow i x).pending = s.pending := rfl
@[simp] theorem setEpochNow_tick' (x : EpochCnt) : (s.setEpochNow i x).tick = s.tick := rfl
@[simp] theorem setEpochNow_sub' (x : EpochCnt) : (s.setEpochNow i x).sub = s.sub := rfl
@[simp] theorem setEpochNow_provisioned' (x : EpochCnt) : (s.setEpochNow i x).provisioned = s.provisioned := rfl
@[simp] theorem setEpochNow_free' (x : EpochCnt) : (s.setEpochNow i x).free = s.free := rfl
@[simp] theorem setEpochNow_regs' (x : EpochCnt) : (s.setEpochNow i x).regs = s.regs := rfl
@[simp] theorem setEpochNow_applied' (x : EpochCnt) : (s.setEpochNow i x).applied = s.applied := rfl
@[simp] theorem setEpochNow_mem' (x : EpochCnt) : (s.setEpochNow i x).mem = s.mem := rfl
@[simp] theorem setEpochNow_hosts' (x : EpochCnt) : (s.setEpochNow i x).hosts = s.hosts := rfl
@[simp] theorem setEpochNow_turn' (x : EpochCnt) : (s.setEpochNow i x).turn = s.turn := rfl
@[simp] theorem setEpochNow_sessionNo' (x : EpochCnt) : (s.setEpochNow i x).sessionNo = s.sessionNo := rfl
@[simp] theorem setEpochNow_out' (x : EpochCnt) : (s.setEpochNow i x).out = s.out := rfl
@[simp] theorem setEpochNow_hp1Ibi' (x : EpochCnt) : (s.setEpochNow i x).hp1Ibi = s.hp1Ibi := rfl
@[simp] theorem setEpochNow_log' (x : EpochCnt) : (s.setEpochNow i x).log = s.log := rfl
@[simp] theorem setEpochNow_logSat' (x : EpochCnt) : (s.setEpochNow i x).logSat = s.logSat := rfl
@[simp] theorem setEpochNow_fenced' (x : EpochCnt) : (s.setEpochNow i x).fenced = s.fenced := rfl
@[simp] theorem setEpochNow_runs' (x : EpochCnt) : (s.setEpochNow i x).runs = s.runs := rfl
@[simp] theorem setEpochNow_check' (x : EpochCnt) : (s.setEpochNow i x).check = s.check := rfl
@[simp] theorem setEpochNow_snap' (x : EpochCnt) : (s.setEpochNow i x).snap = s.snap := rfl
@[simp] theorem setEpochNow_groups' (x : EpochCnt) : (s.setEpochNow i x).groups = s.groups := rfl
@[simp] theorem setEpochNow_targets' (x : EpochCnt) : (s.setEpochNow i x).targets = s.targets := rfl
@[simp] theorem setEpochNow_srcs' (x : EpochCnt) : (s.setEpochNow i x).srcs = s.srcs := rfl
@[simp] theorem setEpochNow_sluices' (x : EpochCnt) : (s.setEpochNow i x).sluices = s.sluices := rfl
@[simp] theorem setEpochNow_pins' (x : EpochCnt) : (s.setEpochNow i x).pins = s.pins := rfl
@[simp] theorem setEpochNow_evq' (x : EpochCnt) : (s.setEpochNow i x).evq = s.evq := rfl
@[simp] theorem setEpochNow_wave' (x : EpochCnt) : (s.setEpochNow i x).wave = s.wave := rfl
@[simp] theorem setEpochNow_jobs' (x : EpochCnt) : (s.setEpochNow i x).jobs = s.jobs := rfl
@[simp] theorem setEpochNow_chans' (x : EpochCnt) : (s.setEpochNow i x).chans = s.chans := rfl
@[simp] theorem setEpochNow_ports' (x : EpochCnt) : (s.setEpochNow i x).ports = s.ports := rfl
@[simp] theorem setEpochNow_afe' (x : EpochCnt) : (s.setEpochNow i x).afe = s.afe := rfl
@[simp] theorem setEpochNow_twr' (x : EpochCnt) : (s.setEpochNow i x).twr = s.twr := rfl
@[simp] theorem setEpochNow_cry' (x : EpochCnt) : (s.setEpochNow i x).cry = s.cry := rfl
@[simp] theorem setEpochNow_svc' (x : EpochCnt) : (s.setEpochNow i x).svc = s.svc := rfl
@[simp] theorem setEpochNow_pan' (x : EpochCnt) : (s.setEpochNow i x).pan = s.pan := rfl
@[simp] theorem setEpochNow_time' (x : EpochCnt) : (s.setEpochNow i x).time = s.time := rfl
@[simp] theorem setEpochNow_launches' (x : EpochCnt) : (s.setEpochNow i x).launches = s.launches := rfl
@[simp] theorem setEpochNow_timers' (x : EpochCnt) : (s.setEpochNow i x).timers = s.timers := rfl
@[simp] theorem setEpochNow_slt' (x : EpochCnt) : (s.setEpochNow i x).slt = s.slt := rfl
@[simp] theorem setEpochNow_rf' (x : EpochCnt) : (s.setEpochNow i x).rf = s.rf := rfl
@[simp] theorem setEpochNow_doms' (x : EpochCnt) : (s.setEpochNow i x).doms = s.doms := rfl
@[simp] theorem setEpochNow_ldg_dom' (x : EpochCnt) : (s.setEpochNow i x).ldg.dom = s.ldg.dom := rfl
@[simp] theorem setEpochNow_ldg_common' (x : EpochCnt) : (s.setEpochNow i x).ldg.common = s.ldg.common := rfl
@[simp] theorem setEpochNow_ldg_income' (x : EpochCnt) : (s.setEpochNow i x).ldg.income = s.ldg.income := rfl
@[simp] theorem setEpochNow_ldg_draw' (x : EpochCnt) : (s.setEpochNow i x).ldg.draw = s.ldg.draw := rfl
@[simp] theorem setEpochNow_ldg_store' (x : EpochCnt) : (s.setEpochNow i x).ldg.store = s.ldg.store := rfl
@[simp] theorem setEpochNow_ldg_storeValid' (x : EpochCnt) : (s.setEpochNow i x).ldg.storeValid = s.ldg.storeValid := rfl
@[simp] theorem setEpochNow_ldg_vbat' (x : EpochCnt) : (s.setEpochNow i x).ldg.vbat = s.ldg.vbat := rfl
@[simp] theorem setEpochNow_ldg_tally' (x : EpochCnt) : (s.setEpochNow i x).ldg.tally = s.ldg.tally := rfl
@[simp] theorem setEpochNow_ldg_prev' (x : EpochCnt) : (s.setEpochNow i x).ldg.prev = s.ldg.prev := rfl
@[simp] theorem setEpochNow_ldg_measured' (x : EpochCnt) : (s.setEpochNow i x).ldg.measured = s.ldg.measured := rfl
@[simp] theorem setEpochNow_ldg_ch' (x : EpochCnt) : (s.setEpochNow i x).ldg.ch = s.ldg.ch := rfl
@[simp] theorem setEpochNow_ldg_bound' (x : EpochCnt) : (s.setEpochNow i x).ldg.bound = s.ldg.bound := rfl
@[simp] theorem setEpochNow_ldg_lastCommon' (x : EpochCnt) : (s.setEpochNow i x).ldg.lastCommon = s.ldg.lastCommon := rfl
@[simp] theorem setEpochNow_ldg_lastTotal' (x : EpochCnt) : (s.setEpochNow i x).ldg.lastTotal = s.ldg.lastTotal := rfl
@[simp] theorem setEpochNow_ldg_lastLen' (x : EpochCnt) : (s.setEpochNow i x).ldg.lastLen = s.ldg.lastLen := rfl
@[simp] theorem setEpochNow_pln' (x : EpochCnt) : (s.setEpochNow i x).pln = s.pln := rfl
@[simp] theorem setEpochNow_store' (x : EpochCnt) : (s.setEpochNow i x).store = s.store := rfl
@[simp] theorem setEpochNow_life' (x : EpochCnt) : (s.setEpochNow i x).life = s.life := rfl
@[simp] theorem setEpochNow_cal' (x : EpochCnt) : (s.setEpochNow i x).cal = s.cal := rfl
@[simp] theorem setEpochNow_pwr' (x : EpochCnt) : (s.setEpochNow i x).pwr = s.pwr := rfl
@[simp] theorem setEpochNow_host (x : EpochCnt) : (s.setEpochNow i x).host j = s.host j := rfl
@[simp] theorem setEpochNow_target (x : EpochCnt) : (s.setEpochNow i x).target j = s.target j := rfl
@[simp] theorem setEpochNow_src (x : EpochCnt) : (s.setEpochNow i x).src j = s.src j := rfl
@[simp] theorem setEpochNow_sluice (x : EpochCnt) : (s.setEpochNow i x).sluice j = s.sluice j := rfl
@[simp] theorem setEpochNow_pin (x : EpochCnt) : (s.setEpochNow i x).pin j = s.pin j := rfl
@[simp] theorem setEpochNow_chan (x : EpochCnt) : (s.setEpochNow i x).chan j = s.chan j := rfl
@[simp] theorem setEpochNow_port (x : EpochCnt) : (s.setEpochNow i x).port j = s.port j := rfl
@[simp] theorem setEpochNow_launch (x : EpochCnt) : (s.setEpochNow i x).launch j = s.launch j := rfl
@[simp] theorem setEpochNow_timer (x : EpochCnt) : (s.setEpochNow i x).timer j = s.timer j := rfl
@[simp] theorem setEpochNow_dom (x : EpochCnt) : (s.setEpochNow i x).dom j = s.dom j := rfl
@[simp] theorem setEpochNow_twrCh (x : EpochCnt) : (s.setEpochNow i x).twrCh j = s.twrCh j := rfl
@[simp] theorem setEpochNow_pre (x : EpochCnt) : (s.setEpochNow i x).pre j = s.pre j := rfl
@[simp] theorem setEpochNow_seed (x : EpochCnt) : (s.setEpochNow i x).seed j = s.seed j := rfl
@[simp] theorem setEpochNow_svcInst (x : EpochCnt) : (s.setEpochNow i x).svcInst j = s.svcInst j := rfl
@[simp] theorem setEpochNow_orient (x : EpochCnt) : (s.setEpochNow i x).orient j = s.orient j := rfl
@[simp] theorem setEpochNow_trend (x : EpochCnt) : (s.setEpochNow i x).trend j = s.trend j := rfl
@[simp] theorem setEpochNow_mach (x : EpochCnt) : (s.setEpochNow i x).mach j = s.mach j := rfl
@[simp] theorem setEpochNow_wear (x : EpochCnt) : (s.setEpochNow i x).wear j = s.wear j := rfl
@[simp] theorem setEpochNow_wakeHost (x : EpochCnt) : (s.setEpochNow i x).wakeHost j = s.wakeHost j := rfl
@[simp] theorem setEpochNow_stream (x : EpochCnt) : (s.setEpochNow i x).stream j = s.stream j := rfl
@[simp] theorem setEpochNow_tb (x : EpochCnt) : (s.setEpochNow i x).tb j = s.tb j := rfl
@[simp] theorem setEpochNow_link (x : EpochCnt) : (s.setEpochNow i x).link j = s.link j := rfl
@[simp] theorem setEpochNow_peer (x : EpochCnt) : (s.setEpochNow i x).peer j = s.peer j := rfl
@[simp] theorem setEpochNow_legLink (x : EpochCnt) : (s.setEpochNow i x).legLink j = s.legLink j := rfl
@[simp] theorem setEpochNow_remote (x : EpochCnt) : (s.setEpochNow i x).remote j = s.remote j := rfl
@[simp] theorem setEpochNow_rfBuf (x : EpochCnt) : (s.setEpochNow i x).rfBuf j = s.rfBuf j := rfl
@[simp] theorem setEpochNow_meter (x : EpochCnt) : (s.setEpochNow i x).meter j = s.meter j := rfl
@[simp] theorem setEpochNow_epochPrev (x : EpochCnt) : (s.setEpochNow i x).epochPrev j = s.epochPrev j := rfl
@[simp] theorem setEpochNow_patch (x : EpochCnt) : (s.setEpochNow i x).patch j = s.patch j := rfl
@[simp] theorem setEpochNow_unit (x : EpochCnt) : (s.setEpochNow i x).unit j = s.unit j := rfl

/-! ### `ldg.prev` -/

@[simp] theorem modEpochPrev_eq (f : EpochCnt → EpochCnt) : s.modEpochPrev i f = s.setEpochPrev i (f (s.epochPrev i)) := rfl
theorem setEpochPrev_epochPrev (x : EpochCnt) : (s.setEpochPrev i x).epochPrev j = if j = i then x else s.epochPrev j := Tab.get_set _ _ _ _
@[simp] theorem setEpochPrev_epochPrev_self (x : EpochCnt) : (s.setEpochPrev i x).epochPrev i = x := Tab.get_set_self _ _ _
@[simp] theorem setEpochPrev_pending' (x : EpochCnt) : (s.setEpochPrev i x).pending = s.pending := rfl
@[simp] theorem setEpochPrev_tick' (x : EpochCnt) : (s.setEpochPrev i x).tick = s.tick := rfl
@[simp] theorem setEpochPrev_sub' (x : EpochCnt) : (s.setEpochPrev i x).sub = s.sub := rfl
@[simp] theorem setEpochPrev_provisioned' (x : EpochCnt) : (s.setEpochPrev i x).provisioned = s.provisioned := rfl
@[simp] theorem setEpochPrev_free' (x : EpochCnt) : (s.setEpochPrev i x).free = s.free := rfl
@[simp] theorem setEpochPrev_regs' (x : EpochCnt) : (s.setEpochPrev i x).regs = s.regs := rfl
@[simp] theorem setEpochPrev_applied' (x : EpochCnt) : (s.setEpochPrev i x).applied = s.applied := rfl
@[simp] theorem setEpochPrev_mem' (x : EpochCnt) : (s.setEpochPrev i x).mem = s.mem := rfl
@[simp] theorem setEpochPrev_hosts' (x : EpochCnt) : (s.setEpochPrev i x).hosts = s.hosts := rfl
@[simp] theorem setEpochPrev_turn' (x : EpochCnt) : (s.setEpochPrev i x).turn = s.turn := rfl
@[simp] theorem setEpochPrev_sessionNo' (x : EpochCnt) : (s.setEpochPrev i x).sessionNo = s.sessionNo := rfl
@[simp] theorem setEpochPrev_out' (x : EpochCnt) : (s.setEpochPrev i x).out = s.out := rfl
@[simp] theorem setEpochPrev_hp1Ibi' (x : EpochCnt) : (s.setEpochPrev i x).hp1Ibi = s.hp1Ibi := rfl
@[simp] theorem setEpochPrev_log' (x : EpochCnt) : (s.setEpochPrev i x).log = s.log := rfl
@[simp] theorem setEpochPrev_logSat' (x : EpochCnt) : (s.setEpochPrev i x).logSat = s.logSat := rfl
@[simp] theorem setEpochPrev_fenced' (x : EpochCnt) : (s.setEpochPrev i x).fenced = s.fenced := rfl
@[simp] theorem setEpochPrev_runs' (x : EpochCnt) : (s.setEpochPrev i x).runs = s.runs := rfl
@[simp] theorem setEpochPrev_check' (x : EpochCnt) : (s.setEpochPrev i x).check = s.check := rfl
@[simp] theorem setEpochPrev_snap' (x : EpochCnt) : (s.setEpochPrev i x).snap = s.snap := rfl
@[simp] theorem setEpochPrev_groups' (x : EpochCnt) : (s.setEpochPrev i x).groups = s.groups := rfl
@[simp] theorem setEpochPrev_targets' (x : EpochCnt) : (s.setEpochPrev i x).targets = s.targets := rfl
@[simp] theorem setEpochPrev_srcs' (x : EpochCnt) : (s.setEpochPrev i x).srcs = s.srcs := rfl
@[simp] theorem setEpochPrev_sluices' (x : EpochCnt) : (s.setEpochPrev i x).sluices = s.sluices := rfl
@[simp] theorem setEpochPrev_pins' (x : EpochCnt) : (s.setEpochPrev i x).pins = s.pins := rfl
@[simp] theorem setEpochPrev_evq' (x : EpochCnt) : (s.setEpochPrev i x).evq = s.evq := rfl
@[simp] theorem setEpochPrev_wave' (x : EpochCnt) : (s.setEpochPrev i x).wave = s.wave := rfl
@[simp] theorem setEpochPrev_jobs' (x : EpochCnt) : (s.setEpochPrev i x).jobs = s.jobs := rfl
@[simp] theorem setEpochPrev_chans' (x : EpochCnt) : (s.setEpochPrev i x).chans = s.chans := rfl
@[simp] theorem setEpochPrev_ports' (x : EpochCnt) : (s.setEpochPrev i x).ports = s.ports := rfl
@[simp] theorem setEpochPrev_afe' (x : EpochCnt) : (s.setEpochPrev i x).afe = s.afe := rfl
@[simp] theorem setEpochPrev_twr' (x : EpochCnt) : (s.setEpochPrev i x).twr = s.twr := rfl
@[simp] theorem setEpochPrev_cry' (x : EpochCnt) : (s.setEpochPrev i x).cry = s.cry := rfl
@[simp] theorem setEpochPrev_svc' (x : EpochCnt) : (s.setEpochPrev i x).svc = s.svc := rfl
@[simp] theorem setEpochPrev_pan' (x : EpochCnt) : (s.setEpochPrev i x).pan = s.pan := rfl
@[simp] theorem setEpochPrev_time' (x : EpochCnt) : (s.setEpochPrev i x).time = s.time := rfl
@[simp] theorem setEpochPrev_launches' (x : EpochCnt) : (s.setEpochPrev i x).launches = s.launches := rfl
@[simp] theorem setEpochPrev_timers' (x : EpochCnt) : (s.setEpochPrev i x).timers = s.timers := rfl
@[simp] theorem setEpochPrev_slt' (x : EpochCnt) : (s.setEpochPrev i x).slt = s.slt := rfl
@[simp] theorem setEpochPrev_rf' (x : EpochCnt) : (s.setEpochPrev i x).rf = s.rf := rfl
@[simp] theorem setEpochPrev_doms' (x : EpochCnt) : (s.setEpochPrev i x).doms = s.doms := rfl
@[simp] theorem setEpochPrev_ldg_dom' (x : EpochCnt) : (s.setEpochPrev i x).ldg.dom = s.ldg.dom := rfl
@[simp] theorem setEpochPrev_ldg_common' (x : EpochCnt) : (s.setEpochPrev i x).ldg.common = s.ldg.common := rfl
@[simp] theorem setEpochPrev_ldg_income' (x : EpochCnt) : (s.setEpochPrev i x).ldg.income = s.ldg.income := rfl
@[simp] theorem setEpochPrev_ldg_draw' (x : EpochCnt) : (s.setEpochPrev i x).ldg.draw = s.ldg.draw := rfl
@[simp] theorem setEpochPrev_ldg_store' (x : EpochCnt) : (s.setEpochPrev i x).ldg.store = s.ldg.store := rfl
@[simp] theorem setEpochPrev_ldg_storeValid' (x : EpochCnt) : (s.setEpochPrev i x).ldg.storeValid = s.ldg.storeValid := rfl
@[simp] theorem setEpochPrev_ldg_vbat' (x : EpochCnt) : (s.setEpochPrev i x).ldg.vbat = s.ldg.vbat := rfl
@[simp] theorem setEpochPrev_ldg_tally' (x : EpochCnt) : (s.setEpochPrev i x).ldg.tally = s.ldg.tally := rfl
@[simp] theorem setEpochPrev_ldg_now' (x : EpochCnt) : (s.setEpochPrev i x).ldg.now = s.ldg.now := rfl
@[simp] theorem setEpochPrev_ldg_measured' (x : EpochCnt) : (s.setEpochPrev i x).ldg.measured = s.ldg.measured := rfl
@[simp] theorem setEpochPrev_ldg_ch' (x : EpochCnt) : (s.setEpochPrev i x).ldg.ch = s.ldg.ch := rfl
@[simp] theorem setEpochPrev_ldg_bound' (x : EpochCnt) : (s.setEpochPrev i x).ldg.bound = s.ldg.bound := rfl
@[simp] theorem setEpochPrev_ldg_lastCommon' (x : EpochCnt) : (s.setEpochPrev i x).ldg.lastCommon = s.ldg.lastCommon := rfl
@[simp] theorem setEpochPrev_ldg_lastTotal' (x : EpochCnt) : (s.setEpochPrev i x).ldg.lastTotal = s.ldg.lastTotal := rfl
@[simp] theorem setEpochPrev_ldg_lastLen' (x : EpochCnt) : (s.setEpochPrev i x).ldg.lastLen = s.ldg.lastLen := rfl
@[simp] theorem setEpochPrev_pln' (x : EpochCnt) : (s.setEpochPrev i x).pln = s.pln := rfl
@[simp] theorem setEpochPrev_store' (x : EpochCnt) : (s.setEpochPrev i x).store = s.store := rfl
@[simp] theorem setEpochPrev_life' (x : EpochCnt) : (s.setEpochPrev i x).life = s.life := rfl
@[simp] theorem setEpochPrev_cal' (x : EpochCnt) : (s.setEpochPrev i x).cal = s.cal := rfl
@[simp] theorem setEpochPrev_pwr' (x : EpochCnt) : (s.setEpochPrev i x).pwr = s.pwr := rfl
@[simp] theorem setEpochPrev_host (x : EpochCnt) : (s.setEpochPrev i x).host j = s.host j := rfl
@[simp] theorem setEpochPrev_target (x : EpochCnt) : (s.setEpochPrev i x).target j = s.target j := rfl
@[simp] theorem setEpochPrev_src (x : EpochCnt) : (s.setEpochPrev i x).src j = s.src j := rfl
@[simp] theorem setEpochPrev_sluice (x : EpochCnt) : (s.setEpochPrev i x).sluice j = s.sluice j := rfl
@[simp] theorem setEpochPrev_pin (x : EpochCnt) : (s.setEpochPrev i x).pin j = s.pin j := rfl
@[simp] theorem setEpochPrev_chan (x : EpochCnt) : (s.setEpochPrev i x).chan j = s.chan j := rfl
@[simp] theorem setEpochPrev_port (x : EpochCnt) : (s.setEpochPrev i x).port j = s.port j := rfl
@[simp] theorem setEpochPrev_launch (x : EpochCnt) : (s.setEpochPrev i x).launch j = s.launch j := rfl
@[simp] theorem setEpochPrev_timer (x : EpochCnt) : (s.setEpochPrev i x).timer j = s.timer j := rfl
@[simp] theorem setEpochPrev_dom (x : EpochCnt) : (s.setEpochPrev i x).dom j = s.dom j := rfl
@[simp] theorem setEpochPrev_twrCh (x : EpochCnt) : (s.setEpochPrev i x).twrCh j = s.twrCh j := rfl
@[simp] theorem setEpochPrev_pre (x : EpochCnt) : (s.setEpochPrev i x).pre j = s.pre j := rfl
@[simp] theorem setEpochPrev_seed (x : EpochCnt) : (s.setEpochPrev i x).seed j = s.seed j := rfl
@[simp] theorem setEpochPrev_svcInst (x : EpochCnt) : (s.setEpochPrev i x).svcInst j = s.svcInst j := rfl
@[simp] theorem setEpochPrev_orient (x : EpochCnt) : (s.setEpochPrev i x).orient j = s.orient j := rfl
@[simp] theorem setEpochPrev_trend (x : EpochCnt) : (s.setEpochPrev i x).trend j = s.trend j := rfl
@[simp] theorem setEpochPrev_mach (x : EpochCnt) : (s.setEpochPrev i x).mach j = s.mach j := rfl
@[simp] theorem setEpochPrev_wear (x : EpochCnt) : (s.setEpochPrev i x).wear j = s.wear j := rfl
@[simp] theorem setEpochPrev_wakeHost (x : EpochCnt) : (s.setEpochPrev i x).wakeHost j = s.wakeHost j := rfl
@[simp] theorem setEpochPrev_stream (x : EpochCnt) : (s.setEpochPrev i x).stream j = s.stream j := rfl
@[simp] theorem setEpochPrev_tb (x : EpochCnt) : (s.setEpochPrev i x).tb j = s.tb j := rfl
@[simp] theorem setEpochPrev_link (x : EpochCnt) : (s.setEpochPrev i x).link j = s.link j := rfl
@[simp] theorem setEpochPrev_peer (x : EpochCnt) : (s.setEpochPrev i x).peer j = s.peer j := rfl
@[simp] theorem setEpochPrev_legLink (x : EpochCnt) : (s.setEpochPrev i x).legLink j = s.legLink j := rfl
@[simp] theorem setEpochPrev_remote (x : EpochCnt) : (s.setEpochPrev i x).remote j = s.remote j := rfl
@[simp] theorem setEpochPrev_rfBuf (x : EpochCnt) : (s.setEpochPrev i x).rfBuf j = s.rfBuf j := rfl
@[simp] theorem setEpochPrev_meter (x : EpochCnt) : (s.setEpochPrev i x).meter j = s.meter j := rfl
@[simp] theorem setEpochPrev_epochNow (x : EpochCnt) : (s.setEpochPrev i x).epochNow j = s.epochNow j := rfl
@[simp] theorem setEpochPrev_patch (x : EpochCnt) : (s.setEpochPrev i x).patch j = s.patch j := rfl
@[simp] theorem setEpochPrev_unit (x : EpochCnt) : (s.setEpochPrev i x).unit j = s.unit j := rfl

/-! ### `store.patches` -/

@[simp] theorem modPatch_eq (f : PatchSlot → PatchSlot) : s.modPatch i f = s.setPatch i (f (s.patch i)) := rfl
theorem setPatch_patch (x : PatchSlot) : (s.setPatch i x).patch j = if j = i then x else s.patch j := Tab.get_set _ _ _ _
@[simp] theorem setPatch_patch_self (x : PatchSlot) : (s.setPatch i x).patch i = x := Tab.get_set_self _ _ _
@[simp] theorem setPatch_pending' (x : PatchSlot) : (s.setPatch i x).pending = s.pending := rfl
@[simp] theorem setPatch_tick' (x : PatchSlot) : (s.setPatch i x).tick = s.tick := rfl
@[simp] theorem setPatch_sub' (x : PatchSlot) : (s.setPatch i x).sub = s.sub := rfl
@[simp] theorem setPatch_provisioned' (x : PatchSlot) : (s.setPatch i x).provisioned = s.provisioned := rfl
@[simp] theorem setPatch_free' (x : PatchSlot) : (s.setPatch i x).free = s.free := rfl
@[simp] theorem setPatch_regs' (x : PatchSlot) : (s.setPatch i x).regs = s.regs := rfl
@[simp] theorem setPatch_applied' (x : PatchSlot) : (s.setPatch i x).applied = s.applied := rfl
@[simp] theorem setPatch_mem' (x : PatchSlot) : (s.setPatch i x).mem = s.mem := rfl
@[simp] theorem setPatch_hosts' (x : PatchSlot) : (s.setPatch i x).hosts = s.hosts := rfl
@[simp] theorem setPatch_turn' (x : PatchSlot) : (s.setPatch i x).turn = s.turn := rfl
@[simp] theorem setPatch_sessionNo' (x : PatchSlot) : (s.setPatch i x).sessionNo = s.sessionNo := rfl
@[simp] theorem setPatch_out' (x : PatchSlot) : (s.setPatch i x).out = s.out := rfl
@[simp] theorem setPatch_hp1Ibi' (x : PatchSlot) : (s.setPatch i x).hp1Ibi = s.hp1Ibi := rfl
@[simp] theorem setPatch_log' (x : PatchSlot) : (s.setPatch i x).log = s.log := rfl
@[simp] theorem setPatch_logSat' (x : PatchSlot) : (s.setPatch i x).logSat = s.logSat := rfl
@[simp] theorem setPatch_fenced' (x : PatchSlot) : (s.setPatch i x).fenced = s.fenced := rfl
@[simp] theorem setPatch_runs' (x : PatchSlot) : (s.setPatch i x).runs = s.runs := rfl
@[simp] theorem setPatch_check' (x : PatchSlot) : (s.setPatch i x).check = s.check := rfl
@[simp] theorem setPatch_snap' (x : PatchSlot) : (s.setPatch i x).snap = s.snap := rfl
@[simp] theorem setPatch_groups' (x : PatchSlot) : (s.setPatch i x).groups = s.groups := rfl
@[simp] theorem setPatch_targets' (x : PatchSlot) : (s.setPatch i x).targets = s.targets := rfl
@[simp] theorem setPatch_srcs' (x : PatchSlot) : (s.setPatch i x).srcs = s.srcs := rfl
@[simp] theorem setPatch_sluices' (x : PatchSlot) : (s.setPatch i x).sluices = s.sluices := rfl
@[simp] theorem setPatch_pins' (x : PatchSlot) : (s.setPatch i x).pins = s.pins := rfl
@[simp] theorem setPatch_evq' (x : PatchSlot) : (s.setPatch i x).evq = s.evq := rfl
@[simp] theorem setPatch_wave' (x : PatchSlot) : (s.setPatch i x).wave = s.wave := rfl
@[simp] theorem setPatch_jobs' (x : PatchSlot) : (s.setPatch i x).jobs = s.jobs := rfl
@[simp] theorem setPatch_chans' (x : PatchSlot) : (s.setPatch i x).chans = s.chans := rfl
@[simp] theorem setPatch_ports' (x : PatchSlot) : (s.setPatch i x).ports = s.ports := rfl
@[simp] theorem setPatch_afe' (x : PatchSlot) : (s.setPatch i x).afe = s.afe := rfl
@[simp] theorem setPatch_twr' (x : PatchSlot) : (s.setPatch i x).twr = s.twr := rfl
@[simp] theorem setPatch_cry' (x : PatchSlot) : (s.setPatch i x).cry = s.cry := rfl
@[simp] theorem setPatch_svc' (x : PatchSlot) : (s.setPatch i x).svc = s.svc := rfl
@[simp] theorem setPatch_pan' (x : PatchSlot) : (s.setPatch i x).pan = s.pan := rfl
@[simp] theorem setPatch_time' (x : PatchSlot) : (s.setPatch i x).time = s.time := rfl
@[simp] theorem setPatch_launches' (x : PatchSlot) : (s.setPatch i x).launches = s.launches := rfl
@[simp] theorem setPatch_timers' (x : PatchSlot) : (s.setPatch i x).timers = s.timers := rfl
@[simp] theorem setPatch_slt' (x : PatchSlot) : (s.setPatch i x).slt = s.slt := rfl
@[simp] theorem setPatch_rf' (x : PatchSlot) : (s.setPatch i x).rf = s.rf := rfl
@[simp] theorem setPatch_doms' (x : PatchSlot) : (s.setPatch i x).doms = s.doms := rfl
@[simp] theorem setPatch_ldg' (x : PatchSlot) : (s.setPatch i x).ldg = s.ldg := rfl
@[simp] theorem setPatch_pln' (x : PatchSlot) : (s.setPatch i x).pln = s.pln := rfl
@[simp] theorem setPatch_store_xfer' (x : PatchSlot) : (s.setPatch i x).store.xfer = s.store.xfer := rfl
@[simp] theorem setPatch_store_save' (x : PatchSlot) : (s.setPatch i x).store.save = s.store.save := rfl
@[simp] theorem setPatch_store_privs' (x : PatchSlot) : (s.setPatch i x).store.privs = s.store.privs := rfl
@[simp] theorem setPatch_store_hp1Host' (x : PatchSlot) : (s.setPatch i x).store.hp1Host = s.store.hp1Host := rfl
@[simp] theorem setPatch_store_lockCfg' (x : PatchSlot) : (s.setPatch i x).store.lockCfg = s.store.lockCfg := rfl
@[simp] theorem setPatch_store_lockBootsel' (x : PatchSlot) : (s.setPatch i x).store.lockBootsel = s.store.lockBootsel := rfl
@[simp] theorem setPatch_store_keys' (x : PatchSlot) : (s.setPatch i x).store.keys = s.store.keys := rfl
@[simp] theorem setPatch_store_minMinor' (x : PatchSlot) : (s.setPatch i x).store.minMinor = s.store.minMinor := rfl
@[simp] theorem setPatch_store_selected' (x : PatchSlot) : (s.setPatch i x).store.selected = s.store.selected := rfl
@[simp] theorem setPatch_store_images' (x : PatchSlot) : (s.setPatch i x).store.images = s.store.images := rfl
@[simp] theorem setPatch_store_ring' (x : PatchSlot) : (s.setPatch i x).store.ring = s.store.ring := rfl
@[simp] theorem setPatch_life' (x : PatchSlot) : (s.setPatch i x).life = s.life := rfl
@[simp] theorem setPatch_cal' (x : PatchSlot) : (s.setPatch i x).cal = s.cal := rfl
@[simp] theorem setPatch_pwr' (x : PatchSlot) : (s.setPatch i x).pwr = s.pwr := rfl
@[simp] theorem setPatch_host (x : PatchSlot) : (s.setPatch i x).host j = s.host j := rfl
@[simp] theorem setPatch_target (x : PatchSlot) : (s.setPatch i x).target j = s.target j := rfl
@[simp] theorem setPatch_src (x : PatchSlot) : (s.setPatch i x).src j = s.src j := rfl
@[simp] theorem setPatch_sluice (x : PatchSlot) : (s.setPatch i x).sluice j = s.sluice j := rfl
@[simp] theorem setPatch_pin (x : PatchSlot) : (s.setPatch i x).pin j = s.pin j := rfl
@[simp] theorem setPatch_chan (x : PatchSlot) : (s.setPatch i x).chan j = s.chan j := rfl
@[simp] theorem setPatch_port (x : PatchSlot) : (s.setPatch i x).port j = s.port j := rfl
@[simp] theorem setPatch_launch (x : PatchSlot) : (s.setPatch i x).launch j = s.launch j := rfl
@[simp] theorem setPatch_timer (x : PatchSlot) : (s.setPatch i x).timer j = s.timer j := rfl
@[simp] theorem setPatch_dom (x : PatchSlot) : (s.setPatch i x).dom j = s.dom j := rfl
@[simp] theorem setPatch_twrCh (x : PatchSlot) : (s.setPatch i x).twrCh j = s.twrCh j := rfl
@[simp] theorem setPatch_pre (x : PatchSlot) : (s.setPatch i x).pre j = s.pre j := rfl
@[simp] theorem setPatch_seed (x : PatchSlot) : (s.setPatch i x).seed j = s.seed j := rfl
@[simp] theorem setPatch_svcInst (x : PatchSlot) : (s.setPatch i x).svcInst j = s.svcInst j := rfl
@[simp] theorem setPatch_orient (x : PatchSlot) : (s.setPatch i x).orient j = s.orient j := rfl
@[simp] theorem setPatch_trend (x : PatchSlot) : (s.setPatch i x).trend j = s.trend j := rfl
@[simp] theorem setPatch_mach (x : PatchSlot) : (s.setPatch i x).mach j = s.mach j := rfl
@[simp] theorem setPatch_wear (x : PatchSlot) : (s.setPatch i x).wear j = s.wear j := rfl
@[simp] theorem setPatch_wakeHost (x : PatchSlot) : (s.setPatch i x).wakeHost j = s.wakeHost j := rfl
@[simp] theorem setPatch_stream (x : PatchSlot) : (s.setPatch i x).stream j = s.stream j := rfl
@[simp] theorem setPatch_tb (x : PatchSlot) : (s.setPatch i x).tb j = s.tb j := rfl
@[simp] theorem setPatch_link (x : PatchSlot) : (s.setPatch i x).link j = s.link j := rfl
@[simp] theorem setPatch_peer (x : PatchSlot) : (s.setPatch i x).peer j = s.peer j := rfl
@[simp] theorem setPatch_legLink (x : PatchSlot) : (s.setPatch i x).legLink j = s.legLink j := rfl
@[simp] theorem setPatch_remote (x : PatchSlot) : (s.setPatch i x).remote j = s.remote j := rfl
@[simp] theorem setPatch_rfBuf (x : PatchSlot) : (s.setPatch i x).rfBuf j = s.rfBuf j := rfl
@[simp] theorem setPatch_meter (x : PatchSlot) : (s.setPatch i x).meter j = s.meter j := rfl
@[simp] theorem setPatch_epochNow (x : PatchSlot) : (s.setPatch i x).epochNow j = s.epochNow j := rfl
@[simp] theorem setPatch_epochPrev (x : PatchSlot) : (s.setPatch i x).epochPrev j = s.epochPrev j := rfl
@[simp] theorem setPatch_unit (x : PatchSlot) : (s.setPatch i x).unit j = s.unit j := rfl

/-! ### `check.units` -/

@[simp] theorem modUnit_eq (f : ChkUnit → ChkUnit) : s.modUnit i f = s.setUnit i (f (s.unit i)) := rfl
theorem setUnit_unit (x : ChkUnit) : (s.setUnit i x).unit j = if j = i then x else s.unit j := Tab.get_set _ _ _ _
@[simp] theorem setUnit_unit_self (x : ChkUnit) : (s.setUnit i x).unit i = x := Tab.get_set_self _ _ _
@[simp] theorem setUnit_pending' (x : ChkUnit) : (s.setUnit i x).pending = s.pending := rfl
@[simp] theorem setUnit_tick' (x : ChkUnit) : (s.setUnit i x).tick = s.tick := rfl
@[simp] theorem setUnit_sub' (x : ChkUnit) : (s.setUnit i x).sub = s.sub := rfl
@[simp] theorem setUnit_provisioned' (x : ChkUnit) : (s.setUnit i x).provisioned = s.provisioned := rfl
@[simp] theorem setUnit_free' (x : ChkUnit) : (s.setUnit i x).free = s.free := rfl
@[simp] theorem setUnit_regs' (x : ChkUnit) : (s.setUnit i x).regs = s.regs := rfl
@[simp] theorem setUnit_applied' (x : ChkUnit) : (s.setUnit i x).applied = s.applied := rfl
@[simp] theorem setUnit_mem' (x : ChkUnit) : (s.setUnit i x).mem = s.mem := rfl
@[simp] theorem setUnit_hosts' (x : ChkUnit) : (s.setUnit i x).hosts = s.hosts := rfl
@[simp] theorem setUnit_turn' (x : ChkUnit) : (s.setUnit i x).turn = s.turn := rfl
@[simp] theorem setUnit_sessionNo' (x : ChkUnit) : (s.setUnit i x).sessionNo = s.sessionNo := rfl
@[simp] theorem setUnit_out' (x : ChkUnit) : (s.setUnit i x).out = s.out := rfl
@[simp] theorem setUnit_hp1Ibi' (x : ChkUnit) : (s.setUnit i x).hp1Ibi = s.hp1Ibi := rfl
@[simp] theorem setUnit_log' (x : ChkUnit) : (s.setUnit i x).log = s.log := rfl
@[simp] theorem setUnit_logSat' (x : ChkUnit) : (s.setUnit i x).logSat = s.logSat := rfl
@[simp] theorem setUnit_fenced' (x : ChkUnit) : (s.setUnit i x).fenced = s.fenced := rfl
@[simp] theorem setUnit_runs' (x : ChkUnit) : (s.setUnit i x).runs = s.runs := rfl
@[simp] theorem setUnit_check_commit' (x : ChkUnit) : (s.setUnit i x).check.commit = s.check.commit := rfl
@[simp] theorem setUnit_snap' (x : ChkUnit) : (s.setUnit i x).snap = s.snap := rfl
@[simp] theorem setUnit_groups' (x : ChkUnit) : (s.setUnit i x).groups = s.groups := rfl
@[simp] theorem setUnit_targets' (x : ChkUnit) : (s.setUnit i x).targets = s.targets := rfl
@[simp] theorem setUnit_srcs' (x : ChkUnit) : (s.setUnit i x).srcs = s.srcs := rfl
@[simp] theorem setUnit_sluices' (x : ChkUnit) : (s.setUnit i x).sluices = s.sluices := rfl
@[simp] theorem setUnit_pins' (x : ChkUnit) : (s.setUnit i x).pins = s.pins := rfl
@[simp] theorem setUnit_evq' (x : ChkUnit) : (s.setUnit i x).evq = s.evq := rfl
@[simp] theorem setUnit_wave' (x : ChkUnit) : (s.setUnit i x).wave = s.wave := rfl
@[simp] theorem setUnit_jobs' (x : ChkUnit) : (s.setUnit i x).jobs = s.jobs := rfl
@[simp] theorem setUnit_chans' (x : ChkUnit) : (s.setUnit i x).chans = s.chans := rfl
@[simp] theorem setUnit_ports' (x : ChkUnit) : (s.setUnit i x).ports = s.ports := rfl
@[simp] theorem setUnit_afe' (x : ChkUnit) : (s.setUnit i x).afe = s.afe := rfl
@[simp] theorem setUnit_twr' (x : ChkUnit) : (s.setUnit i x).twr = s.twr := rfl
@[simp] theorem setUnit_cry' (x : ChkUnit) : (s.setUnit i x).cry = s.cry := rfl
@[simp] theorem setUnit_svc' (x : ChkUnit) : (s.setUnit i x).svc = s.svc := rfl
@[simp] theorem setUnit_pan' (x : ChkUnit) : (s.setUnit i x).pan = s.pan := rfl
@[simp] theorem setUnit_time' (x : ChkUnit) : (s.setUnit i x).time = s.time := rfl
@[simp] theorem setUnit_launches' (x : ChkUnit) : (s.setUnit i x).launches = s.launches := rfl
@[simp] theorem setUnit_timers' (x : ChkUnit) : (s.setUnit i x).timers = s.timers := rfl
@[simp] theorem setUnit_slt' (x : ChkUnit) : (s.setUnit i x).slt = s.slt := rfl
@[simp] theorem setUnit_rf' (x : ChkUnit) : (s.setUnit i x).rf = s.rf := rfl
@[simp] theorem setUnit_doms' (x : ChkUnit) : (s.setUnit i x).doms = s.doms := rfl
@[simp] theorem setUnit_ldg' (x : ChkUnit) : (s.setUnit i x).ldg = s.ldg := rfl
@[simp] theorem setUnit_pln' (x : ChkUnit) : (s.setUnit i x).pln = s.pln := rfl
@[simp] theorem setUnit_store' (x : ChkUnit) : (s.setUnit i x).store = s.store := rfl
@[simp] theorem setUnit_life' (x : ChkUnit) : (s.setUnit i x).life = s.life := rfl
@[simp] theorem setUnit_cal' (x : ChkUnit) : (s.setUnit i x).cal = s.cal := rfl
@[simp] theorem setUnit_pwr' (x : ChkUnit) : (s.setUnit i x).pwr = s.pwr := rfl
@[simp] theorem setUnit_host (x : ChkUnit) : (s.setUnit i x).host j = s.host j := rfl
@[simp] theorem setUnit_target (x : ChkUnit) : (s.setUnit i x).target j = s.target j := rfl
@[simp] theorem setUnit_src (x : ChkUnit) : (s.setUnit i x).src j = s.src j := rfl
@[simp] theorem setUnit_sluice (x : ChkUnit) : (s.setUnit i x).sluice j = s.sluice j := rfl
@[simp] theorem setUnit_pin (x : ChkUnit) : (s.setUnit i x).pin j = s.pin j := rfl
@[simp] theorem setUnit_chan (x : ChkUnit) : (s.setUnit i x).chan j = s.chan j := rfl
@[simp] theorem setUnit_port (x : ChkUnit) : (s.setUnit i x).port j = s.port j := rfl
@[simp] theorem setUnit_launch (x : ChkUnit) : (s.setUnit i x).launch j = s.launch j := rfl
@[simp] theorem setUnit_timer (x : ChkUnit) : (s.setUnit i x).timer j = s.timer j := rfl
@[simp] theorem setUnit_dom (x : ChkUnit) : (s.setUnit i x).dom j = s.dom j := rfl
@[simp] theorem setUnit_twrCh (x : ChkUnit) : (s.setUnit i x).twrCh j = s.twrCh j := rfl
@[simp] theorem setUnit_pre (x : ChkUnit) : (s.setUnit i x).pre j = s.pre j := rfl
@[simp] theorem setUnit_seed (x : ChkUnit) : (s.setUnit i x).seed j = s.seed j := rfl
@[simp] theorem setUnit_svcInst (x : ChkUnit) : (s.setUnit i x).svcInst j = s.svcInst j := rfl
@[simp] theorem setUnit_orient (x : ChkUnit) : (s.setUnit i x).orient j = s.orient j := rfl
@[simp] theorem setUnit_trend (x : ChkUnit) : (s.setUnit i x).trend j = s.trend j := rfl
@[simp] theorem setUnit_mach (x : ChkUnit) : (s.setUnit i x).mach j = s.mach j := rfl
@[simp] theorem setUnit_wear (x : ChkUnit) : (s.setUnit i x).wear j = s.wear j := rfl
@[simp] theorem setUnit_wakeHost (x : ChkUnit) : (s.setUnit i x).wakeHost j = s.wakeHost j := rfl
@[simp] theorem setUnit_stream (x : ChkUnit) : (s.setUnit i x).stream j = s.stream j := rfl
@[simp] theorem setUnit_tb (x : ChkUnit) : (s.setUnit i x).tb j = s.tb j := rfl
@[simp] theorem setUnit_link (x : ChkUnit) : (s.setUnit i x).link j = s.link j := rfl
@[simp] theorem setUnit_peer (x : ChkUnit) : (s.setUnit i x).peer j = s.peer j := rfl
@[simp] theorem setUnit_legLink (x : ChkUnit) : (s.setUnit i x).legLink j = s.legLink j := rfl
@[simp] theorem setUnit_remote (x : ChkUnit) : (s.setUnit i x).remote j = s.remote j := rfl
@[simp] theorem setUnit_rfBuf (x : ChkUnit) : (s.setUnit i x).rfBuf j = s.rfBuf j := rfl
@[simp] theorem setUnit_meter (x : ChkUnit) : (s.setUnit i x).meter j = s.meter j := rfl
@[simp] theorem setUnit_epochNow (x : ChkUnit) : (s.setUnit i x).epochNow j = s.epochNow j := rfl
@[simp] theorem setUnit_epochPrev (x : ChkUnit) : (s.setUnit i x).epochPrev j = s.epochPrev j := rfl
@[simp] theorem setUnit_patch (x : ChkUnit) : (s.setUnit i x).patch j = s.patch j := rfl

/-! ### `setWordAt` -/

@[simp] theorem setWordAt_pending' (v : Word) : (s.setWordAt i v).pending = s.pending := rfl
@[simp] theorem setWordAt_tick' (v : Word) : (s.setWordAt i v).tick = s.tick := rfl
@[simp] theorem setWordAt_sub' (v : Word) : (s.setWordAt i v).sub = s.sub := rfl
@[simp] theorem setWordAt_provisioned' (v : Word) : (s.setWordAt i v).provisioned = s.provisioned := rfl
@[simp] theorem setWordAt_free' (v : Word) : (s.setWordAt i v).free = s.free := rfl
@[simp] theorem setWordAt_applied' (v : Word) : (s.setWordAt i v).applied = s.applied := rfl
@[simp] theorem setWordAt_mem' (v : Word) : (s.setWordAt i v).mem = s.mem := rfl
@[simp] theorem setWordAt_hosts' (v : Word) : (s.setWordAt i v).hosts = s.hosts := rfl
@[simp] theorem setWordAt_turn' (v : Word) : (s.setWordAt i v).turn = s.turn := rfl
@[simp] theorem setWordAt_sessionNo' (v : Word) : (s.setWordAt i v).sessionNo = s.sessionNo := rfl
@[simp] theorem setWordAt_out' (v : Word) : (s.setWordAt i v).out = s.out := rfl
@[simp] theorem setWordAt_hp1Ibi' (v : Word) : (s.setWordAt i v).hp1Ibi = s.hp1Ibi := rfl
@[simp] theorem setWordAt_log' (v : Word) : (s.setWordAt i v).log = s.log := rfl
@[simp] theorem setWordAt_logSat' (v : Word) : (s.setWordAt i v).logSat = s.logSat := rfl
@[simp] theorem setWordAt_fenced' (v : Word) : (s.setWordAt i v).fenced = s.fenced := rfl
@[simp] theorem setWordAt_runs' (v : Word) : (s.setWordAt i v).runs = s.runs := rfl
@[simp] theorem setWordAt_check' (v : Word) : (s.setWordAt i v).check = s.check := rfl
@[simp] theorem setWordAt_snap' (v : Word) : (s.setWordAt i v).snap = s.snap := rfl
@[simp] theorem setWordAt_groups' (v : Word) : (s.setWordAt i v).groups = s.groups := rfl
@[simp] theorem setWordAt_targets' (v : Word) : (s.setWordAt i v).targets = s.targets := rfl
@[simp] theorem setWordAt_srcs' (v : Word) : (s.setWordAt i v).srcs = s.srcs := rfl
@[simp] theorem setWordAt_sluices' (v : Word) : (s.setWordAt i v).sluices = s.sluices := rfl
@[simp] theorem setWordAt_pins' (v : Word) : (s.setWordAt i v).pins = s.pins := rfl
@[simp] theorem setWordAt_evq' (v : Word) : (s.setWordAt i v).evq = s.evq := rfl
@[simp] theorem setWordAt_wave' (v : Word) : (s.setWordAt i v).wave = s.wave := rfl
@[simp] theorem setWordAt_jobs' (v : Word) : (s.setWordAt i v).jobs = s.jobs := rfl
@[simp] theorem setWordAt_chans' (v : Word) : (s.setWordAt i v).chans = s.chans := rfl
@[simp] theorem setWordAt_ports' (v : Word) : (s.setWordAt i v).ports = s.ports := rfl
@[simp] theorem setWordAt_afe' (v : Word) : (s.setWordAt i v).afe = s.afe := rfl
@[simp] theorem setWordAt_twr' (v : Word) : (s.setWordAt i v).twr = s.twr := rfl
@[simp] theorem setWordAt_cry' (v : Word) : (s.setWordAt i v).cry = s.cry := rfl
@[simp] theorem setWordAt_svc' (v : Word) : (s.setWordAt i v).svc = s.svc := rfl
@[simp] theorem setWordAt_pan' (v : Word) : (s.setWordAt i v).pan = s.pan := rfl
@[simp] theorem setWordAt_time' (v : Word) : (s.setWordAt i v).time = s.time := rfl
@[simp] theorem setWordAt_launches' (v : Word) : (s.setWordAt i v).launches = s.launches := rfl
@[simp] theorem setWordAt_timers' (v : Word) : (s.setWordAt i v).timers = s.timers := rfl
@[simp] theorem setWordAt_slt' (v : Word) : (s.setWordAt i v).slt = s.slt := rfl
@[simp] theorem setWordAt_rf' (v : Word) : (s.setWordAt i v).rf = s.rf := rfl
@[simp] theorem setWordAt_doms' (v : Word) : (s.setWordAt i v).doms = s.doms := rfl
@[simp] theorem setWordAt_ldg' (v : Word) : (s.setWordAt i v).ldg = s.ldg := rfl
@[simp] theorem setWordAt_pln' (v : Word) : (s.setWordAt i v).pln = s.pln := rfl
@[simp] theorem setWordAt_store' (v : Word) : (s.setWordAt i v).store = s.store := rfl
@[simp] theorem setWordAt_life' (v : Word) : (s.setWordAt i v).life = s.life := rfl
@[simp] theorem setWordAt_cal' (v : Word) : (s.setWordAt i v).cal = s.cal := rfl
@[simp] theorem setWordAt_pwr' (v : Word) : (s.setWordAt i v).pwr = s.pwr := rfl
@[simp] theorem setWordAt_host (v : Word) : (s.setWordAt i v).host j = s.host j := rfl
@[simp] theorem setWordAt_target (v : Word) : (s.setWordAt i v).target j = s.target j := rfl
@[simp] theorem setWordAt_src (v : Word) : (s.setWordAt i v).src j = s.src j := rfl
@[simp] theorem setWordAt_sluice (v : Word) : (s.setWordAt i v).sluice j = s.sluice j := rfl
@[simp] theorem setWordAt_pin (v : Word) : (s.setWordAt i v).pin j = s.pin j := rfl
@[simp] theorem setWordAt_chan (v : Word) : (s.setWordAt i v).chan j = s.chan j := rfl
@[simp] theorem setWordAt_port (v : Word) : (s.setWordAt i v).port j = s.port j := rfl
@[simp] theorem setWordAt_launch (v : Word) : (s.setWordAt i v).launch j = s.launch j := rfl
@[simp] theorem setWordAt_timer (v : Word) : (s.setWordAt i v).timer j = s.timer j := rfl
@[simp] theorem setWordAt_dom (v : Word) : (s.setWordAt i v).dom j = s.dom j := rfl
@[simp] theorem setWordAt_twrCh (v : Word) : (s.setWordAt i v).twrCh j = s.twrCh j := rfl
@[simp] theorem setWordAt_pre (v : Word) : (s.setWordAt i v).pre j = s.pre j := rfl
@[simp] theorem setWordAt_seed (v : Word) : (s.setWordAt i v).seed j = s.seed j := rfl
@[simp] theorem setWordAt_svcInst (v : Word) : (s.setWordAt i v).svcInst j = s.svcInst j := rfl
@[simp] theorem setWordAt_orient (v : Word) : (s.setWordAt i v).orient j = s.orient j := rfl
@[simp] theorem setWordAt_trend (v : Word) : (s.setWordAt i v).trend j = s.trend j := rfl
@[simp] theorem setWordAt_mach (v : Word) : (s.setWordAt i v).mach j = s.mach j := rfl
@[simp] theorem setWordAt_wear (v : Word) : (s.setWordAt i v).wear j = s.wear j := rfl
@[simp] theorem setWordAt_wakeHost (v : Word) : (s.setWordAt i v).wakeHost j = s.wakeHost j := rfl
@[simp] theorem setWordAt_stream (v : Word) : (s.setWordAt i v).stream j = s.stream j := rfl
@[simp] theorem setWordAt_tb (v : Word) : (s.setWordAt i v).tb j = s.tb j := rfl
@[simp] theorem setWordAt_link (v : Word) : (s.setWordAt i v).link j = s.link j := rfl
@[simp] theorem setWordAt_peer (v : Word) : (s.setWordAt i v).peer j = s.peer j := rfl
@[simp] theorem setWordAt_legLink (v : Word) : (s.setWordAt i v).legLink j = s.legLink j := rfl
@[simp] theorem setWordAt_remote (v : Word) : (s.setWordAt i v).remote j = s.remote j := rfl
@[simp] theorem setWordAt_rfBuf (v : Word) : (s.setWordAt i v).rfBuf j = s.rfBuf j := rfl
@[simp] theorem setWordAt_meter (v : Word) : (s.setWordAt i v).meter j = s.meter j := rfl
@[simp] theorem setWordAt_epochNow (v : Word) : (s.setWordAt i v).epochNow j = s.epochNow j := rfl
@[simp] theorem setWordAt_epochPrev (v : Word) : (s.setWordAt i v).epochPrev j = s.epochPrev j := rfl
@[simp] theorem setWordAt_patch (v : Word) : (s.setWordAt i v).patch j = s.patch j := rfl
@[simp] theorem setWordAt_unit (v : Word) : (s.setWordAt i v).unit j = s.unit j := rfl
theorem setWordAt_wordAt (v : Word) : (s.setWordAt i v).wordAt j = if j = i then v else s.wordAt j := Tab.get_set _ _ _ _
@[simp] theorem setWordAt_wordAt_self (v : Word) : (s.setWordAt i v).wordAt i = v := Tab.get_set_self _ _ _
@[simp] theorem setReg_eq (r : Reg) (v : Word) : s.setReg r i v = s.setWordAt (r.addr i) v := rfl
theorem reg_eq (r : Reg) : s.reg r i = s.wordAt (r.addr i) := rfl
@[simp] theorem setWordAt_app (v : Word) (r : Reg) (n : Nat) : (s.setWordAt i v).app r n = s.app r n := rfl
@[simp] theorem setWordAt_appAt (v : Word) : (s.setWordAt i v).appAt j = s.appAt j := rfl
@[simp] theorem setWordAt_rdByte (v : Word) : (s.setWordAt i v).rdByte j = s.rdByte j := rfl

/-! ### `setAppAt` -/

@[simp] theorem setAppAt_pending' (v : Word) : (s.setAppAt i v).pending = s.pending := rfl
@[simp] theorem setAppAt_tick' (v : Word) : (s.setAppAt i v).tick = s.tick := rfl
@[simp] theorem setAppAt_sub' (v : Word) : (s.setAppAt i v).sub = s.sub := rfl
@[simp] theorem setAppAt_provisioned' (v : Word) : (s.setAppAt i v).provisioned = s.provisioned := rfl
@[simp] theorem setAppAt_free' (v : Word) : (s.setAppAt i v).free = s.free := rfl
@[simp] theorem setAppAt_regs' (v : Word) : (s.setAppAt i v).regs = s.regs := rfl
@[simp] theorem setAppAt_mem' (v : Word) : (s.setAppAt i v).mem = s.mem := rfl
@[simp] theorem setAppAt_hosts' (v : Word) : (s.setAppAt i v).hosts = s.hosts := rfl
@[simp] theorem setAppAt_turn' (v : Word) : (s.setAppAt i v).turn = s.turn := rfl
@[simp] theorem setAppAt_sessionNo' (v : Word) : (s.setAppAt i v).sessionNo = s.sessionNo := rfl
@[simp] theorem setAppAt_out' (v : Word) : (s.setAppAt i v).out = s.out := rfl
@[simp] theorem setAppAt_hp1Ibi' (v : Word) : (s.setAppAt i v).hp1Ibi = s.hp1Ibi := rfl
@[simp] theorem setAppAt_log' (v : Word) : (s.setAppAt i v).log = s.log := rfl
@[simp] theorem setAppAt_logSat' (v : Word) : (s.setAppAt i v).logSat = s.logSat := rfl
@[simp] theorem setAppAt_fenced' (v : Word) : (s.setAppAt i v).fenced = s.fenced := rfl
@[simp] theorem setAppAt_runs' (v : Word) : (s.setAppAt i v).runs = s.runs := rfl
@[simp] theorem setAppAt_check' (v : Word) : (s.setAppAt i v).check = s.check := rfl
@[simp] theorem setAppAt_snap' (v : Word) : (s.setAppAt i v).snap = s.snap := rfl
@[simp] theorem setAppAt_groups' (v : Word) : (s.setAppAt i v).groups = s.groups := rfl
@[simp] theorem setAppAt_targets' (v : Word) : (s.setAppAt i v).targets = s.targets := rfl
@[simp] theorem setAppAt_srcs' (v : Word) : (s.setAppAt i v).srcs = s.srcs := rfl
@[simp] theorem setAppAt_sluices' (v : Word) : (s.setAppAt i v).sluices = s.sluices := rfl
@[simp] theorem setAppAt_pins' (v : Word) : (s.setAppAt i v).pins = s.pins := rfl
@[simp] theorem setAppAt_evq' (v : Word) : (s.setAppAt i v).evq = s.evq := rfl
@[simp] theorem setAppAt_wave' (v : Word) : (s.setAppAt i v).wave = s.wave := rfl
@[simp] theorem setAppAt_jobs' (v : Word) : (s.setAppAt i v).jobs = s.jobs := rfl
@[simp] theorem setAppAt_chans' (v : Word) : (s.setAppAt i v).chans = s.chans := rfl
@[simp] theorem setAppAt_ports' (v : Word) : (s.setAppAt i v).ports = s.ports := rfl
@[simp] theorem setAppAt_afe' (v : Word) : (s.setAppAt i v).afe = s.afe := rfl
@[simp] theorem setAppAt_twr' (v : Word) : (s.setAppAt i v).twr = s.twr := rfl
@[simp] theorem setAppAt_cry' (v : Word) : (s.setAppAt i v).cry = s.cry := rfl
@[simp] theorem setAppAt_svc' (v : Word) : (s.setAppAt i v).svc = s.svc := rfl
@[simp] theorem setAppAt_pan' (v : Word) : (s.setAppAt i v).pan = s.pan := rfl
@[simp] theorem setAppAt_time' (v : Word) : (s.setAppAt i v).time = s.time := rfl
@[simp] theorem setAppAt_launches' (v : Word) : (s.setAppAt i v).launches = s.launches := rfl
@[simp] theorem setAppAt_timers' (v : Word) : (s.setAppAt i v).timers = s.timers := rfl
@[simp] theorem setAppAt_slt' (v : Word) : (s.setAppAt i v).slt = s.slt := rfl
@[simp] theorem setAppAt_rf' (v : Word) : (s.setAppAt i v).rf = s.rf := rfl
@[simp] theorem setAppAt_doms' (v : Word) : (s.setAppAt i v).doms = s.doms := rfl
@[simp] theorem setAppAt_ldg' (v : Word) : (s.setAppAt i v).ldg = s.ldg := rfl
@[simp] theorem setAppAt_pln' (v : Word) : (s.setAppAt i v).pln = s.pln := rfl
@[simp] theorem setAppAt_store' (v : Word) : (s.setAppAt i v).store = s.store := rfl
@[simp] theorem setAppAt_life' (v : Word) : (s.setAppAt i v).life = s.life := rfl
@[simp] theorem setAppAt_cal' (v : Word) : (s.setAppAt i v).cal = s.cal := rfl
@[simp] theorem setAppAt_pwr' (v : Word) : (s.setAppAt i v).pwr = s.pwr := rfl
@[simp] theorem setAppAt_host (v : Word) : (s.setAppAt i v).host j = s.host j := rfl
@[simp] theorem setAppAt_target (v : Word) : (s.setAppAt i v).target j = s.target j := rfl
@[simp] theorem setAppAt_src (v : Word) : (s.setAppAt i v).src j = s.src j := rfl
@[simp] theorem setAppAt_sluice (v : Word) : (s.setAppAt i v).sluice j = s.sluice j := rfl
@[simp] theorem setAppAt_pin (v : Word) : (s.setAppAt i v).pin j = s.pin j := rfl
@[simp] theorem setAppAt_chan (v : Word) : (s.setAppAt i v).chan j = s.chan j := rfl
@[simp] theorem setAppAt_port (v : Word) : (s.setAppAt i v).port j = s.port j := rfl
@[simp] theorem setAppAt_launch (v : Word) : (s.setAppAt i v).launch j = s.launch j := rfl
@[simp] theorem setAppAt_timer (v : Word) : (s.setAppAt i v).timer j = s.timer j := rfl
@[simp] theorem setAppAt_dom (v : Word) : (s.setAppAt i v).dom j = s.dom j := rfl
@[simp] theorem setAppAt_twrCh (v : Word) : (s.setAppAt i v).twrCh j = s.twrCh j := rfl
@[simp] theorem setAppAt_pre (v : Word) : (s.setAppAt i v).pre j = s.pre j := rfl
@[simp] theorem setAppAt_seed (v : Word) : (s.setAppAt i v).seed j = s.seed j := rfl
@[simp] theorem setAppAt_svcInst (v : Word) : (s.setAppAt i v).svcInst j = s.svcInst j := rfl
@[simp] theorem setAppAt_orient (v : Word) : (s.setAppAt i v).orient j = s.orient j := rfl
@[simp] theorem setAppAt_trend (v : Word) : (s.setAppAt i v).trend j = s.trend j := rfl
@[simp] theorem setAppAt_mach (v : Word) : (s.setAppAt i v).mach j = s.mach j := rfl
@[simp] theorem setAppAt_wear (v : Word) : (s.setAppAt i v).wear j = s.wear j := rfl
@[simp] theorem setAppAt_wakeHost (v : Word) : (s.setAppAt i v).wakeHost j = s.wakeHost j := rfl
@[simp] theorem setAppAt_stream (v : Word) : (s.setAppAt i v).stream j = s.stream j := rfl
@[simp] theorem setAppAt_tb (v : Word) : (s.setAppAt i v).tb j = s.tb j := rfl
@[simp] theorem setAppAt_link (v : Word) : (s.setAppAt i v).link j = s.link j := rfl
@[simp] theorem setAppAt_peer (v : Word) : (s.setAppAt i v).peer j = s.peer j := rfl
@[simp] theorem setAppAt_legLink (v : Word) : (s.setAppAt i v).legLink j = s.legLink j := rfl
@[simp] theorem setAppAt_remote (v : Word) : (s.setAppAt i v).remote j = s.remote j := rfl
@[simp] theorem setAppAt_rfBuf (v : Word) : (s.setAppAt i v).rfBuf j = s.rfBuf j := rfl
@[simp] theorem setAppAt_meter (v : Word) : (s.setAppAt i v).meter j = s.meter j := rfl
@[simp] theorem setAppAt_epochNow (v : Word) : (s.setAppAt i v).epochNow j = s.epochNow j := rfl
@[simp] theorem setAppAt_epochPrev (v : Word) : (s.setAppAt i v).epochPrev j = s.epochPrev j := rfl
@[simp] theorem setAppAt_patch (v : Word) : (s.setAppAt i v).patch j = s.patch j := rfl
@[simp] theorem setAppAt_unit (v : Word) : (s.setAppAt i v).unit j = s.unit j := rfl
theorem setAppAt_appAt (v : Word) : (s.setAppAt i v).appAt j = if j = i then v else s.appAt j := Tab.get_set _ _ _ _
@[simp] theorem setAppAt_appAt_self (v : Word) : (s.setAppAt i v).appAt i = v := Tab.get_set_self _ _ _
@[simp] theorem setApp_eq (r : Reg) (v : Word) : s.setApp r i v = s.setAppAt (r.addr i) v := rfl
theorem app_eq (r : Reg) : s.app r i = s.appAt (r.addr i) := rfl
@[simp] theorem setAppAt_wordAt (v : Word) : (s.setAppAt i v).wordAt j = s.wordAt j := rfl
@[simp] theorem setAppAt_reg (v : Word) (r : Reg) (n : Nat) : (s.setAppAt i v).reg r n = s.reg r n := rfl
@[simp] theorem setAppAt_rdByte (v : Word) : (s.setAppAt i v).rdByte j = s.rdByte j := rfl

/-! ### `wrByte` -/

@[simp] theorem wrByte_pending' (b : Byte) : (s.wrByte i b).pending = s.pending := rfl
@[simp] theorem wrByte_tick' (b : Byte) : (s.wrByte i b).tick = s.tick := rfl
@[simp] theorem wrByte_sub' (b : Byte) : (s.wrByte i b).sub = s.sub := rfl
@[simp] theorem wrByte_provisioned' (b : Byte) : (s.wrByte i b).provisioned = s.provisioned := rfl
@[simp] theorem wrByte_free' (b : Byte) : (s.wrByte i b).free = s.free := rfl
@[simp] theorem wrByte_regs' (b : Byte) : (s.wrByte i b).regs = s.regs := rfl
@[simp] theorem wrByte_applied' (b : Byte) : (s.wrByte i b).applied = s.applied := rfl
@[simp] theorem wrByte_hosts' (b : Byte) : (s.wrByte i b).hosts = s.hosts := rfl
@[simp] theorem wrByte_turn' (b : Byte) : (s.wrByte i b).turn = s.turn := rfl
@[simp] theorem wrByte_sessionNo' (b : Byte) : (s.wrByte i b).sessionNo = s.sessionNo := rfl
@[simp] theorem wrByte_out' (b : Byte) : (s.wrByte i b).out = s.out := rfl
@[simp] theorem wrByte_hp1Ibi' (b : Byte) : (s.wrByte i b).hp1Ibi = s.hp1Ibi := rfl
@[simp] theorem wrByte_log' (b : Byte) : (s.wrByte i b).log = s.log := rfl
@[simp] theorem wrByte_logSat' (b : Byte) : (s.wrByte i b).logSat = s.logSat := rfl
@[simp] theorem wrByte_fenced' (b : Byte) : (s.wrByte i b).fenced = s.fenced := rfl
@[simp] theorem wrByte_runs' (b : Byte) : (s.wrByte i b).runs = s.runs := rfl
@[simp] theorem wrByte_check' (b : Byte) : (s.wrByte i b).check = s.check := rfl
@[simp] theorem wrByte_snap' (b : Byte) : (s.wrByte i b).snap = s.snap := rfl
@[simp] theorem wrByte_groups' (b : Byte) : (s.wrByte i b).groups = s.groups := rfl
@[simp] theorem wrByte_targets' (b : Byte) : (s.wrByte i b).targets = s.targets := rfl
@[simp] theorem wrByte_srcs' (b : Byte) : (s.wrByte i b).srcs = s.srcs := rfl
@[simp] theorem wrByte_sluices' (b : Byte) : (s.wrByte i b).sluices = s.sluices := rfl
@[simp] theorem wrByte_pins' (b : Byte) : (s.wrByte i b).pins = s.pins := rfl
@[simp] theorem wrByte_evq' (b : Byte) : (s.wrByte i b).evq = s.evq := rfl
@[simp] theorem wrByte_wave' (b : Byte) : (s.wrByte i b).wave = s.wave := rfl
@[simp] theorem wrByte_jobs' (b : Byte) : (s.wrByte i b).jobs = s.jobs := rfl
@[simp] theorem wrByte_chans' (b : Byte) : (s.wrByte i b).chans = s.chans := rfl
@[simp] theorem wrByte_ports' (b : Byte) : (s.wrByte i b).ports = s.ports := rfl
@[simp] theorem wrByte_afe' (b : Byte) : (s.wrByte i b).afe = s.afe := rfl
@[simp] theorem wrByte_twr' (b : Byte) : (s.wrByte i b).twr = s.twr := rfl
@[simp] theorem wrByte_cry' (b : Byte) : (s.wrByte i b).cry = s.cry := rfl
@[simp] theorem wrByte_svc' (b : Byte) : (s.wrByte i b).svc = s.svc := rfl
@[simp] theorem wrByte_pan' (b : Byte) : (s.wrByte i b).pan = s.pan := rfl
@[simp] theorem wrByte_time' (b : Byte) : (s.wrByte i b).time = s.time := rfl
@[simp] theorem wrByte_launches' (b : Byte) : (s.wrByte i b).launches = s.launches := rfl
@[simp] theorem wrByte_timers' (b : Byte) : (s.wrByte i b).timers = s.timers := rfl
@[simp] theorem wrByte_slt' (b : Byte) : (s.wrByte i b).slt = s.slt := rfl
@[simp] theorem wrByte_rf' (b : Byte) : (s.wrByte i b).rf = s.rf := rfl
@[simp] theorem wrByte_doms' (b : Byte) : (s.wrByte i b).doms = s.doms := rfl
@[simp] theorem wrByte_ldg' (b : Byte) : (s.wrByte i b).ldg = s.ldg := rfl
@[simp] theorem wrByte_pln' (b : Byte) : (s.wrByte i b).pln = s.pln := rfl
@[simp] theorem wrByte_store' (b : Byte) : (s.wrByte i b).store = s.store := rfl
@[simp] theorem wrByte_life' (b : Byte) : (s.wrByte i b).life = s.life := rfl
@[simp] theorem wrByte_cal' (b : Byte) : (s.wrByte i b).cal = s.cal := rfl
@[simp] theorem wrByte_pwr' (b : Byte) : (s.wrByte i b).pwr = s.pwr := rfl
@[simp] theorem wrByte_host (b : Byte) : (s.wrByte i b).host j = s.host j := rfl
@[simp] theorem wrByte_target (b : Byte) : (s.wrByte i b).target j = s.target j := rfl
@[simp] theorem wrByte_src (b : Byte) : (s.wrByte i b).src j = s.src j := rfl
@[simp] theorem wrByte_sluice (b : Byte) : (s.wrByte i b).sluice j = s.sluice j := rfl
@[simp] theorem wrByte_pin (b : Byte) : (s.wrByte i b).pin j = s.pin j := rfl
@[simp] theorem wrByte_chan (b : Byte) : (s.wrByte i b).chan j = s.chan j := rfl
@[simp] theorem wrByte_port (b : Byte) : (s.wrByte i b).port j = s.port j := rfl
@[simp] theorem wrByte_launch (b : Byte) : (s.wrByte i b).launch j = s.launch j := rfl
@[simp] theorem wrByte_timer (b : Byte) : (s.wrByte i b).timer j = s.timer j := rfl
@[simp] theorem wrByte_dom (b : Byte) : (s.wrByte i b).dom j = s.dom j := rfl
@[simp] theorem wrByte_twrCh (b : Byte) : (s.wrByte i b).twrCh j = s.twrCh j := rfl
@[simp] theorem wrByte_pre (b : Byte) : (s.wrByte i b).pre j = s.pre j := rfl
@[simp] theorem wrByte_seed (b : Byte) : (s.wrByte i b).seed j = s.seed j := rfl
@[simp] theorem wrByte_svcInst (b : Byte) : (s.wrByte i b).svcInst j = s.svcInst j := rfl
@[simp] theorem wrByte_orient (b : Byte) : (s.wrByte i b).orient j = s.orient j := rfl
@[simp] theorem wrByte_trend (b : Byte) : (s.wrByte i b).trend j = s.trend j := rfl
@[simp] theorem wrByte_mach (b : Byte) : (s.wrByte i b).mach j = s.mach j := rfl
@[simp] theorem wrByte_wear (b : Byte) : (s.wrByte i b).wear j = s.wear j := rfl
@[simp] theorem wrByte_wakeHost (b : Byte) : (s.wrByte i b).wakeHost j = s.wakeHost j := rfl
@[simp] theorem wrByte_stream (b : Byte) : (s.wrByte i b).stream j = s.stream j := rfl
@[simp] theorem wrByte_tb (b : Byte) : (s.wrByte i b).tb j = s.tb j := rfl
@[simp] theorem wrByte_link (b : Byte) : (s.wrByte i b).link j = s.link j := rfl
@[simp] theorem wrByte_peer (b : Byte) : (s.wrByte i b).peer j = s.peer j := rfl
@[simp] theorem wrByte_legLink (b : Byte) : (s.wrByte i b).legLink j = s.legLink j := rfl
@[simp] theorem wrByte_remote (b : Byte) : (s.wrByte i b).remote j = s.remote j := rfl
@[simp] theorem wrByte_rfBuf (b : Byte) : (s.wrByte i b).rfBuf j = s.rfBuf j := rfl
@[simp] theorem wrByte_meter (b : Byte) : (s.wrByte i b).meter j = s.meter j := rfl
@[simp] theorem wrByte_epochNow (b : Byte) : (s.wrByte i b).epochNow j = s.epochNow j := rfl
@[simp] theorem wrByte_epochPrev (b : Byte) : (s.wrByte i b).epochPrev j = s.epochPrev j := rfl
@[simp] theorem wrByte_patch (b : Byte) : (s.wrByte i b).patch j = s.patch j := rfl
@[simp] theorem wrByte_unit (b : Byte) : (s.wrByte i b).unit j = s.unit j := rfl
theorem wrByte_rdByte (b : Byte) : (s.wrByte i b).rdByte j = if j = i then b else s.rdByte j := Tab.get_set _ _ _ _
@[simp] theorem wrByte_rdByte_self (b : Byte) : (s.wrByte i b).rdByte i = b := Tab.get_set_self _ _ _

/-! ### `atF` -/

@[simp] theorem atF_pending' : (s.atF i).pending = s.pending := rfl
@[simp] theorem atF_tick' : (s.atF i).tick = s.tick := rfl
@[simp] theorem atF_provisioned' : (s.atF i).provisioned = s.provisioned := rfl
@[simp] theorem atF_free' : (s.atF i).free = s.free := rfl
@[simp] theorem atF_regs' : (s.atF i).regs = s.regs := rfl
@[simp] theorem atF_applied' : (s.atF i).applied = s.applied := rfl
@[simp] theorem atF_mem' : (s.atF i).mem = s.mem := rfl
@[simp] theorem atF_hosts' : (s.atF i).hosts = s.hosts := rfl
@[simp] theorem atF_turn' : (s.atF i).turn = s.turn := rfl
@[simp] theorem atF_sessionNo' : (s.atF i).sessionNo = s.sessionNo := rfl
@[simp] theorem atF_out' : (s.atF i).out = s.out := rfl
@[simp] theorem atF_hp1Ibi' : (s.atF i).hp1Ibi = s.hp1Ibi := rfl
@[simp] theorem atF_log' : (s.atF i).log = s.log := rfl
@[simp] theorem atF_logSat' : (s.atF i).logSat = s.logSat := rfl
@[simp] theorem atF_fenced' : (s.atF i).fenced = s.fenced := rfl
@[simp] theorem atF_runs' : (s.atF i).runs = s.runs := rfl
@[simp] theorem atF_check' : (s.atF i).check = s.check := rfl
@[simp] theorem atF_snap' : (s.atF i).snap = s.snap := rfl
@[simp] theorem atF_groups' : (s.atF i).groups = s.groups := rfl
@[simp] theorem atF_targets' : (s.atF i).targets = s.targets := rfl
@[simp] theorem atF_srcs' : (s.atF i).srcs = s.srcs := rfl
@[simp] theorem atF_sluices' : (s.atF i).sluices = s.sluices := rfl
@[simp] theorem atF_pins' : (s.atF i).pins = s.pins := rfl
@[simp] theorem atF_evq' : (s.atF i).evq = s.evq := rfl
@[simp] theorem atF_wave' : (s.atF i).wave = s.wave := rfl
@[simp] theorem atF_jobs' : (s.atF i).jobs = s.jobs := rfl
@[simp] theorem atF_chans' : (s.atF i).chans = s.chans := rfl
@[simp] theorem atF_ports' : (s.atF i).ports = s.ports := rfl
@[simp] theorem atF_afe' : (s.atF i).afe = s.afe := rfl
@[simp] theorem atF_twr' : (s.atF i).twr = s.twr := rfl
@[simp] theorem atF_cry' : (s.atF i).cry = s.cry := rfl
@[simp] theorem atF_svc' : (s.atF i).svc = s.svc := rfl
@[simp] theorem atF_pan' : (s.atF i).pan = s.pan := rfl
@[simp] theorem atF_time' : (s.atF i).time = s.time := rfl
@[simp] theorem atF_launches' : (s.atF i).launches = s.launches := rfl
@[simp] theorem atF_timers' : (s.atF i).timers = s.timers := rfl
@[simp] theorem atF_slt' : (s.atF i).slt = s.slt := rfl
@[simp] theorem atF_rf' : (s.atF i).rf = s.rf := rfl
@[simp] theorem atF_doms' : (s.atF i).doms = s.doms := rfl
@[simp] theorem atF_ldg' : (s.atF i).ldg = s.ldg := rfl
@[simp] theorem atF_pln' : (s.atF i).pln = s.pln := rfl
@[simp] theorem atF_store' : (s.atF i).store = s.store := rfl
@[simp] theorem atF_life' : (s.atF i).life = s.life := rfl
@[simp] theorem atF_cal' : (s.atF i).cal = s.cal := rfl
@[simp] theorem atF_pwr' : (s.atF i).pwr = s.pwr := rfl
@[simp] theorem atF_host : (s.atF i).host j = s.host j := rfl
@[simp] theorem atF_target : (s.atF i).target j = s.target j := rfl
@[simp] theorem atF_src : (s.atF i).src j = s.src j := rfl
@[simp] theorem atF_sluice : (s.atF i).sluice j = s.sluice j := rfl
@[simp] theorem atF_pin : (s.atF i).pin j = s.pin j := rfl
@[simp] theorem atF_chan : (s.atF i).chan j = s.chan j := rfl
@[simp] theorem atF_port : (s.atF i).port j = s.port j := rfl
@[simp] theorem atF_launch : (s.atF i).launch j = s.launch j := rfl
@[simp] theorem atF_timer : (s.atF i).timer j = s.timer j := rfl
@[simp] theorem atF_dom : (s.atF i).dom j = s.dom j := rfl
@[simp] theorem atF_twrCh : (s.atF i).twrCh j = s.twrCh j := rfl
@[simp] theorem atF_pre : (s.atF i).pre j = s.pre j := rfl
@[simp] theorem atF_seed : (s.atF i).seed j = s.seed j := rfl
@[simp] theorem atF_svcInst : (s.atF i).svcInst j = s.svcInst j := rfl
@[simp] theorem atF_orient : (s.atF i).orient j = s.orient j := rfl
@[simp] theorem atF_trend : (s.atF i).trend j = s.trend j := rfl
@[simp] theorem atF_mach : (s.atF i).mach j = s.mach j := rfl
@[simp] theorem atF_wear : (s.atF i).wear j = s.wear j := rfl
@[simp] theorem atF_wakeHost : (s.atF i).wakeHost j = s.wakeHost j := rfl
@[simp] theorem atF_stream : (s.atF i).stream j = s.stream j := rfl
@[simp] theorem atF_tb : (s.atF i).tb j = s.tb j := rfl
@[simp] theorem atF_link : (s.atF i).link j = s.link j := rfl
@[simp] theorem atF_peer : (s.atF i).peer j = s.peer j := rfl
@[simp] theorem atF_legLink : (s.atF i).legLink j = s.legLink j := rfl
@[simp] theorem atF_remote : (s.atF i).remote j = s.remote j := rfl
@[simp] theorem atF_rfBuf : (s.atF i).rfBuf j = s.rfBuf j := rfl
@[simp] theorem atF_meter : (s.atF i).meter j = s.meter j := rfl
@[simp] theorem atF_epochNow : (s.atF i).epochNow j = s.epochNow j := rfl
@[simp] theorem atF_epochPrev : (s.atF i).epochPrev j = s.epochPrev j := rfl
@[simp] theorem atF_patch : (s.atF i).patch j = s.patch j := rfl
@[simp] theorem atF_unit : (s.atF i).unit j = s.unit j := rfl

@[simp] theorem setHost_wordAt (x : HostSt) (a : Nat) : (s.setHost i x).wordAt a = s.wordAt a := rfl
@[simp] theorem setHost_reg (x : HostSt) (r : Reg) (n : Nat) : (s.setHost i x).reg r n = s.reg r n := rfl
@[simp] theorem setHost_app (x : HostSt) (r : Reg) (n : Nat) : (s.setHost i x).app r n = s.app r n := rfl
@[simp] theorem setHost_rdByte (x : HostSt) (a : Nat) : (s.setHost i x).rdByte a = s.rdByte a := rfl
@[simp] theorem setTarget_wordAt (x : Target) (a : Nat) : (s.setTarget i x).wordAt a = s.wordAt a := rfl
@[simp] theorem setTarget_reg (x : Target) (r : Reg) (n : Nat) : (s.setTarget i x).reg r n = s.reg r n := rfl
@[simp] theorem setTarget_app (x : Target) (r : Reg) (n : Nat) : (s.setTarget i x).app r n = s.app r n := rfl
@[simp] theorem setTarget_rdByte (x : Target) (a : Nat) : (s.setTarget i x).rdByte a = s.rdByte a := rfl
@[simp] theorem setSrc_wordAt (x : Src) (a : Nat) : (s.setSrc i x).wordAt a = s.wordAt a := rfl
@[simp] theorem setSrc_reg (x : Src) (r : Reg) (n : Nat) : (s.setSrc i x).reg r n = s.reg r n := rfl
@[simp] theorem setSrc_app (x : Src) (r : Reg) (n : Nat) : (s.setSrc i x).app r n = s.app r n := rfl
@[simp] theorem setSrc_rdByte (x : Src) (a : Nat) : (s.setSrc i x).rdByte a = s.rdByte a := rfl
@[simp] theorem setSluice_wordAt (x : Sluice) (a : Nat) : (s.setSluice i x).wordAt a = s.wordAt a := rfl
@[simp] theorem setSluice_reg (x : Sluice) (r : Reg) (n : Nat) : (s.setSluice i x).reg r n = s.reg r n := rfl
@[simp] theorem setSluice_app (x : Sluice) (r : Reg) (n : Nat) : (s.setSluice i x).app r n = s.app r n := rfl
@[simp] theorem setSluice_rdByte (x : Sluice) (a : Nat) : (s.setSluice i x).rdByte a = s.rdByte a := rfl
@[simp] theorem setPin_wordAt (x : Pin) (a : Nat) : (s.setPin i x).wordAt a = s.wordAt a := rfl
@[simp] theorem setPin_reg (x : Pin) (r : Reg) (n : Nat) : (s.setPin i x).reg r n = s.reg r n := rfl
@[simp] theorem setPin_app (x : Pin) (r : Reg) (n : Nat) : (s.setPin i x).app r n = s.app r n := rfl
@[simp] theorem setPin_rdByte (x : Pin) (a : Nat) : (s.setPin i x).rdByte a = s.rdByte a := rfl
@[simp] theorem setChan_wordAt (x : Chan) (a : Nat) : (s.setChan i x).wordAt a = s.wordAt a := rfl
@[simp] theorem setChan_reg (x : Chan) (r : Reg) (n : Nat) : (s.setChan i x).reg r n = s.reg r n := rfl
@[simp] theorem setChan_app (x : Chan) (r : Reg) (n : Nat) : (s.setChan i x).app r n = s.app r n := rfl
@[simp] theorem setChan_rdByte (x : Chan) (a : Nat) : (s.setChan i x).rdByte a = s.rdByte a := rfl
@[simp] theorem setPort_wordAt (x : Port) (a : Nat) : (s.setPort i x).wordAt a = s.wordAt a := rfl
@[simp] theorem setPort_reg (x : Port) (r : Reg) (n : Nat) : (s.setPort i x).reg r n = s.reg r n := rfl
@[simp] theorem setPort_app (x : Port) (r : Reg) (n : Nat) : (s.setPort i x).app r n = s.app r n := rfl
@[simp] theorem setPort_rdByte (x : Port) (a : Nat) : (s.setPort i x).rdByte a = s.rdByte a := rfl
@[simp] theorem setLaunch_wordAt (x : Launch) (a : Nat) : (s.setLaunch i x).wordAt a = s.wordAt a := rfl
@[simp] theorem setLaunch_reg (x : Launch) (r : Reg) (n : Nat) : (s.setLaunch i x).reg r n = s.reg r n := rfl
@[simp] theorem setLaunch_app (x : Launch) (r : Reg) (n : Nat) : (s.setLaunch i x).app r n = s.app r n := rfl
@[simp] theorem setLaunch_rdByte (x : Launch) (a : Nat) : (s.setLaunch i x).rdByte a = s.rdByte a := rfl
@[simp] theorem setTimer_wordAt (x : Timer) (a : Nat) : (s.setTimer i x).wordAt a = s.wordAt a := rfl
@[simp] theorem setTimer_reg (x : Timer) (r : Reg) (n : Nat) : (s.setTimer i x).reg r n = s.reg r n := rfl
@[simp] theorem setTimer_app (x : Timer) (r : Reg) (n : Nat) : (s.setTimer i x).app r n = s.app r n := rfl
@[simp] theorem setTimer_rdByte (x : Timer) (a : Nat) : (s.setTimer i x).rdByte a = s.rdByte a := rfl
@[simp] theorem setDom_wordAt (x : Dom) (a : Nat) : (s.setDom i x).wordAt a = s.wordAt a := rfl
@[simp] theorem setDom_reg (x : Dom) (r : Reg) (n : Nat) : (s.setDom i x).reg r n = s.reg r n := rfl
@[simp] theorem setDom_app (x : Dom) (r : Reg) (n : Nat) : (s.setDom i x).app r n = s.app r n := rfl
@[simp] theorem setDom_rdByte (x : Dom) (a : Nat) : (s.setDom i x).rdByte a = s.rdByte a := rfl
@[simp] theorem setTwrCh_wordAt (x : TowerCh) (a : Nat) : (s.setTwrCh i x).wordAt a = s.wordAt a := rfl
@[simp] theorem setTwrCh_reg (x : TowerCh) (r : Reg) (n : Nat) : (s.setTwrCh i x).reg r n = s.reg r n := rfl
@[simp] theorem setTwrCh_app (x : TowerCh) (r : Reg) (n : Nat) : (s.setTwrCh i x).app r n = s.app r n := rfl
@[simp] theorem setTwrCh_rdByte (x : TowerCh) (a : Nat) : (s.setTwrCh i x).rdByte a = s.rdByte a := rfl
@[simp] theorem setPre_wordAt (x : PreStage) (a : Nat) : (s.setPre i x).wordAt a = s.wordAt a := rfl
@[simp] theorem setPre_reg (x : PreStage) (r : Reg) (n : Nat) : (s.setPre i x).reg r n = s.reg r n := rfl
@[simp] theorem setPre_app (x : PreStage) (r : Reg) (n : Nat) : (s.setPre i x).app r n = s.app r n := rfl
@[simp] theorem setPre_rdByte (x : PreStage) (a : Nat) : (s.setPre i x).rdByte a = s.rdByte a := rfl
@[simp] theorem setSeed_wordAt (x : Seed) (a : Nat) : (s.setSeed i x).wordAt a = s.wordAt a := rfl
@[simp] theorem setSeed_reg (x : Seed) (r : Reg) (n : Nat) : (s.setSeed i x).reg r n = s.reg r n := rfl
@[simp] theorem setSeed_app (x : Seed) (r : Reg) (n : Nat) : (s.setSeed i x).app r n = s.app r n := rfl
@[simp] theorem setSeed_rdByte (x : Seed) (a : Nat) : (s.setSeed i x).rdByte a = s.rdByte a := rfl
@[simp] theorem setSvcInst_wordAt (x : SvcInst) (a : Nat) : (s.setSvcInst i x).wordAt a = s.wordAt a := rfl
@[simp] theorem setSvcInst_reg (x : SvcInst) (r : Reg) (n : Nat) : (s.setSvcInst i x).reg r n = s.reg r n := rfl
@[simp] theorem setSvcInst_app (x : SvcInst) (r : Reg) (n : Nat) : (s.setSvcInst i x).app r n = s.app r n := rfl
@[simp] theorem setSvcInst_rdByte (x : SvcInst) (a : Nat) : (s.setSvcInst i x).rdByte a = s.rdByte a := rfl
@[simp] theorem setOrient_wordAt (x : Orient) (a : Nat) : (s.setOrient i x).wordAt a = s.wordAt a := rfl
@[simp] theorem setOrient_reg (x : Orient) (r : Reg) (n : Nat) : (s.setOrient i x).reg r n = s.reg r n := rfl
@[simp] theorem setOrient_app (x : Orient) (r : Reg) (n : Nat) : (s.setOrient i x).app r n = s.app r n := rfl
@[simp] theorem setOrient_rdByte (x : Orient) (a : Nat) : (s.setOrient i x).rdByte a = s.rdByte a := rfl
@[simp] theorem setTrend_wordAt (x : TrendPeriod) (a : Nat) : (s.setTrend i x).wordAt a = s.wordAt a := rfl
@[simp] theorem setTrend_reg (x : TrendPeriod) (r : Reg) (n : Nat) : (s.setTrend i x).reg r n = s.reg r n := rfl
@[simp] theorem setTrend_app (x : TrendPeriod) (r : Reg) (n : Nat) : (s.setTrend i x).app r n = s.app r n := rfl
@[simp] theorem setTrend_rdByte (x : TrendPeriod) (a : Nat) : (s.setTrend i x).rdByte a = s.rdByte a := rfl
@[simp] theorem setMach_wordAt (x : Mach) (a : Nat) : (s.setMach i x).wordAt a = s.wordAt a := rfl
@[simp] theorem setMach_reg (x : Mach) (r : Reg) (n : Nat) : (s.setMach i x).reg r n = s.reg r n := rfl
@[simp] theorem setMach_app (x : Mach) (r : Reg) (n : Nat) : (s.setMach i x).app r n = s.app r n := rfl
@[simp] theorem setMach_rdByte (x : Mach) (a : Nat) : (s.setMach i x).rdByte a = s.rdByte a := rfl
@[simp] theorem setWear_wordAt (x : Wear) (a : Nat) : (s.setWear i x).wordAt a = s.wordAt a := rfl
@[simp] theorem setWear_reg (x : Wear) (r : Reg) (n : Nat) : (s.setWear i x).reg r n = s.reg r n := rfl
@[simp] theorem setWear_app (x : Wear) (r : Reg) (n : Nat) : (s.setWear i x).app r n = s.app r n := rfl
@[simp] theorem setWear_rdByte (x : Wear) (a : Nat) : (s.setWear i x).rdByte a = s.rdByte a := rfl
@[simp] theorem setWakeHost_wordAt (x : WakeHost) (a : Nat) : (s.setWakeHost i x).wordAt a = s.wordAt a := rfl
@[simp] theorem setWakeHost_reg (x : WakeHost) (r : Reg) (n : Nat) : (s.setWakeHost i x).reg r n = s.reg r n := rfl
@[simp] theorem setWakeHost_app (x : WakeHost) (r : Reg) (n : Nat) : (s.setWakeHost i x).app r n = s.app r n := rfl
@[simp] theorem setWakeHost_rdByte (x : WakeHost) (a : Nat) : (s.setWakeHost i x).rdByte a = s.rdByte a := rfl
@[simp] theorem setStream_wordAt (x : Stream) (a : Nat) : (s.setStream i x).wordAt a = s.wordAt a := rfl
@[simp] theorem setStream_reg (x : Stream) (r : Reg) (n : Nat) : (s.setStream i x).reg r n = s.reg r n := rfl
@[simp] theorem setStream_app (x : Stream) (r : Reg) (n : Nat) : (s.setStream i x).app r n = s.app r n := rfl
@[simp] theorem setStream_rdByte (x : Stream) (a : Nat) : (s.setStream i x).rdByte a = s.rdByte a := rfl
@[simp] theorem setTb_wordAt (x : Tb) (a : Nat) : (s.setTb i x).wordAt a = s.wordAt a := rfl
@[simp] theorem setTb_reg (x : Tb) (r : Reg) (n : Nat) : (s.setTb i x).reg r n = s.reg r n := rfl
@[simp] theorem setTb_app (x : Tb) (r : Reg) (n : Nat) : (s.setTb i x).app r n = s.app r n := rfl
@[simp] theorem setTb_rdByte (x : Tb) (a : Nat) : (s.setTb i x).rdByte a = s.rdByte a := rfl
@[simp] theorem setLink_wordAt (x : TimeLink) (a : Nat) : (s.setLink i x).wordAt a = s.wordAt a := rfl
@[simp] theorem setLink_reg (x : TimeLink) (r : Reg) (n : Nat) : (s.setLink i x).reg r n = s.reg r n := rfl
@[simp] theorem setLink_app (x : TimeLink) (r : Reg) (n : Nat) : (s.setLink i x).app r n = s.app r n := rfl
@[simp] theorem setLink_rdByte (x : TimeLink) (a : Nat) : (s.setLink i x).rdByte a = s.rdByte a := rfl
@[simp] theorem setPeer_wordAt (x : Peer) (a : Nat) : (s.setPeer i x).wordAt a = s.wordAt a := rfl
@[simp] theorem setPeer_reg (x : Peer) (r : Reg) (n : Nat) : (s.setPeer i x).reg r n = s.reg r n := rfl
@[simp] theorem setPeer_app (x : Peer) (r : Reg) (n : Nat) : (s.setPeer i x).app r n = s.app r n := rfl
@[simp] theorem setPeer_rdByte (x : Peer) (a : Nat) : (s.setPeer i x).rdByte a = s.rdByte a := rfl
@[simp] theorem setLegLink_wordAt (x : LegLink) (a : Nat) : (s.setLegLink i x).wordAt a = s.wordAt a := rfl
@[simp] theorem setLegLink_reg (x : LegLink) (r : Reg) (n : Nat) : (s.setLegLink i x).reg r n = s.reg r n := rfl
@[simp] theorem setLegLink_app (x : LegLink) (r : Reg) (n : Nat) : (s.setLegLink i x).app r n = s.app r n := rfl
@[simp] theorem setLegLink_rdByte (x : LegLink) (a : Nat) : (s.setLegLink i x).rdByte a = s.rdByte a := rfl
@[simp] theorem setRemote_wordAt (x : Remote) (a : Nat) : (s.setRemote i x).wordAt a = s.wordAt a := rfl
@[simp] theorem setRemote_reg (x : Remote) (r : Reg) (n : Nat) : (s.setRemote i x).reg r n = s.reg r n := rfl
@[simp] theorem setRemote_app (x : Remote) (r : Reg) (n : Nat) : (s.setRemote i x).app r n = s.app r n := rfl
@[simp] theorem setRemote_rdByte (x : Remote) (a : Nat) : (s.setRemote i x).rdByte a = s.rdByte a := rfl
@[simp] theorem setRfBuf_wordAt (x : RfBuf) (a : Nat) : (s.setRfBuf i x).wordAt a = s.wordAt a := rfl
@[simp] theorem setRfBuf_reg (x : RfBuf) (r : Reg) (n : Nat) : (s.setRfBuf i x).reg r n = s.reg r n := rfl
@[simp] theorem setRfBuf_app (x : RfBuf) (r : Reg) (n : Nat) : (s.setRfBuf i x).app r n = s.app r n := rfl
@[simp] theorem setRfBuf_rdByte (x : RfBuf) (a : Nat) : (s.setRfBuf i x).rdByte a = s.rdByte a := rfl
@[simp] theorem setMeter_wordAt (x : Meter) (a : Nat) : (s.setMeter i x).wordAt a = s.wordAt a := rfl
@[simp] theorem setMeter_reg (x : Meter) (r : Reg) (n : Nat) : (s.setMeter i x).reg r n = s.reg r n := rfl
@[simp] theorem setMeter_app (x : Meter) (r : Reg) (n : Nat) : (s.setMeter i x).app r n = s.app r n := rfl
@[simp] theorem setMeter_rdByte (x : Meter) (a : Nat) : (s.setMeter i x).rdByte a = s.rdByte a := rfl
@[simp] theorem setEpochNow_wordAt (x : EpochCnt) (a : Nat) : (s.setEpochNow i x).wordAt a = s.wordAt a := rfl
@[simp] theorem setEpochNow_reg (x : EpochCnt) (r : Reg) (n : Nat) : (s.setEpochNow i x).reg r n = s.reg r n := rfl
@[simp] theorem setEpochNow_app (x : EpochCnt) (r : Reg) (n : Nat) : (s.setEpochNow i x).app r n = s.app r n := rfl
@[simp] theorem setEpochNow_rdByte (x : EpochCnt) (a : Nat) : (s.setEpochNow i x).rdByte a = s.rdByte a := rfl
@[simp] theorem setEpochPrev_wordAt (x : EpochCnt) (a : Nat) : (s.setEpochPrev i x).wordAt a = s.wordAt a := rfl
@[simp] theorem setEpochPrev_reg (x : EpochCnt) (r : Reg) (n : Nat) : (s.setEpochPrev i x).reg r n = s.reg r n := rfl
@[simp] theorem setEpochPrev_app (x : EpochCnt) (r : Reg) (n : Nat) : (s.setEpochPrev i x).app r n = s.app r n := rfl
@[simp] theorem setEpochPrev_rdByte (x : EpochCnt) (a : Nat) : (s.setEpochPrev i x).rdByte a = s.rdByte a := rfl
@[simp] theorem setPatch_wordAt (x : PatchSlot) (a : Nat) : (s.setPatch i x).wordAt a = s.wordAt a := rfl
@[simp] theorem setPatch_reg (x : PatchSlot) (r : Reg) (n : Nat) : (s.setPatch i x).reg r n = s.reg r n := rfl
@[simp] theorem setPatch_app (x : PatchSlot) (r : Reg) (n : Nat) : (s.setPatch i x).app r n = s.app r n := rfl
@[simp] theorem setPatch_rdByte (x : PatchSlot) (a : Nat) : (s.setPatch i x).rdByte a = s.rdByte a := rfl
@[simp] theorem setUnit_wordAt (x : ChkUnit) (a : Nat) : (s.setUnit i x).wordAt a = s.wordAt a := rfl
@[simp] theorem setUnit_reg (x : ChkUnit) (r : Reg) (n : Nat) : (s.setUnit i x).reg r n = s.reg r n := rfl
@[simp] theorem setUnit_app (x : ChkUnit) (r : Reg) (n : Nat) : (s.setUnit i x).app r n = s.app r n := rfl
@[simp] theorem setUnit_rdByte (x : ChkUnit) (a : Nat) : (s.setUnit i x).rdByte a = s.rdByte a := rfl

end Sys2Proof.Machine
end

