-- ==== Sys2Proof/Laws/Ops.lean ====
section
/-! SUPPORT. What each shared operation of Machine/Ops.lean leaves as it was: one lemma for each operation and each field of the state that it never writes. -/

namespace Sys2Proof.Machine

variable (s : State)

/-! ### `wakeRequest` writes only `svc` -/

@[simp] theorem wakeRequest_pending' (t v p : Nat) : (s.wakeRequest t v p).pending = s.pending := by
  rfl
@[simp] theorem wakeRequest_tick' (t v p : Nat) : (s.wakeRequest t v p).tick = s.tick := by
  rfl
@[simp] theorem wakeRequest_sub' (t v p : Nat) : (s.wakeRequest t v p).sub = s.sub := by
  rfl
@[simp] theorem wakeRequest_provisioned' (t v p : Nat) : (s.wakeRequest t v p).provisioned = s.provisioned := by
  rfl
@[simp] theorem wakeRequest_free' (t v p : Nat) : (s.wakeRequest t v p).free = s.free := by
  rfl
@[simp] theorem wakeRequest_regs' (t v p : Nat) : (s.wakeRequest t v p).regs = s.regs := by
  rfl
@[simp] theorem wakeRequest_applied' (t v p : Nat) : (s.wakeRequest t v p).applied = s.applied := by
  rfl
@[simp] theorem wakeRequest_mem' (t v p : Nat) : (s.wakeRequest t v p).mem = s.mem := by
  rfl
@[simp] theorem wakeRequest_hosts' (t v p : Nat) : (s.wakeRequest t v p).hosts = s.hosts := by
  rfl
@[simp] theorem wakeRequest_turn' (t v p : Nat) : (s.wakeRequest t v p).turn = s.turn := by
  rfl
@[simp] theorem wakeRequest_sessionNo' (t v p : Nat) : (s.wakeRequest t v p).sessionNo = s.sessionNo := by
  rfl
@[simp] theorem wakeRequest_out' (t v p : Nat) : (s.wakeRequest t v p).out = s.out := by
  rfl
@[simp] theorem wakeRequest_hp1Ibi' (t v p : Nat) : (s.wakeRequest t v p).hp1Ibi = s.hp1Ibi := by
  rfl
@[simp] theorem wakeRequest_log' (t v p : Nat) : (s.wakeRequest t v p).log = s.log := by
  rfl
@[simp] theorem wakeRequest_logSat' (t v p : Nat) : (s.wakeRequest t v p).logSat = s.logSat := by
  rfl
@[simp] theorem wakeRequest_fenced' (t v p : Nat) : (s.wakeRequest t v p).fenced = s.fenced := by
  rfl
@[simp] theorem wakeRequest_runs' (t v p : Nat) : (s.wakeRequest t v p).runs = s.runs := by
  rfl
@[simp] theorem wakeRequest_check' (t v p : Nat) : (s.wakeRequest t v p).check = s.check := by
  rfl
@[simp] theorem wakeRequest_snap' (t v p : Nat) : (s.wakeRequest t v p).snap = s.snap := by
  rfl
@[simp] theorem wakeRequest_groups' (t v p : Nat) : (s.wakeRequest t v p).groups = s.groups := by
  rfl
@[simp] theorem wakeRequest_targets' (t v p : Nat) : (s.wakeRequest t v p).targets = s.targets := by
  rfl
@[simp] theorem wakeRequest_srcs' (t v p : Nat) : (s.wakeRequest t v p).srcs = s.srcs := by
  rfl
@[simp] theorem wakeRequest_sluices' (t v p : Nat) : (s.wakeRequest t v p).sluices = s.sluices := by
  rfl
@[simp] theorem wakeRequest_pins' (t v p : Nat) : (s.wakeRequest t v p).pins = s.pins := by
  rfl
@[simp] theorem wakeRequest_evq' (t v p : Nat) : (s.wakeRequest t v p).evq = s.evq := by
  rfl
@[simp] theorem wakeRequest_wave' (t v p : Nat) : (s.wakeRequest t v p).wave = s.wave := by
  rfl
@[simp] theorem wakeRequest_jobs' (t v p : Nat) : (s.wakeRequest t v p).jobs = s.jobs := by
  rfl
@[simp] theorem wakeRequest_chans' (t v p : Nat) : (s.wakeRequest t v p).chans = s.chans := by
  rfl
@[simp] theorem wakeRequest_ports' (t v p : Nat) : (s.wakeRequest t v p).ports = s.ports := by
  rfl
@[simp] theorem wakeRequest_afe' (t v p : Nat) : (s.wakeRequest t v p).afe = s.afe := by
  rfl
@[simp] theorem wakeRequest_twr' (t v p : Nat) : (s.wakeRequest t v p).twr = s.twr := by
  rfl
@[simp] theorem wakeRequest_cry' (t v p : Nat) : (s.wakeRequest t v p).cry = s.cry := by
  rfl
@[simp] theorem wakeRequest_pan' (t v p : Nat) : (s.wakeRequest t v p).pan = s.pan := by
  rfl
@[simp] theorem wakeRequest_time' (t v p : Nat) : (s.wakeRequest t v p).time = s.time := by
  rfl
@[simp] theorem wakeRequest_launches' (t v p : Nat) : (s.wakeRequest t v p).launches = s.launches := by
  rfl
@[simp] theorem wakeRequest_timers' (t v p : Nat) : (s.wakeRequest t v p).timers = s.timers := by
  rfl
@[simp] theorem wakeRequest_slt' (t v p : Nat) : (s.wakeRequest t v p).slt = s.slt := by
  rfl
@[simp] theorem wakeRequest_rf' (t v p : Nat) : (s.wakeRequest t v p).rf = s.rf := by
  rfl
@[simp] theorem wakeRequest_doms' (t v p : Nat) : (s.wakeRequest t v p).doms = s.doms := by
  rfl
@[simp] theorem wakeRequest_ldg' (t v p : Nat) : (s.wakeRequest t v p).ldg = s.ldg := by
  rfl
@[simp] theorem wakeRequest_pln' (t v p : Nat) : (s.wakeRequest t v p).pln = s.pln := by
  rfl
@[simp] theorem wakeRequest_store' (t v p : Nat) : (s.wakeRequest t v p).store = s.store := by
  rfl
@[simp] theorem wakeRequest_life' (t v p : Nat) : (s.wakeRequest t v p).life = s.life := by
  rfl
@[simp] theorem wakeRequest_cal' (t v p : Nat) : (s.wakeRequest t v p).cal = s.cal := by
  rfl
@[simp] theorem wakeRequest_pwr' (t v p : Nat) : (s.wakeRequest t v p).pwr = s.pwr := by
  rfl

/-! ### `raise` writes only `srcs`, `svc` -/

@[simp] theorem raise_pending' (k : Nat) (w : Bool) : (s.raise k w).pending = s.pending := by
  unfold State.raise; dsimp only; split <;> simp
@[simp] theorem raise_tick' (k : Nat) (w : Bool) : (s.raise k w).tick = s.tick := by
  unfold State.raise; dsimp only; split <;> simp
@[simp] theorem raise_sub' (k : Nat) (w : Bool) : (s.raise k w).sub = s.sub := by
  unfold State.raise; dsimp only; split <;> simp
@[simp] theorem raise_provisioned' (k : Nat) (w : Bool) : (s.raise k w).provisioned = s.provisioned := by
  unfold State.raise; dsimp only; split <;> simp
@[simp] theorem raise_free' (k : Nat) (w : Bool) : (s.raise k w).free = s.free := by
  unfold State.raise; dsimp only; split <;> simp
@[simp] theorem raise_regs' (k : Nat) (w : Bool) : (s.raise k w).regs = s.regs := by
  unfold State.raise; dsimp only; split <;> simp
@[simp] theorem raise_applied' (k : Nat) (w : Bool) : (s.raise k w).applied = s.applied := by
  unfold State.raise; dsimp only; split <;> simp
@[simp] theorem raise_mem' (k : Nat) (w : Bool) : (s.raise k w).mem = s.mem := by
  unfold State.raise; dsimp only; split <;> simp
@[simp] theorem raise_hosts' (k : Nat) (w : Bool) : (s.raise k w).hosts = s.hosts := by
  unfold State.raise; dsimp only; split <;> simp
@[simp] theorem raise_turn' (k : Nat) (w : Bool) : (s.raise k w).turn = s.turn := by
  unfold State.raise; dsimp only; split <;> simp
@[simp] theorem raise_sessionNo' (k : Nat) (w : Bool) : (s.raise k w).sessionNo = s.sessionNo := by
  unfold State.raise; dsimp only; split <;> simp
@[simp] theorem raise_out' (k : Nat) (w : Bool) : (s.raise k w).out = s.out := by
  unfold State.raise; dsimp only; split <;> simp
@[simp] theorem raise_hp1Ibi' (k : Nat) (w : Bool) : (s.raise k w).hp1Ibi = s.hp1Ibi := by
  unfold State.raise; dsimp only; split <;> simp
@[simp] theorem raise_log' (k : Nat) (w : Bool) : (s.raise k w).log = s.log := by
  unfold State.raise; dsimp only; split <;> simp
@[simp] theorem raise_logSat' (k : Nat) (w : Bool) : (s.raise k w).logSat = s.logSat := by
  unfold State.raise; dsimp only; split <;> simp
@[simp] theorem raise_fenced' (k : Nat) (w : Bool) : (s.raise k w).fenced = s.fenced := by
  unfold State.raise; dsimp only; split <;> simp
@[simp] theorem raise_runs' (k : Nat) (w : Bool) : (s.raise k w).runs = s.runs := by
  unfold State.raise; dsimp only; split <;> simp
@[simp] theorem raise_check' (k : Nat) (w : Bool) : (s.raise k w).check = s.check := by
  unfold State.raise; dsimp only; split <;> simp
@[simp] theorem raise_snap' (k : Nat) (w : Bool) : (s.raise k w).snap = s.snap := by
  unfold State.raise; dsimp only; split <;> simp
@[simp] theorem raise_groups' (k : Nat) (w : Bool) : (s.raise k w).groups = s.groups := by
  unfold State.raise; dsimp only; split <;> simp
@[simp] theorem raise_targets' (k : Nat) (w : Bool) : (s.raise k w).targets = s.targets := by
  unfold State.raise; dsimp only; split <;> simp
@[simp] theorem raise_sluices' (k : Nat) (w : Bool) : (s.raise k w).sluices = s.sluices := by
  unfold State.raise; dsimp only; split <;> simp
@[simp] theorem raise_pins' (k : Nat) (w : Bool) : (s.raise k w).pins = s.pins := by
  unfold State.raise; dsimp only; split <;> simp
@[simp] theorem raise_evq' (k : Nat) (w : Bool) : (s.raise k w).evq = s.evq := by
  unfold State.raise; dsimp only; split <;> simp
@[simp] theorem raise_wave' (k : Nat) (w : Bool) : (s.raise k w).wave = s.wave := by
  unfold State.raise; dsimp only; split <;> simp
@[simp] theorem raise_jobs' (k : Nat) (w : Bool) : (s.raise k w).jobs = s.jobs := by
  unfold State.raise; dsimp only; split <;> simp
@[simp] theorem raise_chans' (k : Nat) (w : Bool) : (s.raise k w).chans = s.chans := by
  unfold State.raise; dsimp only; split <;> simp
@[simp] theorem raise_ports' (k : Nat) (w : Bool) : (s.raise k w).ports = s.ports := by
  unfold State.raise; dsimp only; split <;> simp
@[simp] theorem raise_afe' (k : Nat) (w : Bool) : (s.raise k w).afe = s.afe := by
  unfold State.raise; dsimp only; split <;> simp
@[simp] theorem raise_twr' (k : Nat) (w : Bool) : (s.raise k w).twr = s.twr := by
  unfold State.raise; dsimp only; split <;> simp
@[simp] theorem raise_cry' (k : Nat) (w : Bool) : (s.raise k w).cry = s.cry := by
  unfold State.raise; dsimp only; split <;> simp
@[simp] theorem raise_pan' (k : Nat) (w : Bool) : (s.raise k w).pan = s.pan := by
  unfold State.raise; dsimp only; split <;> simp
@[simp] theorem raise_time' (k : Nat) (w : Bool) : (s.raise k w).time = s.time := by
  unfold State.raise; dsimp only; split <;> simp
@[simp] theorem raise_launches' (k : Nat) (w : Bool) : (s.raise k w).launches = s.launches := by
  unfold State.raise; dsimp only; split <;> simp
@[simp] theorem raise_timers' (k : Nat) (w : Bool) : (s.raise k w).timers = s.timers := by
  unfold State.raise; dsimp only; split <;> simp
@[simp] theorem raise_slt' (k : Nat) (w : Bool) : (s.raise k w).slt = s.slt := by
  unfold State.raise; dsimp only; split <;> simp
@[simp] theorem raise_rf' (k : Nat) (w : Bool) : (s.raise k w).rf = s.rf := by
  unfold State.raise; dsimp only; split <;> simp
@[simp] theorem raise_doms' (k : Nat) (w : Bool) : (s.raise k w).doms = s.doms := by
  unfold State.raise; dsimp only; split <;> simp
@[simp] theorem raise_ldg' (k : Nat) (w : Bool) : (s.raise k w).ldg = s.ldg := by
  unfold State.raise; dsimp only; split <;> simp
@[simp] theorem raise_pln' (k : Nat) (w : Bool) : (s.raise k w).pln = s.pln := by
  unfold State.raise; dsimp only; split <;> simp
@[simp] theorem raise_store' (k : Nat) (w : Bool) : (s.raise k w).store = s.store := by
  unfold State.raise; dsimp only; split <;> simp
@[simp] theorem raise_life' (k : Nat) (w : Bool) : (s.raise k w).life = s.life := by
  unfold State.raise; dsimp only; split <;> simp
@[simp] theorem raise_cal' (k : Nat) (w : Bool) : (s.raise k w).cal = s.cal := by
  unfold State.raise; dsimp only; split <;> simp
@[simp] theorem raise_pwr' (k : Nat) (w : Bool) : (s.raise k w).pwr = s.pwr := by
  unfold State.raise; dsimp only; split <;> simp

/-! ### `raisePriv` writes only `targets` -/

@[simp] theorem raisePriv_pending' (t p : Nat) : (s.raisePriv t p).pending = s.pending := by
  simp [State.raisePriv]
@[simp] theorem raisePriv_tick' (t p : Nat) : (s.raisePriv t p).tick = s.tick := by
  simp [State.raisePriv]
@[simp] theorem raisePriv_sub' (t p : Nat) : (s.raisePriv t p).sub = s.sub := by
  simp [State.raisePriv]
@[simp] theorem raisePriv_provisioned' (t p : Nat) : (s.raisePriv t p).provisioned = s.provisioned := by
  simp [State.raisePriv]
@[simp] theorem raisePriv_free' (t p : Nat) : (s.raisePriv t p).free = s.free := by
  simp [State.raisePriv]
@[simp] theorem raisePriv_regs' (t p : Nat) : (s.raisePriv t p).regs = s.regs := by
  simp [State.raisePriv]
@[simp] theorem raisePriv_applied' (t p : Nat) : (s.raisePriv t p).applied = s.applied := by
  simp [State.raisePriv]
@[simp] theorem raisePriv_mem' (t p : Nat) : (s.raisePriv t p).mem = s.mem := by
  simp [State.raisePriv]
@[simp] theorem raisePriv_hosts' (t p : Nat) : (s.raisePriv t p).hosts = s.hosts := by
  simp [State.raisePriv]
@[simp] theorem raisePriv_turn' (t p : Nat) : (s.raisePriv t p).turn = s.turn := by
  simp [State.raisePriv]
@[simp] theorem raisePriv_sessionNo' (t p : Nat) : (s.raisePriv t p).sessionNo = s.sessionNo := by
  simp [State.raisePriv]
@[simp] theorem raisePriv_out' (t p : Nat) : (s.raisePriv t p).out = s.out := by
  simp [State.raisePriv]
@[simp] theorem raisePriv_hp1Ibi' (t p : Nat) : (s.raisePriv t p).hp1Ibi = s.hp1Ibi := by
  simp [State.raisePriv]
@[simp] theorem raisePriv_log' (t p : Nat) : (s.raisePriv t p).log = s.log := by
  simp [State.raisePriv]
@[simp] theorem raisePriv_logSat' (t p : Nat) : (s.raisePriv t p).logSat = s.logSat := by
  simp [State.raisePriv]
@[simp] theorem raisePriv_fenced' (t p : Nat) : (s.raisePriv t p).fenced = s.fenced := by
  simp [State.raisePriv]
@[simp] theorem raisePriv_runs' (t p : Nat) : (s.raisePriv t p).runs = s.runs := by
  simp [State.raisePriv]
@[simp] theorem raisePriv_check' (t p : Nat) : (s.raisePriv t p).check = s.check := by
  simp [State.raisePriv]
@[simp] theorem raisePriv_snap' (t p : Nat) : (s.raisePriv t p).snap = s.snap := by
  simp [State.raisePriv]
@[simp] theorem raisePriv_groups' (t p : Nat) : (s.raisePriv t p).groups = s.groups := by
  simp [State.raisePriv]
@[simp] theorem raisePriv_srcs' (t p : Nat) : (s.raisePriv t p).srcs = s.srcs := by
  simp [State.raisePriv]
@[simp] theorem raisePriv_sluices' (t p : Nat) : (s.raisePriv t p).sluices = s.sluices := by
  simp [State.raisePriv]
@[simp] theorem raisePriv_pins' (t p : Nat) : (s.raisePriv t p).pins = s.pins := by
  simp [State.raisePriv]
@[simp] theorem raisePriv_evq' (t p : Nat) : (s.raisePriv t p).evq = s.evq := by
  simp [State.raisePriv]
@[simp] theorem raisePriv_wave' (t p : Nat) : (s.raisePriv t p).wave = s.wave := by
  simp [State.raisePriv]
@[simp] theorem raisePriv_jobs' (t p : Nat) : (s.raisePriv t p).jobs = s.jobs := by
  simp [State.raisePriv]
@[simp] theorem raisePriv_chans' (t p : Nat) : (s.raisePriv t p).chans = s.chans := by
  simp [State.raisePriv]
@[simp] theorem raisePriv_ports' (t p : Nat) : (s.raisePriv t p).ports = s.ports := by
  simp [State.raisePriv]
@[simp] theorem raisePriv_afe' (t p : Nat) : (s.raisePriv t p).afe = s.afe := by
  simp [State.raisePriv]
@[simp] theorem raisePriv_twr' (t p : Nat) : (s.raisePriv t p).twr = s.twr := by
  simp [State.raisePriv]
@[simp] theorem raisePriv_cry' (t p : Nat) : (s.raisePriv t p).cry = s.cry := by
  simp [State.raisePriv]
@[simp] theorem raisePriv_svc' (t p : Nat) : (s.raisePriv t p).svc = s.svc := by
  simp [State.raisePriv]
@[simp] theorem raisePriv_pan' (t p : Nat) : (s.raisePriv t p).pan = s.pan := by
  simp [State.raisePriv]
@[simp] theorem raisePriv_time' (t p : Nat) : (s.raisePriv t p).time = s.time := by
  simp [State.raisePriv]
@[simp] theorem raisePriv_launches' (t p : Nat) : (s.raisePriv t p).launches = s.launches := by
  simp [State.raisePriv]
@[simp] theorem raisePriv_timers' (t p : Nat) : (s.raisePriv t p).timers = s.timers := by
  simp [State.raisePriv]
@[simp] theorem raisePriv_slt' (t p : Nat) : (s.raisePriv t p).slt = s.slt := by
  simp [State.raisePriv]
@[simp] theorem raisePriv_rf' (t p : Nat) : (s.raisePriv t p).rf = s.rf := by
  simp [State.raisePriv]
@[simp] theorem raisePriv_doms' (t p : Nat) : (s.raisePriv t p).doms = s.doms := by
  simp [State.raisePriv]
@[simp] theorem raisePriv_ldg' (t p : Nat) : (s.raisePriv t p).ldg = s.ldg := by
  simp [State.raisePriv]
@[simp] theorem raisePriv_pln' (t p : Nat) : (s.raisePriv t p).pln = s.pln := by
  simp [State.raisePriv]
@[simp] theorem raisePriv_store' (t p : Nat) : (s.raisePriv t p).store = s.store := by
  simp [State.raisePriv]
@[simp] theorem raisePriv_life' (t p : Nat) : (s.raisePriv t p).life = s.life := by
  simp [State.raisePriv]
@[simp] theorem raisePriv_cal' (t p : Nat) : (s.raisePriv t p).cal = s.cal := by
  simp [State.raisePriv]
@[simp] theorem raisePriv_pwr' (t p : Nat) : (s.raisePriv t p).pwr = s.pwr := by
  simp [State.raisePriv]

/-! ### `sumRaise` writes only `regs`, `srcs`, `svc` -/

@[simp] theorem sumRaise_pending' (r : Reg) (n : Nat) : (s.sumRaise r n).pending = s.pending := by
  unfold State.sumRaise; split <;> simp
@[simp] theorem sumRaise_tick' (r : Reg) (n : Nat) : (s.sumRaise r n).tick = s.tick := by
  unfold State.sumRaise; split <;> simp
@[simp] theorem sumRaise_sub' (r : Reg) (n : Nat) : (s.sumRaise r n).sub = s.sub := by
  unfold State.sumRaise; split <;> simp
@[simp] theorem sumRaise_provisioned' (r : Reg) (n : Nat) : (s.sumRaise r n).provisioned = s.provisioned := by
  unfold State.sumRaise; split <;> simp
@[simp] theorem sumRaise_free' (r : Reg) (n : Nat) : (s.sumRaise r n).free = s.free := by
  unfold State.sumRaise; split <;> simp
@[simp] theorem sumRaise_applied' (r : Reg) (n : Nat) : (s.sumRaise r n).applied = s.applied := by
  unfold State.sumRaise; split <;> simp
@[simp] theorem sumRaise_mem' (r : Reg) (n : Nat) : (s.sumRaise r n).mem = s.mem := by
  unfold State.sumRaise; split <;> simp
@[simp] theorem sumRaise_hosts' (r : Reg) (n : Nat) : (s.sumRaise r n).hosts = s.hosts := by
  unfold State.sumRaise; split <;> simp
@[simp] theorem sumRaise_turn' (r : Reg) (n : Nat) : (s.sumRaise r n).turn = s.turn := by
  unfold State.sumRaise; split <;> simp
@[simp] theorem sumRaise_sessionNo' (r : Reg) (n : Nat) : (s.sumRaise r n).sessionNo = s.sessionNo := by
  unfold State.sumRaise; split <;> simp
@[simp] theorem sumRaise_out' (r : Reg) (n : Nat) : (s.sumRaise r n).out = s.out := by
  unfold State.sumRaise; split <;> simp
@[simp] theorem sumRaise_hp1Ibi' (r : Reg) (n : Nat) : (s.sumRaise r n).hp1Ibi = s.hp1Ibi := by
  unfold State.sumRaise; split <;> simp
@[simp] theorem sumRaise_log' (r : Reg) (n : Nat) : (s.sumRaise r n).log = s.log := by
  unfold State.sumRaise; split <;> simp
@[simp] theorem sumRaise_logSat' (r : Reg) (n : Nat) : (s.sumRaise r n).logSat = s.logSat := by
  unfold State.sumRaise; split <;> simp
@[simp] theorem sumRaise_fenced' (r : Reg) (n : Nat) : (s.sumRaise r n).fenced = s.fenced := by
  unfold State.sumRaise; split <;> simp
@[simp] theorem sumRaise_runs' (r : Reg) (n : Nat) : (s.sumRaise r n).runs = s.runs := by
  unfold State.sumRaise; split <;> simp
@[simp] theorem sumRaise_check' (r : Reg) (n : Nat) : (s.sumRaise r n).check = s.check := by
  unfold State.sumRaise; split <;> simp
@[simp] theorem sumRaise_snap' (r : Reg) (n : Nat) : (s.sumRaise r n).snap = s.snap := by
  unfold State.sumRaise; split <;> simp
@[simp] theorem sumRaise_groups' (r : Reg) (n : Nat) : (s.sumRaise r n).groups = s.groups := by
  unfold State.sumRaise; split <;> simp
@[simp] theorem sumRaise_targets' (r : Reg) (n : Nat) : (s.sumRaise r n).targets = s.targets := by
  unfold State.sumRaise; split <;> simp
@[simp] theorem sumRaise_sluices' (r : Reg) (n : Nat) : (s.sumRaise r n).sluices = s.sluices := by
  unfold State.sumRaise; split <;> simp
@[simp] theorem sumRaise_pins' (r : Reg) (n : Nat) : (s.sumRaise r n).pins = s.pins := by
  unfold State.sumRaise; split <;> simp
@[simp] theorem sumRaise_evq' (r : Reg) (n : Nat) : (s.sumRaise r n).evq = s.evq := by
  unfold State.sumRaise; split <;> simp
@[simp] theorem sumRaise_wave' (r : Reg) (n : Nat) : (s.sumRaise r n).wave = s.wave := by
  unfold State.sumRaise; split <;> simp
@[simp] theorem sumRaise_jobs' (r : Reg) (n : Nat) : (s.sumRaise r n).jobs = s.jobs := by
  unfold State.sumRaise; split <;> simp
@[simp] theorem sumRaise_chans' (r : Reg) (n : Nat) : (s.sumRaise r n).chans = s.chans := by
  unfold State.sumRaise; split <;> simp
@[simp] theorem sumRaise_ports' (r : Reg) (n : Nat) : (s.sumRaise r n).ports = s.ports := by
  unfold State.sumRaise; split <;> simp
@[simp] theorem sumRaise_afe' (r : Reg) (n : Nat) : (s.sumRaise r n).afe = s.afe := by
  unfold State.sumRaise; split <;> simp
@[simp] theorem sumRaise_twr' (r : Reg) (n : Nat) : (s.sumRaise r n).twr = s.twr := by
  unfold State.sumRaise; split <;> simp
@[simp] theorem sumRaise_cry' (r : Reg) (n : Nat) : (s.sumRaise r n).cry = s.cry := by
  unfold State.sumRaise; split <;> simp
@[simp] theorem sumRaise_pan' (r : Reg) (n : Nat) : (s.sumRaise r n).pan = s.pan := by
  unfold State.sumRaise; split <;> simp
@[simp] theorem sumRaise_time' (r : Reg) (n : Nat) : (s.sumRaise r n).time = s.time := by
  unfold State.sumRaise; split <;> simp
@[simp] theorem sumRaise_launches' (r : Reg) (n : Nat) : (s.sumRaise r n).launches = s.launches := by
  unfold State.sumRaise; split <;> simp
@[simp] theorem sumRaise_timers' (r : Reg) (n : Nat) : (s.sumRaise r n).timers = s.timers := by
  unfold State.sumRaise; split <;> simp
@[simp] theorem sumRaise_slt' (r : Reg) (n : Nat) : (s.sumRaise r n).slt = s.slt := by
  unfold State.sumRaise; split <;> simp
@[simp] theorem sumRaise_rf' (r : Reg) (n : Nat) : (s.sumRaise r n).rf = s.rf := by
  unfold State.sumRaise; split <;> simp
@[simp] theorem sumRaise_doms' (r : Reg) (n : Nat) : (s.sumRaise r n).doms = s.doms := by
  unfold State.sumRaise; split <;> simp
@[simp] theorem sumRaise_ldg' (r : Reg) (n : Nat) : (s.sumRaise r n).ldg = s.ldg := by
  unfold State.sumRaise; split <;> simp
@[simp] theorem sumRaise_pln' (r : Reg) (n : Nat) : (s.sumRaise r n).pln = s.pln := by
  unfold State.sumRaise; split <;> simp
@[simp] theorem sumRaise_store' (r : Reg) (n : Nat) : (s.sumRaise r n).store = s.store := by
  unfold State.sumRaise; split <;> simp
@[simp] theorem sumRaise_life' (r : Reg) (n : Nat) : (s.sumRaise r n).life = s.life := by
  unfold State.sumRaise; split <;> simp
@[simp] theorem sumRaise_cal' (r : Reg) (n : Nat) : (s.sumRaise r n).cal = s.cal := by
  unfold State.sumRaise; split <;> simp
@[simp] theorem sumRaise_pwr' (r : Reg) (n : Nat) : (s.sumRaise r n).pwr = s.pwr := by
  unfold State.sumRaise; split <;> simp

/-! ### `evt` writes only `regs`, `srcs`, `svc` -/

@[simp] theorem evt_pending' (r : Reg) (n b : Nat) : (s.evt r n b).pending = s.pending := by
  simp [State.evt]
@[simp] theorem evt_tick' (r : Reg) (n b : Nat) : (s.evt r n b).tick = s.tick := by
  simp [State.evt]
@[simp] theorem evt_sub' (r : Reg) (n b : Nat) : (s.evt r n b).sub = s.sub := by
  simp [State.evt]
@[simp] theorem evt_provisioned' (r : Reg) (n b : Nat) : (s.evt r n b).provisioned = s.provisioned := by
  simp [State.evt]
@[simp] theorem evt_free' (r : Reg) (n b : Nat) : (s.evt r n b).free = s.free := by
  simp [State.evt]
@[simp] theorem evt_applied' (r : Reg) (n b : Nat) : (s.evt r n b).applied = s.applied := by
  simp [State.evt]
@[simp] theorem evt_mem' (r : Reg) (n b : Nat) : (s.evt r n b).mem = s.mem := by
  simp [State.evt]
@[simp] theorem evt_hosts' (r : Reg) (n b : Nat) : (s.evt r n b).hosts = s.hosts := by
  simp [State.evt]
@[simp] theorem evt_turn' (r : Reg) (n b : Nat) : (s.evt r n b).turn = s.turn := by
  simp [State.evt]
@[simp] theorem evt_sessionNo' (r : Reg) (n b : Nat) : (s.evt r n b).sessionNo = s.sessionNo := by
  simp [State.evt]
@[simp] theorem evt_out' (r : Reg) (n b : Nat) : (s.evt r n b).out = s.out := by
  simp [State.evt]
@[simp] theorem evt_hp1Ibi' (r : Reg) (n b : Nat) : (s.evt r n b).hp1Ibi = s.hp1Ibi := by
  simp [State.evt]
@[simp] theorem evt_log' (r : Reg) (n b : Nat) : (s.evt r n b).log = s.log := by
  simp [State.evt]
@[simp] theorem evt_logSat' (r : Reg) (n b : Nat) : (s.evt r n b).logSat = s.logSat := by
  simp [State.evt]
@[simp] theorem evt_fenced' (r : Reg) (n b : Nat) : (s.evt r n b).fenced = s.fenced := by
  simp [State.evt]
@[simp] theorem evt_runs' (r : Reg) (n b : Nat) : (s.evt r n b).runs = s.runs := by
  simp [State.evt]
@[simp] theorem evt_check' (r : Reg) (n b : Nat) : (s.evt r n b).check = s.check := by
  simp [State.evt]
@[simp] theorem evt_snap' (r : Reg) (n b : Nat) : (s.evt r n b).snap = s.snap := by
  simp [State.evt]
@[simp] theorem evt_groups' (r : Reg) (n b : Nat) : (s.evt r n b).groups = s.groups := by
  simp [State.evt]
@[simp] theorem evt_targets' (r : Reg) (n b : Nat) : (s.evt r n b).targets = s.targets := by
  simp [State.evt]
@[simp] theorem evt_sluices' (r : Reg) (n b : Nat) : (s.evt r n b).sluices = s.sluices := by
  simp [State.evt]
@[simp] theorem evt_pins' (r : Reg) (n b : Nat) : (s.evt r n b).pins = s.pins := by
  simp [State.evt]
@[simp] theorem evt_evq' (r : Reg) (n b : Nat) : (s.evt r n b).evq = s.evq := by
  simp [State.evt]
@[simp] theorem evt_wave' (r : Reg) (n b : Nat) : (s.evt r n b).wave = s.wave := by
  simp [State.evt]
@[simp] theorem evt_jobs' (r : Reg) (n b : Nat) : (s.evt r n b).jobs = s.jobs := by
  simp [State.evt]
@[simp] theorem evt_chans' (r : Reg) (n b : Nat) : (s.evt r n b).chans = s.chans := by
  simp [State.evt]
@[simp] theorem evt_ports' (r : Reg) (n b : Nat) : (s.evt r n b).ports = s.ports := by
  simp [State.evt]
@[simp] theorem evt_afe' (r : Reg) (n b : Nat) : (s.evt r n b).afe = s.afe := by
  simp [State.evt]
@[simp] theorem evt_twr' (r : Reg) (n b : Nat) : (s.evt r n b).twr = s.twr := by
  simp [State.evt]
@[simp] theorem evt_cry' (r : Reg) (n b : Nat) : (s.evt r n b).cry = s.cry := by
  simp [State.evt]
@[simp] theorem evt_pan' (r : Reg) (n b : Nat) : (s.evt r n b).pan = s.pan := by
  simp [State.evt]
@[simp] theorem evt_time' (r : Reg) (n b : Nat) : (s.evt r n b).time = s.time := by
  simp [State.evt]
@[simp] theorem evt_launches' (r : Reg) (n b : Nat) : (s.evt r n b).launches = s.launches := by
  simp [State.evt]
@[simp] theorem evt_timers' (r : Reg) (n b : Nat) : (s.evt r n b).timers = s.timers := by
  simp [State.evt]
@[simp] theorem evt_slt' (r : Reg) (n b : Nat) : (s.evt r n b).slt = s.slt := by
  simp [State.evt]
@[simp] theorem evt_rf' (r : Reg) (n b : Nat) : (s.evt r n b).rf = s.rf := by
  simp [State.evt]
@[simp] theorem evt_doms' (r : Reg) (n b : Nat) : (s.evt r n b).doms = s.doms := by
  simp [State.evt]
@[simp] theorem evt_ldg' (r : Reg) (n b : Nat) : (s.evt r n b).ldg = s.ldg := by
  simp [State.evt]
@[simp] theorem evt_pln' (r : Reg) (n b : Nat) : (s.evt r n b).pln = s.pln := by
  simp [State.evt]
@[simp] theorem evt_store' (r : Reg) (n b : Nat) : (s.evt r n b).store = s.store := by
  simp [State.evt]
@[simp] theorem evt_life' (r : Reg) (n b : Nat) : (s.evt r n b).life = s.life := by
  simp [State.evt]
@[simp] theorem evt_cal' (r : Reg) (n b : Nat) : (s.evt r n b).cal = s.cal := by
  simp [State.evt]
@[simp] theorem evt_pwr' (r : Reg) (n b : Nat) : (s.evt r n b).pwr = s.pwr := by
  simp [State.evt]

/-! ### `addCnt` writes only `regs` -/

@[simp] theorem addCnt_pending' (r : Reg) (n hi lo k : Nat) : (s.addCnt r n hi lo k).pending = s.pending := by
  simp [State.addCnt]
@[simp] theorem addCnt_tick' (r : Reg) (n hi lo k : Nat) : (s.addCnt r n hi lo k).tick = s.tick := by
  simp [State.addCnt]
@[simp] theorem addCnt_sub' (r : Reg) (n hi lo k : Nat) : (s.addCnt r n hi lo k).sub = s.sub := by
  simp [State.addCnt]
@[simp] theorem addCnt_provisioned' (r : Reg) (n hi lo k : Nat) : (s.addCnt r n hi lo k).provisioned = s.provisioned := by
  simp [State.addCnt]
@[simp] theorem addCnt_free' (r : Reg) (n hi lo k : Nat) : (s.addCnt r n hi lo k).free = s.free := by
  simp [State.addCnt]
@[simp] theorem addCnt_applied' (r : Reg) (n hi lo k : Nat) : (s.addCnt r n hi lo k).applied = s.applied := by
  simp [State.addCnt]
@[simp] theorem addCnt_mem' (r : Reg) (n hi lo k : Nat) : (s.addCnt r n hi lo k).mem = s.mem := by
  simp [State.addCnt]
@[simp] theorem addCnt_hosts' (r : Reg) (n hi lo k : Nat) : (s.addCnt r n hi lo k).hosts = s.hosts := by
  simp [State.addCnt]
@[simp] theorem addCnt_turn' (r : Reg) (n hi lo k : Nat) : (s.addCnt r n hi lo k).turn = s.turn := by
  simp [State.addCnt]
@[simp] theorem addCnt_sessionNo' (r : Reg) (n hi lo k : Nat) : (s.addCnt r n hi lo k).sessionNo = s.sessionNo := by
  simp [State.addCnt]
@[simp] theorem addCnt_out' (r : Reg) (n hi lo k : Nat) : (s.addCnt r n hi lo k).out = s.out := by
  simp [State.addCnt]
@[simp] theorem addCnt_hp1Ibi' (r : Reg) (n hi lo k : Nat) : (s.addCnt r n hi lo k).hp1Ibi = s.hp1Ibi := by
  simp [State.addCnt]
@[simp] theorem addCnt_log' (r : Reg) (n hi lo k : Nat) : (s.addCnt r n hi lo k).log = s.log := by
  simp [State.addCnt]
@[simp] theorem addCnt_logSat' (r : Reg) (n hi lo k : Nat) : (s.addCnt r n hi lo k).logSat = s.logSat := by
  simp [State.addCnt]
@[simp] theorem addCnt_fenced' (r : Reg) (n hi lo k : Nat) : (s.addCnt r n hi lo k).fenced = s.fenced := by
  simp [State.addCnt]
@[simp] theorem addCnt_runs' (r : Reg) (n hi lo k : Nat) : (s.addCnt r n hi lo k).runs = s.runs := by
  simp [State.addCnt]
@[simp] theorem addCnt_check' (r : Reg) (n hi lo k : Nat) : (s.addCnt r n hi lo k).check = s.check := by
  simp [State.addCnt]
@[simp] theorem addCnt_snap' (r : Reg) (n hi lo k : Nat) : (s.addCnt r n hi lo k).snap = s.snap := by
  simp [State.addCnt]
@[simp] theorem addCnt_groups' (r : Reg) (n hi lo k : Nat) : (s.addCnt r n hi lo k).groups = s.groups := by
  simp [State.addCnt]
@[simp] theorem addCnt_targets' (r : Reg) (n hi lo k : Nat) : (s.addCnt r n hi lo k).targets = s.targets := by
  simp [State.addCnt]
@[simp] theorem addCnt_srcs' (r : Reg) (n hi lo k : Nat) : (s.addCnt r n hi lo k).srcs = s.srcs := by
  simp [State.addCnt]
@[simp] theorem addCnt_sluices' (r : Reg) (n hi lo k : Nat) : (s.addCnt r n hi lo k).sluices = s.sluices := by
  simp [State.addCnt]
@[simp] theorem addCnt_pins' (r : Reg) (n hi lo k : Nat) : (s.addCnt r n hi lo k).pins = s.pins := by
  simp [State.addCnt]
@[simp] theorem addCnt_evq' (r : Reg) (n hi lo k : Nat) : (s.addCnt r n hi lo k).evq = s.evq := by
  simp [State.addCnt]
@[simp] theorem addCnt_wave' (r : Reg) (n hi lo k : Nat) : (s.addCnt r n hi lo k).wave = s.wave := by
  simp [State.addCnt]
@[simp] theorem addCnt_jobs' (r : Reg) (n hi lo k : Nat) : (s.addCnt r n hi lo k).jobs = s.jobs := by
  simp [State.addCnt]
@[simp] theorem addCnt_chans' (r : Reg) (n hi lo k : Nat) : (s.addCnt r n hi lo k).chans = s.chans := by
  simp [State.addCnt]
@[simp] theorem addCnt_ports' (r : Reg) (n hi lo k : Nat) : (s.addCnt r n hi lo k).ports = s.ports := by
  simp [State.addCnt]
@[simp] theorem addCnt_afe' (r : Reg) (n hi lo k : Nat) : (s.addCnt r n hi lo k).afe = s.afe := by
  simp [State.addCnt]
@[simp] theorem addCnt_twr' (r : Reg) (n hi lo k : Nat) : (s.addCnt r n hi lo k).twr = s.twr := by
  simp [State.addCnt]
@[simp] theorem addCnt_cry' (r : Reg) (n hi lo k : Nat) : (s.addCnt r n hi lo k).cry = s.cry := by
  simp [State.addCnt]
@[simp] theorem addCnt_svc' (r : Reg) (n hi lo k : Nat) : (s.addCnt r n hi lo k).svc = s.svc := by
  simp [State.addCnt]
@[simp] theorem addCnt_pan' (r : Reg) (n hi lo k : Nat) : (s.addCnt r n hi lo k).pan = s.pan := by
  simp [State.addCnt]
@[simp] theorem addCnt_time' (r : Reg) (n hi lo k : Nat) : (s.addCnt r n hi lo k).time = s.time := by
  simp [State.addCnt]
@[simp] theorem addCnt_launches' (r : Reg) (n hi lo k : Nat) : (s.addCnt r n hi lo k).launches = s.launches := by
  simp [State.addCnt]
@[simp] theorem addCnt_timers' (r : Reg) (n hi lo k : Nat) : (s.addCnt r n hi lo k).timers = s.timers := by
  simp [State.addCnt]
@[simp] theorem addCnt_slt' (r : Reg) (n hi lo k : Nat) : (s.addCnt r n hi lo k).slt = s.slt := by
  simp [State.addCnt]
@[simp] theorem addCnt_rf' (r : Reg) (n hi lo k : Nat) : (s.addCnt r n hi lo k).rf = s.rf := by
  simp [State.addCnt]
@[simp] theorem addCnt_doms' (r : Reg) (n hi lo k : Nat) : (s.addCnt r n hi lo k).doms = s.doms := by
  simp [State.addCnt]
@[simp] theorem addCnt_ldg' (r : Reg) (n hi lo k : Nat) : (s.addCnt r n hi lo k).ldg = s.ldg := by
  simp [State.addCnt]
@[simp] theorem addCnt_pln' (r : Reg) (n hi lo k : Nat) : (s.addCnt r n hi lo k).pln = s.pln := by
  simp [State.addCnt]
@[simp] theorem addCnt_store' (r : Reg) (n hi lo k : Nat) : (s.addCnt r n hi lo k).store = s.store := by
  simp [State.addCnt]
@[simp] theorem addCnt_life' (r : Reg) (n hi lo k : Nat) : (s.addCnt r n hi lo k).life = s.life := by
  simp [State.addCnt]
@[simp] theorem addCnt_cal' (r : Reg) (n hi lo k : Nat) : (s.addCnt r n hi lo k).cal = s.cal := by
  simp [State.addCnt]
@[simp] theorem addCnt_pwr' (r : Reg) (n hi lo k : Nat) : (s.addCnt r n hi lo k).pwr = s.pwr := by
  simp [State.addCnt]

/-! ### `countFault` writes only `regs`, `srcs`, `svc` -/

@[simp] theorem countFault_pending' (r : Reg) (n hi lo k : Nat) : (s.countFault r n hi lo k).pending = s.pending := by
  unfold State.countFault; split <;> simp
@[simp] theorem countFault_tick' (r : Reg) (n hi lo k : Nat) : (s.countFault r n hi lo k).tick = s.tick := by
  unfold State.countFault; split <;> simp
@[simp] theorem countFault_sub' (r : Reg) (n hi lo k : Nat) : (s.countFault r n hi lo k).sub = s.sub := by
  unfold State.countFault; split <;> simp
@[simp] theorem countFault_provisioned' (r : Reg) (n hi lo k : Nat) : (s.countFault r n hi lo k).provisioned = s.provisioned := by
  unfold State.countFault; split <;> simp
@[simp] theorem countFault_free' (r : Reg) (n hi lo k : Nat) : (s.countFault r n hi lo k).free = s.free := by
  unfold State.countFault; split <;> simp
@[simp] theorem countFault_applied' (r : Reg) (n hi lo k : Nat) : (s.countFault r n hi lo k).applied = s.applied := by
  unfold State.countFault; split <;> simp
@[simp] theorem countFault_mem' (r : Reg) (n hi lo k : Nat) : (s.countFault r n hi lo k).mem = s.mem := by
  unfold State.countFault; split <;> simp
@[simp] theorem countFault_hosts' (r : Reg) (n hi lo k : Nat) : (s.countFault r n hi lo k).hosts = s.hosts := by
  unfold State.countFault; split <;> simp
@[simp] theorem countFault_turn' (r : Reg) (n hi lo k : Nat) : (s.countFault r n hi lo k).turn = s.turn := by
  unfold State.countFault; split <;> simp
@[simp] theorem countFault_sessionNo' (r : Reg) (n hi lo k : Nat) : (s.countFault r n hi lo k).sessionNo = s.sessionNo := by
  unfold State.countFault; split <;> simp
@[simp] theorem countFault_out' (r : Reg) (n hi lo k : Nat) : (s.countFault r n hi lo k).out = s.out := by
  unfold State.countFault; split <;> simp
@[simp] theorem countFault_hp1Ibi' (r : Reg) (n hi lo k : Nat) : (s.countFault r n hi lo k).hp1Ibi = s.hp1Ibi := by
  unfold State.countFault; split <;> simp
@[simp] theorem countFault_log' (r : Reg) (n hi lo k : Nat) : (s.countFault r n hi lo k).log = s.log := by
  unfold State.countFault; split <;> simp
@[simp] theorem countFault_logSat' (r : Reg) (n hi lo k : Nat) : (s.countFault r n hi lo k).logSat = s.logSat := by
  unfold State.countFault; split <;> simp
@[simp] theorem countFault_fenced' (r : Reg) (n hi lo k : Nat) : (s.countFault r n hi lo k).fenced = s.fenced := by
  unfold State.countFault; split <;> simp
@[simp] theorem countFault_runs' (r : Reg) (n hi lo k : Nat) : (s.countFault r n hi lo k).runs = s.runs := by
  unfold State.countFault; split <;> simp
@[simp] theorem countFault_check' (r : Reg) (n hi lo k : Nat) : (s.countFault r n hi lo k).check = s.check := by
  unfold State.countFault; split <;> simp
@[simp] theorem countFault_snap' (r : Reg) (n hi lo k : Nat) : (s.countFault r n hi lo k).snap = s.snap := by
  unfold State.countFault; split <;> simp
@[simp] theorem countFault_groups' (r : Reg) (n hi lo k : Nat) : (s.countFault r n hi lo k).groups = s.groups := by
  unfold State.countFault; split <;> simp
@[simp] theorem countFault_targets' (r : Reg) (n hi lo k : Nat) : (s.countFault r n hi lo k).targets = s.targets := by
  unfold State.countFault; split <;> simp
@[simp] theorem countFault_sluices' (r : Reg) (n hi lo k : Nat) : (s.countFault r n hi lo k).sluices = s.sluices := by
  unfold State.countFault; split <;> simp
@[simp] theorem countFault_pins' (r : Reg) (n hi lo k : Nat) : (s.countFault r n hi lo k).pins = s.pins := by
  unfold State.countFault; split <;> simp
@[simp] theorem countFault_evq' (r : Reg) (n hi lo k : Nat) : (s.countFault r n hi lo k).evq = s.evq := by
  unfold State.countFault; split <;> simp
@[simp] theorem countFault_wave' (r : Reg) (n hi lo k : Nat) : (s.countFault r n hi lo k).wave = s.wave := by
  unfold State.countFault; split <;> simp
@[simp] theorem countFault_jobs' (r : Reg) (n hi lo k : Nat) : (s.countFault r n hi lo k).jobs = s.jobs := by
  unfold State.countFault; split <;> simp
@[simp] theorem countFault_chans' (r : Reg) (n hi lo k : Nat) : (s.countFault r n hi lo k).chans = s.chans := by
  unfold State.countFault; split <;> simp
@[simp] theorem countFault_ports' (r : Reg) (n hi lo k : Nat) : (s.countFault r n hi lo k).ports = s.ports := by
  unfold State.countFault; split <;> simp
@[simp] theorem countFault_afe' (r : Reg) (n hi lo k : Nat) : (s.countFault r n hi lo k).afe = s.afe := by
  unfold State.countFault; split <;> simp
@[simp] theorem countFault_twr' (r : Reg) (n hi lo k : Nat) : (s.countFault r n hi lo k).twr = s.twr := by
  unfold State.countFault; split <;> simp
@[simp] theorem countFault_cry' (r : Reg) (n hi lo k : Nat) : (s.countFault r n hi lo k).cry = s.cry := by
  unfold State.countFault; split <;> simp
@[simp] theorem countFault_pan' (r : Reg) (n hi lo k : Nat) : (s.countFault r n hi lo k).pan = s.pan := by
  unfold State.countFault; split <;> simp
@[simp] theorem countFault_time' (r : Reg) (n hi lo k : Nat) : (s.countFault r n hi lo k).time = s.time := by
  unfold State.countFault; split <;> simp
@[simp] theorem countFault_launches' (r : Reg) (n hi lo k : Nat) : (s.countFault r n hi lo k).launches = s.launches := by
  unfold State.countFault; split <;> simp
@[simp] theorem countFault_timers' (r : Reg) (n hi lo k : Nat) : (s.countFault r n hi lo k).timers = s.timers := by
  unfold State.countFault; split <;> simp
@[simp] theorem countFault_slt' (r : Reg) (n hi lo k : Nat) : (s.countFault r n hi lo k).slt = s.slt := by
  unfold State.countFault; split <;> simp
@[simp] theorem countFault_rf' (r : Reg) (n hi lo k : Nat) : (s.countFault r n hi lo k).rf = s.rf := by
  unfold State.countFault; split <;> simp
@[simp] theorem countFault_doms' (r : Reg) (n hi lo k : Nat) : (s.countFault r n hi lo k).doms = s.doms := by
  unfold State.countFault; split <;> simp
@[simp] theorem countFault_ldg' (r : Reg) (n hi lo k : Nat) : (s.countFault r n hi lo k).ldg = s.ldg := by
  unfold State.countFault; split <;> simp
@[simp] theorem countFault_pln' (r : Reg) (n hi lo k : Nat) : (s.countFault r n hi lo k).pln = s.pln := by
  unfold State.countFault; split <;> simp
@[simp] theorem countFault_store' (r : Reg) (n hi lo k : Nat) : (s.countFault r n hi lo k).store = s.store := by
  unfold State.countFault; split <;> simp
@[simp] theorem countFault_life' (r : Reg) (n hi lo k : Nat) : (s.countFault r n hi lo k).life = s.life := by
  unfold State.countFault; split <;> simp
@[simp] theorem countFault_cal' (r : Reg) (n hi lo k : Nat) : (s.countFault r n hi lo k).cal = s.cal := by
  unfold State.countFault; split <;> simp
@[simp] theorem countFault_pwr' (r : Reg) (n hi lo k : Nat) : (s.countFault r n hi lo k).pwr = s.pwr := by
  unfold State.countFault; split <;> simp

/-- A fold of steps each of which leaves a reading as it was. -/
theorem foldl_same {σ α β : Type} (g : σ → β) (f : σ → α → σ) (h : ∀ u x, g (f u x) = g u) (l : List α) (u : σ) : g (l.foldl f u) = g u := by
  induction l generalizing u with
  | nil => rfl
  | cons x t ih => simp [ih, h]

@[simp] theorem logWrite_pending' (e : LogEntry) : (s.logWrite e).pending = s.pending := by
  unfold State.logWrite; dsimp only
  repeat' split
  all_goals try simp
  all_goals rw [foldl_same (fun u : State => u.pending) _ (fun u x => by simp)]; simp
@[simp] theorem logWrite_tick' (e : LogEntry) : (s.logWrite e).tick = s.tick := by
  unfold State.logWrite; dsimp only
  repeat' split
  all_goals try simp
  all_goals rw [foldl_same (fun u : State => u.tick) _ (fun u x => by simp)]; simp
@[simp] theorem logWrite_sub' (e : LogEntry) : (s.logWrite e).sub = s.sub := by
  unfold State.logWrite; dsimp only
  repeat' split
  all_goals try simp
  all_goals rw [foldl_same (fun u : State => u.sub) _ (fun u x => by simp)]; simp
@[simp] theorem logWrite_provisioned' (e : LogEntry) : (s.logWrite e).provisioned = s.provisioned := by
  unfold State.logWrite; dsimp only
  repeat' split
  all_goals try simp
  all_goals rw [foldl_same (fun u : State => u.provisioned) _ (fun u x => by simp)]; simp
@[simp] theorem logWrite_free' (e : LogEntry) : (s.logWrite e).free = s.free := by
  unfold State.logWrite; dsimp only
  repeat' split
  all_goals try simp
  all_goals rw [foldl_same (fun u : State => u.free) _ (fun u x => by simp)]; simp
@[simp] theorem logWrite_applied' (e : LogEntry) : (s.logWrite e).applied = s.applied := by
  unfold State.logWrite; dsimp only
  repeat' split
  all_goals try simp
  all_goals rw [foldl_same (fun u : State => u.applied) _ (fun u x => by simp)]; simp
@[simp] theorem logWrite_mem' (e : LogEntry) : (s.logWrite e).mem = s.mem := by
  unfold State.logWrite; dsimp only
  repeat' split
  all_goals try simp
  all_goals rw [foldl_same (fun u : State => u.mem) _ (fun u x => by simp)]; simp
@[simp] theorem logWrite_hosts' (e : LogEntry) : (s.logWrite e).hosts = s.hosts := by
  unfold State.logWrite; dsimp only
  repeat' split
  all_goals try simp
  all_goals rw [foldl_same (fun u : State => u.hosts) _ (fun u x => by simp)]; simp
@[simp] theorem logWrite_turn' (e : LogEntry) : (s.logWrite e).turn = s.turn := by
  unfold State.logWrite; dsimp only
  repeat' split
  all_goals try simp
  all_goals rw [foldl_same (fun u : State => u.turn) _ (fun u x => by simp)]; simp
@[simp] theorem logWrite_sessionNo' (e : LogEntry) : (s.logWrite e).sessionNo = s.sessionNo := by
  unfold State.logWrite; dsimp only
  repeat' split
  all_goals try simp
  all_goals rw [foldl_same (fun u : State => u.sessionNo) _ (fun u x => by simp)]; simp
@[simp] theorem logWrite_out' (e : LogEntry) : (s.logWrite e).out = s.out := by
  unfold State.logWrite; dsimp only
  repeat' split
  all_goals try simp
  all_goals rw [foldl_same (fun u : State => u.out) _ (fun u x => by simp)]; simp
@[simp] theorem logWrite_hp1Ibi' (e : LogEntry) : (s.logWrite e).hp1Ibi = s.hp1Ibi := by
  unfold State.logWrite; dsimp only
  repeat' split
  all_goals try simp
  all_goals rw [foldl_same (fun u : State => u.hp1Ibi) _ (fun u x => by simp)]; simp
@[simp] theorem logWrite_fenced' (e : LogEntry) : (s.logWrite e).fenced = s.fenced := by
  unfold State.logWrite; dsimp only
  repeat' split
  all_goals try simp
  all_goals rw [foldl_same (fun u : State => u.fenced) _ (fun u x => by simp)]; simp
@[simp] theorem logWrite_runs' (e : LogEntry) : (s.logWrite e).runs = s.runs := by
  unfold State.logWrite; dsimp only
  repeat' split
  all_goals try simp
  all_goals rw [foldl_same (fun u : State => u.runs) _ (fun u x => by simp)]; simp
@[simp] theorem logWrite_check' (e : LogEntry) : (s.logWrite e).check = s.check := by
  unfold State.logWrite; dsimp only
  repeat' split
  all_goals try simp
  all_goals rw [foldl_same (fun u : State => u.check) _ (fun u x => by simp)]; simp
@[simp] theorem logWrite_snap' (e : LogEntry) : (s.logWrite e).snap = s.snap := by
  unfold State.logWrite; dsimp only
  repeat' split
  all_goals try simp
  all_goals rw [foldl_same (fun u : State => u.snap) _ (fun u x => by simp)]; simp
@[simp] theorem logWrite_groups' (e : LogEntry) : (s.logWrite e).groups = s.groups := by
  unfold State.logWrite; dsimp only
  repeat' split
  all_goals try simp
  all_goals rw [foldl_same (fun u : State => u.groups) _ (fun u x => by simp)]; simp
@[simp] theorem logWrite_sluices' (e : LogEntry) : (s.logWrite e).sluices = s.sluices := by
  unfold State.logWrite; dsimp only
  repeat' split
  all_goals try simp
  all_goals rw [foldl_same (fun u : State => u.sluices) _ (fun u x => by simp)]; simp
@[simp] theorem logWrite_pins' (e : LogEntry) : (s.logWrite e).pins = s.pins := by
  unfold State.logWrite; dsimp only
  repeat' split
  all_goals try simp
  all_goals rw [foldl_same (fun u : State => u.pins) _ (fun u x => by simp)]; simp
@[simp] theorem logWrite_evq' (e : LogEntry) : (s.logWrite e).evq = s.evq := by
  unfold State.logWrite; dsimp only
  repeat' split
  all_goals try simp
  all_goals rw [foldl_same (fun u : State => u.evq) _ (fun u x => by simp)]; simp
@[simp] theorem logWrite_wave' (e : LogEntry) : (s.logWrite e).wave = s.wave := by
  unfold State.logWrite; dsimp only
  repeat' split
  all_goals try simp
  all_goals rw [foldl_same (fun u : State => u.wave) _ (fun u x => by simp)]; simp
@[simp] theorem logWrite_jobs' (e : LogEntry) : (s.logWrite e).jobs = s.jobs := by
  unfold State.logWrite; dsimp only
  repeat' split
  all_goals try simp
  all_goals rw [foldl_same (fun u : State => u.jobs) _ (fun u x => by simp)]; simp
@[simp] theorem logWrite_chans' (e : LogEntry) : (s.logWrite e).chans = s.chans := by
  unfold State.logWrite; dsimp only
  repeat' split
  all_goals try simp
  all_goals rw [foldl_same (fun u : State => u.chans) _ (fun u x => by simp)]; simp
@[simp] theorem logWrite_ports' (e : LogEntry) : (s.logWrite e).ports = s.ports := by
  unfold State.logWrite; dsimp only
  repeat' split
  all_goals try simp
  all_goals rw [foldl_same (fun u : State => u.ports) _ (fun u x => by simp)]; simp
@[simp] theorem logWrite_afe' (e : LogEntry) : (s.logWrite e).afe = s.afe := by
  unfold State.logWrite; dsimp only
  repeat' split
  all_goals try simp
  all_goals rw [foldl_same (fun u : State => u.afe) _ (fun u x => by simp)]; simp
@[simp] theorem logWrite_twr' (e : LogEntry) : (s.logWrite e).twr = s.twr := by
  unfold State.logWrite; dsimp only
  repeat' split
  all_goals try simp
  all_goals rw [foldl_same (fun u : State => u.twr) _ (fun u x => by simp)]; simp
@[simp] theorem logWrite_cry' (e : LogEntry) : (s.logWrite e).cry = s.cry := by
  unfold State.logWrite; dsimp only
  repeat' split
  all_goals try simp
  all_goals rw [foldl_same (fun u : State => u.cry) _ (fun u x => by simp)]; simp
@[simp] theorem logWrite_pan' (e : LogEntry) : (s.logWrite e).pan = s.pan := by
  unfold State.logWrite; dsimp only
  repeat' split
  all_goals try simp
  all_goals rw [foldl_same (fun u : State => u.pan) _ (fun u x => by simp)]; simp
@[simp] theorem logWrite_time' (e : LogEntry) : (s.logWrite e).time = s.time := by
  unfold State.logWrite; dsimp only
  repeat' split
  all_goals try simp
  all_goals rw [foldl_same (fun u : State => u.time) _ (fun u x => by simp)]; simp
@[simp] theorem logWrite_launches' (e : LogEntry) : (s.logWrite e).launches = s.launches := by
  unfold State.logWrite; dsimp only
  repeat' split
  all_goals try simp
  all_goals rw [foldl_same (fun u : State => u.launches) _ (fun u x => by simp)]; simp
@[simp] theorem logWrite_timers' (e : LogEntry) : (s.logWrite e).timers = s.timers := by
  unfold State.logWrite; dsimp only
  repeat' split
  all_goals try simp
  all_goals rw [foldl_same (fun u : State => u.timers) _ (fun u x => by simp)]; simp
@[simp] theorem logWrite_slt' (e : LogEntry) : (s.logWrite e).slt = s.slt := by
  unfold State.logWrite; dsimp only
  repeat' split
  all_goals try simp
  all_goals rw [foldl_same (fun u : State => u.slt) _ (fun u x => by simp)]; simp
@[simp] theorem logWrite_rf' (e : LogEntry) : (s.logWrite e).rf = s.rf := by
  unfold State.logWrite; dsimp only
  repeat' split
  all_goals try simp
  all_goals rw [foldl_same (fun u : State => u.rf) _ (fun u x => by simp)]; simp
@[simp] theorem logWrite_doms' (e : LogEntry) : (s.logWrite e).doms = s.doms := by
  unfold State.logWrite; dsimp only
  repeat' split
  all_goals try simp
  all_goals rw [foldl_same (fun u : State => u.doms) _ (fun u x => by simp)]; simp
@[simp] theorem logWrite_ldg' (e : LogEntry) : (s.logWrite e).ldg = s.ldg := by
  unfold State.logWrite; dsimp only
  repeat' split
  all_goals try simp
  all_goals rw [foldl_same (fun u : State => u.ldg) _ (fun u x => by simp)]; simp
@[simp] theorem logWrite_pln' (e : LogEntry) : (s.logWrite e).pln = s.pln := by
  unfold State.logWrite; dsimp only
  repeat' split
  all_goals try simp
  all_goals rw [foldl_same (fun u : State => u.pln) _ (fun u x => by simp)]; simp
@[simp] theorem logWrite_store' (e : LogEntry) : (s.logWrite e).store = s.store := by
  unfold State.logWrite; dsimp only
  repeat' split
  all_goals try simp
  all_goals rw [foldl_same (fun u : State => u.store) _ (fun u x => by simp)]; simp
@[simp] theorem logWrite_life' (e : LogEntry) : (s.logWrite e).life = s.life := by
  unfold State.logWrite; dsimp only
  repeat' split
  all_goals try simp
  all_goals rw [foldl_same (fun u : State => u.life) _ (fun u x => by simp)]; simp
@[simp] theorem logWrite_cal' (e : LogEntry) : (s.logWrite e).cal = s.cal := by
  unfold State.logWrite; dsimp only
  repeat' split
  all_goals try simp
  all_goals rw [foldl_same (fun u : State => u.cal) _ (fun u x => by simp)]; simp
@[simp] theorem logWrite_pwr' (e : LogEntry) : (s.logWrite e).pwr = s.pwr := by
  unfold State.logWrite; dsimp only
  repeat' split
  all_goals try simp
  all_goals rw [foldl_same (fun u : State => u.pwr) _ (fun u x => by simp)]; simp

/-! ### `logRun` writes only `log`, `regs`, `srcs`, `svc`, `logSat`, `targets` -/

@[simp] theorem logRun_pending' (k i c r : Nat) : (s.logRun k i c r).pending = s.pending := by
  unfold State.logRun; dsimp only; split <;> simp
@[simp] theorem logRun_tick' (k i c r : Nat) : (s.logRun k i c r).tick = s.tick := by
  unfold State.logRun; dsimp only; split <;> simp
@[simp] theorem logRun_sub' (k i c r : Nat) : (s.logRun k i c r).sub = s.sub := by
  unfold State.logRun; dsimp only; split <;> simp
@[simp] theorem logRun_provisioned' (k i c r : Nat) : (s.logRun k i c r).provisioned = s.provisioned := by
  unfold State.logRun; dsimp only; split <;> simp
@[simp] theorem logRun_free' (k i c r : Nat) : (s.logRun k i c r).free = s.free := by
  unfold State.logRun; dsimp only; split <;> simp
@[simp] theorem logRun_applied' (k i c r : Nat) : (s.logRun k i c r).applied = s.applied := by
  unfold State.logRun; dsimp only; split <;> simp
@[simp] theorem logRun_mem' (k i c r : Nat) : (s.logRun k i c r).mem = s.mem := by
  unfold State.logRun; dsimp only; split <;> simp
@[simp] theorem logRun_hosts' (k i c r : Nat) : (s.logRun k i c r).hosts = s.hosts := by
  unfold State.logRun; dsimp only; split <;> simp
@[simp] theorem logRun_turn' (k i c r : Nat) : (s.logRun k i c r).turn = s.turn := by
  unfold State.logRun; dsimp only; split <;> simp
@[simp] theorem logRun_sessionNo' (k i c r : Nat) : (s.logRun k i c r).sessionNo = s.sessionNo := by
  unfold State.logRun; dsimp only; split <;> simp
@[simp] theorem logRun_out' (k i c r : Nat) : (s.logRun k i c r).out = s.out := by
  unfold State.logRun; dsimp only; split <;> simp
@[simp] theorem logRun_hp1Ibi' (k i c r : Nat) : (s.logRun k i c r).hp1Ibi = s.hp1Ibi := by
  unfold State.logRun; dsimp only; split <;> simp
@[simp] theorem logRun_fenced' (k i c r : Nat) : (s.logRun k i c r).fenced = s.fenced := by
  unfold State.logRun; dsimp only; split <;> simp
@[simp] theorem logRun_runs' (k i c r : Nat) : (s.logRun k i c r).runs = s.runs := by
  unfold State.logRun; dsimp only; split <;> simp
@[simp] theorem logRun_check' (k i c r : Nat) : (s.logRun k i c r).check = s.check := by
  unfold State.logRun; dsimp only; split <;> simp
@[simp] theorem logRun_snap' (k i c r : Nat) : (s.logRun k i c r).snap = s.snap := by
  unfold State.logRun; dsimp only; split <;> simp
@[simp] theorem logRun_groups' (k i c r : Nat) : (s.logRun k i c r).groups = s.groups := by
  unfold State.logRun; dsimp only; split <;> simp
@[simp] theorem logRun_sluices' (k i c r : Nat) : (s.logRun k i c r).sluices = s.sluices := by
  unfold State.logRun; dsimp only; split <;> simp
@[simp] theorem logRun_pins' (k i c r : Nat) : (s.logRun k i c r).pins = s.pins := by
  unfold State.logRun; dsimp only; split <;> simp
@[simp] theorem logRun_evq' (k i c r : Nat) : (s.logRun k i c r).evq = s.evq := by
  unfold State.logRun; dsimp only; split <;> simp
@[simp] theorem logRun_wave' (k i c r : Nat) : (s.logRun k i c r).wave = s.wave := by
  unfold State.logRun; dsimp only; split <;> simp
@[simp] theorem logRun_jobs' (k i c r : Nat) : (s.logRun k i c r).jobs = s.jobs := by
  unfold State.logRun; dsimp only; split <;> simp
@[simp] theorem logRun_chans' (k i c r : Nat) : (s.logRun k i c r).chans = s.chans := by
  unfold State.logRun; dsimp only; split <;> simp
@[simp] theorem logRun_ports' (k i c r : Nat) : (s.logRun k i c r).ports = s.ports := by
  unfold State.logRun; dsimp only; split <;> simp
@[simp] theorem logRun_afe' (k i c r : Nat) : (s.logRun k i c r).afe = s.afe := by
  unfold State.logRun; dsimp only; split <;> simp
@[simp] theorem logRun_twr' (k i c r : Nat) : (s.logRun k i c r).twr = s.twr := by
  unfold State.logRun; dsimp only; split <;> simp
@[simp] theorem logRun_cry' (k i c r : Nat) : (s.logRun k i c r).cry = s.cry := by
  unfold State.logRun; dsimp only; split <;> simp
@[simp] theorem logRun_pan' (k i c r : Nat) : (s.logRun k i c r).pan = s.pan := by
  unfold State.logRun; dsimp only; split <;> simp
@[simp] theorem logRun_time' (k i c r : Nat) : (s.logRun k i c r).time = s.time := by
  unfold State.logRun; dsimp only; split <;> simp
@[simp] theorem logRun_launches' (k i c r : Nat) : (s.logRun k i c r).launches = s.launches := by
  unfold State.logRun; dsimp only; split <;> simp
@[simp] theorem logRun_timers' (k i c r : Nat) : (s.logRun k i c r).timers = s.timers := by
  unfold State.logRun; dsimp only; split <;> simp
@[simp] theorem logRun_slt' (k i c r : Nat) : (s.logRun k i c r).slt = s.slt := by
  unfold State.logRun; dsimp only; split <;> simp
@[simp] theorem logRun_rf' (k i c r : Nat) : (s.logRun k i c r).rf = s.rf := by
  unfold State.logRun; dsimp only; split <;> simp
@[simp] theorem logRun_doms' (k i c r : Nat) : (s.logRun k i c r).doms = s.doms := by
  unfold State.logRun; dsimp only; split <;> simp
@[simp] theorem logRun_ldg' (k i c r : Nat) : (s.logRun k i c r).ldg = s.ldg := by
  unfold State.logRun; dsimp only; split <;> simp
@[simp] theorem logRun_pln' (k i c r : Nat) : (s.logRun k i c r).pln = s.pln := by
  unfold State.logRun; dsimp only; split <;> simp
@[simp] theorem logRun_store' (k i c r : Nat) : (s.logRun k i c r).store = s.store := by
  unfold State.logRun; dsimp only; split <;> simp
@[simp] theorem logRun_life' (k i c r : Nat) : (s.logRun k i c r).life = s.life := by
  unfold State.logRun; dsimp only; split <;> simp
@[simp] theorem logRun_cal' (k i c r : Nat) : (s.logRun k i c r).cal = s.cal := by
  unfold State.logRun; dsimp only; split <;> simp
@[simp] theorem logRun_pwr' (k i c r : Nat) : (s.logRun k i c r).pwr = s.pwr := by
  unfold State.logRun; dsimp only; split <;> simp

/-! ### `logErr` writes only `log`, `regs`, `srcs`, `svc`, `logSat`, `targets` -/

@[simp] theorem logErr_pending' (k i c : Nat) : (s.logErr k i c).pending = s.pending := by
  simp [State.logErr]
@[simp] theorem logErr_tick' (k i c : Nat) : (s.logErr k i c).tick = s.tick := by
  simp [State.logErr]
@[simp] theorem logErr_sub' (k i c : Nat) : (s.logErr k i c).sub = s.sub := by
  simp [State.logErr]
@[simp] theorem logErr_provisioned' (k i c : Nat) : (s.logErr k i c).provisioned = s.provisioned := by
  simp [State.logErr]
@[simp] theorem logErr_free' (k i c : Nat) : (s.logErr k i c).free = s.free := by
  simp [State.logErr]
@[simp] theorem logErr_applied' (k i c : Nat) : (s.logErr k i c).applied = s.applied := by
  simp [State.logErr]
@[simp] theorem logErr_mem' (k i c : Nat) : (s.logErr k i c).mem = s.mem := by
  simp [State.logErr]
@[simp] theorem logErr_hosts' (k i c : Nat) : (s.logErr k i c).hosts = s.hosts := by
  simp [State.logErr]
@[simp] theorem logErr_turn' (k i c : Nat) : (s.logErr k i c).turn = s.turn := by
  simp [State.logErr]
@[simp] theorem logErr_sessionNo' (k i c : Nat) : (s.logErr k i c).sessionNo = s.sessionNo := by
  simp [State.logErr]
@[simp] theorem logErr_out' (k i c : Nat) : (s.logErr k i c).out = s.out := by
  simp [State.logErr]
@[simp] theorem logErr_hp1Ibi' (k i c : Nat) : (s.logErr k i c).hp1Ibi = s.hp1Ibi := by
  simp [State.logErr]
@[simp] theorem logErr_fenced' (k i c : Nat) : (s.logErr k i c).fenced = s.fenced := by
  simp [State.logErr]
@[simp] theorem logErr_runs' (k i c : Nat) : (s.logErr k i c).runs = s.runs := by
  simp [State.logErr]
@[simp] theorem logErr_check' (k i c : Nat) : (s.logErr k i c).check = s.check := by
  simp [State.logErr]
@[simp] theorem logErr_snap' (k i c : Nat) : (s.logErr k i c).snap = s.snap := by
  simp [State.logErr]
@[simp] theorem logErr_groups' (k i c : Nat) : (s.logErr k i c).groups = s.groups := by
  simp [State.logErr]
@[simp] theorem logErr_sluices' (k i c : Nat) : (s.logErr k i c).sluices = s.sluices := by
  simp [State.logErr]
@[simp] theorem logErr_pins' (k i c : Nat) : (s.logErr k i c).pins = s.pins := by
  simp [State.logErr]
@[simp] theorem logErr_evq' (k i c : Nat) : (s.logErr k i c).evq = s.evq := by
  simp [State.logErr]
@[simp] theorem logErr_wave' (k i c : Nat) : (s.logErr k i c).wave = s.wave := by
  simp [State.logErr]
@[simp] theorem logErr_jobs' (k i c : Nat) : (s.logErr k i c).jobs = s.jobs := by
  simp [State.logErr]
@[simp] theorem logErr_chans' (k i c : Nat) : (s.logErr k i c).chans = s.chans := by
  simp [State.logErr]
@[simp] theorem logErr_ports' (k i c : Nat) : (s.logErr k i c).ports = s.ports := by
  simp [State.logErr]
@[simp] theorem logErr_afe' (k i c : Nat) : (s.logErr k i c).afe = s.afe := by
  simp [State.logErr]
@[simp] theorem logErr_twr' (k i c : Nat) : (s.logErr k i c).twr = s.twr := by
  simp [State.logErr]
@[simp] theorem logErr_cry' (k i c : Nat) : (s.logErr k i c).cry = s.cry := by
  simp [State.logErr]
@[simp] theorem logErr_pan' (k i c : Nat) : (s.logErr k i c).pan = s.pan := by
  simp [State.logErr]
@[simp] theorem logErr_time' (k i c : Nat) : (s.logErr k i c).time = s.time := by
  simp [State.logErr]
@[simp] theorem logErr_launches' (k i c : Nat) : (s.logErr k i c).launches = s.launches := by
  simp [State.logErr]
@[simp] theorem logErr_timers' (k i c : Nat) : (s.logErr k i c).timers = s.timers := by
  simp [State.logErr]
@[simp] theorem logErr_slt' (k i c : Nat) : (s.logErr k i c).slt = s.slt := by
  simp [State.logErr]
@[simp] theorem logErr_rf' (k i c : Nat) : (s.logErr k i c).rf = s.rf := by
  simp [State.logErr]
@[simp] theorem logErr_doms' (k i c : Nat) : (s.logErr k i c).doms = s.doms := by
  simp [State.logErr]
@[simp] theorem logErr_ldg' (k i c : Nat) : (s.logErr k i c).ldg = s.ldg := by
  simp [State.logErr]
@[simp] theorem logErr_pln' (k i c : Nat) : (s.logErr k i c).pln = s.pln := by
  simp [State.logErr]
@[simp] theorem logErr_store' (k i c : Nat) : (s.logErr k i c).store = s.store := by
  simp [State.logErr]
@[simp] theorem logErr_life' (k i c : Nat) : (s.logErr k i c).life = s.life := by
  simp [State.logErr]
@[simp] theorem logErr_cal' (k i c : Nat) : (s.logErr k i c).cal = s.cal := by
  simp [State.logErr]
@[simp] theorem logErr_pwr' (k i c : Nat) : (s.logErr k i c).pwr = s.pwr := by
  simp [State.logErr]

/-! ### `logEnd` writes only `log` -/

@[simp] theorem logEnd_pending' (k i c : Nat) : (s.logEnd k i c).pending = s.pending := by
  rfl
@[simp] theorem logEnd_tick' (k i c : Nat) : (s.logEnd k i c).tick = s.tick := by
  rfl
@[simp] theorem logEnd_sub' (k i c : Nat) : (s.logEnd k i c).sub = s.sub := by
  rfl
@[simp] theorem logEnd_provisioned' (k i c : Nat) : (s.logEnd k i c).provisioned = s.provisioned := by
  rfl
@[simp] theorem logEnd_free' (k i c : Nat) : (s.logEnd k i c).free = s.free := by
  rfl
@[simp] theorem logEnd_regs' (k i c : Nat) : (s.logEnd k i c).regs = s.regs := by
  rfl
@[simp] theorem logEnd_applied' (k i c : Nat) : (s.logEnd k i c).applied = s.applied := by
  rfl
@[simp] theorem logEnd_mem' (k i c : Nat) : (s.logEnd k i c).mem = s.mem := by
  rfl
@[simp] theorem logEnd_hosts' (k i c : Nat) : (s.logEnd k i c).hosts = s.hosts := by
  rfl
@[simp] theorem logEnd_turn' (k i c : Nat) : (s.logEnd k i c).turn = s.turn := by
  rfl
@[simp] theorem logEnd_sessionNo' (k i c : Nat) : (s.logEnd k i c).sessionNo = s.sessionNo := by
  rfl
@[simp] theorem logEnd_out' (k i c : Nat) : (s.logEnd k i c).out = s.out := by
  rfl
@[simp] theorem logEnd_hp1Ibi' (k i c : Nat) : (s.logEnd k i c).hp1Ibi = s.hp1Ibi := by
  rfl
@[simp] theorem logEnd_logSat' (k i c : Nat) : (s.logEnd k i c).logSat = s.logSat := by
  rfl
@[simp] theorem logEnd_fenced' (k i c : Nat) : (s.logEnd k i c).fenced = s.fenced := by
  rfl
@[simp] theorem logEnd_runs' (k i c : Nat) : (s.logEnd k i c).runs = s.runs := by
  rfl
@[simp] theorem logEnd_check' (k i c : Nat) : (s.logEnd k i c).check = s.check := by
  rfl
@[simp] theorem logEnd_snap' (k i c : Nat) : (s.logEnd k i c).snap = s.snap := by
  rfl
@[simp] theorem logEnd_groups' (k i c : Nat) : (s.logEnd k i c).groups = s.groups := by
  rfl
@[simp] theorem logEnd_targets' (k i c : Nat) : (s.logEnd k i c).targets = s.targets := by
  rfl
@[simp] theorem logEnd_srcs' (k i c : Nat) : (s.logEnd k i c).srcs = s.srcs := by
  rfl
@[simp] theorem logEnd_sluices' (k i c : Nat) : (s.logEnd k i c).sluices = s.sluices := by
  rfl
@[simp] theorem logEnd_pins' (k i c : Nat) : (s.logEnd k i c).pins = s.pins := by
  rfl
@[simp] theorem logEnd_evq' (k i c : Nat) : (s.logEnd k i c).evq = s.evq := by
  rfl
@[simp] theorem logEnd_wave' (k i c : Nat) : (s.logEnd k i c).wave = s.wave := by
  rfl
@[simp] theorem logEnd_jobs' (k i c : Nat) : (s.logEnd k i c).jobs = s.jobs := by
  rfl
@[simp] theorem logEnd_chans' (k i c : Nat) : (s.logEnd k i c).chans = s.chans := by
  rfl
@[simp] theorem logEnd_ports' (k i c : Nat) : (s.logEnd k i c).ports = s.ports := by
  rfl
@[simp] theorem logEnd_afe' (k i c : Nat) : (s.logEnd k i c).afe = s.afe := by
  rfl
@[simp] theorem logEnd_twr' (k i c : Nat) : (s.logEnd k i c).twr = s.twr := by
  rfl
@[simp] theorem logEnd_cry' (k i c : Nat) : (s.logEnd k i c).cry = s.cry := by
  rfl
@[simp] theorem logEnd_svc' (k i c : Nat) : (s.logEnd k i c).svc = s.svc := by
  rfl
@[simp] theorem logEnd_pan' (k i c : Nat) : (s.logEnd k i c).pan = s.pan := by
  rfl
@[simp] theorem logEnd_time' (k i c : Nat) : (s.logEnd k i c).time = s.time := by
  rfl
@[simp] theorem logEnd_launches' (k i c : Nat) : (s.logEnd k i c).launches = s.launches := by
  rfl
@[simp] theorem logEnd_timers' (k i c : Nat) : (s.logEnd k i c).timers = s.timers := by
  rfl
@[simp] theorem logEnd_slt' (k i c : Nat) : (s.logEnd k i c).slt = s.slt := by
  rfl
@[simp] theorem logEnd_rf' (k i c : Nat) : (s.logEnd k i c).rf = s.rf := by
  rfl
@[simp] theorem logEnd_doms' (k i c : Nat) : (s.logEnd k i c).doms = s.doms := by
  rfl
@[simp] theorem logEnd_ldg' (k i c : Nat) : (s.logEnd k i c).ldg = s.ldg := by
  rfl
@[simp] theorem logEnd_pln' (k i c : Nat) : (s.logEnd k i c).pln = s.pln := by
  rfl
@[simp] theorem logEnd_store' (k i c : Nat) : (s.logEnd k i c).store = s.store := by
  rfl
@[simp] theorem logEnd_life' (k i c : Nat) : (s.logEnd k i c).life = s.life := by
  rfl
@[simp] theorem logEnd_cal' (k i c : Nat) : (s.logEnd k i c).cal = s.cal := by
  rfl
@[simp] theorem logEnd_pwr' (k i c : Nat) : (s.logEnd k i c).pwr = s.pwr := by
  rfl

/-! ### `errIn` writes only `log`, `regs`, `srcs`, `svc`, `logSat`, `targets` -/

@[simp] theorem errIn_pending' (k i c : Nat) : (s.errIn k i c).pending = s.pending := by
  unfold State.errIn; dsimp only; split <;> simp
@[simp] theorem errIn_tick' (k i c : Nat) : (s.errIn k i c).tick = s.tick := by
  unfold State.errIn; dsimp only; split <;> simp
@[simp] theorem errIn_sub' (k i c : Nat) : (s.errIn k i c).sub = s.sub := by
  unfold State.errIn; dsimp only; split <;> simp
@[simp] theorem errIn_provisioned' (k i c : Nat) : (s.errIn k i c).provisioned = s.provisioned := by
  unfold State.errIn; dsimp only; split <;> simp
@[simp] theorem errIn_free' (k i c : Nat) : (s.errIn k i c).free = s.free := by
  unfold State.errIn; dsimp only; split <;> simp
@[simp] theorem errIn_applied' (k i c : Nat) : (s.errIn k i c).applied = s.applied := by
  unfold State.errIn; dsimp only; split <;> simp
@[simp] theorem errIn_mem' (k i c : Nat) : (s.errIn k i c).mem = s.mem := by
  unfold State.errIn; dsimp only; split <;> simp
@[simp] theorem errIn_hosts' (k i c : Nat) : (s.errIn k i c).hosts = s.hosts := by
  unfold State.errIn; dsimp only; split <;> simp
@[simp] theorem errIn_turn' (k i c : Nat) : (s.errIn k i c).turn = s.turn := by
  unfold State.errIn; dsimp only; split <;> simp
@[simp] theorem errIn_sessionNo' (k i c : Nat) : (s.errIn k i c).sessionNo = s.sessionNo := by
  unfold State.errIn; dsimp only; split <;> simp
@[simp] theorem errIn_out' (k i c : Nat) : (s.errIn k i c).out = s.out := by
  unfold State.errIn; dsimp only; split <;> simp
@[simp] theorem errIn_hp1Ibi' (k i c : Nat) : (s.errIn k i c).hp1Ibi = s.hp1Ibi := by
  unfold State.errIn; dsimp only; split <;> simp
@[simp] theorem errIn_fenced' (k i c : Nat) : (s.errIn k i c).fenced = s.fenced := by
  unfold State.errIn; dsimp only; split <;> simp
@[simp] theorem errIn_runs' (k i c : Nat) : (s.errIn k i c).runs = s.runs := by
  unfold State.errIn; dsimp only; split <;> simp
@[simp] theorem errIn_check' (k i c : Nat) : (s.errIn k i c).check = s.check := by
  unfold State.errIn; dsimp only; split <;> simp
@[simp] theorem errIn_snap' (k i c : Nat) : (s.errIn k i c).snap = s.snap := by
  unfold State.errIn; dsimp only; split <;> simp
@[simp] theorem errIn_groups' (k i c : Nat) : (s.errIn k i c).groups = s.groups := by
  unfold State.errIn; dsimp only; split <;> simp
@[simp] theorem errIn_sluices' (k i c : Nat) : (s.errIn k i c).sluices = s.sluices := by
  unfold State.errIn; dsimp only; split <;> simp
@[simp] theorem errIn_pins' (k i c : Nat) : (s.errIn k i c).pins = s.pins := by
  unfold State.errIn; dsimp only; split <;> simp
@[simp] theorem errIn_evq' (k i c : Nat) : (s.errIn k i c).evq = s.evq := by
  unfold State.errIn; dsimp only; split <;> simp
@[simp] theorem errIn_wave' (k i c : Nat) : (s.errIn k i c).wave = s.wave := by
  unfold State.errIn; dsimp only; split <;> simp
@[simp] theorem errIn_jobs' (k i c : Nat) : (s.errIn k i c).jobs = s.jobs := by
  unfold State.errIn; dsimp only; split <;> simp
@[simp] theorem errIn_chans' (k i c : Nat) : (s.errIn k i c).chans = s.chans := by
  unfold State.errIn; dsimp only; split <;> simp
@[simp] theorem errIn_ports' (k i c : Nat) : (s.errIn k i c).ports = s.ports := by
  unfold State.errIn; dsimp only; split <;> simp
@[simp] theorem errIn_afe' (k i c : Nat) : (s.errIn k i c).afe = s.afe := by
  unfold State.errIn; dsimp only; split <;> simp
@[simp] theorem errIn_twr' (k i c : Nat) : (s.errIn k i c).twr = s.twr := by
  unfold State.errIn; dsimp only; split <;> simp
@[simp] theorem errIn_cry' (k i c : Nat) : (s.errIn k i c).cry = s.cry := by
  unfold State.errIn; dsimp only; split <;> simp
@[simp] theorem errIn_pan' (k i c : Nat) : (s.errIn k i c).pan = s.pan := by
  unfold State.errIn; dsimp only; split <;> simp
@[simp] theorem errIn_time' (k i c : Nat) : (s.errIn k i c).time = s.time := by
  unfold State.errIn; dsimp only; split <;> simp
@[simp] theorem errIn_launches' (k i c : Nat) : (s.errIn k i c).launches = s.launches := by
  unfold State.errIn; dsimp only; split <;> simp
@[simp] theorem errIn_timers' (k i c : Nat) : (s.errIn k i c).timers = s.timers := by
  unfold State.errIn; dsimp only; split <;> simp
@[simp] theorem errIn_slt' (k i c : Nat) : (s.errIn k i c).slt = s.slt := by
  unfold State.errIn; dsimp only; split <;> simp
@[simp] theorem errIn_rf' (k i c : Nat) : (s.errIn k i c).rf = s.rf := by
  unfold State.errIn; dsimp only; split <;> simp
@[simp] theorem errIn_doms' (k i c : Nat) : (s.errIn k i c).doms = s.doms := by
  unfold State.errIn; dsimp only; split <;> simp
@[simp] theorem errIn_ldg' (k i c : Nat) : (s.errIn k i c).ldg = s.ldg := by
  unfold State.errIn; dsimp only; split <;> simp
@[simp] theorem errIn_pln' (k i c : Nat) : (s.errIn k i c).pln = s.pln := by
  unfold State.errIn; dsimp only; split <;> simp
@[simp] theorem errIn_store' (k i c : Nat) : (s.errIn k i c).store = s.store := by
  unfold State.errIn; dsimp only; split <;> simp
@[simp] theorem errIn_life' (k i c : Nat) : (s.errIn k i c).life = s.life := by
  unfold State.errIn; dsimp only; split <;> simp
@[simp] theorem errIn_cal' (k i c : Nat) : (s.errIn k i c).cal = s.cal := by
  unfold State.errIn; dsimp only; split <;> simp
@[simp] theorem errIn_pwr' (k i c : Nat) : (s.errIn k i c).pwr = s.pwr := by
  unfold State.errIn; dsimp only; split <;> simp

/-! ### `fenceMark` writes only `log`, `regs`, `srcs`, `svc`, `logSat`, `targets`, `fenced` -/

@[simp] theorem fenceMark_pending' (k i c : Nat) : (s.fenceMark k i c).pending = s.pending := by
  unfold State.fenceMark; split <;> simp
@[simp] theorem fenceMark_tick' (k i c : Nat) : (s.fenceMark k i c).tick = s.tick := by
  unfold State.fenceMark; split <;> simp
@[simp] theorem fenceMark_sub' (k i c : Nat) : (s.fenceMark k i c).sub = s.sub := by
  unfold State.fenceMark; split <;> simp
@[simp] theorem fenceMark_provisioned' (k i c : Nat) : (s.fenceMark k i c).provisioned = s.provisioned := by
  unfold State.fenceMark; split <;> simp
@[simp] theorem fenceMark_free' (k i c : Nat) : (s.fenceMark k i c).free = s.free := by
  unfold State.fenceMark; split <;> simp
@[simp] theorem fenceMark_applied' (k i c : Nat) : (s.fenceMark k i c).applied = s.applied := by
  unfold State.fenceMark; split <;> simp
@[simp] theorem fenceMark_mem' (k i c : Nat) : (s.fenceMark k i c).mem = s.mem := by
  unfold State.fenceMark; split <;> simp
@[simp] theorem fenceMark_hosts' (k i c : Nat) : (s.fenceMark k i c).hosts = s.hosts := by
  unfold State.fenceMark; split <;> simp
@[simp] theorem fenceMark_turn' (k i c : Nat) : (s.fenceMark k i c).turn = s.turn := by
  unfold State.fenceMark; split <;> simp
@[simp] theorem fenceMark_sessionNo' (k i c : Nat) : (s.fenceMark k i c).sessionNo = s.sessionNo := by
  unfold State.fenceMark; split <;> simp
@[simp] theorem fenceMark_out' (k i c : Nat) : (s.fenceMark k i c).out = s.out := by
  unfold State.fenceMark; split <;> simp
@[simp] theorem fenceMark_hp1Ibi' (k i c : Nat) : (s.fenceMark k i c).hp1Ibi = s.hp1Ibi := by
  unfold State.fenceMark; split <;> simp
@[simp] theorem fenceMark_runs' (k i c : Nat) : (s.fenceMark k i c).runs = s.runs := by
  unfold State.fenceMark; split <;> simp
@[simp] theorem fenceMark_check' (k i c : Nat) : (s.fenceMark k i c).check = s.check := by
  unfold State.fenceMark; split <;> simp
@[simp] theorem fenceMark_snap' (k i c : Nat) : (s.fenceMark k i c).snap = s.snap := by
  unfold State.fenceMark; split <;> simp
@[simp] theorem fenceMark_groups' (k i c : Nat) : (s.fenceMark k i c).groups = s.groups := by
  unfold State.fenceMark; split <;> simp
@[simp] theorem fenceMark_sluices' (k i c : Nat) : (s.fenceMark k i c).sluices = s.sluices := by
  unfold State.fenceMark; split <;> simp
@[simp] theorem fenceMark_pins' (k i c : Nat) : (s.fenceMark k i c).pins = s.pins := by
  unfold State.fenceMark; split <;> simp
@[simp] theorem fenceMark_evq' (k i c : Nat) : (s.fenceMark k i c).evq = s.evq := by
  unfold State.fenceMark; split <;> simp
@[simp] theorem fenceMark_wave' (k i c : Nat) : (s.fenceMark k i c).wave = s.wave := by
  unfold State.fenceMark; split <;> simp
@[simp] theorem fenceMark_jobs' (k i c : Nat) : (s.fenceMark k i c).jobs = s.jobs := by
  unfold State.fenceMark; split <;> simp
@[simp] theorem fenceMark_chans' (k i c : Nat) : (s.fenceMark k i c).chans = s.chans := by
  unfold State.fenceMark; split <;> simp
@[simp] theorem fenceMark_ports' (k i c : Nat) : (s.fenceMark k i c).ports = s.ports := by
  unfold State.fenceMark; split <;> simp
@[simp] theorem fenceMark_afe' (k i c : Nat) : (s.fenceMark k i c).afe = s.afe := by
  unfold State.fenceMark; split <;> simp
@[simp] theorem fenceMark_twr' (k i c : Nat) : (s.fenceMark k i c).twr = s.twr := by
  unfold State.fenceMark; split <;> simp
@[simp] theorem fenceMark_cry' (k i c : Nat) : (s.fenceMark k i c).cry = s.cry := by
  unfold State.fenceMark; split <;> simp
@[simp] theorem fenceMark_pan' (k i c : Nat) : (s.fenceMark k i c).pan = s.pan := by
  unfold State.fenceMark; split <;> simp
@[simp] theorem fenceMark_time' (k i c : Nat) : (s.fenceMark k i c).time = s.time := by
  unfold State.fenceMark; split <;> simp
@[simp] theorem fenceMark_launches' (k i c : Nat) : (s.fenceMark k i c).launches = s.launches := by
  unfold State.fenceMark; split <;> simp
@[simp] theorem fenceMark_timers' (k i c : Nat) : (s.fenceMark k i c).timers = s.timers := by
  unfold State.fenceMark; split <;> simp
@[simp] theorem fenceMark_slt' (k i c : Nat) : (s.fenceMark k i c).slt = s.slt := by
  unfold State.fenceMark; split <;> simp
@[simp] theorem fenceMark_rf' (k i c : Nat) : (s.fenceMark k i c).rf = s.rf := by
  unfold State.fenceMark; split <;> simp
@[simp] theorem fenceMark_doms' (k i c : Nat) : (s.fenceMark k i c).doms = s.doms := by
  unfold State.fenceMark; split <;> simp
@[simp] theorem fenceMark_ldg' (k i c : Nat) : (s.fenceMark k i c).ldg = s.ldg := by
  unfold State.fenceMark; split <;> simp
@[simp] theorem fenceMark_pln' (k i c : Nat) : (s.fenceMark k i c).pln = s.pln := by
  unfold State.fenceMark; split <;> simp
@[simp] theorem fenceMark_store' (k i c : Nat) : (s.fenceMark k i c).store = s.store := by
  unfold State.fenceMark; split <;> simp
@[simp] theorem fenceMark_life' (k i c : Nat) : (s.fenceMark k i c).life = s.life := by
  unfold State.fenceMark; split <;> simp
@[simp] theorem fenceMark_cal' (k i c : Nat) : (s.fenceMark k i c).cal = s.cal := by
  unfold State.fenceMark; split <;> simp
@[simp] theorem fenceMark_pwr' (k i c : Nat) : (s.fenceMark k i c).pwr = s.pwr := by
  unfold State.fenceMark; split <;> simp

/-! ### `unfenceMark` writes only `log`, `regs`, `srcs`, `svc`, `logSat`, `targets`, `fenced` -/

@[simp] theorem unfenceMark_pending' (k i : Nat) : (s.unfenceMark k i).pending = s.pending := by
  simp [State.unfenceMark]
@[simp] theorem unfenceMark_tick' (k i : Nat) : (s.unfenceMark k i).tick = s.tick := by
  simp [State.unfenceMark]
@[simp] theorem unfenceMark_sub' (k i : Nat) : (s.unfenceMark k i).sub = s.sub := by
  simp [State.unfenceMark]
@[simp] theorem unfenceMark_provisioned' (k i : Nat) : (s.unfenceMark k i).provisioned = s.provisioned := by
  simp [State.unfenceMark]
@[simp] theorem unfenceMark_free' (k i : Nat) : (s.unfenceMark k i).free = s.free := by
  simp [State.unfenceMark]
@[simp] theorem unfenceMark_applied' (k i : Nat) : (s.unfenceMark k i).applied = s.applied := by
  simp [State.unfenceMark]
@[simp] theorem unfenceMark_mem' (k i : Nat) : (s.unfenceMark k i).mem = s.mem := by
  simp [State.unfenceMark]
@[simp] theorem unfenceMark_hosts' (k i : Nat) : (s.unfenceMark k i).hosts = s.hosts := by
  simp [State.unfenceMark]
@[simp] theorem unfenceMark_turn' (k i : Nat) : (s.unfenceMark k i).turn = s.turn := by
  simp [State.unfenceMark]
@[simp] theorem unfenceMark_sessionNo' (k i : Nat) : (s.unfenceMark k i).sessionNo = s.sessionNo := by
  simp [State.unfenceMark]
@[simp] theorem unfenceMark_out' (k i : Nat) : (s.unfenceMark k i).out = s.out := by
  simp [State.unfenceMark]
@[simp] theorem unfenceMark_hp1Ibi' (k i : Nat) : (s.unfenceMark k i).hp1Ibi = s.hp1Ibi := by
  simp [State.unfenceMark]
@[simp] theorem unfenceMark_runs' (k i : Nat) : (s.unfenceMark k i).runs = s.runs := by
  simp [State.unfenceMark]
@[simp] theorem unfenceMark_check' (k i : Nat) : (s.unfenceMark k i).check = s.check := by
  simp [State.unfenceMark]
@[simp] theorem unfenceMark_snap' (k i : Nat) : (s.unfenceMark k i).snap = s.snap := by
  simp [State.unfenceMark]
@[simp] theorem unfenceMark_groups' (k i : Nat) : (s.unfenceMark k i).groups = s.groups := by
  simp [State.unfenceMark]
@[simp] theorem unfenceMark_sluices' (k i : Nat) : (s.unfenceMark k i).sluices = s.sluices := by
  simp [State.unfenceMark]
@[simp] theorem unfenceMark_pins' (k i : Nat) : (s.unfenceMark k i).pins = s.pins := by
  simp [State.unfenceMark]
@[simp] theorem unfenceMark_evq' (k i : Nat) : (s.unfenceMark k i).evq = s.evq := by
  simp [State.unfenceMark]
@[simp] theorem unfenceMark_wave' (k i : Nat) : (s.unfenceMark k i).wave = s.wave := by
  simp [State.unfenceMark]
@[simp] theorem unfenceMark_jobs' (k i : Nat) : (s.unfenceMark k i).jobs = s.jobs := by
  simp [State.unfenceMark]
@[simp] theorem unfenceMark_chans' (k i : Nat) : (s.unfenceMark k i).chans = s.chans := by
  simp [State.unfenceMark]
@[simp] theorem unfenceMark_ports' (k i : Nat) : (s.unfenceMark k i).ports = s.ports := by
  simp [State.unfenceMark]
@[simp] theorem unfenceMark_afe' (k i : Nat) : (s.unfenceMark k i).afe = s.afe := by
  simp [State.unfenceMark]
@[simp] theorem unfenceMark_twr' (k i : Nat) : (s.unfenceMark k i).twr = s.twr := by
  simp [State.unfenceMark]
@[simp] theorem unfenceMark_cry' (k i : Nat) : (s.unfenceMark k i).cry = s.cry := by
  simp [State.unfenceMark]
@[simp] theorem unfenceMark_pan' (k i : Nat) : (s.unfenceMark k i).pan = s.pan := by
  simp [State.unfenceMark]
@[simp] theorem unfenceMark_time' (k i : Nat) : (s.unfenceMark k i).time = s.time := by
  simp [State.unfenceMark]
@[simp] theorem unfenceMark_launches' (k i : Nat) : (s.unfenceMark k i).launches = s.launches := by
  simp [State.unfenceMark]
@[simp] theorem unfenceMark_timers' (k i : Nat) : (s.unfenceMark k i).timers = s.timers := by
  simp [State.unfenceMark]
@[simp] theorem unfenceMark_slt' (k i : Nat) : (s.unfenceMark k i).slt = s.slt := by
  simp [State.unfenceMark]
@[simp] theorem unfenceMark_rf' (k i : Nat) : (s.unfenceMark k i).rf = s.rf := by
  simp [State.unfenceMark]
@[simp] theorem unfenceMark_doms' (k i : Nat) : (s.unfenceMark k i).doms = s.doms := by
  simp [State.unfenceMark]
@[simp] theorem unfenceMark_ldg' (k i : Nat) : (s.unfenceMark k i).ldg = s.ldg := by
  simp [State.unfenceMark]
@[simp] theorem unfenceMark_pln' (k i : Nat) : (s.unfenceMark k i).pln = s.pln := by
  simp [State.unfenceMark]
@[simp] theorem unfenceMark_store' (k i : Nat) : (s.unfenceMark k i).store = s.store := by
  simp [State.unfenceMark]
@[simp] theorem unfenceMark_life' (k i : Nat) : (s.unfenceMark k i).life = s.life := by
  simp [State.unfenceMark]
@[simp] theorem unfenceMark_cal' (k i : Nat) : (s.unfenceMark k i).cal = s.cal := by
  simp [State.unfenceMark]
@[simp] theorem unfenceMark_pwr' (k i : Nat) : (s.unfenceMark k i).pwr = s.pwr := by
  simp [State.unfenceMark]

/-! ### `wakeBy` writes only `regs`, `pwr` -/

@[simp] theorem wakeBy_pending' (b : Nat) : (s.wakeBy b).pending = s.pending := by
  unfold State.wakeBy; split <;> simp
@[simp] theorem wakeBy_tick' (b : Nat) : (s.wakeBy b).tick = s.tick := by
  unfold State.wakeBy; split <;> simp
@[simp] theorem wakeBy_sub' (b : Nat) : (s.wakeBy b).sub = s.sub := by
  unfold State.wakeBy; split <;> simp
@[simp] theorem wakeBy_provisioned' (b : Nat) : (s.wakeBy b).provisioned = s.provisioned := by
  unfold State.wakeBy; split <;> simp
@[simp] theorem wakeBy_free' (b : Nat) : (s.wakeBy b).free = s.free := by
  unfold State.wakeBy; split <;> simp
@[simp] theorem wakeBy_applied' (b : Nat) : (s.wakeBy b).applied = s.applied := by
  unfold State.wakeBy; split <;> simp
@[simp] theorem wakeBy_mem' (b : Nat) : (s.wakeBy b).mem = s.mem := by
  unfold State.wakeBy; split <;> simp
@[simp] theorem wakeBy_hosts' (b : Nat) : (s.wakeBy b).hosts = s.hosts := by
  unfold State.wakeBy; split <;> simp
@[simp] theorem wakeBy_turn' (b : Nat) : (s.wakeBy b).turn = s.turn := by
  unfold State.wakeBy; split <;> simp
@[simp] theorem wakeBy_sessionNo' (b : Nat) : (s.wakeBy b).sessionNo = s.sessionNo := by
  unfold State.wakeBy; split <;> simp
@[simp] theorem wakeBy_out' (b : Nat) : (s.wakeBy b).out = s.out := by
  unfold State.wakeBy; split <;> simp
@[simp] theorem wakeBy_hp1Ibi' (b : Nat) : (s.wakeBy b).hp1Ibi = s.hp1Ibi := by
  unfold State.wakeBy; split <;> simp
@[simp] theorem wakeBy_log' (b : Nat) : (s.wakeBy b).log = s.log := by
  unfold State.wakeBy; split <;> simp
@[simp] theorem wakeBy_logSat' (b : Nat) : (s.wakeBy b).logSat = s.logSat := by
  unfold State.wakeBy; split <;> simp
@[simp] theorem wakeBy_fenced' (b : Nat) : (s.wakeBy b).fenced = s.fenced := by
  unfold State.wakeBy; split <;> simp
@[simp] theorem wakeBy_runs' (b : Nat) : (s.wakeBy b).runs = s.runs := by
  unfold State.wakeBy; split <;> simp
@[simp] theorem wakeBy_check' (b : Nat) : (s.wakeBy b).check = s.check := by
  unfold State.wakeBy; split <;> simp
@[simp] theorem wakeBy_snap' (b : Nat) : (s.wakeBy b).snap = s.snap := by
  unfold State.wakeBy; split <;> simp
@[simp] theorem wakeBy_groups' (b : Nat) : (s.wakeBy b).groups = s.groups := by
  unfold State.wakeBy; split <;> simp
@[simp] theorem wakeBy_targets' (b : Nat) : (s.wakeBy b).targets = s.targets := by
  unfold State.wakeBy; split <;> simp
@[simp] theorem wakeBy_srcs' (b : Nat) : (s.wakeBy b).srcs = s.srcs := by
  unfold State.wakeBy; split <;> simp
@[simp] theorem wakeBy_sluices' (b : Nat) : (s.wakeBy b).sluices = s.sluices := by
  unfold State.wakeBy; split <;> simp
@[simp] theorem wakeBy_pins' (b : Nat) : (s.wakeBy b).pins = s.pins := by
  unfold State.wakeBy; split <;> simp
@[simp] theorem wakeBy_evq' (b : Nat) : (s.wakeBy b).evq = s.evq := by
  unfold State.wakeBy; split <;> simp
@[simp] theorem wakeBy_wave' (b : Nat) : (s.wakeBy b).wave = s.wave := by
  unfold State.wakeBy; split <;> simp
@[simp] theorem wakeBy_jobs' (b : Nat) : (s.wakeBy b).jobs = s.jobs := by
  unfold State.wakeBy; split <;> simp
@[simp] theorem wakeBy_chans' (b : Nat) : (s.wakeBy b).chans = s.chans := by
  unfold State.wakeBy; split <;> simp
@[simp] theorem wakeBy_ports' (b : Nat) : (s.wakeBy b).ports = s.ports := by
  unfold State.wakeBy; split <;> simp
@[simp] theorem wakeBy_afe' (b : Nat) : (s.wakeBy b).afe = s.afe := by
  unfold State.wakeBy; split <;> simp
@[simp] theorem wakeBy_twr' (b : Nat) : (s.wakeBy b).twr = s.twr := by
  unfold State.wakeBy; split <;> simp
@[simp] theorem wakeBy_cry' (b : Nat) : (s.wakeBy b).cry = s.cry := by
  unfold State.wakeBy; split <;> simp
@[simp] theorem wakeBy_svc' (b : Nat) : (s.wakeBy b).svc = s.svc := by
  unfold State.wakeBy; split <;> simp
@[simp] theorem wakeBy_pan' (b : Nat) : (s.wakeBy b).pan = s.pan := by
  unfold State.wakeBy; split <;> simp
@[simp] theorem wakeBy_time' (b : Nat) : (s.wakeBy b).time = s.time := by
  unfold State.wakeBy; split <;> simp
@[simp] theorem wakeBy_launches' (b : Nat) : (s.wakeBy b).launches = s.launches := by
  unfold State.wakeBy; split <;> simp
@[simp] theorem wakeBy_timers' (b : Nat) : (s.wakeBy b).timers = s.timers := by
  unfold State.wakeBy; split <;> simp
@[simp] theorem wakeBy_slt' (b : Nat) : (s.wakeBy b).slt = s.slt := by
  unfold State.wakeBy; split <;> simp
@[simp] theorem wakeBy_rf' (b : Nat) : (s.wakeBy b).rf = s.rf := by
  unfold State.wakeBy; split <;> simp
@[simp] theorem wakeBy_doms' (b : Nat) : (s.wakeBy b).doms = s.doms := by
  unfold State.wakeBy; split <;> simp
@[simp] theorem wakeBy_ldg' (b : Nat) : (s.wakeBy b).ldg = s.ldg := by
  unfold State.wakeBy; split <;> simp
@[simp] theorem wakeBy_pln' (b : Nat) : (s.wakeBy b).pln = s.pln := by
  unfold State.wakeBy; split <;> simp
@[simp] theorem wakeBy_store' (b : Nat) : (s.wakeBy b).store = s.store := by
  unfold State.wakeBy; split <;> simp
@[simp] theorem wakeBy_life' (b : Nat) : (s.wakeBy b).life = s.life := by
  unfold State.wakeBy; split <;> simp
@[simp] theorem wakeBy_cal' (b : Nat) : (s.wakeBy b).cal = s.cal := by
  unfold State.wakeBy; split <;> simp

/-! ### `raiseEvent` writes only `evq`, `pwr`, `regs`, `srcs`, `svc` -/

@[simp] theorem raiseEvent_pending' (b k : Nat) : (s.raiseEvent b k).pending = s.pending := by
  unfold State.raiseEvent; repeat' split
  all_goals simp
@[simp] theorem raiseEvent_tick' (b k : Nat) : (s.raiseEvent b k).tick = s.tick := by
  unfold State.raiseEvent; repeat' split
  all_goals simp
@[simp] theorem raiseEvent_sub' (b k : Nat) : (s.raiseEvent b k).sub = s.sub := by
  unfold State.raiseEvent; repeat' split
  all_goals simp
@[simp] theorem raiseEvent_provisioned' (b k : Nat) : (s.raiseEvent b k).provisioned = s.provisioned := by
  unfold State.raiseEvent; repeat' split
  all_goals simp
@[simp] theorem raiseEvent_free' (b k : Nat) : (s.raiseEvent b k).free = s.free := by
  unfold State.raiseEvent; repeat' split
  all_goals simp
@[simp] theorem raiseEvent_applied' (b k : Nat) : (s.raiseEvent b k).applied = s.applied := by
  unfold State.raiseEvent; repeat' split
  all_goals simp
@[simp] theorem raiseEvent_mem' (b k : Nat) : (s.raiseEvent b k).mem = s.mem := by
  unfold State.raiseEvent; repeat' split
  all_goals simp
@[simp] theorem raiseEvent_hosts' (b k : Nat) : (s.raiseEvent b k).hosts = s.hosts := by
  unfold State.raiseEvent; repeat' split
  all_goals simp
@[simp] theorem raiseEvent_turn' (b k : Nat) : (s.raiseEvent b k).turn = s.turn := by
  unfold State.raiseEvent; repeat' split
  all_goals simp
@[simp] theorem raiseEvent_sessionNo' (b k : Nat) : (s.raiseEvent b k).sessionNo = s.sessionNo := by
  unfold State.raiseEvent; repeat' split
  all_goals simp
@[simp] theorem raiseEvent_out' (b k : Nat) : (s.raiseEvent b k).out = s.out := by
  unfold State.raiseEvent; repeat' split
  all_goals simp
@[simp] theorem raiseEvent_hp1Ibi' (b k : Nat) : (s.raiseEvent b k).hp1Ibi = s.hp1Ibi := by
  unfold State.raiseEvent; repeat' split
  all_goals simp
@[simp] theorem raiseEvent_log' (b k : Nat) : (s.raiseEvent b k).log = s.log := by
  unfold State.raiseEvent; repeat' split
  all_goals simp
@[simp] theorem raiseEvent_logSat' (b k : Nat) : (s.raiseEvent b k).logSat = s.logSat := by
  unfold State.raiseEvent; repeat' split
  all_goals simp
@[simp] theorem raiseEvent_fenced' (b k : Nat) : (s.raiseEvent b k).fenced = s.fenced := by
  unfold State.raiseEvent; repeat' split
  all_goals simp
@[simp] theorem raiseEvent_runs' (b k : Nat) : (s.raiseEvent b k).runs = s.runs := by
  unfold State.raiseEvent; repeat' split
  all_goals simp
@[simp] theorem raiseEvent_check' (b k : Nat) : (s.raiseEvent b k).check = s.check := by
  unfold State.raiseEvent; repeat' split
  all_goals simp
@[simp] theorem raiseEvent_snap' (b k : Nat) : (s.raiseEvent b k).snap = s.snap := by
  unfold State.raiseEvent; repeat' split
  all_goals simp
@[simp] theorem raiseEvent_groups' (b k : Nat) : (s.raiseEvent b k).groups = s.groups := by
  unfold State.raiseEvent; repeat' split
  all_goals simp
@[simp] theorem raiseEvent_targets' (b k : Nat) : (s.raiseEvent b k).targets = s.targets := by
  unfold State.raiseEvent; repeat' split
  all_goals simp
@[simp] theorem raiseEvent_sluices' (b k : Nat) : (s.raiseEvent b k).sluices = s.sluices := by
  unfold State.raiseEvent; repeat' split
  all_goals simp
@[simp] theorem raiseEvent_pins' (b k : Nat) : (s.raiseEvent b k).pins = s.pins := by
  unfold State.raiseEvent; repeat' split
  all_goals simp
@[simp] theorem raiseEvent_wave' (b k : Nat) : (s.raiseEvent b k).wave = s.wave := by
  unfold State.raiseEvent; repeat' split
  all_goals simp
@[simp] theorem raiseEvent_jobs' (b k : Nat) : (s.raiseEvent b k).jobs = s.jobs := by
  unfold State.raiseEvent; repeat' split
  all_goals simp
@[simp] theorem raiseEvent_chans' (b k : Nat) : (s.raiseEvent b k).chans = s.chans := by
  unfold State.raiseEvent; repeat' split
  all_goals simp
@[simp] theorem raiseEvent_ports' (b k : Nat) : (s.raiseEvent b k).ports = s.ports := by
  unfold State.raiseEvent; repeat' split
  all_goals simp
@[simp] theorem raiseEvent_afe' (b k : Nat) : (s.raiseEvent b k).afe = s.afe := by
  unfold State.raiseEvent; repeat' split
  all_goals simp
@[simp] theorem raiseEvent_twr' (b k : Nat) : (s.raiseEvent b k).twr = s.twr := by
  unfold State.raiseEvent; repeat' split
  all_goals simp
@[simp] theorem raiseEvent_cry' (b k : Nat) : (s.raiseEvent b k).cry = s.cry := by
  unfold State.raiseEvent; repeat' split
  all_goals simp
@[simp] theorem raiseEvent_pan' (b k : Nat) : (s.raiseEvent b k).pan = s.pan := by
  unfold State.raiseEvent; repeat' split
  all_goals simp
@[simp] theorem raiseEvent_time' (b k : Nat) : (s.raiseEvent b k).time = s.time := by
  unfold State.raiseEvent; repeat' split
  all_goals simp
@[simp] theorem raiseEvent_launches' (b k : Nat) : (s.raiseEvent b k).launches = s.launches := by
  unfold State.raiseEvent; repeat' split
  all_goals simp
@[simp] theorem raiseEvent_timers' (b k : Nat) : (s.raiseEvent b k).timers = s.timers := by
  unfold State.raiseEvent; repeat' split
  all_goals simp
@[simp] theorem raiseEvent_slt' (b k : Nat) : (s.raiseEvent b k).slt = s.slt := by
  unfold State.raiseEvent; repeat' split
  all_goals simp
@[simp] theorem raiseEvent_rf' (b k : Nat) : (s.raiseEvent b k).rf = s.rf := by
  unfold State.raiseEvent; repeat' split
  all_goals simp
@[simp] theorem raiseEvent_doms' (b k : Nat) : (s.raiseEvent b k).doms = s.doms := by
  unfold State.raiseEvent; repeat' split
  all_goals simp
@[simp] theorem raiseEvent_ldg' (b k : Nat) : (s.raiseEvent b k).ldg = s.ldg := by
  unfold State.raiseEvent; repeat' split
  all_goals simp
@[simp] theorem raiseEvent_pln' (b k : Nat) : (s.raiseEvent b k).pln = s.pln := by
  unfold State.raiseEvent; repeat' split
  all_goals simp
@[simp] theorem raiseEvent_store' (b k : Nat) : (s.raiseEvent b k).store = s.store := by
  unfold State.raiseEvent; repeat' split
  all_goals simp
@[simp] theorem raiseEvent_life' (b k : Nat) : (s.raiseEvent b k).life = s.life := by
  unfold State.raiseEvent; repeat' split
  all_goals simp
@[simp] theorem raiseEvent_cal' (b k : Nat) : (s.raiseEvent b k).cal = s.cal := by
  unfold State.raiseEvent; repeat' split
  all_goals simp

/-! ### `enqueueReply` writes only `hosts`, `targets`, `hp1Ibi` -/

@[simp] theorem enqueueReply_pending' (h : Nat) (r : Reply) : (s.enqueueReply h r).pending = s.pending := by
  unfold State.enqueueReply; dsimp only; split <;> simp
@[simp] theorem enqueueReply_tick' (h : Nat) (r : Reply) : (s.enqueueReply h r).tick = s.tick := by
  unfold State.enqueueReply; dsimp only; split <;> simp
@[simp] theorem enqueueReply_sub' (h : Nat) (r : Reply) : (s.enqueueReply h r).sub = s.sub := by
  unfold State.enqueueReply; dsimp only; split <;> simp
@[simp] theorem enqueueReply_provisioned' (h : Nat) (r : Reply) : (s.enqueueReply h r).provisioned = s.provisioned := by
  unfold State.enqueueReply; dsimp only; split <;> simp
@[simp] theorem enqueueReply_free' (h : Nat) (r : Reply) : (s.enqueueReply h r).free = s.free := by
  unfold State.enqueueReply; dsimp only; split <;> simp
@[simp] theorem enqueueReply_regs' (h : Nat) (r : Reply) : (s.enqueueReply h r).regs = s.regs := by
  unfold State.enqueueReply; dsimp only; split <;> simp
@[simp] theorem enqueueReply_applied' (h : Nat) (r : Reply) : (s.enqueueReply h r).applied = s.applied := by
  unfold State.enqueueReply; dsimp only; split <;> simp
@[simp] theorem enqueueReply_mem' (h : Nat) (r : Reply) : (s.enqueueReply h r).mem = s.mem := by
  unfold State.enqueueReply; dsimp only; split <;> simp
@[simp] theorem enqueueReply_turn' (h : Nat) (r : Reply) : (s.enqueueReply h r).turn = s.turn := by
  unfold State.enqueueReply; dsimp only; split <;> simp
@[simp] theorem enqueueReply_sessionNo' (h : Nat) (r : Reply) : (s.enqueueReply h r).sessionNo = s.sessionNo := by
  unfold State.enqueueReply; dsimp only; split <;> simp
@[simp] theorem enqueueReply_out' (h : Nat) (r : Reply) : (s.enqueueReply h r).out = s.out := by
  unfold State.enqueueReply; dsimp only; split <;> simp
@[simp] theorem enqueueReply_log' (h : Nat) (r : Reply) : (s.enqueueReply h r).log = s.log := by
  unfold State.enqueueReply; dsimp only; split <;> simp
@[simp] theorem enqueueReply_logSat' (h : Nat) (r : Reply) : (s.enqueueReply h r).logSat = s.logSat := by
  unfold State.enqueueReply; dsimp only; split <;> simp
@[simp] theorem enqueueReply_fenced' (h : Nat) (r : Reply) : (s.enqueueReply h r).fenced = s.fenced := by
  unfold State.enqueueReply; dsimp only; split <;> simp
@[simp] theorem enqueueReply_runs' (h : Nat) (r : Reply) : (s.enqueueReply h r).runs = s.runs := by
  unfold State.enqueueReply; dsimp only; split <;> simp
@[simp] theorem enqueueReply_check' (h : Nat) (r : Reply) : (s.enqueueReply h r).check = s.check := by
  unfold State.enqueueReply; dsimp only; split <;> simp
@[simp] theorem enqueueReply_snap' (h : Nat) (r : Reply) : (s.enqueueReply h r).snap = s.snap := by
  unfold State.enqueueReply; dsimp only; split <;> simp
@[simp] theorem enqueueReply_groups' (h : Nat) (r : Reply) : (s.enqueueReply h r).groups = s.groups := by
  unfold State.enqueueReply; dsimp only; split <;> simp
@[simp] theorem enqueueReply_srcs' (h : Nat) (r : Reply) : (s.enqueueReply h r).srcs = s.srcs := by
  unfold State.enqueueReply; dsimp only; split <;> simp
@[simp] theorem enqueueReply_sluices' (h : Nat) (r : Reply) : (s.enqueueReply h r).sluices = s.sluices := by
  unfold State.enqueueReply; dsimp only; split <;> simp
@[simp] theorem enqueueReply_pins' (h : Nat) (r : Reply) : (s.enqueueReply h r).pins = s.pins := by
  unfold State.enqueueReply; dsimp only; split <;> simp
@[simp] theorem enqueueReply_evq' (h : Nat) (r : Reply) : (s.enqueueReply h r).evq = s.evq := by
  unfold State.enqueueReply; dsimp only; split <;> simp
@[simp] theorem enqueueReply_wave' (h : Nat) (r : Reply) : (s.enqueueReply h r).wave = s.wave := by
  unfold State.enqueueReply; dsimp only; split <;> simp
@[simp] theorem enqueueReply_jobs' (h : Nat) (r : Reply) : (s.enqueueReply h r).jobs = s.jobs := by
  unfold State.enqueueReply; dsimp only; split <;> simp
@[simp] theorem enqueueReply_chans' (h : Nat) (r : Reply) : (s.enqueueReply h r).chans = s.chans := by
  unfold State.enqueueReply; dsimp only; split <;> simp
@[simp] theorem enqueueReply_ports' (h : Nat) (r : Reply) : (s.enqueueReply h r).ports = s.ports := by
  unfold State.enqueueReply; dsimp only; split <;> simp
@[simp] theorem enqueueReply_afe' (h : Nat) (r : Reply) : (s.enqueueReply h r).afe = s.afe := by
  unfold State.enqueueReply; dsimp only; split <;> simp
@[simp] theorem enqueueReply_twr' (h : Nat) (r : Reply) : (s.enqueueReply h r).twr = s.twr := by
  unfold State.enqueueReply; dsimp only; split <;> simp
@[simp] theorem enqueueReply_cry' (h : Nat) (r : Reply) : (s.enqueueReply h r).cry = s.cry := by
  unfold State.enqueueReply; dsimp only; split <;> simp
@[simp] theorem enqueueReply_svc' (h : Nat) (r : Reply) : (s.enqueueReply h r).svc = s.svc := by
  unfold State.enqueueReply; dsimp only; split <;> simp
@[simp] theorem enqueueReply_pan' (h : Nat) (r : Reply) : (s.enqueueReply h r).pan = s.pan := by
  unfold State.enqueueReply; dsimp only; split <;> simp
@[simp] theorem enqueueReply_time' (h : Nat) (r : Reply) : (s.enqueueReply h r).time = s.time := by
  unfold State.enqueueReply; dsimp only; split <;> simp
@[simp] theorem enqueueReply_launches' (h : Nat) (r : Reply) : (s.enqueueReply h r).launches = s.launches := by
  unfold State.enqueueReply; dsimp only; split <;> simp
@[simp] theorem enqueueReply_timers' (h : Nat) (r : Reply) : (s.enqueueReply h r).timers = s.timers := by
  unfold State.enqueueReply; dsimp only; split <;> simp
@[simp] theorem enqueueReply_slt' (h : Nat) (r : Reply) : (s.enqueueReply h r).slt = s.slt := by
  unfold State.enqueueReply; dsimp only; split <;> simp
@[simp] theorem enqueueReply_rf' (h : Nat) (r : Reply) : (s.enqueueReply h r).rf = s.rf := by
  unfold State.enqueueReply; dsimp only; split <;> simp
@[simp] theorem enqueueReply_doms' (h : Nat) (r : Reply) : (s.enqueueReply h r).doms = s.doms := by
  unfold State.enqueueReply; dsimp only; split <;> simp
@[simp] theorem enqueueReply_ldg' (h : Nat) (r : Reply) : (s.enqueueReply h r).ldg = s.ldg := by
  unfold State.enqueueReply; dsimp only; split <;> simp
@[simp] theorem enqueueReply_pln' (h : Nat) (r : Reply) : (s.enqueueReply h r).pln = s.pln := by
  unfold State.enqueueReply; dsimp only; split <;> simp
@[simp] theorem enqueueReply_store' (h : Nat) (r : Reply) : (s.enqueueReply h r).store = s.store := by
  unfold State.enqueueReply; dsimp only; split <;> simp
@[simp] theorem enqueueReply_life' (h : Nat) (r : Reply) : (s.enqueueReply h r).life = s.life := by
  unfold State.enqueueReply; dsimp only; split <;> simp
@[simp] theorem enqueueReply_cal' (h : Nat) (r : Reply) : (s.enqueueReply h r).cal = s.cal := by
  unfold State.enqueueReply; dsimp only; split <;> simp
@[simp] theorem enqueueReply_pwr' (h : Nat) (r : Reply) : (s.enqueueReply h r).pwr = s.pwr := by
  unfold State.enqueueReply; dsimp only; split <;> simp

/-! ### `complete` writes only `hosts`, `targets`, `hp1Ibi` -/

@[simp] theorem complete_pending' (h op tag : Nat) (w : Bool) (st : Nat) (ws : List Word) (lg : Bool) : (s.complete h op tag w st ws lg).pending = s.pending := by
  unfold State.complete; dsimp only; repeat' split
  all_goals simp
@[simp] theorem complete_tick' (h op tag : Nat) (w : Bool) (st : Nat) (ws : List Word) (lg : Bool) : (s.complete h op tag w st ws lg).tick = s.tick := by
  unfold State.complete; dsimp only; repeat' split
  all_goals simp
@[simp] theorem complete_sub' (h op tag : Nat) (w : Bool) (st : Nat) (ws : List Word) (lg : Bool) : (s.complete h op tag w st ws lg).sub = s.sub := by
  unfold State.complete; dsimp only; repeat' split
  all_goals simp
@[simp] theorem complete_provisioned' (h op tag : Nat) (w : Bool) (st : Nat) (ws : List Word) (lg : Bool) : (s.complete h op tag w st ws lg).provisioned = s.provisioned := by
  unfold State.complete; dsimp only; repeat' split
  all_goals simp
@[simp] theorem complete_free' (h op tag : Nat) (w : Bool) (st : Nat) (ws : List Word) (lg : Bool) : (s.complete h op tag w st ws lg).free = s.free := by
  unfold State.complete; dsimp only; repeat' split
  all_goals simp
@[simp] theorem complete_regs' (h op tag : Nat) (w : Bool) (st : Nat) (ws : List Word) (lg : Bool) : (s.complete h op tag w st ws lg).regs = s.regs := by
  unfold State.complete; dsimp only; repeat' split
  all_goals simp
@[simp] theorem complete_applied' (h op tag : Nat) (w : Bool) (st : Nat) (ws : List Word) (lg : Bool) : (s.complete h op tag w st ws lg).applied = s.applied := by
  unfold State.complete; dsimp only; repeat' split
  all_goals simp
@[simp] theorem complete_mem' (h op tag : Nat) (w : Bool) (st : Nat) (ws : List Word) (lg : Bool) : (s.complete h op tag w st ws lg).mem = s.mem := by
  unfold State.complete; dsimp only; repeat' split
  all_goals simp
@[simp] theorem complete_turn' (h op tag : Nat) (w : Bool) (st : Nat) (ws : List Word) (lg : Bool) : (s.complete h op tag w st ws lg).turn = s.turn := by
  unfold State.complete; dsimp only; repeat' split
  all_goals simp
@[simp] theorem complete_sessionNo' (h op tag : Nat) (w : Bool) (st : Nat) (ws : List Word) (lg : Bool) : (s.complete h op tag w st ws lg).sessionNo = s.sessionNo := by
  unfold State.complete; dsimp only; repeat' split
  all_goals simp
@[simp] theorem complete_out' (h op tag : Nat) (w : Bool) (st : Nat) (ws : List Word) (lg : Bool) : (s.complete h op tag w st ws lg).out = s.out := by
  unfold State.complete; dsimp only; repeat' split
  all_goals simp
@[simp] theorem complete_log' (h op tag : Nat) (w : Bool) (st : Nat) (ws : List Word) (lg : Bool) : (s.complete h op tag w st ws lg).log = s.log := by
  unfold State.complete; dsimp only; repeat' split
  all_goals simp
@[simp] theorem complete_logSat' (h op tag : Nat) (w : Bool) (st : Nat) (ws : List Word) (lg : Bool) : (s.complete h op tag w st ws lg).logSat = s.logSat := by
  unfold State.complete; dsimp only; repeat' split
  all_goals simp
@[simp] theorem complete_fenced' (h op tag : Nat) (w : Bool) (st : Nat) (ws : List Word) (lg : Bool) : (s.complete h op tag w st ws lg).fenced = s.fenced := by
  unfold State.complete; dsimp only; repeat' split
  all_goals simp
@[simp] theorem complete_runs' (h op tag : Nat) (w : Bool) (st : Nat) (ws : List Word) (lg : Bool) : (s.complete h op tag w st ws lg).runs = s.runs := by
  unfold State.complete; dsimp only; repeat' split
  all_goals simp
@[simp] theorem complete_check' (h op tag : Nat) (w : Bool) (st : Nat) (ws : List Word) (lg : Bool) : (s.complete h op tag w st ws lg).check = s.check := by
  unfold State.complete; dsimp only; repeat' split
  all_goals simp
@[simp] theorem complete_snap' (h op tag : Nat) (w : Bool) (st : Nat) (ws : List Word) (lg : Bool) : (s.complete h op tag w st ws lg).snap = s.snap := by
  unfold State.complete; dsimp only; repeat' split
  all_goals simp
@[simp] theorem complete_groups' (h op tag : Nat) (w : Bool) (st : Nat) (ws : List Word) (lg : Bool) : (s.complete h op tag w st ws lg).groups = s.groups := by
  unfold State.complete; dsimp only; repeat' split
  all_goals simp
@[simp] theorem complete_srcs' (h op tag : Nat) (w : Bool) (st : Nat) (ws : List Word) (lg : Bool) : (s.complete h op tag w st ws lg).srcs = s.srcs := by
  unfold State.complete; dsimp only; repeat' split
  all_goals simp
@[simp] theorem complete_sluices' (h op tag : Nat) (w : Bool) (st : Nat) (ws : List Word) (lg : Bool) : (s.complete h op tag w st ws lg).sluices = s.sluices := by
  unfold State.complete; dsimp only; repeat' split
  all_goals simp
@[simp] theorem complete_pins' (h op tag : Nat) (w : Bool) (st : Nat) (ws : List Word) (lg : Bool) : (s.complete h op tag w st ws lg).pins = s.pins := by
  unfold State.complete; dsimp only; repeat' split
  all_goals simp
@[simp] theorem complete_evq' (h op tag : Nat) (w : Bool) (st : Nat) (ws : List Word) (lg : Bool) : (s.complete h op tag w st ws lg).evq = s.evq := by
  unfold State.complete; dsimp only; repeat' split
  all_goals simp
@[simp] theorem complete_wave' (h op tag : Nat) (w : Bool) (st : Nat) (ws : List Word) (lg : Bool) : (s.complete h op tag w st ws lg).wave = s.wave := by
  unfold State.complete; dsimp only; repeat' split
  all_goals simp
@[simp] theorem complete_jobs' (h op tag : Nat) (w : Bool) (st : Nat) (ws : List Word) (lg : Bool) : (s.complete h op tag w st ws lg).jobs = s.jobs := by
  unfold State.complete; dsimp only; repeat' split
  all_goals simp
@[simp] theorem complete_chans' (h op tag : Nat) (w : Bool) (st : Nat) (ws : List Word) (lg : Bool) : (s.complete h op tag w st ws lg).chans = s.chans := by
  unfold State.complete; dsimp only; repeat' split
  all_goals simp
@[simp] theorem complete_ports' (h op tag : Nat) (w : Bool) (st : Nat) (ws : List Word) (lg : Bool) : (s.complete h op tag w st ws lg).ports = s.ports := by
  unfold State.complete; dsimp only; repeat' split
  all_goals simp
@[simp] theorem complete_afe' (h op tag : Nat) (w : Bool) (st : Nat) (ws : List Word) (lg : Bool) : (s.complete h op tag w st ws lg).afe = s.afe := by
  unfold State.complete; dsimp only; repeat' split
  all_goals simp
@[simp] theorem complete_twr' (h op tag : Nat) (w : Bool) (st : Nat) (ws : List Word) (lg : Bool) : (s.complete h op tag w st ws lg).twr = s.twr := by
  unfold State.complete; dsimp only; repeat' split
  all_goals simp
@[simp] theorem complete_cry' (h op tag : Nat) (w : Bool) (st : Nat) (ws : List Word) (lg : Bool) : (s.complete h op tag w st ws lg).cry = s.cry := by
  unfold State.complete; dsimp only; repeat' split
  all_goals simp
@[simp] theorem complete_svc' (h op tag : Nat) (w : Bool) (st : Nat) (ws : List Word) (lg : Bool) : (s.complete h op tag w st ws lg).svc = s.svc := by
  unfold State.complete; dsimp only; repeat' split
  all_goals simp
@[simp] theorem complete_pan' (h op tag : Nat) (w : Bool) (st : Nat) (ws : List Word) (lg : Bool) : (s.complete h op tag w st ws lg).pan = s.pan := by
  unfold State.complete; dsimp only; repeat' split
  all_goals simp
@[simp] theorem complete_time' (h op tag : Nat) (w : Bool) (st : Nat) (ws : List Word) (lg : Bool) : (s.complete h op tag w st ws lg).time = s.time := by
  unfold State.complete; dsimp only; repeat' split
  all_goals simp
@[simp] theorem complete_launches' (h op tag : Nat) (w : Bool) (st : Nat) (ws : List Word) (lg : Bool) : (s.complete h op tag w st ws lg).launches = s.launches := by
  unfold State.complete; dsimp only; repeat' split
  all_goals simp
@[simp] theorem complete_timers' (h op tag : Nat) (w : Bool) (st : Nat) (ws : List Word) (lg : Bool) : (s.complete h op tag w st ws lg).timers = s.timers := by
  unfold State.complete; dsimp only; repeat' split
  all_goals simp
@[simp] theorem complete_slt' (h op tag : Nat) (w : Bool) (st : Nat) (ws : List Word) (lg : Bool) : (s.complete h op tag w st ws lg).slt = s.slt := by
  unfold State.complete; dsimp only; repeat' split
  all_goals simp
@[simp] theorem complete_rf' (h op tag : Nat) (w : Bool) (st : Nat) (ws : List Word) (lg : Bool) : (s.complete h op tag w st ws lg).rf = s.rf := by
  unfold State.complete; dsimp only; repeat' split
  all_goals simp
@[simp] theorem complete_doms' (h op tag : Nat) (w : Bool) (st : Nat) (ws : List Word) (lg : Bool) : (s.complete h op tag w st ws lg).doms = s.doms := by
  unfold State.complete; dsimp only; repeat' split
  all_goals simp
@[simp] theorem complete_ldg' (h op tag : Nat) (w : Bool) (st : Nat) (ws : List Word) (lg : Bool) : (s.complete h op tag w st ws lg).ldg = s.ldg := by
  unfold State.complete; dsimp only; repeat' split
  all_goals simp
@[simp] theorem complete_pln' (h op tag : Nat) (w : Bool) (st : Nat) (ws : List Word) (lg : Bool) : (s.complete h op tag w st ws lg).pln = s.pln := by
  unfold State.complete; dsimp only; repeat' split
  all_goals simp
@[simp] theorem complete_store' (h op tag : Nat) (w : Bool) (st : Nat) (ws : List Word) (lg : Bool) : (s.complete h op tag w st ws lg).store = s.store := by
  unfold State.complete; dsimp only; repeat' split
  all_goals simp
@[simp] theorem complete_life' (h op tag : Nat) (w : Bool) (st : Nat) (ws : List Word) (lg : Bool) : (s.complete h op tag w st ws lg).life = s.life := by
  unfold State.complete; dsimp only; repeat' split
  all_goals simp
@[simp] theorem complete_cal' (h op tag : Nat) (w : Bool) (st : Nat) (ws : List Word) (lg : Bool) : (s.complete h op tag w st ws lg).cal = s.cal := by
  unfold State.complete; dsimp only; repeat' split
  all_goals simp
@[simp] theorem complete_pwr' (h op tag : Nat) (w : Bool) (st : Nat) (ws : List Word) (lg : Bool) : (s.complete h op tag w st ws lg).pwr = s.pwr := by
  unfold State.complete; dsimp only; repeat' split
  all_goals simp

/-! ### `releaseHeld` writes only `hosts`, `targets`, `hp1Ibi` -/

@[simp] theorem releaseHeld_pending' (h : Nat) : (s.releaseHeld h).pending = s.pending := by
  unfold State.releaseHeld; repeat' split
  all_goals simp
@[simp] theorem releaseHeld_tick' (h : Nat) : (s.releaseHeld h).tick = s.tick := by
  unfold State.releaseHeld; repeat' split
  all_goals simp
@[simp] theorem releaseHeld_sub' (h : Nat) : (s.releaseHeld h).sub = s.sub := by
  unfold State.releaseHeld; repeat' split
  all_goals simp
@[simp] theorem releaseHeld_provisioned' (h : Nat) : (s.releaseHeld h).provisioned = s.provisioned := by
  unfold State.releaseHeld; repeat' split
  all_goals simp
@[simp] theorem releaseHeld_free' (h : Nat) : (s.releaseHeld h).free = s.free := by
  unfold State.releaseHeld; repeat' split
  all_goals simp
@[simp] theorem releaseHeld_regs' (h : Nat) : (s.releaseHeld h).regs = s.regs := by
  unfold State.releaseHeld; repeat' split
  all_goals simp
@[simp] theorem releaseHeld_applied' (h : Nat) : (s.releaseHeld h).applied = s.applied := by
  unfold State.releaseHeld; repeat' split
  all_goals simp
@[simp] theorem releaseHeld_mem' (h : Nat) : (s.releaseHeld h).mem = s.mem := by
  unfold State.releaseHeld; repeat' split
  all_goals simp
@[simp] theorem releaseHeld_turn' (h : Nat) : (s.releaseHeld h).turn = s.turn := by
  unfold State.releaseHeld; repeat' split
  all_goals simp
@[simp] theorem releaseHeld_sessionNo' (h : Nat) : (s.releaseHeld h).sessionNo = s.sessionNo := by
  unfold State.releaseHeld; repeat' split
  all_goals simp
@[simp] theorem releaseHeld_out' (h : Nat) : (s.releaseHeld h).out = s.out := by
  unfold State.releaseHeld; repeat' split
  all_goals simp
@[simp] theorem releaseHeld_log' (h : Nat) : (s.releaseHeld h).log = s.log := by
  unfold State.releaseHeld; repeat' split
  all_goals simp
@[simp] theorem releaseHeld_logSat' (h : Nat) : (s.releaseHeld h).logSat = s.logSat := by
  unfold State.releaseHeld; repeat' split
  all_goals simp
@[simp] theorem releaseHeld_fenced' (h : Nat) : (s.releaseHeld h).fenced = s.fenced := by
  unfold State.releaseHeld; repeat' split
  all_goals simp
@[simp] theorem releaseHeld_runs' (h : Nat) : (s.releaseHeld h).runs = s.runs := by
  unfold State.releaseHeld; repeat' split
  all_goals simp
@[simp] theorem releaseHeld_check' (h : Nat) : (s.releaseHeld h).check = s.check := by
  unfold State.releaseHeld; repeat' split
  all_goals simp
@[simp] theorem releaseHeld_snap' (h : Nat) : (s.releaseHeld h).snap = s.snap := by
  unfold State.releaseHeld; repeat' split
  all_goals simp
@[simp] theorem releaseHeld_groups' (h : Nat) : (s.releaseHeld h).groups = s.groups := by
  unfold State.releaseHeld; repeat' split
  all_goals simp
@[simp] theorem releaseHeld_srcs' (h : Nat) : (s.releaseHeld h).srcs = s.srcs := by
  unfold State.releaseHeld; repeat' split
  all_goals simp
@[simp] theorem releaseHeld_sluices' (h : Nat) : (s.releaseHeld h).sluices = s.sluices := by
  unfold State.releaseHeld; repeat' split
  all_goals simp
@[simp] theorem releaseHeld_pins' (h : Nat) : (s.releaseHeld h).pins = s.pins := by
  unfold State.releaseHeld; repeat' split
  all_goals simp
@[simp] theorem releaseHeld_evq' (h : Nat) : (s.releaseHeld h).evq = s.evq := by
  unfold State.releaseHeld; repeat' split
  all_goals simp
@[simp] theorem releaseHeld_wave' (h : Nat) : (s.releaseHeld h).wave = s.wave := by
  unfold State.releaseHeld; repeat' split
  all_goals simp
@[simp] theorem releaseHeld_jobs' (h : Nat) : (s.releaseHeld h).jobs = s.jobs := by
  unfold State.releaseHeld; repeat' split
  all_goals simp
@[simp] theorem releaseHeld_chans' (h : Nat) : (s.releaseHeld h).chans = s.chans := by
  unfold State.releaseHeld; repeat' split
  all_goals simp
@[simp] theorem releaseHeld_ports' (h : Nat) : (s.releaseHeld h).ports = s.ports := by
  unfold State.releaseHeld; repeat' split
  all_goals simp
@[simp] theorem releaseHeld_afe' (h : Nat) : (s.releaseHeld h).afe = s.afe := by
  unfold State.releaseHeld; repeat' split
  all_goals simp
@[simp] theorem releaseHeld_twr' (h : Nat) : (s.releaseHeld h).twr = s.twr := by
  unfold State.releaseHeld; repeat' split
  all_goals simp
@[simp] theorem releaseHeld_cry' (h : Nat) : (s.releaseHeld h).cry = s.cry := by
  unfold State.releaseHeld; repeat' split
  all_goals simp
@[simp] theorem releaseHeld_svc' (h : Nat) : (s.releaseHeld h).svc = s.svc := by
  unfold State.releaseHeld; repeat' split
  all_goals simp
@[simp] theorem releaseHeld_pan' (h : Nat) : (s.releaseHeld h).pan = s.pan := by
  unfold State.releaseHeld; repeat' split
  all_goals simp
@[simp] theorem releaseHeld_time' (h : Nat) : (s.releaseHeld h).time = s.time := by
  unfold State.releaseHeld; repeat' split
  all_goals simp
@[simp] theorem releaseHeld_launches' (h : Nat) : (s.releaseHeld h).launches = s.launches := by
  unfold State.releaseHeld; repeat' split
  all_goals simp
@[simp] theorem releaseHeld_timers' (h : Nat) : (s.releaseHeld h).timers = s.timers := by
  unfold State.releaseHeld; repeat' split
  all_goals simp
@[simp] theorem releaseHeld_slt' (h : Nat) : (s.releaseHeld h).slt = s.slt := by
  unfold State.releaseHeld; repeat' split
  all_goals simp
@[simp] theorem releaseHeld_rf' (h : Nat) : (s.releaseHeld h).rf = s.rf := by
  unfold State.releaseHeld; repeat' split
  all_goals simp
@[simp] theorem releaseHeld_doms' (h : Nat) : (s.releaseHeld h).doms = s.doms := by
  unfold State.releaseHeld; repeat' split
  all_goals simp
@[simp] theorem releaseHeld_ldg' (h : Nat) : (s.releaseHeld h).ldg = s.ldg := by
  unfold State.releaseHeld; repeat' split
  all_goals simp
@[simp] theorem releaseHeld_pln' (h : Nat) : (s.releaseHeld h).pln = s.pln := by
  unfold State.releaseHeld; repeat' split
  all_goals simp
@[simp] theorem releaseHeld_store' (h : Nat) : (s.releaseHeld h).store = s.store := by
  unfold State.releaseHeld; repeat' split
  all_goals simp
@[simp] theorem releaseHeld_life' (h : Nat) : (s.releaseHeld h).life = s.life := by
  unfold State.releaseHeld; repeat' split
  all_goals simp
@[simp] theorem releaseHeld_cal' (h : Nat) : (s.releaseHeld h).cal = s.cal := by
  unfold State.releaseHeld; repeat' split
  all_goals simp
@[simp] theorem releaseHeld_pwr' (h : Nat) : (s.releaseHeld h).pwr = s.pwr := by
  unfold State.releaseHeld; repeat' split
  all_goals simp

/-! ### `endQuiet` writes only `ldg` -/

@[simp] theorem endQuiet_pending' (d : Nat) : (s.endQuiet d).pending = s.pending := by
  simp [State.endQuiet]
@[simp] theorem endQuiet_tick' (d : Nat) : (s.endQuiet d).tick = s.tick := by
  simp [State.endQuiet]
@[simp] theorem endQuiet_sub' (d : Nat) : (s.endQuiet d).sub = s.sub := by
  simp [State.endQuiet]
@[simp] theorem endQuiet_provisioned' (d : Nat) : (s.endQuiet d).provisioned = s.provisioned := by
  simp [State.endQuiet]
@[simp] theorem endQuiet_free' (d : Nat) : (s.endQuiet d).free = s.free := by
  simp [State.endQuiet]
@[simp] theorem endQuiet_regs' (d : Nat) : (s.endQuiet d).regs = s.regs := by
  simp [State.endQuiet]
@[simp] theorem endQuiet_applied' (d : Nat) : (s.endQuiet d).applied = s.applied := by
  simp [State.endQuiet]
@[simp] theorem endQuiet_mem' (d : Nat) : (s.endQuiet d).mem = s.mem := by
  simp [State.endQuiet]
@[simp] theorem endQuiet_hosts' (d : Nat) : (s.endQuiet d).hosts = s.hosts := by
  simp [State.endQuiet]
@[simp] theorem endQuiet_turn' (d : Nat) : (s.endQuiet d).turn = s.turn := by
  simp [State.endQuiet]
@[simp] theorem endQuiet_sessionNo' (d : Nat) : (s.endQuiet d).sessionNo = s.sessionNo := by
  simp [State.endQuiet]
@[simp] theorem endQuiet_out' (d : Nat) : (s.endQuiet d).out = s.out := by
  simp [State.endQuiet]
@[simp] theorem endQuiet_hp1Ibi' (d : Nat) : (s.endQuiet d).hp1Ibi = s.hp1Ibi := by
  simp [State.endQuiet]
@[simp] theorem endQuiet_log' (d : Nat) : (s.endQuiet d).log = s.log := by
  simp [State.endQuiet]
@[simp] theorem endQuiet_logSat' (d : Nat) : (s.endQuiet d).logSat = s.logSat := by
  simp [State.endQuiet]
@[simp] theorem endQuiet_fenced' (d : Nat) : (s.endQuiet d).fenced = s.fenced := by
  simp [State.endQuiet]
@[simp] theorem endQuiet_runs' (d : Nat) : (s.endQuiet d).runs = s.runs := by
  simp [State.endQuiet]
@[simp] theorem endQuiet_check' (d : Nat) : (s.endQuiet d).check = s.check := by
  simp [State.endQuiet]
@[simp] theorem endQuiet_snap' (d : Nat) : (s.endQuiet d).snap = s.snap := by
  simp [State.endQuiet]
@[simp] theorem endQuiet_groups' (d : Nat) : (s.endQuiet d).groups = s.groups := by
  simp [State.endQuiet]
@[simp] theorem endQuiet_targets' (d : Nat) : (s.endQuiet d).targets = s.targets := by
  simp [State.endQuiet]
@[simp] theorem endQuiet_srcs' (d : Nat) : (s.endQuiet d).srcs = s.srcs := by
  simp [State.endQuiet]
@[simp] theorem endQuiet_sluices' (d : Nat) : (s.endQuiet d).sluices = s.sluices := by
  simp [State.endQuiet]
@[simp] theorem endQuiet_pins' (d : Nat) : (s.endQuiet d).pins = s.pins := by
  simp [State.endQuiet]
@[simp] theorem endQuiet_evq' (d : Nat) : (s.endQuiet d).evq = s.evq := by
  simp [State.endQuiet]
@[simp] theorem endQuiet_wave' (d : Nat) : (s.endQuiet d).wave = s.wave := by
  simp [State.endQuiet]
@[simp] theorem endQuiet_jobs' (d : Nat) : (s.endQuiet d).jobs = s.jobs := by
  simp [State.endQuiet]
@[simp] theorem endQuiet_chans' (d : Nat) : (s.endQuiet d).chans = s.chans := by
  simp [State.endQuiet]
@[simp] theorem endQuiet_ports' (d : Nat) : (s.endQuiet d).ports = s.ports := by
  simp [State.endQuiet]
@[simp] theorem endQuiet_afe' (d : Nat) : (s.endQuiet d).afe = s.afe := by
  simp [State.endQuiet]
@[simp] theorem endQuiet_twr' (d : Nat) : (s.endQuiet d).twr = s.twr := by
  simp [State.endQuiet]
@[simp] theorem endQuiet_cry' (d : Nat) : (s.endQuiet d).cry = s.cry := by
  simp [State.endQuiet]
@[simp] theorem endQuiet_svc' (d : Nat) : (s.endQuiet d).svc = s.svc := by
  simp [State.endQuiet]
@[simp] theorem endQuiet_pan' (d : Nat) : (s.endQuiet d).pan = s.pan := by
  simp [State.endQuiet]
@[simp] theorem endQuiet_time' (d : Nat) : (s.endQuiet d).time = s.time := by
  simp [State.endQuiet]
@[simp] theorem endQuiet_launches' (d : Nat) : (s.endQuiet d).launches = s.launches := by
  simp [State.endQuiet]
@[simp] theorem endQuiet_timers' (d : Nat) : (s.endQuiet d).timers = s.timers := by
  simp [State.endQuiet]
@[simp] theorem endQuiet_slt' (d : Nat) : (s.endQuiet d).slt = s.slt := by
  simp [State.endQuiet]
@[simp] theorem endQuiet_rf' (d : Nat) : (s.endQuiet d).rf = s.rf := by
  simp [State.endQuiet]
@[simp] theorem endQuiet_doms' (d : Nat) : (s.endQuiet d).doms = s.doms := by
  simp [State.endQuiet]
@[simp] theorem endQuiet_pln' (d : Nat) : (s.endQuiet d).pln = s.pln := by
  simp [State.endQuiet]
@[simp] theorem endQuiet_store' (d : Nat) : (s.endQuiet d).store = s.store := by
  simp [State.endQuiet]
@[simp] theorem endQuiet_life' (d : Nat) : (s.endQuiet d).life = s.life := by
  simp [State.endQuiet]
@[simp] theorem endQuiet_cal' (d : Nat) : (s.endQuiet d).cal = s.cal := by
  simp [State.endQuiet]
@[simp] theorem endQuiet_pwr' (d : Nat) : (s.endQuiet d).pwr = s.pwr := by
  simp [State.endQuiet]

/-! ### `tallyAdd` writes only `ldg` -/

@[simp] theorem tallyAdd_pending' (c k d n : Nat) : (s.tallyAdd c k d n).pending = s.pending := by
  unfold State.tallyAdd; split <;> simp
@[simp] theorem tallyAdd_tick' (c k d n : Nat) : (s.tallyAdd c k d n).tick = s.tick := by
  unfold State.tallyAdd; split <;> simp
@[simp] theorem tallyAdd_sub' (c k d n : Nat) : (s.tallyAdd c k d n).sub = s.sub := by
  unfold State.tallyAdd; split <;> simp
@[simp] theorem tallyAdd_provisioned' (c k d n : Nat) : (s.tallyAdd c k d n).provisioned = s.provisioned := by
  unfold State.tallyAdd; split <;> simp
@[simp] theorem tallyAdd_free' (c k d n : Nat) : (s.tallyAdd c k d n).free = s.free := by
  unfold State.tallyAdd; split <;> simp
@[simp] theorem tallyAdd_regs' (c k d n : Nat) : (s.tallyAdd c k d n).regs = s.regs := by
  unfold State.tallyAdd; split <;> simp
@[simp] theorem tallyAdd_applied' (c k d n : Nat) : (s.tallyAdd c k d n).applied = s.applied := by
  unfold State.tallyAdd; split <;> simp
@[simp] theorem tallyAdd_mem' (c k d n : Nat) : (s.tallyAdd c k d n).mem = s.mem := by
  unfold State.tallyAdd; split <;> simp
@[simp] theorem tallyAdd_hosts' (c k d n : Nat) : (s.tallyAdd c k d n).hosts = s.hosts := by
  unfold State.tallyAdd; split <;> simp
@[simp] theorem tallyAdd_turn' (c k d n : Nat) : (s.tallyAdd c k d n).turn = s.turn := by
  unfold State.tallyAdd; split <;> simp
@[simp] theorem tallyAdd_sessionNo' (c k d n : Nat) : (s.tallyAdd c k d n).sessionNo = s.sessionNo := by
  unfold State.tallyAdd; split <;> simp
@[simp] theorem tallyAdd_out' (c k d n : Nat) : (s.tallyAdd c k d n).out = s.out := by
  unfold State.tallyAdd; split <;> simp
@[simp] theorem tallyAdd_hp1Ibi' (c k d n : Nat) : (s.tallyAdd c k d n).hp1Ibi = s.hp1Ibi := by
  unfold State.tallyAdd; split <;> simp
@[simp] theorem tallyAdd_log' (c k d n : Nat) : (s.tallyAdd c k d n).log = s.log := by
  unfold State.tallyAdd; split <;> simp
@[simp] theorem tallyAdd_logSat' (c k d n : Nat) : (s.tallyAdd c k d n).logSat = s.logSat := by
  unfold State.tallyAdd; split <;> simp
@[simp] theorem tallyAdd_fenced' (c k d n : Nat) : (s.tallyAdd c k d n).fenced = s.fenced := by
  unfold State.tallyAdd; split <;> simp
@[simp] theorem tallyAdd_runs' (c k d n : Nat) : (s.tallyAdd c k d n).runs = s.runs := by
  unfold State.tallyAdd; split <;> simp
@[simp] theorem tallyAdd_check' (c k d n : Nat) : (s.tallyAdd c k d n).check = s.check := by
  unfold State.tallyAdd; split <;> simp
@[simp] theorem tallyAdd_snap' (c k d n : Nat) : (s.tallyAdd c k d n).snap = s.snap := by
  unfold State.tallyAdd; split <;> simp
@[simp] theorem tallyAdd_groups' (c k d n : Nat) : (s.tallyAdd c k d n).groups = s.groups := by
  unfold State.tallyAdd; split <;> simp
@[simp] theorem tallyAdd_targets' (c k d n : Nat) : (s.tallyAdd c k d n).targets = s.targets := by
  unfold State.tallyAdd; split <;> simp
@[simp] theorem tallyAdd_srcs' (c k d n : Nat) : (s.tallyAdd c k d n).srcs = s.srcs := by
  unfold State.tallyAdd; split <;> simp
@[simp] theorem tallyAdd_sluices' (c k d n : Nat) : (s.tallyAdd c k d n).sluices = s.sluices := by
  unfold State.tallyAdd; split <;> simp
@[simp] theorem tallyAdd_pins' (c k d n : Nat) : (s.tallyAdd c k d n).pins = s.pins := by
  unfold State.tallyAdd; split <;> simp
@[simp] theorem tallyAdd_evq' (c k d n : Nat) : (s.tallyAdd c k d n).evq = s.evq := by
  unfold State.tallyAdd; split <;> simp
@[simp] theorem tallyAdd_wave' (c k d n : Nat) : (s.tallyAdd c k d n).wave = s.wave := by
  unfold State.tallyAdd; split <;> simp
@[simp] theorem tallyAdd_jobs' (c k d n : Nat) : (s.tallyAdd c k d n).jobs = s.jobs := by
  unfold State.tallyAdd; split <;> simp
@[simp] theorem tallyAdd_chans' (c k d n : Nat) : (s.tallyAdd c k d n).chans = s.chans := by
  unfold State.tallyAdd; split <;> simp
@[simp] theorem tallyAdd_ports' (c k d n : Nat) : (s.tallyAdd c k d n).ports = s.ports := by
  unfold State.tallyAdd; split <;> simp
@[simp] theorem tallyAdd_afe' (c k d n : Nat) : (s.tallyAdd c k d n).afe = s.afe := by
  unfold State.tallyAdd; split <;> simp
@[simp] theorem tallyAdd_twr' (c k d n : Nat) : (s.tallyAdd c k d n).twr = s.twr := by
  unfold State.tallyAdd; split <;> simp
@[simp] theorem tallyAdd_cry' (c k d n : Nat) : (s.tallyAdd c k d n).cry = s.cry := by
  unfold State.tallyAdd; split <;> simp
@[simp] theorem tallyAdd_svc' (c k d n : Nat) : (s.tallyAdd c k d n).svc = s.svc := by
  unfold State.tallyAdd; split <;> simp
@[simp] theorem tallyAdd_pan' (c k d n : Nat) : (s.tallyAdd c k d n).pan = s.pan := by
  unfold State.tallyAdd; split <;> simp
@[simp] theorem tallyAdd_time' (c k d n : Nat) : (s.tallyAdd c k d n).time = s.time := by
  unfold State.tallyAdd; split <;> simp
@[simp] theorem tallyAdd_launches' (c k d n : Nat) : (s.tallyAdd c k d n).launches = s.launches := by
  unfold State.tallyAdd; split <;> simp
@[simp] theorem tallyAdd_timers' (c k d n : Nat) : (s.tallyAdd c k d n).timers = s.timers := by
  unfold State.tallyAdd; split <;> simp
@[simp] theorem tallyAdd_slt' (c k d n : Nat) : (s.tallyAdd c k d n).slt = s.slt := by
  unfold State.tallyAdd; split <;> simp
@[simp] theorem tallyAdd_rf' (c k d n : Nat) : (s.tallyAdd c k d n).rf = s.rf := by
  unfold State.tallyAdd; split <;> simp
@[simp] theorem tallyAdd_doms' (c k d n : Nat) : (s.tallyAdd c k d n).doms = s.doms := by
  unfold State.tallyAdd; split <;> simp
@[simp] theorem tallyAdd_pln' (c k d n : Nat) : (s.tallyAdd c k d n).pln = s.pln := by
  unfold State.tallyAdd; split <;> simp
@[simp] theorem tallyAdd_store' (c k d n : Nat) : (s.tallyAdd c k d n).store = s.store := by
  unfold State.tallyAdd; split <;> simp
@[simp] theorem tallyAdd_life' (c k d n : Nat) : (s.tallyAdd c k d n).life = s.life := by
  unfold State.tallyAdd; split <;> simp
@[simp] theorem tallyAdd_cal' (c k d n : Nat) : (s.tallyAdd c k d n).cal = s.cal := by
  unfold State.tallyAdd; split <;> simp
@[simp] theorem tallyAdd_pwr' (c k d n : Nat) : (s.tallyAdd c k d n).pwr = s.pwr := by
  unfold State.tallyAdd; split <;> simp

/-! ### `clearMem` writes only `mem` -/

@[simp] theorem clearMem_pending' (a b : Nat) : (s.clearMem a b).pending = s.pending := by
  rfl
@[simp] theorem clearMem_tick' (a b : Nat) : (s.clearMem a b).tick = s.tick := by
  rfl
@[simp] theorem clearMem_sub' (a b : Nat) : (s.clearMem a b).sub = s.sub := by
  rfl
@[simp] theorem clearMem_provisioned' (a b : Nat) : (s.clearMem a b).provisioned = s.provisioned := by
  rfl
@[simp] theorem clearMem_free' (a b : Nat) : (s.clearMem a b).free = s.free := by
  rfl
@[simp] theorem clearMem_regs' (a b : Nat) : (s.clearMem a b).regs = s.regs := by
  rfl
@[simp] theorem clearMem_applied' (a b : Nat) : (s.clearMem a b).applied = s.applied := by
  rfl
@[simp] theorem clearMem_hosts' (a b : Nat) : (s.clearMem a b).hosts = s.hosts := by
  rfl
@[simp] theorem clearMem_turn' (a b : Nat) : (s.clearMem a b).turn = s.turn := by
  rfl
@[simp] theorem clearMem_sessionNo' (a b : Nat) : (s.clearMem a b).sessionNo = s.sessionNo := by
  rfl
@[simp] theorem clearMem_out' (a b : Nat) : (s.clearMem a b).out = s.out := by
  rfl
@[simp] theorem clearMem_hp1Ibi' (a b : Nat) : (s.clearMem a b).hp1Ibi = s.hp1Ibi := by
  rfl
@[simp] theorem clearMem_log' (a b : Nat) : (s.clearMem a b).log = s.log := by
  rfl
@[simp] theorem clearMem_logSat' (a b : Nat) : (s.clearMem a b).logSat = s.logSat := by
  rfl
@[simp] theorem clearMem_fenced' (a b : Nat) : (s.clearMem a b).fenced = s.fenced := by
  rfl
@[simp] theorem clearMem_runs' (a b : Nat) : (s.clearMem a b).runs = s.runs := by
  rfl
@[simp] theorem clearMem_check' (a b : Nat) : (s.clearMem a b).check = s.check := by
  rfl
@[simp] theorem clearMem_snap' (a b : Nat) : (s.clearMem a b).snap = s.snap := by
  rfl
@[simp] theorem clearMem_groups' (a b : Nat) : (s.clearMem a b).groups = s.groups := by
  rfl
@[simp] theorem clearMem_targets' (a b : Nat) : (s.clearMem a b).targets = s.targets := by
  rfl
@[simp] theorem clearMem_srcs' (a b : Nat) : (s.clearMem a b).srcs = s.srcs := by
  rfl
@[simp] theorem clearMem_sluices' (a b : Nat) : (s.clearMem a b).sluices = s.sluices := by
  rfl
@[simp] theorem clearMem_pins' (a b : Nat) : (s.clearMem a b).pins = s.pins := by
  rfl
@[simp] theorem clearMem_evq' (a b : Nat) : (s.clearMem a b).evq = s.evq := by
  rfl
@[simp] theorem clearMem_wave' (a b : Nat) : (s.clearMem a b).wave = s.wave := by
  rfl
@[simp] theorem clearMem_jobs' (a b : Nat) : (s.clearMem a b).jobs = s.jobs := by
  rfl
@[simp] theorem clearMem_chans' (a b : Nat) : (s.clearMem a b).chans = s.chans := by
  rfl
@[simp] theorem clearMem_ports' (a b : Nat) : (s.clearMem a b).ports = s.ports := by
  rfl
@[simp] theorem clearMem_afe' (a b : Nat) : (s.clearMem a b).afe = s.afe := by
  rfl
@[simp] theorem clearMem_twr' (a b : Nat) : (s.clearMem a b).twr = s.twr := by
  rfl
@[simp] theorem clearMem_cry' (a b : Nat) : (s.clearMem a b).cry = s.cry := by
  rfl
@[simp] theorem clearMem_svc' (a b : Nat) : (s.clearMem a b).svc = s.svc := by
  rfl
@[simp] theorem clearMem_pan' (a b : Nat) : (s.clearMem a b).pan = s.pan := by
  rfl
@[simp] theorem clearMem_time' (a b : Nat) : (s.clearMem a b).time = s.time := by
  rfl
@[simp] theorem clearMem_launches' (a b : Nat) : (s.clearMem a b).launches = s.launches := by
  rfl
@[simp] theorem clearMem_timers' (a b : Nat) : (s.clearMem a b).timers = s.timers := by
  rfl
@[simp] theorem clearMem_slt' (a b : Nat) : (s.clearMem a b).slt = s.slt := by
  rfl
@[simp] theorem clearMem_rf' (a b : Nat) : (s.clearMem a b).rf = s.rf := by
  rfl
@[simp] theorem clearMem_doms' (a b : Nat) : (s.clearMem a b).doms = s.doms := by
  rfl
@[simp] theorem clearMem_ldg' (a b : Nat) : (s.clearMem a b).ldg = s.ldg := by
  rfl
@[simp] theorem clearMem_pln' (a b : Nat) : (s.clearMem a b).pln = s.pln := by
  rfl
@[simp] theorem clearMem_store' (a b : Nat) : (s.clearMem a b).store = s.store := by
  rfl
@[simp] theorem clearMem_life' (a b : Nat) : (s.clearMem a b).life = s.life := by
  rfl
@[simp] theorem clearMem_cal' (a b : Nat) : (s.clearMem a b).cal = s.cal := by
  rfl
@[simp] theorem clearMem_pwr' (a b : Nat) : (s.clearMem a b).pwr = s.pwr := by
  rfl

/-! ### Memory -/

theorem wrByte_wf (h : Tab.wf memDefault s.mem = true) (a : Nat) (b : Byte) : Tab.wf memDefault (s.wrByte a b).mem = true := Tab.wf_set h a b

theorem clearMem_wf (h : Tab.wf memDefault s.mem = true) (a b : Nat) : Tab.wf memDefault (s.clearMem a b).mem = true := Tab.wf_filter h _

theorem wrBytes_wf (h : Tab.wf memDefault s.mem = true) (a : Nat) (l : List Byte) : Tab.wf memDefault (s.wrBytes a l).mem = true := by
  induction l generalizing s a with
  | nil => exact h
  | cons b t ih => exact ih _ (wrByte_wf s h a b) (a + 1)

theorem wrWord_wf (h : Tab.wf memDefault s.mem = true) (a : Nat) (w : Word) : Tab.wf memDefault (s.wrWord a w).mem = true := wrBytes_wf s h a _

theorem wrWords_wf (h : Tab.wf memDefault s.mem = true) (a : Nat) (l : List Word) : Tab.wf memDefault (s.wrWords a l).mem = true := by
  induction l generalizing s a with
  | nil => exact h
  | cons w t ih => exact ih _ (wrWord_wf s h a w) (a + 4)

end Sys2Proof.Machine
end

