-- ==== Sys2Proof/Laws/Clock.lean ====
section
/-! SUPPORT. What a fold of operations leaves alone; the clock after a crystal tick; the lifetime record after the operations of a brownout warning. -/

namespace Sys2Proof.Machine

theorem foldl_field {α β : Type} (f : State → α → State) (g : State → β) (h : ∀ u x, g (f u x) = g u) (l : List α) (s : State) :
    g (l.foldl f s) = g s := by
  induction l generalizing s with
  | nil => rfl
  | cons a t ih => rw [List.foldl_cons, ih, h]

theorem foldl_mem {α β} {f g : β → α → β} {l : List α} (h : ∀ b, ∀ a ∈ l, f b a = g b a) (b : β) : l.foldl f b = l.foldl g b := by
  induction l generalizing b with
  | nil => rfl
  | cons x t ih => simp only [List.foldl_cons]; rw [h b x (by simp)]; exact ih (fun b a ha => h b a (by simp [ha])) _

/-- TB0: its count and the part of the tick that has passed. -/
def State.clock (s : State) : Nat × Nat := (s.tick, s.sub)

theorem tbTick_clock (s : State) (k : Nat) : (s.tbTick k).clock = s.clock := by
  unfold State.tbTick; dsimp only; split <;> rfl

theorem lifeTick_clock (s : State) : s.lifeTick.clock = s.clock := by
  unfold State.lifeTick; dsimp only; split <;> rfl

theorem wearTick_clock (s : State) : s.wearTick.clock = s.clock := by
  unfold State.wearTick; split
  · rfl
  · apply foldl_field _ State.clock; intro u x; split <;> rfl

theorem afeTick_clock (s : State) : s.afeTick.clock = s.clock := by
  unfold State.afeTick; split
  · rfl
  · apply foldl_field _ State.clock; intro u x; split
    · simp [State.clock]
    · rfl

theorem reserveWatch_clock (s : State) : s.reserveWatch.clock = s.clock := by
  unfold State.reserveWatch; split <;> rfl

theorem carryEnergy_clock (s : State) (k n : Nat) : (s.carryEnergy k n).clock = s.clock := by
  unfold State.carryEnergy; split <;> rfl

theorem senseTick_clock (s : State) (a b : Int) : (s.senseTick a b).clock = s.clock := by
  unfold State.senseTick
  extract_lets beyond s0 inc drw l
  rw [reserveWatch_clock, carryEnergy_clock, carryEnergy_clock]
  have h0 : s0.clock = s.clock := by simp only [s0]; split <;> simp [State.clock]
  exact h0

theorem crystalTick_clock (s : State) (a b : Int) : (s.crystalTick a b).clock = (s.tick + 1, 0) := by
  unfold State.crystalTick
  dsimp only
  rw [senseTick_clock, afeTick_clock, wearTick_clock, lifeTick_clock]
  rw [foldl_field _ State.clock tbTick_clock]; rfl

theorem powerDom_life (s : State) (d r : Nat) : (s.powerDom d r).life = s.life := by
  have h : ∀ u : State, (u.endQuiet d).life = u.life := fun u => rfl
  have h1 : (s.touchMeter d).life = s.life := rfl
  unfold State.powerDom
  extract_lets x s1
  have h2 : s1.life = s.life := h1
  clear_value s1 x
  split
  · rfl
  · split
    · rw [← h2, ← h s1]; rfl
    · split
      · rw [← h2]; rfl
      · exact h2

theorem rfFloor_life (s : State) : s.rfFloor.life = s.life := by
  unfold State.rfFloor State.powerRf; rw [powerDom_life]; rfl

theorem powerAfe_life (s : State) : s.powerAfe.life = s.life := by
  unfold State.powerAfe; dsimp only; rw [powerDom_life]

theorem wakeBy_life (s : State) (b : Nat) : (s.wakeBy b).life = s.life := by
  unfold State.wakeBy; split <;> rfl

end Sys2Proof.Machine
end

