-- ==== Sys2Proof/Laws/Exec.lean ====
section
/-! SUPPORT. Every command answers a next state, and what none of them moves: the queue, PROVISIONED and, the resets and the crystal tick apart, TB0's count. -/

namespace Sys2Proof.Machine

/-- The commands that may move TB0's count: those that end in a reset or may, and the crystal tick. -/
def movesClock : Instr → Bool
  | .shutdownEntry => true
  | .hostReset _ => true
  | .shutdownWake _ _ => true
  | .powerOn _ => true
  | .brownout _ => true
  | .pin _ => true
  | .watchdog _ _ => true
  | .fenceTimeout _ => true
  | .pd0Fault _ _ _ => true
  | .crystalTick _ _ => true
  | _ => false

/-- Every command changes the state by `act`, or by `actClock` where it may move TB0's count. -/
theorem exec_acts (i : Instr) (s : State) : if movesClock i then ∃ f, exec i s = actClock f s else ∃ f, exec i s = act f s := by
  cases i
  case pktWrite => refine (iff_of_eq (if_neg Bool.false_ne_true)).mpr ?_; unfold exec execPktWrite; exact ⟨_, rfl⟩
  case pktRead => refine (iff_of_eq (if_neg Bool.false_ne_true)).mpr ?_; unfold exec execPktRead; exact ⟨_, rfl⟩
  case queueStatus => refine (iff_of_eq (if_neg Bool.false_ne_true)).mpr ?_; unfold exec execQueueStatus; exact ⟨_, rfl⟩
  case memRead => refine (iff_of_eq (if_neg Bool.false_ne_true)).mpr ?_; unfold exec execMemRead; exact ⟨_, rfl⟩
  case memWrite => refine (iff_of_eq (if_neg Bool.false_ne_true)).mpr ?_; unfold exec execMemWrite; exact ⟨_, rfl⟩
  case salterTakePacket => refine (iff_of_eq (if_neg Bool.false_ne_true)).mpr ?_; unfold exec execSalterTakePacket; exact ⟨_, rfl⟩
  case chainTimeout => refine (iff_of_eq (if_neg Bool.false_ne_true)).mpr ?_; unfold exec execChainTimeout; exact ⟨_, rfl⟩
  case sysNop => refine (iff_of_eq (if_neg Bool.false_ne_true)).mpr ?_; unfold exec execSysNop runCall; exact ⟨_, rfl⟩
  case sysIdent => refine (iff_of_eq (if_neg Bool.false_ne_true)).mpr ?_; unfold exec execSysIdent runCall; exact ⟨_, rfl⟩
  case sysSessionOpen => refine (iff_of_eq (if_neg Bool.false_ne_true)).mpr ?_; unfold exec execSysSessionOpen runCall; exact ⟨_, rfl⟩
  case sysSessionClose => refine (iff_of_eq (if_neg Bool.false_ne_true)).mpr ?_; unfold exec execSysSessionClose runCall; exact ⟨_, rfl⟩
  case regRead => refine (iff_of_eq (if_neg Bool.false_ne_true)).mpr ?_; unfold exec execRegRead runCall; exact ⟨_, rfl⟩
  case regWrite => refine (iff_of_eq (if_neg Bool.false_ne_true)).mpr ?_; unfold exec execRegWrite runCall; exact ⟨_, rfl⟩
  case setHostSleep => refine (iff_of_eq (if_neg Bool.false_ne_true)).mpr ?_; unfold exec execSetHostSleep runCall; exact ⟨_, rfl⟩
  case sysFloor => refine (iff_of_eq (if_neg Bool.false_ne_true)).mpr ?_; unfold exec execSysFloor runCall; exact ⟨_, rfl⟩
  case sysShutdown => refine (iff_of_eq (if_neg Bool.false_ne_true)).mpr ?_; unfold exec execSysShutdown runCall; exact ⟨_, rfl⟩
  case shutdownEntry => refine (iff_of_eq (if_pos rfl)).mpr ?_; unfold exec execShutdownEntry; exact ⟨_, rfl⟩
  case sysReset => refine (iff_of_eq (if_neg Bool.false_ne_true)).mpr ?_; unfold exec execSysReset runCall; exact ⟨_, rfl⟩
  case hostReset => refine (iff_of_eq (if_pos rfl)).mpr ?_; unfold exec execHostReset; exact ⟨_, rfl⟩
  case cfgCommit => refine (iff_of_eq (if_neg Bool.false_ne_true)).mpr ?_; unfold exec execCfgCommit runCall; exact ⟨_, rfl⟩
  case snapshot => refine (iff_of_eq (if_neg Bool.false_ne_true)).mpr ?_; unfold exec execSnapshot runCall; exact ⟨_, rfl⟩
  case sysStatus => refine (iff_of_eq (if_neg Bool.false_ne_true)).mpr ?_; unfold exec execSysStatus runCall; exact ⟨_, rfl⟩
  case chanRead => refine (iff_of_eq (if_neg Bool.false_ne_true)).mpr ?_; unfold exec execChanRead runCall; exact ⟨_, rfl⟩
  case chanWrite => refine (iff_of_eq (if_neg Bool.false_ne_true)).mpr ?_; unfold exec execChanWrite runCall; exact ⟨_, rfl⟩
  case chanCommit => refine (iff_of_eq (if_neg Bool.false_ne_true)).mpr ?_; unfold exec execChanCommit runCall; exact ⟨_, rfl⟩
  case chanStart => refine (iff_of_eq (if_neg Bool.false_ne_true)).mpr ?_; unfold exec execChanStart runCall; exact ⟨_, rfl⟩
  case chanStop => refine (iff_of_eq (if_neg Bool.false_ne_true)).mpr ?_; unfold exec execChanStop runCall; exact ⟨_, rfl⟩
  case chanStatus => refine (iff_of_eq (if_neg Bool.false_ne_true)).mpr ?_; unfold exec execChanStatus runCall; exact ⟨_, rfl⟩
  case descriptorApply => refine (iff_of_eq (if_neg Bool.false_ne_true)).mpr ?_; unfold exec execDescriptorApply; exact ⟨_, rfl⟩
  case streamedBoundaryTimeout => refine (iff_of_eq (if_neg Bool.false_ne_true)).mpr ?_; unfold exec execStreamedBoundaryTimeout; exact ⟨_, rfl⟩
  case scriptWrite => refine (iff_of_eq (if_neg Bool.false_ne_true)).mpr ?_; unfold exec execScriptWrite runCall; exact ⟨_, rfl⟩
  case scriptRead => refine (iff_of_eq (if_neg Bool.false_ne_true)).mpr ?_; unfold exec execScriptRead runCall; exact ⟨_, rfl⟩
  case portStatus => refine (iff_of_eq (if_neg Bool.false_ne_true)).mpr ?_; unfold exec execPortStatus runCall; exact ⟨_, rfl⟩
  case tableWindowWrite => refine (iff_of_eq (if_neg Bool.false_ne_true)).mpr ?_; unfold exec execTableWindowWrite; exact ⟨_, rfl⟩
  case scriptWindowWrite => refine (iff_of_eq (if_neg Bool.false_ne_true)).mpr ?_; unfold exec execScriptWindowWrite; exact ⟨_, rfl⟩
  case seedWindowWrite => refine (iff_of_eq (if_neg Bool.false_ne_true)).mpr ?_; unfold exec execSeedWindowWrite; exact ⟨_, rfl⟩
  case acquisitionStart => refine (iff_of_eq (if_neg Bool.false_ne_true)).mpr ?_; unfold exec execAcquisitionStart; exact ⟨_, rfl⟩
  case transactionStart => refine (iff_of_eq (if_neg Bool.false_ne_true)).mpr ?_; unfold exec execTransactionStart; exact ⟨_, rfl⟩
  case attemptEnd => refine (iff_of_eq (if_neg Bool.false_ne_true)).mpr ?_; unfold exec execAttemptEnd; exact ⟨_, rfl⟩
  case retryGap => refine (iff_of_eq (if_neg Bool.false_ne_true)).mpr ?_; unfold exec execRetryGap; exact ⟨_, rfl⟩
  case postDelay => refine (iff_of_eq (if_neg Bool.false_ne_true)).mpr ?_; unfold exec execPostDelay; exact ⟨_, rfl⟩
  case busWaitTimeout => refine (iff_of_eq (if_neg Bool.false_ne_true)).mpr ?_; unfold exec execBusWaitTimeout; exact ⟨_, rfl⟩
  case foreignSelectAssert => refine (iff_of_eq (if_neg Bool.false_ne_true)).mpr ?_; unfold exec execForeignSelectAssert; exact ⟨_, rfl⟩
  case foreignSelectRelease => refine (iff_of_eq (if_neg Bool.false_ne_true)).mpr ?_; unfold exec execForeignSelectRelease; exact ⟨_, rfl⟩
  case busFree => refine (iff_of_eq (if_neg Bool.false_ne_true)).mpr ?_; unfold exec execBusFree; exact ⟨_, rfl⟩
  case targetFrame => refine (iff_of_eq (if_neg Bool.false_ne_true)).mpr ?_; unfold exec execTargetFrame; exact ⟨_, rfl⟩
  case busInitialisation => refine (iff_of_eq (if_neg Bool.false_ne_true)).mpr ?_; unfold exec execBusInitialisation; exact ⟨_, rfl⟩
  case ibi => refine (iff_of_eq (if_neg Bool.false_ne_true)).mpr ?_; unfold exec execIbi; exact ⟨_, rfl⟩
  case hotJoin => refine (iff_of_eq (if_neg Bool.false_ne_true)).mpr ?_; unfold exec execHotJoin; exact ⟨_, rfl⟩
  case stretch => refine (iff_of_eq (if_neg Bool.false_ne_true)).mpr ?_; unfold exec execStretch; exact ⟨_, rfl⟩
  case streamWatchdog => refine (iff_of_eq (if_neg Bool.false_ne_true)).mpr ?_; unfold exec execStreamWatchdog; exact ⟨_, rfl⟩
  case remotePeriodEnd => refine (iff_of_eq (if_neg Bool.false_ne_true)).mpr ?_; unfold exec execRemotePeriodEnd; exact ⟨_, rfl⟩
  case eventPinEdge => refine (iff_of_eq (if_neg Bool.false_ne_true)).mpr ?_; unfold exec execEventPinEdge; exact ⟨_, rfl⟩
  case composeStamp => refine (iff_of_eq (if_neg Bool.false_ne_true)).mpr ?_; unfold exec execComposeStamp; exact ⟨_, rfl⟩
  case preStageOutput => refine (iff_of_eq (if_neg Bool.false_ne_true)).mpr ?_; unfold exec execPreStageOutput; exact ⟨_, rfl⟩
  case afeBlankEnd => refine (iff_of_eq (if_neg Bool.false_ne_true)).mpr ?_; unfold exec execAfeBlankEnd; exact ⟨_, rfl⟩
  case excLimit => refine (iff_of_eq (if_neg Bool.false_ne_true)).mpr ?_; unfold exec execExcLimit; exact ⟨_, rfl⟩
  case excSettled => refine (iff_of_eq (if_neg Bool.false_ne_true)).mpr ?_; unfold exec execExcSettled; exact ⟨_, rfl⟩
  case engineUnit => refine (iff_of_eq (if_neg Bool.false_ne_true)).mpr ?_; unfold exec execEngineUnit; exact ⟨_, rfl⟩
  case outputHandoff => refine (iff_of_eq (if_neg Bool.false_ne_true)).mpr ?_; unfold exec execOutputHandoff; exact ⟨_, rfl⟩
  case crystalliserOutput => refine (iff_of_eq (if_neg Bool.false_ne_true)).mpr ?_; unfold exec execCrystalliserOutput; exact ⟨_, rfl⟩
  case seedCrcCheck => refine (iff_of_eq (if_neg Bool.false_ne_true)).mpr ?_; unfold exec execSeedCrcCheck; exact ⟨_, rfl⟩
  case seedWrite => refine (iff_of_eq (if_neg Bool.false_ne_true)).mpr ?_; unfold exec execSeedWrite runCall; exact ⟨_, rfl⟩
  case seedRead => refine (iff_of_eq (if_neg Bool.false_ne_true)).mpr ?_; unfold exec execSeedRead runCall; exact ⟨_, rfl⟩
  case seedArm => refine (iff_of_eq (if_neg Bool.false_ne_true)).mpr ?_; unfold exec execSeedArm runCall; exact ⟨_, rfl⟩
  case seedDisarm => refine (iff_of_eq (if_neg Bool.false_ne_true)).mpr ?_; unfold exec execSeedDisarm runCall; exact ⟨_, rfl⟩
  case seedReset => refine (iff_of_eq (if_neg Bool.false_ne_true)).mpr ?_; unfold exec execSeedReset runCall; exact ⟨_, rfl⟩
  case tplWrite => refine (iff_of_eq (if_neg Bool.false_ne_true)).mpr ?_; unfold exec execTplWrite runCall; exact ⟨_, rfl⟩
  case svcConfig => refine (iff_of_eq (if_neg Bool.false_ne_true)).mpr ?_; unfold exec execSvcConfig runCall; exact ⟨_, rfl⟩
  case svcStatus => refine (iff_of_eq (if_neg Bool.false_ne_true)).mpr ?_; unfold exec execSvcStatus runCall; exact ⟨_, rfl⟩
  case serviceInput => refine (iff_of_eq (if_neg Bool.false_ne_true)).mpr ?_; unfold exec execServiceInput; exact ⟨_, rfl⟩
  case trendPeriodEnd => refine (iff_of_eq (if_neg Bool.false_ne_true)).mpr ?_; unfold exec execTrendPeriodEnd; exact ⟨_, rfl⟩
  case wakeRequest => refine (iff_of_eq (if_neg Bool.false_ne_true)).mpr ?_; unfold exec execWakeRequest; exact ⟨_, rfl⟩
  case wakeGapEnd => refine (iff_of_eq (if_neg Bool.false_ne_true)).mpr ?_; unfold exec execWakeGapEnd; exact ⟨_, rfl⟩
  case wakeLimitHour => refine (iff_of_eq (if_neg Bool.false_ne_true)).mpr ?_; unfold exec execWakeLimitHour; exact ⟨_, rfl⟩
  case panCommit => refine (iff_of_eq (if_neg Bool.false_ne_true)).mpr ?_; unfold exec execPanCommit; exact ⟨_, rfl⟩
  case tideInterval => refine (iff_of_eq (if_neg Bool.false_ne_true)).mpr ?_; unfold exec execTideInterval; exact ⟨_, rfl⟩
  case panStreamCfg => refine (iff_of_eq (if_neg Bool.false_ne_true)).mpr ?_; unfold exec execPanStreamCfg runCall; exact ⟨_, rfl⟩
  case harvest => refine (iff_of_eq (if_neg Bool.false_ne_true)).mpr ?_; unfold exec execHarvest runCall; exact ⟨_, rfl⟩
  case panMark => refine (iff_of_eq (if_neg Bool.false_ne_true)).mpr ?_; unfold exec execPanMark runCall; exact ⟨_, rfl⟩
  case panRewind => refine (iff_of_eq (if_neg Bool.false_ne_true)).mpr ?_; unfold exec execPanRewind runCall; exact ⟨_, rfl⟩
  case panFlush => refine (iff_of_eq (if_neg Bool.false_ne_true)).mpr ?_; unfold exec execPanFlush runCall; exact ⟨_, rfl⟩
  case panStatus => refine (iff_of_eq (if_neg Bool.false_ne_true)).mpr ?_; unfold exec execPanStatus runCall; exact ⟨_, rfl⟩
  case dropPacket => refine (iff_of_eq (if_neg Bool.false_ne_true)).mpr ?_; unfold exec execDropPacket; exact ⟨_, rfl⟩
  case panRpWrite => refine (iff_of_eq (if_neg Bool.false_ne_true)).mpr ?_; unfold exec execPanRpWrite; exact ⟨_, rfl⟩
  case tbRead => refine (iff_of_eq (if_neg Bool.false_ne_true)).mpr ?_; unfold exec execTbRead runCall; exact ⟨_, rfl⟩
  case tbSet => refine (iff_of_eq (if_neg Bool.false_ne_true)).mpr ?_; unfold exec execTbSet runCall; exact ⟨_, rfl⟩
  case tbRestep => refine (iff_of_eq (if_neg Bool.false_ne_true)).mpr ?_; unfold exec execTbRestep runCall; exact ⟨_, rfl⟩
  case tbAssign => refine (iff_of_eq (if_neg Bool.false_ne_true)).mpr ?_; unfold exec execTbAssign runCall; exact ⟨_, rfl⟩
  case tbValRead => refine (iff_of_eq (if_neg Bool.false_ne_true)).mpr ?_; unfold exec execTbValRead; exact ⟨_, rfl⟩
  case capture => refine (iff_of_eq (if_neg Bool.false_ne_true)).mpr ?_; unfold exec execCapture; exact ⟨_, rfl⟩
  case captureGroupRead => refine (iff_of_eq (if_neg Bool.false_ne_true)).mpr ?_; unfold exec execCaptureGroupRead; exact ⟨_, rfl⟩
  case captureGroupTimeout => refine (iff_of_eq (if_neg Bool.false_ne_true)).mpr ?_; unfold exec execCaptureGroupTimeout; exact ⟨_, rfl⟩
  case sync => refine (iff_of_eq (if_neg Bool.false_ne_true)).mpr ?_; unfold exec execSync; exact ⟨_, rfl⟩
  case pdelayReq => refine (iff_of_eq (if_neg Bool.false_ne_true)).mpr ?_; unfold exec execPdelayReq; exact ⟨_, rfl⟩
  case pdelayResp => refine (iff_of_eq (if_neg Bool.false_ne_true)).mpr ?_; unfold exec execPdelayResp; exact ⟨_, rfl⟩
  case pdelayTimeout => refine (iff_of_eq (if_neg Bool.false_ne_true)).mpr ?_; unfold exec execPdelayTimeout; exact ⟨_, rfl⟩
  case delayReq => refine (iff_of_eq (if_neg Bool.false_ne_true)).mpr ?_; unfold exec execDelayReq; exact ⟨_, rfl⟩
  case delayResp => refine (iff_of_eq (if_neg Bool.false_ne_true)).mpr ?_; unfold exec execDelayResp; exact ⟨_, rfl⟩
  case delayRespTimeout => refine (iff_of_eq (if_neg Bool.false_ne_true)).mpr ?_; unfold exec execDelayRespTimeout; exact ⟨_, rfl⟩
  case syncSend => refine (iff_of_eq (if_neg Bool.false_ne_true)).mpr ?_; unfold exec execSyncSend; exact ⟨_, rfl⟩
  case pdelaySend => refine (iff_of_eq (if_neg Bool.false_ne_true)).mpr ?_; unfold exec execPdelaySend; exact ⟨_, rfl⟩
  case lossTimeout => refine (iff_of_eq (if_neg Bool.false_ne_true)).mpr ?_; unfold exec execLossTimeout; exact ⟨_, rfl⟩
  case lnWrite => refine (iff_of_eq (if_neg Bool.false_ne_true)).mpr ?_; unfold exec execLnWrite runCall; exact ⟨_, rfl⟩
  case lnCancel => refine (iff_of_eq (if_neg Bool.false_ne_true)).mpr ?_; unfold exec execLnCancel runCall; exact ⟨_, rfl⟩
  case lnStart => refine (iff_of_eq (if_neg Bool.false_ne_true)).mpr ?_; unfold exec execLnStart; exact ⟨_, rfl⟩
  case launchFiring => refine (iff_of_eq (if_neg Bool.false_ne_true)).mpr ?_; unfold exec execLaunchFiring; exact ⟨_, rfl⟩
  case pinPulseEnd => refine (iff_of_eq (if_neg Bool.false_ne_true)).mpr ?_; unfold exec execPinPulseEnd; exact ⟨_, rfl⟩
  case tmWrite => refine (iff_of_eq (if_neg Bool.false_ne_true)).mpr ?_; unfold exec execTmWrite runCall; exact ⟨_, rfl⟩
  case timerStart => refine (iff_of_eq (if_neg Bool.false_ne_true)).mpr ?_; unfold exec execTimerStart; exact ⟨_, rfl⟩
  case timerReset => refine (iff_of_eq (if_neg Bool.false_ne_true)).mpr ?_; unfold exec execTimerReset; exact ⟨_, rfl⟩
  case timerCapture => refine (iff_of_eq (if_neg Bool.false_ne_true)).mpr ?_; unfold exec execTimerCapture; exact ⟨_, rfl⟩
  case tmCntWrite => refine (iff_of_eq (if_neg Bool.false_ne_true)).mpr ?_; unfold exec execTmCntWrite; exact ⟨_, rfl⟩
  case timerMatch => refine (iff_of_eq (if_neg Bool.false_ne_true)).mpr ?_; unfold exec execTimerMatch; exact ⟨_, rfl⟩
  case timerEnd => refine (iff_of_eq (if_neg Bool.false_ne_true)).mpr ?_; unfold exec execTimerEnd; exact ⟨_, rfl⟩
  case calSet => refine (iff_of_eq (if_neg Bool.false_ne_true)).mpr ?_; unfold exec execCalSet runCall; exact ⟨_, rfl⟩
  case calAlarm => refine (iff_of_eq (if_neg Bool.false_ne_true)).mpr ?_; unfold exec execCalAlarm runCall; exact ⟨_, rfl⟩
  case calendarSecond => refine (iff_of_eq (if_neg Bool.false_ne_true)).mpr ?_; unfold exec execCalendarSecond; exact ⟨_, rfl⟩
  case plnMode => refine (iff_of_eq (if_neg Bool.false_ne_true)).mpr ?_; unfold exec execPlnMode runCall; exact ⟨_, rfl⟩
  case plnBudget => refine (iff_of_eq (if_neg Bool.false_ne_true)).mpr ?_; unfold exec execPlnBudget runCall; exact ⟨_, rfl⟩
  case plnReport => refine (iff_of_eq (if_neg Bool.false_ne_true)).mpr ?_; unfold exec execPlnReport runCall; exact ⟨_, rfl⟩
  case ldgRead => refine (iff_of_eq (if_neg Bool.false_ne_true)).mpr ?_; unfold exec execLdgRead runCall; exact ⟨_, rfl⟩
  case ldgStoreWrite => refine (iff_of_eq (if_neg Bool.false_ne_true)).mpr ?_; unfold exec execLdgStoreWrite; exact ⟨_, rfl⟩
  case stroke => refine (iff_of_eq (if_neg Bool.false_ne_true)).mpr ?_; unfold exec execStroke; exact ⟨_, rfl⟩
  case vbatMeasurement => refine (iff_of_eq (if_neg Bool.false_ne_true)).mpr ?_; unfold exec execVbatMeasurement; exact ⟨_, rfl⟩
  case ledgerRecalibration => refine (iff_of_eq (if_neg Bool.false_ne_true)).mpr ?_; unfold exec execLedgerRecalibration; exact ⟨_, rfl⟩
  case epochBoundary => refine (iff_of_eq (if_neg Bool.false_ne_true)).mpr ?_; unfold exec execEpochBoundary; exact ⟨_, rfl⟩
  case overspendTrip => refine (iff_of_eq (if_neg Bool.false_ne_true)).mpr ?_; unfold exec execOverspendTrip; exact ⟨_, rfl⟩
  case reserveTrip => refine (iff_of_eq (if_neg Bool.false_ne_true)).mpr ?_; unfold exec execReserveTrip; exact ⟨_, rfl⟩
  case railSlewDone => refine (iff_of_eq (if_neg Bool.false_ne_true)).mpr ?_; unfold exec execRailSlewDone; exact ⟨_, rfl⟩
  case descent => refine (iff_of_eq (if_neg Bool.false_ne_true)).mpr ?_; unfold exec execDescent; exact ⟨_, rfl⟩
  case wakeComparator => refine (iff_of_eq (if_neg Bool.false_ne_true)).mpr ?_; unfold exec execWakeComparator; exact ⟨_, rfl⟩
  case floorWake => refine (iff_of_eq (if_neg Bool.false_ne_true)).mpr ?_; unfold exec execFloorWake; exact ⟨_, rfl⟩
  case hsleepEdge => refine (iff_of_eq (if_neg Bool.false_ne_true)).mpr ?_; unfold exec execHsleepEdge; exact ⟨_, rfl⟩
  case legusWake => refine (iff_of_eq (if_neg Bool.false_ne_true)).mpr ?_; unfold exec execLegusWake; exact ⟨_, rfl⟩
  case shutdownWake => refine (iff_of_eq (if_pos rfl)).mpr ?_; unfold exec execShutdownWake; exact ⟨_, rfl⟩
  case powerOn => refine (iff_of_eq (if_pos rfl)).mpr ?_; unfold exec execPowerOn; exact ⟨_, rfl⟩
  case brownout => refine (iff_of_eq (if_pos rfl)).mpr ?_; unfold exec execBrownout; exact ⟨_, rfl⟩
  case pin => refine (iff_of_eq (if_pos rfl)).mpr ?_; unfold exec execPin; exact ⟨_, rfl⟩
  case watchdog => refine (iff_of_eq (if_pos rfl)).mpr ?_; unfold exec execWatchdog; exact ⟨_, rfl⟩
  case coldBoot => refine (iff_of_eq (if_neg Bool.false_ne_true)).mpr ?_; unfold exec execColdBoot; exact ⟨_, rfl⟩
  case brownoutWarning => refine (iff_of_eq (if_neg Bool.false_ne_true)).mpr ?_; unfold exec execBrownoutWarning; exact ⟨_, rfl⟩
  case lifetimeWrite => refine (iff_of_eq (if_neg Bool.false_ne_true)).mpr ?_; unfold exec execLifetimeWrite; exact ⟨_, rfl⟩
  case lifetimeWriteDone => refine (iff_of_eq (if_neg Bool.false_ne_true)).mpr ?_; unfold exec execLifetimeWriteDone; exact ⟨_, rfl⟩
  case lifeRead => refine (iff_of_eq (if_neg Bool.false_ne_true)).mpr ?_; unfold exec execLifeRead runCall; exact ⟨_, rfl⟩
  case nvsCfgSave => refine (iff_of_eq (if_neg Bool.false_ne_true)).mpr ?_; unfold exec execNvsCfgSave runCall; exact ⟨_, rfl⟩
  case nvsCfgSaveCompletion => refine (iff_of_eq (if_neg Bool.false_ne_true)).mpr ?_; unfold exec execNvsCfgSaveCompletion; exact ⟨_, rfl⟩
  case nvsCfgSelect => refine (iff_of_eq (if_neg Bool.false_ne_true)).mpr ?_; unfold exec execNvsCfgSelect runCall; exact ⟨_, rfl⟩
  case fwBegin => refine (iff_of_eq (if_neg Bool.false_ne_true)).mpr ?_; unfold exec execFwBegin runCall; exact ⟨_, rfl⟩
  case fwData => refine (iff_of_eq (if_neg Bool.false_ne_true)).mpr ?_; unfold exec execFwData runCall; exact ⟨_, rfl⟩
  case fwVerify => refine (iff_of_eq (if_neg Bool.false_ne_true)).mpr ?_; unfold exec execFwVerify runCall; exact ⟨_, rfl⟩
  case fwVerifyCompletion => refine (iff_of_eq (if_neg Bool.false_ne_true)).mpr ?_; unfold exec execFwVerifyCompletion; exact ⟨_, rfl⟩
  case provision => refine (iff_of_eq (if_neg Bool.false_ne_true)).mpr ?_; unfold exec execProvision runCall; exact ⟨_, rfl⟩
  case keyLoad => refine (iff_of_eq (if_neg Bool.false_ne_true)).mpr ?_; unfold exec execKeyLoad runCall; exact ⟨_, rfl⟩
  case sltRole => refine (iff_of_eq (if_neg Bool.false_ne_true)).mpr ?_; unfold exec execSltRole runCall; exact ⟨_, rfl⟩
  case sltView => refine (iff_of_eq (if_neg Bool.false_ne_true)).mpr ?_; unfold exec execSltView runCall; exact ⟨_, rfl⟩
  case sltExpect => refine (iff_of_eq (if_neg Bool.false_ne_true)).mpr ?_; unfold exec execSltExpect runCall; exact ⟨_, rfl⟩
  case sltRejoin => refine (iff_of_eq (if_neg Bool.false_ne_true)).mpr ?_; unfold exec execSltRejoin runCall; exact ⟨_, rfl⟩
  case sltRejoinCompletion => refine (iff_of_eq (if_neg Bool.false_ne_true)).mpr ?_; unfold exec execSltRejoinCompletion; exact ⟨_, rfl⟩
  case legStatus => refine (iff_of_eq (if_neg Bool.false_ne_true)).mpr ?_; unfold exec execLegStatus runCall; exact ⟨_, rfl⟩
  case legusFrame => refine (iff_of_eq (if_neg Bool.false_ne_true)).mpr ?_; unfold exec execLegusFrame; exact ⟨_, rfl⟩
  case announce => refine (iff_of_eq (if_neg Bool.false_ne_true)).mpr ?_; unfold exec execAnnounce; exact ⟨_, rfl⟩
  case view => refine (iff_of_eq (if_neg Bool.false_ne_true)).mpr ?_; unfold exec execView; exact ⟨_, rfl⟩
  case samples => refine (iff_of_eq (if_neg Bool.false_ne_true)).mpr ?_; unfold exec execSamples; exact ⟨_, rfl⟩
  case announceInterval => refine (iff_of_eq (if_neg Bool.false_ne_true)).mpr ?_; unfold exec execAnnounceInterval; exact ⟨_, rfl⟩
  case viewTimeout => refine (iff_of_eq (if_neg Bool.false_ne_true)).mpr ?_; unfold exec execViewTimeout; exact ⟨_, rfl⟩
  case memberTimeout => refine (iff_of_eq (if_neg Bool.false_ne_true)).mpr ?_; unfold exec execMemberTimeout; exact ⟨_, rfl⟩
  case samplesBatch => refine (iff_of_eq (if_neg Bool.false_ne_true)).mpr ?_; unfold exec execSamplesBatch; exact ⟨_, rfl⟩
  case linkUp => refine (iff_of_eq (if_neg Bool.false_ne_true)).mpr ?_; unfold exec execLinkUp; exact ⟨_, rfl⟩
  case linkDown => refine (iff_of_eq (if_neg Bool.false_ne_true)).mpr ?_; unfold exec execLinkDown; exact ⟨_, rfl⟩
  case rfConfig => refine (iff_of_eq (if_neg Bool.false_ne_true)).mpr ?_; unfold exec execRfConfig runCall; exact ⟨_, rfl⟩
  case rfTx => refine (iff_of_eq (if_neg Bool.false_ne_true)).mpr ?_; unfold exec execRfTx runCall; exact ⟨_, rfl⟩
  case rfTxCompletion => refine (iff_of_eq (if_neg Bool.false_ne_true)).mpr ?_; unfold exec execRfTxCompletion; exact ⟨_, rfl⟩
  case rfRx => refine (iff_of_eq (if_neg Bool.false_ne_true)).mpr ?_; unfold exec execRfRx runCall; exact ⟨_, rfl⟩
  case rfCal => refine (iff_of_eq (if_neg Bool.false_ne_true)).mpr ?_; unfold exec execRfCal runCall; exact ⟨_, rfl⟩
  case rfCalCompletion => refine (iff_of_eq (if_neg Bool.false_ne_true)).mpr ?_; unfold exec execRfCalCompletion; exact ⟨_, rfl⟩
  case rfStatus => refine (iff_of_eq (if_neg Bool.false_ne_true)).mpr ?_; unfold exec execRfStatus runCall; exact ⟨_, rfl⟩
  case radioFrame => refine (iff_of_eq (if_neg Bool.false_ne_true)).mpr ?_; unfold exec execRadioFrame; exact ⟨_, rfl⟩
  case immAck => refine (iff_of_eq (if_neg Bool.false_ne_true)).mpr ?_; unfold exec execImmAck; exact ⟨_, rfl⟩
  case ackWaitExpiry => refine (iff_of_eq (if_neg Bool.false_ne_true)).mpr ?_; unfold exec execAckWaitExpiry; exact ⟨_, rfl⟩
  case xoStart => refine (iff_of_eq (if_neg Bool.false_ne_true)).mpr ?_; unfold exec execXoStart; exact ⟨_, rfl⟩
  case synthLock => refine (iff_of_eq (if_neg Bool.false_ne_true)).mpr ?_; unfold exec execSynthLock; exact ⟨_, rfl⟩
  case radioCalibration => refine (iff_of_eq (if_neg Bool.false_ne_true)).mpr ?_; unfold exec execRadioCalibration; exact ⟨_, rfl⟩
  case txWait => refine (iff_of_eq (if_neg Bool.false_ne_true)).mpr ?_; unfold exec execTxWait; exact ⟨_, rfl⟩
  case launchedTxSynth => refine (iff_of_eq (if_neg Bool.false_ne_true)).mpr ?_; unfold exec execLaunchedTxSynth; exact ⟨_, rfl⟩
  case lateTx => refine (iff_of_eq (if_neg Bool.false_ne_true)).mpr ?_; unfold exec execLateTx; exact ⟨_, rfl⟩
  case txDone => refine (iff_of_eq (if_neg Bool.false_ne_true)).mpr ?_; unfold exec execTxDone; exact ⟨_, rfl⟩
  case rxWindow => refine (iff_of_eq (if_neg Bool.false_ne_true)).mpr ?_; unfold exec execRxWindow; exact ⟨_, rfl⟩
  case sluiceEvent => refine (iff_of_eq (if_neg Bool.false_ne_true)).mpr ?_; unfold exec execSluiceEvent; exact ⟨_, rfl⟩
  case filterExpiry => refine (iff_of_eq (if_neg Bool.false_ne_true)).mpr ?_; unfold exec execFilterExpiry; exact ⟨_, rfl⟩
  case slFire => refine (iff_of_eq (if_neg Bool.false_ne_true)).mpr ?_; unfold exec execSlFire; exact ⟨_, rfl⟩
  case icAckRead => refine (iff_of_eq (if_neg Bool.false_ne_true)).mpr ?_; unfold exec execIcAckRead; exact ⟨_, rfl⟩
  case icEoiWrite => refine (iff_of_eq (if_neg Bool.false_ne_true)).mpr ?_; unfold exec execIcEoiWrite; exact ⟨_, rfl⟩
  case doorbell => refine (iff_of_eq (if_neg Bool.false_ne_true)).mpr ?_; unfold exec execDoorbell; exact ⟨_, rfl⟩
  case ibiRepeat => refine (iff_of_eq (if_neg Bool.false_ne_true)).mpr ?_; unfold exec execIbiRepeat; exact ⟨_, rfl⟩
  case fallback => refine (iff_of_eq (if_neg Bool.false_ne_true)).mpr ?_; unfold exec execFallback; exact ⟨_, rfl⟩
  case wakePulseEnd => refine (iff_of_eq (if_neg Bool.false_ne_true)).mpr ?_; unfold exec execWakePulseEnd; exact ⟨_, rfl⟩
  case logRead => refine (iff_of_eq (if_neg Bool.false_ne_true)).mpr ?_; unfold exec execLogRead runCall; exact ⟨_, rfl⟩
  case logClear => refine (iff_of_eq (if_neg Bool.false_ne_true)).mpr ?_; unfold exec execLogClear runCall; exact ⟨_, rfl⟩
  case fence => refine (iff_of_eq (if_neg Bool.false_ne_true)).mpr ?_; unfold exec execFence runCall; exact ⟨_, rfl⟩
  case unfence => refine (iff_of_eq (if_neg Bool.false_ne_true)).mpr ?_; unfold exec execUnfence runCall; exact ⟨_, rfl⟩
  case fenceStatus => refine (iff_of_eq (if_neg Bool.false_ne_true)).mpr ?_; unfold exec execFenceStatus runCall; exact ⟨_, rfl⟩
  case fenceTimeout => refine (iff_of_eq (if_pos rfl)).mpr ?_; unfold exec execFenceTimeout; exact ⟨_, rfl⟩
  case checkPass => refine (iff_of_eq (if_neg Bool.false_ne_true)).mpr ?_; unfold exec execCheckPass; exact ⟨_, rfl⟩
  case pd0Fault => refine (iff_of_eq (if_pos rfl)).mpr ?_; unfold exec execPd0Fault; exact ⟨_, rfl⟩
  case snap => refine (iff_of_eq (if_neg Bool.false_ne_true)).mpr ?_; unfold exec execSnap; exact ⟨_, rfl⟩
  case registerWrite => refine (iff_of_eq (if_neg Bool.false_ne_true)).mpr ?_; unfold exec execRegisterWrite; exact ⟨_, rfl⟩
  case blockBoundaryApply => refine (iff_of_eq (if_neg Bool.false_ne_true)).mpr ?_; unfold exec execBlockBoundaryApply; exact ⟨_, rfl⟩
  case crystalTick => refine (iff_of_eq (if_pos rfl)).mpr ?_; unfold exec execCrystalTick; exact ⟨_, rfl⟩
  case brownoutRecovery => refine (iff_of_eq (if_neg Bool.false_ne_true)).mpr ?_; unfold exec execBrownoutRecovery; exact ⟨_, rfl⟩
  case excLimitEnd => refine (iff_of_eq (if_neg Bool.false_ne_true)).mpr ?_; unfold exec execExcLimitEnd; exact ⟨_, rfl⟩

theorem exec_keeps {i : Instr} {s t : State} (h : exec i s = .next t) : t.pending = s.pending ∧ (s.provisioned = true → t.provisioned = true) := by
  have e := exec_acts i s
  split at e
  · obtain ⟨f, hf⟩ := e
    rw [hf] at h; cases h
    exact ⟨rfl, fun hp => by simp [hp]⟩
  · obtain ⟨f, hf⟩ := e
    rw [hf] at h; cases h
    exact ⟨rfl, fun hp => by simp [hp]⟩

/-- No other command moves TB0's count. -/
theorem exec_tick {i : Instr} {s t : State} (hi : movesClock i = false) (h : exec i s = .next t) : t.tick = s.tick := by
  have e := exec_acts i s
  rw [if_neg (by simp [hi])] at e
  obtain ⟨f, hf⟩ := e
  rw [hf] at h; cases h
  rfl

theorem exec_next (i : Instr) (s : State) : ∃ t, exec i s = .next t := by
  have e := exec_acts i s
  split at e
  · obtain ⟨f, hf⟩ := e; exact ⟨_, hf⟩
  · obtain ⟨f, hf⟩ := e; exact ⟨_, hf⟩

end Sys2Proof.Machine
end

