-- ==== Sys2Proof/Laws/Hosts.lean ====
section
/-! SUPPORT. Reply reads, wakes outside a floor, and the order in which pending vectors are taken. -/

namespace Sys2Proof.Machine

theorem wakeBy_zero {s : State} (h : s.pwr.floor = 0) (b : Nat) : s.wakeBy b = s := by simp [State.wakeBy, h]

theorem wakeAll_zero {s : State} (h : s.pwr.floor = 0) : s.wakeAll = s := by simp [State.wakeAll, h]

theorem enqueue_pos (s : State) (h : Nat) (r : Reply) : ((s.enqueueReply h r).host h).readPos = (s.host h).readPos := by
  unfold State.enqueueReply State.raisePriv
  simp only
  split <;> simp [State.host, State.modHost, State.setHost, State.modTarget, State.setTarget]

theorem releaseHeld_pos (s : State) (h : Nat) : ((s.releaseHeld h).host h).readPos = (s.host h).readPos := by
  unfold State.releaseHeld
  split
  · rfl
  · split
    · rw [enqueue_pos]; simp
    · rfl

theorem closeOnHp1_pos (s : State) (h : Nat) : ((s.closeOnHp1).host h).readPos = (s.host h).readPos := by
  unfold State.closeOnHp1
  rw [modHost_eq, setHost_host]
  split
  · rename_i e; rw [e]; split <;> rfl
  · rfl

/-- What the release of a held completion leaves alone. -/
theorem releaseHeld_frame (s : State) (h : Nat) : (s.releaseHeld h).pwr = s.pwr ∧ (s.releaseHeld h).provisioned = s.provisioned ∧
    (s.releaseHeld h).tick = s.tick ∧ (s.releaseHeld h).pending = s.pending ∧ (s.releaseHeld h).mem = s.mem ∧ (s.releaseHeld h).log = s.log := by
  unfold State.releaseHeld
  split
  · exact ⟨rfl, rfl, rfl, rfl, rfl, rfl⟩
  · split <;> simp

theorem drop_pos (s : State) (h : Nat) (hr : (s.host h).replies ≠ []) : ((s.dropReply h).host h).readPos = 0 := by
  unfold State.dropReply
  split
  · exact absurd (by assumption) hr
  · simp only
    rw [releaseHeld_pos]
    split
    · rw [closeOnHp1_pos]; simp
    · simp

theorem drop_frame (s : State) (h : Nat) : (s.dropReply h).pwr = s.pwr ∧ (s.dropReply h).provisioned = s.provisioned ∧ (s.dropReply h).tick = s.tick ∧ (s.dropReply h).pending = s.pending := by
  unfold State.dropReply
  split
  · exact ⟨rfl, rfl, rfl, rfl⟩
  · simp only
    rw [(releaseHeld_frame _ h).1, (releaseHeld_frame _ h).2.1, (releaseHeld_frame _ h).2.2.1, (releaseHeld_frame _ h).2.2.2.1]
    split <;> exact ⟨rfl, rfl, rfl, rfl⟩

theorem reply_len (r : Reply) : 8 ≤ r.bytes.length := by simp [Reply.bytes]

theorem read_zero (s : State) (h k : Nat) : s.readReplies h k 0 = (s, []) := by
  cases k with
  | zero => rfl
  | succ k => unfold State.readReplies; split <;> simp

theorem read_nil {s : State} {h : Nat} (k n : Nat) (hr : (s.host h).replies = []) : s.readReplies h k n = (s, []) := by
  cases k with
  | zero => rfl
  | succ k => unfold State.readReplies; rw [hr]

theorem read_in {s : State} {h k n : Nat} {r : Reply} {t : List Reply} (hr : (s.host h).replies = r :: t) (h0 : 0 < n)
    (hn : n < (r.bytes.drop (s.host h).readPos).length) :
    s.readReplies h (k + 1) n = (s.modHost h (fun x => { x with readPos := (s.host h).readPos + n }), (r.bytes.drop (s.host h).readPos).take n) := by
  rw [State.readReplies, hr]
  simp only
  rw [if_neg (by omega), if_pos hn]

theorem read_over {s : State} {h k n : Nat} {r : Reply} {t : List Reply} (hr : (s.host h).replies = r :: t) (h0 : 0 < n)
    (hn : (r.bytes.drop (s.host h).readPos).length ≤ n) :
    s.readReplies h (k + 1) n = (((s.dropReply h).readReplies h k (n - (r.bytes.drop (s.host h).readPos).length)).1,
      r.bytes.drop (s.host h).readPos ++ ((s.dropReply h).readReplies h k (n - (r.bytes.drop (s.host h).readPos).length)).2) := by
  rw [State.readReplies, hr]
  simp only
  rw [if_neg (by omega), if_neg (by omega)]

theorem read_fuel (h : Nat) : ∀ (n k m : Nat) (s : State), (s.host h).readPos = 0 → n < k → n < m → s.readReplies h k n = s.readReplies h m n := by
  intro n
  induction n using Nat.strong_induction_on with
  | _ n ih =>
    intro k m s hp hk hm
    cases hr : (s.host h).replies with
    | nil => rw [read_nil _ _ hr, read_nil _ _ hr]
    | cons r t =>
      by_cases h0 : 0 < n
      · obtain ⟨k, rfl⟩ := Nat.exists_eq_succ_of_ne_zero (show k ≠ 0 by omega)
        obtain ⟨m, rfl⟩ := Nat.exists_eq_succ_of_ne_zero (show m ≠ 0 by omega)
        by_cases hn : n < (r.bytes.drop (s.host h).readPos).length
        · rw [read_in hr h0 hn, read_in hr h0 hn]
        · have hl := reply_len r
          have hd : (r.bytes.drop (s.host h).readPos).length = r.bytes.length := by rw [hp]; rfl
          rw [read_over hr h0 (by omega), read_over hr h0 (by omega)]
          rw [ih _ (by omega) k m (s.dropReply h) (drop_pos s h (by rw [hr]; simp)) (by omega) (by omega)]
      · have : n = 0 := by omega
        subst this
        rw [read_zero, read_zero]

theorem pick_mem {l : List (Nat × Nat)} {x} (h : pickSource l = some x) : x ∈ l := by
  induction l generalizing x with
  | nil => cases h
  | cons a t ih =>
    simp only [pickSource] at h
    split at h
    · cases h; simp
    · split at h
      · cases h; exact List.mem_cons_of_mem _ (ih (by assumption))
      · cases h; simp

theorem pick_max {l : List (Nat × Nat)} (hp : l.Pairwise (fun a b => a.1 ≤ b.1)) {x} (h : pickSource l = some x) : ∀ y ∈ l, y.2 ≤ x.2 ∧ (y.2 = x.2 → x.1 ≤ y.1) := by
  induction l generalizing x with
  | nil => cases h
  | cons a t ih =>
    have ⟨ha, ht⟩ := List.pairwise_cons.1 hp
    simp only [pickSource] at h
    intro y hy
    cases hq : pickSource t with
    | none =>
      have : t = [] := by
        cases t with
        | nil => rfl
        | cons b u => simp only [pickSource] at hq; split at hq <;> (try split at hq) <;> cases hq
      subst this
      simp [pickSource] at h; subst h; simp at hy; subst hy; simp
    | some z =>
      rw [hq] at h
      simp only at h
      rcases List.mem_cons.1 hy with e | e
      · subst e; split at h <;> cases h
        · constructor <;> omega
        · simp
      · have := ih ht hq y e
        split at h <;> cases h
        · exact this
        · refine ⟨by omega, fun _ => ha y e⟩

theorem pick_some {l : List (Nat × Nat)} (h : l ≠ []) : ∃ x, pickSource l = some x := by
  cases l with
  | nil => exact absurd rfl h
  | cons a t => simp only [pickSource]; split <;> (try split) <;> exact ⟨_, rfl⟩

theorem deliverable_sorted (s : State) (t : Nat) : (s.deliverable t).Pairwise (fun a b => a.1 ≤ b.1) := by
  unfold State.deliverable
  split
  · exact List.Pairwise.nil
  · dsimp only
    have hr : ∀ n, (List.range n).Pairwise (fun a b => a ≤ b) := fun n => (List.pairwise_lt_range).imp (fun h => Nat.le_of_lt h)
    rw [List.pairwise_append]
    refine ⟨List.Pairwise.filterMap _ ?_ (hr 16), List.Pairwise.filterMap _ ?_ (hr 240), ?_⟩
    · intro a a' h b hb b' hb'
      split at hb <;> split at hb' <;> cases hb <;> cases hb'; exact h
    · intro a a' h b hb b' hb'
      split at hb <;> split at hb' <;> cases hb <;> cases hb'; simp only; omega
    · intro a ha b hb
      obtain ⟨x, hx, hx'⟩ := List.mem_filterMap.1 ha
      obtain ⟨y, hy, hy'⟩ := List.mem_filterMap.1 hb
      split at hx' <;> cases hx'
      split at hy' <;> cases hy'
      simp at hx; simp only; omega

end Sys2Proof.Machine
end

