-- ==== Sys2Proof/Laws/Words.lean ====
section
/-! SUPPORT. Bit fields of words, words as bytes, and the CRC of R63 bit by bit. -/

namespace Sys2Proof.Machine

theorem bits_top {w : Word} {hi lo : Nat} (h : w.toNat < 2 ^ lo) : bits w hi lo = 0 := by
  simp [bits, Nat.div_eq_of_lt h]

theorem bits_low {w : Word} {hi : Nat} (h : w.toNat < 2 ^ (hi + 1)) : bits w hi 0 = w.toNat := by
  simp [bits, Nat.mod_eq_of_lt h]

theorem bits_setHigh (w : Word) (g : Nat) (hg : g < 65536) : bits (setBits w 31 16 g) 31 16 = g ∧ bits (setBits w 31 16 g) 15 0 = bits w 15 0 := by
  have := w.isLt
  simp [setBits, bits]
  constructor <;> omega

theorem bits_setLow (w : Word) (g : Nat) (hg : g < 65536) : bits (setBits w 15 0 g) 31 16 = bits w 31 16 ∧ bits (setBits w 15 0 g) 15 0 = g := by
  have := w.isLt
  simp [setBits, bits]
  constructor <;> omega

theorem bits_setByte (w : Word) (h v : Nat) (hh : h < 4) (hv : v < 256) : bits (setBits w (8 * h + 7) (8 * h) v) (8 * h + 7) (8 * h) = v := by
  have := w.isLt
  have : h = 0 ∨ h = 1 ∨ h = 2 ∨ h = 3 := by omega
  rcases this with e | e | e | e <;> subst e <;> simp [setBits, bits] <;> omega

theorem bitAt_or (w : Word) (i j : Nat) (h : bitAt w i = true) : bitAt (w ||| (1#32 <<< j)) i = true := by
  unfold bitAt at h ⊢; simp [h]

theorem bytesWord_wordBytes (w : Word) : bytesWord (wordBytes w) = w := by
  apply BitVec.eq_of_toNat_eq
  have := w.isLt
  simp [bytesWord, wordBytes, leNat, BitVec.extractLsb'_toNat, Nat.shiftRight_eq_div_pow]
  omega

theorem bytesWord_wordBytes' (w : Word) (t : List Byte) : bytesWord (wordBytes w ++ t) = w := by
  apply BitVec.eq_of_toNat_eq
  have := w.isLt
  simp [bytesWord, wordBytes, leNat, BitVec.extractLsb'_toNat, Nat.shiftRight_eq_div_pow]
  omega

theorem wordsBytes_length (ws : List Word) : (wordsBytes ws).length = 4 * ws.length := by
  induction ws with
  | nil => rfl
  | cons w t ih => simp only [wordsBytes, List.flatMap_cons, List.length_append, List.length_cons] at ih ⊢; simp [wordBytes, ih]; omega

theorem words_of_bytes (ws : List Word) (t : List Byte) :
    (List.range ws.length).map (fun k => bytesWord (((wordsBytes ws ++ t).drop (4 * k)).take 4)) = ws := by
  induction ws with
  | nil => rfl
  | cons w u ih =>
    have e : wordsBytes (w :: u) = wordBytes w ++ wordsBytes u := rfl
    have htake : ∀ l, (wordBytes w ++ l).take 4 = wordBytes w := fun l => rfl
    rw [List.length_cons, List.range_succ_eq_map, List.map_cons, List.map_map, e, List.append_assoc]
    congr 1
    · simp only [Nat.mul_zero, List.drop_zero, htake]
      have := bytesWord_wordBytes' w []
      simpa using this

theorem toBytes_asOperand (l : List Byte) : toBytes (asOperand l) = l := by
  simp only [toBytes, asOperand, List.map_map]
  conv => rhs; rw [← List.map_id l]
  congr 1; funext b; simp

theorem crc16Bit_xor (c y : BitVec 16) : crc16Bit (c ^^^ y) = (if c.msb ≠ y.msb then (c <<< 1) ^^^ 0x1021#16 else c <<< 1) ^^^ (y <<< 1) := by
  unfold crc16Bit
  rw [BitVec.msb_xor, BitVec.shiftLeft_xor_distrib]
  cases c.msb <;> cases y.msb <;> simp [BitVec.xor_assoc, BitVec.xor_comm (y <<< 1)]

/-- One bit of a byte into the CRC of R63, bit 7 first. -/
def crcStep (b : Byte) (c : BitVec 16) (k : Nat) : BitVec 16 := if c.msb ≠ b.getLsbD (7 - k) then (c <<< 1) ^^^ 0x1021#16 else c <<< 1

theorem crc16Bit_shift (c : BitVec 16) (b : Byte) (k : Nat) (hk : k < 8) : crc16Bit (c ^^^ (b.setWidth 16 <<< (8 + k))) =
    crcStep b c k ^^^ (b.setWidth 16 <<< (8 + (k + 1))) := by
  rw [crc16Bit_xor, ← BitVec.shiftLeft_add, crcStep]
  have : (b.setWidth 16 <<< (8 + k)).msb = b.getLsbD (7 - k) := by
    rw [BitVec.msb_eq_getLsbD_last]
    simp only [BitVec.getLsbD_shiftLeft, BitVec.getLsbD_setWidth]
    have : 16 - 1 - (8 + k) = 7 - k := by omega
    rw [this]
    have h1 : 7 - k < 16 := by omega
    have h2 : 8 + k < 16 := by omega
    have h3 : 8 + k ≤ 15 := by omega
    simp [h1, h3]
  rw [this]
  rfl

theorem crc16Byte_bits (c : BitVec 16) (b : Byte) : crc16Byte c b = (List.range 8).foldl (crcStep b) c := by
  have h8 : b.setWidth 16 <<< (8 + 8) = 0#16 := by
    apply BitVec.eq_of_getLsbD_eq; intro i hi; simp
  have e0 : b.setWidth 16 <<< 8 = b.setWidth 16 <<< (8 + 0) := rfl
  unfold crc16Byte
  dsimp only
  rw [e0, crc16Bit_shift _ _ 0 (by omega), crc16Bit_shift _ _ 1 (by omega), crc16Bit_shift _ _ 2 (by omega), crc16Bit_shift _ _ 3 (by omega),
    crc16Bit_shift _ _ 4 (by omega), crc16Bit_shift _ _ 5 (by omega), crc16Bit_shift _ _ 6 (by omega), crc16Bit_shift _ _ 7 (by omega), h8, BitVec.xor_zero]
  rfl

set_option maxRecDepth 100000 in
theorem crc16_sixtyZeros : crc16 (List.replicate 60 0) = 0xA445#16 := by decide

theorem zeroDescCrc_eq : zeroDescCrc = 0xA445 := by rw [zeroDescCrc, crc16_sixtyZeros]; rfl

end Sys2Proof.Machine
end

