-- ==== Sys2Proof/Laws/Mem.lean ====
section
/-! SUPPORT. Memory: what a read gives after each of its operations, that each changes nothing but memory, and that each keeps the canonical form. -/

namespace Sys2Proof.Machine

theorem rdByte_wrByte (s : State) (a b : Nat) (v : Byte) : (s.wrByte a v).rdByte b = if b = a then v else s.rdByte b := by
  simp [State.wrByte, State.rdByte, Tab.get_set]

theorem wrBytes_mem (s : State) (a : Nat) (l : List Byte) : s.wrBytes a l = { s with mem := (s.wrBytes a l).mem } := by
  induction l generalizing s a with
  | nil => rfl
  | cons b t ih => rw [State.wrBytes, ih]; rfl

theorem rdByte_wrBytes (s : State) (a : Nat) (l : List Byte) (x : Nat) :
    (s.wrBytes a l).rdByte x = if a ≤ x ∧ x < a + l.length then l.getD (x - a) 0 else s.rdByte x := by
  induction l generalizing s a with
  | nil => simp [State.wrBytes]
  | cons b t ih =>
    rw [State.wrBytes, ih]
    have hb : (s.wrByte a b).rdByte x = if x = a then b else s.rdByte x := Tab.get_set _ _ _ _
    rw [hb]
    by_cases h1 : x = a
    · subst h1; simp
    · simp only [List.length_cons, h1, if_false]
      by_cases h2 : a + 1 ≤ x ∧ x < a + 1 + t.length
      · rw [if_pos h2, if_pos (by omega)]
        have : x - a = (x - (a + 1)) + 1 := by omega
        rw [this]; simp
      · rw [if_neg h2, if_neg (by omega)]

theorem wrWord_mem (s : State) (a : Nat) (w : Word) : s.wrWord a w = { s with mem := (s.wrWord a w).mem } := by
  simp [State.wrWord, wordBytes, State.wrBytes, State.wrByte]

theorem rdWord_wrWord_self (s : State) (a : Nat) (w : Word) : (s.wrWord a w).rdWord a = w := by
  have e1 : a ≠ a + 1 + 1 := by omega
  have e2 : a ≠ a + 1 + 1 + 1 := by omega
  have e3 : a ≠ a + 1 := by omega
  conv => rhs; rw [← bytesWord_wordBytes w]
  simp [State.rdWord, State.wrWord, State.wrBytes, wordBytes, rdByte_wrByte, e1, e2]

theorem rdByte_wrWord_ne (s : State) (a b : Nat) (w : Word) (h : b < a ∨ a + 4 ≤ b) : (s.wrWord a w).rdByte b = s.rdByte b := by
  have h0 : b ≠ a := by omega
  have h1 : b ≠ a + 1 := by omega
  have h2 : b ≠ a + 1 + 1 := by omega
  have h3 : b ≠ a + 1 + 1 + 1 := by omega
  simp [State.wrWord, wordBytes, State.wrBytes, rdByte_wrByte, h0, h1, h2, h3]

theorem rdWord_wrWord_ne (s : State) (a b : Nat) (w : Word) (h : b + 4 ≤ a ∨ a + 4 ≤ b) : (s.wrWord a w).rdWord b = s.rdWord b := by
  simp only [State.rdWord]
  rw [rdByte_wrWord_ne, rdByte_wrWord_ne, rdByte_wrWord_ne, rdByte_wrWord_ne] <;> omega

theorem rdWord_mem {s t : State} (h : s.mem = t.mem) (a : Nat) : s.rdWord a = t.rdWord a := by simp [State.rdWord, State.rdByte, h]

theorem Tab.get_filter {α : Type} [DecidableEq α] (d : Nat → α) (t : Tab α) (p : Nat → Bool) (i : Nat) :
    Tab.get d (t.filter (fun c => p c.1)) i = if p i then Tab.get d t i else d i := by
  induction t with
  | nil => simp [Tab.get]
  | cons c t ih =>
    obtain ⟨k, v⟩ := c
    by_cases hk : k = i
    · subst hk
      by_cases hp : p k = true
      · simp [hp, Tab.get]
      · simp [hp, ih]
    · by_cases hp : p k = true
      · simp [hp, Tab.get, hk, ih]
      · simp [hp, Tab.get, hk, ih]

theorem rdByte_clearMem (s : State) (lo hi x : Nat) :
    (s.clearMem lo hi).rdByte x = if x < lo ∨ hi ≤ x then s.rdByte x else memDefault x := by
  unfold State.clearMem State.rdByte
  dsimp only
  rw [Tab.get_filter memDefault s.mem (fun k => decide (k < lo) || decide (hi ≤ k))]
  simp

theorem wf_wrByte {s : State} (h : Memory.wf s.mem) (a : Nat) (b : Byte) : Memory.wf (s.wrByte a b).mem := Tab.wf_set h a b

theorem wf_wrBytes {s : State} (h : Memory.wf s.mem) (a : Nat) (l : List Byte) : Memory.wf (s.wrBytes a l).mem := by
  induction l generalizing s a with
  | nil => exact h
  | cons b t ih => rw [State.wrBytes]; exact ih (Tab.wf_set h a b) _

theorem wf_wrWord {s : State} (h : Memory.wf s.mem) (a : Nat) (w : Word) : Memory.wf (s.wrWord a w).mem := wf_wrBytes h a _

theorem wf_clearMem {s : State} (h : Memory.wf s.mem) (lo hi : Nat) : Memory.wf (s.clearMem lo hi).mem := Tab.wf_filter h _

theorem wf_reset : Memory.wf State.reset.mem := rfl

end Sys2Proof.Machine
end

