-- ==== Sys2Proof/Laws/Opcode.lean ====
section
/-! SUPPORT. How an opcode's row runs: the shared packet checks once, so that a claim about one opcode needs only its own parameter checks and its own execution. -/

namespace Sys2Proof.Machine

theorem act_eq (f : State → State) (s : State) : act f s = .next (kept s (f s)) := rfl

theorem actClock_eq (f : State → State) (s : State) : actClock f s = .next (keptClock s (f s)) := rfl

/-- Where the change itself leaves the queue, the tick and PROVISIONED, the whole next state is what the change makes. -/
theorem kept_of_same {s t : State} (h1 : t.pending = s.pending) (h2 : t.tick = s.tick) (h3 : t.provisioned = s.provisioned) : kept s t = t := by
  cases t; simp_all [kept]

theorem kept_self (s : State) : kept s s = s := kept_of_same rfl rfl rfl

/-- Checks 6 to 14 of a packet of the call, when checks 6 to 11 pass. -/
theorem checkPkt_ready {s : State} {code : Nat} {d : OpDef} {c : Call} (hd : opOf code = some d)
    (hr : 2 < code → (s.host c.host).session = some c.port) (hv : 0x0300 ≤ s.slt.common) (hm : s.mayUse c.host d = true) :
    (s.atF c.f).checkPkt c.host c.f (callPkt code c) =
      (admitted s code c, (admitted s code c).lastChecks d c, false) := by
  have hs : ∀ x, ((admitted s code c).host x).session = (s.host x).session := by
    intro x
    unfold admitted
    split
    · rfl
    · simp only [modHost_eq, setHost_host]
      split
      · rename_i h; rw [h]; rfl
      · rfl
  have hc : (admitted s code c).slt = s.slt := by unfold admitted; split <;> rfl
  have hm' : (admitted s code c).mayUse c.host d = true := by
    rw [← hm]; unfold admitted; split <;> rfl
  have h1 : (admitted s code c).firstChecks c.host (callPkt code c) = 0 := by
    unfold State.firstChecks
    have hv' : ¬ s.slt.common < ownCmdset := by simp only [ownCmdset]; omega
    simp only [callPkt, hd, firstStatus, hs, hc, hv']
    by_cases h2 : 2 < code
    · simp [hr h2]
    · simp [h2]
  have ha : (if (callPkt code c).op = 0x06 then s.atF c.f else (s.atF c.f).modHost c.host (fun x => { x with sleepSet := false })) = admitted s code c := rfl
  unfold State.checkPkt
  rw [if_neg (by simp [callPkt])]
  dsimp only
  rw [ha, h1]
  simp only [callPkt, hd, hm']
  rfl

theorem answer_eq (u : State) (code : Nat) (c : Call) (st : Nat) (lg : Bool) (ws : List Word) :
    u.answer c.host (callPkt code c) st false lg ws =
      if replyWanted c.reply st then (u.modHost c.host (fun x => { x with due := x.due - 1 })).enqueueReply c.host (replyTo code c st lg ws)
      else (u.modHost c.host (fun x => { x with due := x.due - 1 })).releaseHeld c.host := rfl

theorem mayUse_of {s : State} {d : OpDef} {c : Call} (hp : s.needPriv d ≤ s.privOf c.host) (hl : s.lifecycleOk d.code = true) :
    s.mayUse c.host d = true := by simp [State.mayUse, hp, hl]

theorem admitted_log (s : State) (code : Nat) (c : Call) : (admitted s code c).log = s.log := by unfold admitted; split <;> rfl

/-- An opcode answered at once: its checks pass, it runs on the started state and is answered. -/
theorem runCall_served {s : State} {code : Nat} {d : OpDef} {c : Call} (hd : opOf code = some d) (ha : d.async = false)
    (h : s.callRuns c = true) (hr : 2 < code → (s.host c.host).session = some c.port) (hv : 0x0300 ≤ s.slt.common)
    (hm : s.mayUse c.host d = true) (hl : (admitted s code c).lastChecks d c = 0) :
    runCall code c s =
      .next (answered s code c (d.run (started s code c) c).1 (d.run (started s code c) c).2.1 (d.run (started s code c) c).2.2) := by
  have hc := checkPkt_ready hd hr hv hm
  rw [hl] at hc
  have hcode : d.code = code := by
    have := List.find?_some hd
    simpa using this
  unfold runCall
  rw [act_eq]
  simp only [onlyIf, h, if_true, State.serveCall, State.serve, State.checkChain, hc, List.find?, List.length_singleton]
  simp only [ne_eq, not_true_eq_false, decide_false, List.foldl_cons, List.foldl_nil]
  have hcall : (callPkt code c).call c.host c.f = c := rfl
  have hst : (admitted s code c).modHost c.host (fun x => { x with due := 1 }) = started s code c := rfl
  have hlog : (started s code c).log = s.log := by rw [← hst]; simp [admitted_log]
  simp only [State.execPkt]
  rw [show (callPkt code c).op = code from rfl, hd]
  simp only [State.runOp, ha, hcall, hst, Bool.not_false, if_true, hlog, answer_eq]
  rfl

/-- An opcode answered ACCEPTED: outstanding from the start of its run on. -/
theorem runCall_accepted {s : State} {code : Nat} {d : OpDef} {c : Call} (hd : opOf code = some d) (ha : d.async = true)
    (h : s.callRuns c = true) (hr : 2 < code → (s.host c.host).session = some c.port) (hv : 0x0300 ≤ s.slt.common)
    (hm : s.mayUse c.host d = true) (hl : (admitted s code c).lastChecks d c = 0) (hs : AsyncReady s c)
    (hst : (d.run (startedAsync s code c) c).2.1 = stAccepted) :
    runCall code c s =
      .next (answered s code c (d.run (startedAsync s code c) c).1 stAccepted (d.run (startedAsync s code c) c).2.2) := by
  have hc := checkPkt_ready hd hr hv hm
  rw [hl] at hc
  have hcode : d.code = code := by
    have := List.find?_some hd
    simpa using this
  have hout : ((started s code c).host c.host).asyncOut = (s.host c.host).asyncOut := by
    unfold started admitted
    split <;> simp
  unfold runCall
  rw [act_eq]
  simp only [onlyIf, h, if_true, State.serveCall, State.serve, State.checkChain, hc, List.find?, List.length_singleton]
  simp only [ne_eq, not_true_eq_false, decide_false, List.foldl_cons, List.foldl_nil]
  have hcall : (callPkt code c).call c.host c.f = c := rfl
  have hst' : (admitted s code c).modHost c.host (fun x => { x with due := 1 }) = started s code c := rfl
  have hlog : (started s code c).log = s.log := by rw [← hst']; simp [admitted_log]
  have hsa : (started s code c).modHost c.host (fun x => { x with asyncOut := x.asyncOut ++ [(c.tag, d.code)] }) = startedAsync s code c := by
    rw [hcode]; rfl
  have hlt : ¬ 8 ≤ (s.host c.host).asyncOut.length := by have := hs.1; omega
  simp only [State.execPkt]
  rw [show (callPkt code c).op = code from rfl, hd]
  simp only [State.runOp, ha, hcall, hst', Bool.not_true, hsa, hst, hout, hlt, hs.2, hlog, answer_eq]
  simp only [ne_eq, not_true_eq_false, Bool.false_eq_true, if_false]
  rfl

/-- A command that would be answered ACCEPTED and fails in its run: it is not outstanding any more. -/
theorem runCall_failed {s : State} {code : Nat} {d : OpDef} {c : Call} (hd : opOf code = some d) (ha : d.async = true)
    (h : s.callRuns c = true) (hr : 2 < code → (s.host c.host).session = some c.port) (hv : 0x0300 ≤ s.slt.common)
    (hm : s.mayUse c.host d = true) (hl : (admitted s code c).lastChecks d c = 0)
    (hst : (d.run (startedAsync s code c) c).2.1 ≠ stAccepted) :
    runCall code c s =
      .next (answered s code c
        ((d.run (startedAsync s code c) c).1.modHost c.host (fun x => { x with asyncOut := x.asyncOut.erase (c.tag, code) }))
        (d.run (startedAsync s code c) c).2.1 (d.run (startedAsync s code c) c).2.2) := by
  have hc := checkPkt_ready hd hr hv hm
  rw [hl] at hc
  have hcode : d.code = code := by
    have := List.find?_some hd
    simpa using this
  unfold runCall
  rw [act_eq]
  simp only [onlyIf, h, if_true, State.serveCall, State.serve, State.checkChain, hc, List.find?, List.length_singleton]
  simp only [ne_eq, not_true_eq_false, decide_false, List.foldl_cons, List.foldl_nil]
  have hcall : (callPkt code c).call c.host c.f = c := rfl
  have hst' : (admitted s code c).modHost c.host (fun x => { x with due := 1 }) = started s code c := rfl
  have hlog : (started s code c).log = s.log := by rw [← hst']; simp [admitted_log]
  have hsa : (started s code c).modHost c.host (fun x => { x with asyncOut := x.asyncOut ++ [(c.tag, d.code)] }) = startedAsync s code c := by
    rw [hcode]; rfl
  simp only [State.execPkt]
  rw [show (callPkt code c).op = code from rfl, hd]
  simp only [State.runOp, ha, hcall, hst', Bool.not_true, hcode] at hsa ⊢
  simp only [hsa, hlog, answer_eq]
  simp only [Bool.false_eq_true, if_false]
  rw [if_pos hst]
  rfl

/-- A packet that fails check 12, 13 or 14. -/
theorem runCall_refused {s : State} {code : Nat} {d : OpDef} {c : Call} (hd : opOf code = some d)
    (h : s.callRuns c = true) (hr : 2 < code → (s.host c.host).session = some c.port) (hv : 0x0300 ≤ s.slt.common)
    (hm : s.mayUse c.host d = true) (hl : 1 < (admitted s code c).lastChecks d c) :
    runCall code c s =
      .next (refusedWith s code c (admitted s code c) ((admitted s code c).lastChecks d c) false) := by
  have hc := checkPkt_ready hd hr hv hm
  have hne : (admitted s code c).lastChecks d c ≠ 0 := by omega
  unfold runCall
  rw [act_eq]
  simp only [onlyIf, h, if_true, State.serveCall, State.serve, State.checkChain, hc, List.find?, List.length_singleton]
  simp only [ne_eq, hne, not_false_eq_true, decide_true, List.zip_cons_cons, List.zip_nil_right, List.foldl_cons, List.foldl_nil, if_true, answer_eq]
  have hw : replyWanted c.reply ((admitted s code c).lastChecks d c) = true := by
    unfold replyWanted
    simp only [Bool.or_eq_true, Bool.and_eq_true, decide_eq_true_eq]
    right; omega
  rw [if_pos hw]
  rfl

/-! ### Packets that a check or a limit stops -/

theorem opcode_run {i : Instr} {code : Nat} {c : Call} {s : State} (h : opcodeCall i = some (code, c)) : exec i s = runCall code c s := by
  unfold opcodeCall at h
  split at h <;> first | (simp only [Option.some.injEq, Prod.mk.injEq] at h; obtain ⟨rfl, rfl⟩ := h; rfl) | cases h

theorem runCall_over {s : State} {code : Nat} {d : OpDef} {c : Call} (hd : opOf code = some d) (ha : d.async = true)
    (h : s.callRuns c = true) (hr : 2 < code → (s.host c.host).session = some c.port) (hv : 0x0300 ≤ s.slt.common)
    (hm : s.mayUse c.host d = true) (hl : (admitted s code c).lastChecks d c = 0)
    (hst : (d.run (startedAsync s code c) c).2.1 = stAccepted) (h8 : 8 ≤ (s.host c.host).asyncOut.length) :
    runCall code c s = .next (answered s code c (started s code c) stBusy []) := by
  have hc := checkPkt_ready hd hr hv hm
  rw [hl] at hc
  have hcode : d.code = code := by
    have := List.find?_some hd
    simpa using this
  have hout : ((started s code c).host c.host).asyncOut = (s.host c.host).asyncOut := by
    unfold started admitted
    split <;> simp
  unfold runCall
  rw [act_eq]
  simp only [onlyIf, h, if_true, State.serveCall, State.serve, State.checkChain, hc, List.find?, List.length_singleton]
  simp only [ne_eq, not_true_eq_false, decide_false, List.foldl_cons, List.foldl_nil]
  have hcall : (callPkt code c).call c.host c.f = c := rfl
  have hst' : (admitted s code c).modHost c.host (fun x => { x with due := 1 }) = started s code c := rfl
  have hlog : (started s code c).log = s.log := by rw [← hst']; simp [admitted_log]
  have hsa : (started s code c).modHost c.host (fun x => { x with asyncOut := x.asyncOut ++ [(c.tag, d.code)] }) = startedAsync s code c := by
    rw [hcode]; rfl
  simp only [State.execPkt]
  rw [show (callPkt code c).op = code from rfl, hd]
  simp only [State.runOp, ha, hcall, hst', Bool.not_true, hsa, hst, hout, h8, hlog, answer_eq]
  simp only [ne_eq, not_true_eq_false, Bool.false_eq_true, if_false, if_true]
  rfl

theorem runCall_sameTag {s : State} {code : Nat} {d : OpDef} {c : Call} (hd : opOf code = some d) (ha : d.async = true)
    (h : s.callRuns c = true) (hr : 2 < code → (s.host c.host).session = some c.port) (hv : 0x0300 ≤ s.slt.common)
    (hm : s.mayUse c.host d = true) (hl : (admitted s code c).lastChecks d c = 0)
    (hst : (d.run (startedAsync s code c) c).2.1 = stAccepted) (h8 : (s.host c.host).asyncOut.length < 8) (ht : (s.host c.host).asyncOut.any (fun p => p.1 == c.tag) = true) :
    runCall code c s = .next (answered s code c (started s code c) stBadParam []) := by
  have hc := checkPkt_ready hd hr hv hm
  rw [hl] at hc
  have hcode : d.code = code := by
    have := List.find?_some hd
    simpa using this
  have hout : ((started s code c).host c.host).asyncOut = (s.host c.host).asyncOut := by
    unfold started admitted
    split <;> simp
  unfold runCall
  rw [act_eq]
  simp only [onlyIf, h, if_true, State.serveCall, State.serve, State.checkChain, hc, List.find?, List.length_singleton]
  simp only [ne_eq, not_true_eq_false, decide_false, List.foldl_cons, List.foldl_nil]
  have hcall : (callPkt code c).call c.host c.f = c := rfl
  have hst' : (admitted s code c).modHost c.host (fun x => { x with due := 1 }) = started s code c := rfl
  have hlog : (started s code c).log = s.log := by rw [← hst']; simp [admitted_log]
  have hsa : (started s code c).modHost c.host (fun x => { x with asyncOut := x.asyncOut ++ [(c.tag, d.code)] }) = startedAsync s code c := by
    rw [hcode]; rfl
  simp only [State.execPkt]
  rw [show (callPkt code c).op = code from rfl, hd]
  simp only [State.runOp, ha, hcall, hst', Bool.not_true, hsa, hst, hout, show ¬ 8 ≤ (s.host c.host).asyncOut.length from by omega, ht, hlog, answer_eq]
  simp only [ne_eq, not_true_eq_false, Bool.false_eq_true, if_false, if_true]
  rfl

theorem runCall_stop {s u : State} {code st : Nat} {lg : Bool} {c : Call} (h : s.callRuns c = true)
    (hc : (s.atF c.f).checkPkt c.host c.f (callPkt code c) = (u, st, lg)) (hl : 1 < st) :
    runCall code c s = .next (refusedWith s code c u st lg) := by
  have hne : st ≠ 0 := by omega
  unfold runCall
  rw [act_eq]
  simp only [onlyIf, h, if_true, State.serveCall, State.serve, State.checkChain, hc, List.find?, List.length_singleton]
  simp only [ne_eq, hne, not_false_eq_true, decide_true, List.zip_cons_cons, List.zip_nil_right, List.foldl_cons, List.foldl_nil, if_true, answer_eq]
  have hw : replyWanted c.reply st = true := by
    unfold replyWanted
    simp only [Bool.or_eq_true, Bool.and_eq_true, decide_eq_true_eq]
    right; omega
  rw [if_pos hw]
  rfl

theorem checkPkt_eq {s : State} {code : Nat} {d : OpDef} {c : Call} (hd : opOf code = some d) :
    (s.atF c.f).checkPkt c.host c.f (callPkt code c) =
      if (admitted s code c).firstChecks c.host (callPkt code c) ≠ 0 then
        (admitted s code c, (admitted s code c).firstChecks c.host (callPkt code c), false)
      else if s.mayUse c.host d = false then ((admitted s code c).logErr 15 c.host 9, 0x14, true)
      else (admitted s code c, (admitted s code c).lastChecks d c, false) := by
  have hm' : (admitted s code c).mayUse c.host d = s.mayUse c.host d := by unfold admitted; split <;> rfl
  have ha : (if (callPkt code c).op = 0x06 then s.atF c.f else (s.atF c.f).modHost c.host (fun x => { x with sleepSet := false })) = admitted s code c := rfl
  unfold State.checkPkt
  rw [if_neg (by simp [callPkt])]
  dsimp only
  rw [ha]
  split
  · rfl
  · simp only [callPkt, hd, hm']
    cases s.mayUse c.host d <;> rfl

theorem firstChecks_eq {s : State} {code : Nat} {d : OpDef} {c : Call} (hd : opOf code = some d) :
    (admitted s code c).firstChecks c.host (callPkt code c) =
      if s.slt.common < 0x0300 then 0x19 else if 2 < code ∧ (s.host c.host).session ≠ some c.port then 0x14 else 0 := by
  have hs : ∀ x, ((admitted s code c).host x).session = (s.host x).session := by
    intro x
    unfold admitted
    split
    · rfl
    · simp only [modHost_eq, setHost_host]
      split
      · rename_i h; rw [h]; rfl
      · rfl
  have hc : (admitted s code c).slt = s.slt := by unfold admitted; split <;> rfl
  unfold State.firstChecks
  simp only [callPkt, hd, firstStatus, hs, hc, ownCmdset]
  by_cases h1 : s.slt.common < 0x0300
  · simp [h1]; rfl
  · simp only [h1, decide_false, Bool.false_eq_true, if_false, Option.isNone_some, Bool.and_eq_true, decide_eq_true_eq]; by_cases h2 : 2 < code <;> simp [h2] <;> rfl

end Sys2Proof.Machine
end

