-- ==== Sys2Proof/Laws/Parts.lean ====
section
/-! SUPPORT. Single facts about the Pan, the acquisition grid, the measurement queue, the timing messages and the Planner. -/

namespace Sys2Proof.Machine

theorem recStarts_mem {s t : State} (h : s.mem = t.mem) (cfg : Word) (wp fuel o : Nat) : s.recStarts cfg wp fuel o = t.recStarts cfg wp fuel o := by
  induction fuel generalizing o with
  | zero => rfl
  | succ k ih => simp only [State.recStarts, State.ringWord, rdWord_mem h, ih]

theorem panAllow_ok {s : State} {n : Nat} {b : Bool} (h1 : s.isFenced 8 8 = false) (h2 : s.isFenced 4 n = false) (h3 : b = true → s.streamOn n = true) : s.panAllow n b = 0 := by
  simp only [State.panAllow, h1, h2, firstStatus, Bool.false_eq_true, if_false]
  rw [if_neg]
  cases b <;> simp_all

theorem wmCheck_rp (s : State) (n m : Nat) : ((s.wmCheck n).stream m).rp = (s.stream m).rp := by
  have hr : ∀ (u : State) k w, (u.raise k w).stream m = u.stream m := by intro u k w; simp [State.stream]
  unfold State.wmCheck
  dsimp only
  split
  · rw [setStream_stream]; split <;> simp_all
  · split
    · split
      · rfl
      · rw [hr, setStream_stream]; split <;> simp_all
    · rw [setStream_stream]; split <;> simp_all

theorem toGrid_ad (s : State) (c : Nat) : (s.toGrid c).ad c = s.ad c := by
  unfold State.toGrid State.toTb
  dsimp only
  split
  · rfl
  · split
    · rfl
    · split
      · rfl
      · split <;> rfl

theorem merged_full (x v all : Word) : (x &&& ~~~(0xFFFFFFFF#32 &&& all) ||| v &&& (0xFFFFFFFF#32 &&& all)) &&& all = v &&& all := by
  have e0 : (0xFFFFFFFF#32) = BitVec.allOnes 32 := by decide
  rw [e0, BitVec.allOnes_and]
  apply BitVec.eq_of_getLsbD_eq
  intro i hi
  simp only [BitVec.getLsbD_and, BitVec.getLsbD_or, BitVec.getLsbD_not]
  cases x.getLsbD i <;> cases v.getLsbD i <;> cases all.getLsbD i <;> simp

theorem parse_type {l : List Word} {m : TimeMsg} (h : TimeMsg.parse l = some m) : bits (l.getD 0 0) 3 0 = m.type := by
  unfold TimeMsg.parse at h
  dsimp only at h
  split at h
  · cases h
  · injection h with h; rw [← h]

theorem timeCmd_link {s : State} {l ty f : Nat} {words : List Word} {m : TimeMsg} (hl : l < 2) (hr : s.linkRuns l = true) (hp : TimeMsg.parse words = some m) (ht : m.type = ty) :
    s.timeCmd l ty f words = ((s.atF f).clearSent).recvTime l (((s.atF f).clearSent).bareFrame words) := by
  unfold State.timeCmd
  have h1 : ((s.atF f).clearSent).linkRuns l = true := hr
  have h2 : (l == 2) = false := by simp; omega
  dsimp only
  rw [h1, if_neg (by simp; omega), if_pos (by rw [parse_type hp, ht])]

theorem timeCmd_radio {s : State} {ty f : Nat} {words : List Word} {m : TimeMsg} (h1 : s.rfServes = true) (hp : TimeMsg.parse words = some m) (ht : m.type = ty) :
    s.timeCmd 2 ty f words = ((s.atF f).clearSent).recvTime 2 (((s.atF f).clearSent).bareFrame words) := by
  unfold State.timeCmd
  have e1 : ((s.atF f).clearSent).rfServes = true := h1
  dsimp only
  rw [e1, if_neg (by simp), if_pos (by rw [parse_type hp, ht])]

theorem evt_mode (s : State) (r : Reg) (n b : Nat) : (s.evt r n b).plnModeInForce = s.plnModeInForce := by
  simp [State.plnModeInForce, State.afld, State.app]

theorem overspend_over (s : State) (l) (a : s.pln.limit = some l) (b : l < s.sinceBoundary) :
    s.overspendTrip = if s.plnModeInForce = 2 then s.emergencyPlan else { (s.evt .plnEvt 0 1) with pln := { (s.evt .plnEvt 0 1).pln with limit := none } } := by
  unfold State.overspendTrip
  split
  · rename_i h; rw [h] at a; cases a
  · rename_i l' h
    have : l' = l := by rw [h] at a; exact Option.some.inj a
    subst this
    rw [if_neg (Rat.not_le.mpr b)]

end Sys2Proof.Machine
end

