-- ==== Sys2Proof/Laws/Regs.lean ====
section
/-! SUPPORT. Registers after each shared operation that stores one, and what the bittern log does with an error (R567 to R569). -/

namespace Sys2Proof.Machine

theorem wordAt_setWordAt (s : State) (a b : Nat) (v : Word) : (s.setWordAt a v).wordAt b = if b = a then v else s.wordAt b := Tab.get_set _ _ _ _

theorem reg_setReg (s : State) (r r' : Reg) (n n' : Nat) (v : Word) :
    (s.setReg r n v).reg r' n' = if r'.addr n' = r.addr n then v else s.reg r' n' := wordAt_setWordAt _ _ _ _

theorem reg_setReg_self (s : State) (r : Reg) (n : Nat) (v : Word) : (s.setReg r n v).reg r n = v := by rw [reg_setReg, if_pos rfl]

theorem reg_setReg_ne (s : State) {r r' : Reg} {n n' : Nat} (v : Word) (h : r'.addr n' ≠ r.addr n) : (s.setReg r n v).reg r' n' = s.reg r' n' := by rw [reg_setReg, if_neg h]

theorem reg_raise (s : State) (k : Nat) (w : Bool) (r : Reg) (n : Nat) : (s.raise k w).reg r n = s.reg r n := by
  unfold State.raise; dsimp only; split <;> rfl

theorem reg_sumRaise (s : State) (x : Reg) (m : Nat) (r : Reg) (n : Nat) (h : r.addr n ≠ Reg.addr .chkSum 0) : (s.sumRaise x m).reg r n = s.reg r n := by
  unfold State.sumRaise; split
  · rfl
  · rw [reg_raise, reg_setReg_ne _ _ h]

theorem reg_evt (s : State) (x : Reg) (m b : Nat) (r : Reg) (n : Nat) (h : r.addr n ≠ Reg.addr .chkSum 0) (h2 : r.addr n ≠ x.addr m) :
    (s.evt x m b).reg r n = s.reg r n := by
  unfold State.evt; rw [reg_sumRaise _ _ _ _ _ h, reg_setReg_ne _ _ h2]

theorem reg_evt_self (s : State) (x : Reg) (m b : Nat) (h : x.addr m ≠ Reg.addr .chkSum 0) :
    (s.evt x m b).reg x m = (s.reg x m ||| (1#32 <<< b)) := by
  unfold State.evt; rw [reg_sumRaise _ _ _ _ _ h, reg_setReg_self]

theorem logSat_raise (s : State) (k : Nat) (w : Bool) : (s.raise k w).logSat = s.logSat := by
  unfold State.raise; dsimp only; split <;> rfl

theorem log_raise (s : State) (k : Nat) (w : Bool) : (s.raise k w).log = s.log := by
  unfold State.raise; dsimp only; split <;> rfl

theorem evt_log (s : State) (x : Reg) (m b : Nat) : (s.evt x m b).log = s.log ∧ (s.evt x m b).logSat = s.logSat := by
  unfold State.evt State.sumRaise; split
  · exact ⟨rfl, rfl⟩
  · exact ⟨log_raise _ _ _, logSat_raise _ _ _⟩

theorem sat_fold (s : State) (l : List Nat) : (l.foldl (fun u t => u.modTarget t (fun x => { x with logSat := true })) s).log = s.log ∧
    (l.foldl (fun u t => u.modTarget t (fun x => { x with logSat := true })) s).logSat = s.logSat := by
  induction l generalizing s with
  | nil => exact ⟨rfl, rfl⟩
  | cons a t ih => rw [List.foldl_cons]; exact ⟨(ih _).1, (ih _).2⟩

theorem logWrite_fits (s : State) (e : LogEntry) (h : ¬ (256 ≤ s.log.length ∧ ∀ x ∈ s.log, 0x80 ≤ x.code)) :
    let l := (if 256 ≤ s.log.length then dropInfo s.log else s.log) ++ [e]
    (s.logWrite e).log = l ∧ ((s.logWrite e).logSat = true ↔ s.logSat = true ∨ (256 ≤ l.length ∧ ∀ x ∈ l, 0x80 ≤ x.code)) := by
  intro l
  unfold State.logWrite
  extract_lets full faults l' s1 s2 s3
  have hl : l' = l := by simp only [l', l, full]
  rw [if_neg (by simpa [full, faults] using h)]
  have a1 : s2.log = l := by rw [← hl]; simp only [s2]; split; exact log_raise _ _ _; rfl
  have a2 : s2.logSat = s.logSat := by simp only [s2]; split; exact logSat_raise _ _ _; rfl
  clear_value s2
  rw [hl]
  by_cases hs : s.logSat = true
  · rw [if_neg (by simp [hs])]; simp [a1, a2, hs]
  · by_cases hf : 256 ≤ l.length ∧ ∀ x ∈ l, 0x80 ≤ x.code
    · rw [if_pos (by simp only [hs]; simpa using hf)]
      obtain ⟨b1, b2⟩ := sat_fold ((({ s2 with logSat := true } : State)).evt .chkEvt 0 4) (List.range 4)
      obtain ⟨c1, c2⟩ := evt_log ({ s2 with logSat := true } : State) .chkEvt 0 4
      refine ⟨b1.trans (c1.trans a1), ?_⟩
      exact ⟨fun _ => .inr hf, fun _ => b2.trans c2⟩
    · rw [if_neg (by simp only [hs]; simpa using hf)]; simp [a1, a2, hs, hf]

theorem dropInfo_split (l1 l2 : List LogEntry) (x : LogEntry) (h : ∀ e ∈ l1, 0x80 ≤ e.code) (hx : x.code < 0x80) :
    dropInfo (l1 ++ x :: l2) = l1 ++ l2 := by
  induction l1 with
  | nil => simp [dropInfo, hx]
  | cons a t ih =>
    have ha := h a (by simp)
    rw [List.cons_append, dropInfo, if_neg (by omega), ih (fun e he => h e (by simp [he]))]; rfl

theorem reg_sat (s : State) (l : List Nat) (r : Reg) (n : Nat) :
    (l.foldl (fun u t => u.modTarget t (fun x => { x with logSat := true })) s).reg r n = s.reg r n := by
  induction l generalizing s with
  | nil => rfl
  | cons a t ih => rw [List.foldl_cons, ih]; rfl

theorem reg_logWrite (s : State) (e : LogEntry) (r : Reg) (n : Nat) (h1 : r.addr n ≠ Reg.addr .chkSum 0) (h3 : r.addr n ≠ Reg.addr .logLost 0) (h2 : r.addr n ≠ Reg.addr .chkEvt 0) : (s.logWrite e).reg r n = s.reg r n := by
  unfold State.logWrite
  extract_lets full faults l' s1 s2 s3
  have a : s2.reg r n = s.reg r n := by simp only [s2]; split; exact reg_raise _ _ _ _ _; rfl
  split
  · split <;> exact reg_setReg_ne _ _ h3
  · split
    · rw [reg_sat]; exact (reg_evt _ _ _ _ _ _ h1 h2).trans a
    · exact a

theorem reg_logErr (s : State) (k i c : Nat) (r : Reg) (n : Nat) (h1 : r.addr n ≠ Reg.addr .chkSum 0) (h2 : r.addr n ≠ Reg.addr .chkEvt 0)
    (h3 : r.addr n ≠ Reg.addr .logLost 0) : (s.logErr k i c).reg r n = s.reg r n := by
  unfold State.logErr State.logRun
  dsimp only
  split
  · rfl
  · exact reg_logWrite _ _ _ _ h1 h3 h2

theorem evtBit_logErr (s : State) (k i c b : Nat) (h : bitAt (s.reg .chkEvt 0) b = true) : bitAt ((s.logErr k i c).reg .chkEvt 0) b = true := by
  unfold State.logErr State.logRun
  dsimp only
  split
  · exact h
  · unfold State.logWrite
    extract_lets full faults l' s1 s2 s3
    have a : s2.reg .chkEvt 0 = s.reg .chkEvt 0 := by simp only [s2]; split; exact reg_raise _ _ _ _ _; rfl
    split
    · split
      · rw [State.addCnt, reg_setReg_ne _ _ (by decide)]; exact h
      · rw [State.addCnt, reg_setReg_ne _ _ (by decide)]; exact h
    · split
      · rw [reg_sat]
        simp only [s3]
        rw [reg_evt_self _ _ _ _ (by decide)]
        exact bitAt_or _ _ _ (by rw [← h, ← a]; rfl)
      · rw [a]; exact h

theorem buserr_addr : ∀ h < 4, Reg.addr .chkBuserr h ≠ Reg.addr .chkSum 0 ∧ Reg.addr .chkBuserr h ≠ Reg.addr .chkEvt 0 ∧
    Reg.addr .chkBuserr h ≠ Reg.addr .logLost 0 ∧ Reg.addr .chkBuserr h ≠ Reg.addr .chkBuscnt 0 := by decide

theorem note_bus (s : State) (h a st : Nat) (hh : h < 4) :
    let t := s.noteAccess h a (.bus st)
    t.reg .chkBuserr h = BitVec.ofNat 32 (a - a % 4) ∧
    t.fld .chkBuscnt 0 (8 * h + 7) (8 * h) = min 255 (s.fld .chkBuscnt 0 (8 * h + 7) (8 * h) + 1) ∧
    bitAt (t.reg .chkEvt 0) 1 = true ∧ t.mem = s.mem ∧ t.hosts = s.hosts := by
  obtain ⟨n1, n2, n3, n4⟩ := buserr_addr h hh
  intro t
  simp only [t, State.noteAccess]
  refine ⟨?_, ?_, ?_, ?_, ?_⟩
  · rw [reg_logErr _ _ _ _ _ _ n1 n2 n3]
    change ((State.evt _ _ _ _)).reg _ _ = _
    rw [reg_evt _ _ _ _ _ _ n1 n2, State.addCnt, reg_setReg_ne _ _ n4, reg_setReg_self]; rfl
  · unfold State.fld
    rw [reg_logErr _ _ _ _ _ _ (by decide) (by decide) (by decide)]
    change bits ((State.evt _ _ _ _).reg _ _) _ _ = _
    rw [reg_evt _ _ _ _ _ _ (by decide) (by decide), State.addCnt, reg_setReg_self]
    have e1 : 8 * h + 7 + 1 - 8 * h = 8 := by omega
    rw [e1, bits_setByte _ _ _ hh (by omega)]
    unfold State.fld
    rw [reg_setReg_ne _ _ n4.symm]
    rfl
  · apply evtBit_logErr
    change bitAt ((State.evt _ _ _ _).reg _ _) _ = _
    rw [reg_evt_self _ _ _ _ (by decide)]
    unfold bitAt; simp
  · simp [State.logEnd]
  · simp [State.logEnd]

theorem note_barred (s : State) (h a : Nat) :
    let t := s.noteAccess h a (.barred 0)
    bitAt (t.reg .chkEvt 0) 2 = true ∧ (∀ n < 4, t.reg .chkBuserr n = s.reg .chkBuserr n) ∧ t.mem = s.mem ∧ t.hosts = s.hosts := by
  intro t
  simp only [t, State.noteAccess]
  refine ⟨?_, fun n hn => ?_, ?_, ?_⟩
  · apply evtBit_logErr
    change bitAt ((State.evt s .chkEvt 0 2).reg _ _) _ = _
    rw [reg_evt_self _ _ _ _ (by decide)]
    unfold bitAt; simp
  · obtain ⟨m1, m2, m3, -⟩ := buserr_addr n hn
    rw [reg_logErr _ _ _ _ _ _ m1 m2 m3]
    change (State.evt s .chkEvt 0 2).reg _ _ = _
    rw [reg_evt _ _ _ _ _ _ m1 m2]
  · simp [State.logEnd]
  · simp [State.logEnd]

end Sys2Proof.Machine
end

