-- ==== Sys2Proof/Laws/Rows.lean ====
section
/-! SUPPORT. Direct register accesses of the rows that make a single one: which register an address names, and the state after an access that is served. -/

namespace Sys2Proof.Machine

/-! ### Which register the address of a row names -/

theorem spotOf_panCmd : spotOf (Reg.addr .panCmd 0) = .reg ⟨.panCmd, 0, false⟩ := by decide
theorem spotOf_tbCapcmd : spotOf (Reg.addr .tbCapcmd 0) = .reg ⟨.tbCapcmd, 0, false⟩ := by decide
theorem spotOf_slFire : spotOf (Reg.addr .slFire 0) = .reg ⟨.slFire, 0, false⟩ := by decide
theorem spotOf_chkCmd : spotOf (Reg.addr .chkCmd 0) = .reg ⟨.chkCmd, 0, false⟩ := by decide
theorem spotOf_ldgStore : spotOf (Reg.addr .ldgStore 0) = .reg ⟨.ldgStore, 0, false⟩ := by decide
set_option maxRecDepth 4000 in
theorem spotOf_panRp : ∀ n < 32, spotOf (Reg.addr .panRp n) = .reg ⟨.panRp, n, false⟩ := by decide
set_option maxRecDepth 4000 in
theorem spotOf_tmCtl : ∀ n < 64, spotOf (Reg.addr .tmCtl n) = .reg ⟨.tmCtl, n, false⟩ := by decide
set_option maxRecDepth 4000 in
theorem spotOf_tmCnt : ∀ n < 64, spotOf (Reg.addr .tmCnt n) = .reg ⟨.tmCnt, n, false⟩ := by decide
theorem spotOf_icEoi : ∀ n < 4, spotOf (Reg.addr .icEoi n) = .reg ⟨.icEoi, n, false⟩ := by decide
theorem spotOf_icAck : ∀ n < 4, spotOf (Reg.addr .icAck n) = .reg ⟨.icAck, n, false⟩ := by decide
theorem spotOf_icDbell : ∀ n < 4, spotOf (Reg.addr .icDbell n) = .reg ⟨.icDbell, n, false⟩ := by decide
theorem spotOf_tbVal : ∀ n < 4, spotOf (Reg.addr .tbVal n) = .reg ⟨.tbVal, n, false⟩ := by decide

/-! ### Served accesses -/

/-- A write row whose access is served. -/
theorem writeRow_pass {h : Nat} {r : Reg} {n bound v f : Nat} {s : State} (hu : s.writeUp h = true) (hn : n < bound)
    (hj : (s.atF f).judge h (r.addr n) 4 (some v) = .pass) :
    writeRow h r n bound v f s = .next (accessed s h (r.addr n) ((s.atF f).writeUnit h (r.addr n) 4 v)) := by
  unfold writeRow
  rw [act_eq]
  simp only [onlyIf, hu, hn, decide_true, Bool.and_self, if_true, State.hostWrite, State.accessWrite, hj]
  rfl

/-- What the write of a whole 32-bit register does to it. -/
theorem writeUnit_reg {s : State} {h : Nat} {r : Reg} {n v : Nat} (hs : spotOf (r.addr n) = .reg ⟨r, n, false⟩) (hp : r.row.pair = false)
    (ha : r.addr n % 4 = 0) : s.writeUnit h (r.addr n) 4 v = s.writeReg h r n (w32 v) (byteMask (r.addr n) 4) := by
  simp [State.writeUnit, hs, hp, placed, ha]

/-- A direct read whose one access is served. -/
theorem memRead_single {s : State} {h a len : Nat} (hacc : accesses a len = [(a, len)]) (hj : s.judge h a len none = .pass) :
    s.memRead h a len = ((s.readUnit h a len).1.noteAccess h a .pass, 0#8 :: bytesOf len (hp0Value a (s.readUnit h a len).2)) := by
  simp [State.memRead, hacc, State.accessRead, hj, State.readRest]

end Sys2Proof.Machine
end

