-- ==== Sys2Proof/Tests/Slice0.lean ====
section
/-! SUPPORT. Tests: for each obligation the states and operands that meet the hypotheses of each of its clauses, the ill-formed commands that the checks refuse, and a few
worked values of the spec. -/

namespace Sys2Proof.Machine

set_option Elab.async false

/-- A hub that runs, with host 0's session on HP0. -/
def up : State := { State.reset with pwr := { Power.reset with phase := 2 } }.modHost 0 (fun x => { x with session := some 0 })

/-- A call of host 0. -/
def ask (params : List Word) : Call := ⟨0, 0, 7, true, 0, params⟩

/-- Channel 7 with a committed descriptor that counts edges on EV0 (R102, R103, R105). -/
def pinDesc : List Word := [0x90000000, 0xA0000000, 0, 0x80000000, 0, 0, 0, 0, 0, 0, 0, 0, 0, 0, 0, 0x6748]

def withPin : State := (up.wrWords (0x20000000 + 64 * 7) pinDesc)

/-- Stream 31 enabled on bank 15, with nothing in it. -/
def withPan : State := (up.setReg .panCfg 31 0x80008000).applyPanCfg 31

/-- The same with a mark. -/
def withMark : State := withPan.modStream 31 (fun x => { x with markValid := true, mark := x.rp })

/-- Timebase 3 set, with a fresh measurement. -/
def withTb : State := up.modTb 3 (fun t => { t with state := 1, measAt := some 0 })

/-- Timebase 3 follows the measurements that a host gives. -/
def withServo : State := withTb.setApp .tbCtl 3 0xC0000000

/-- Seed 0 with one input, component 0 of channel 0, and its CRC. -/
def withSeed : State := (((up.wrWord 0x400A8000 0x30000000).wrWord 0x400A8010 0x80000000).wrWord 0x400A80FC 0xd05f)

/-- A PROVISIONED hub all of whose hosts are SECURE. -/
def secured : State := { up with provisioned := true, store := { up.store with privs := 0xAA } }

/-- A patch of 128 bytes is being loaded, and nothing of it has come. -/
def loading : State := { secured with store := { secured.store with xfer := some ⟨0, 128, 0, [], none, none⟩ } }

/-- A member of a saltern. -/
def inSaltern : State := { up with slt := { up.slt with state := 3 } }

/-- One fault entry in the log. -/
def logged : State := { up with log := [⟨0, selOf 15 0, 0x80, 0, 0, true⟩] }

/-- Private source 1 of host 0 pending, enabled at priority 8. -/
def ringing : State := (up.setReg .icPrivcfg 0 0x20008).modTarget 0 (fun x => { x with pend := 2 })

/-- Sluice 63 passes the events of output 0 on. -/
def withSluice : State := (up.setApp .slCtl 63 0x80000000)

/-- Launch entry 127 armed for the value 0 of timebase 1, which follows the saltern. -/
def withLaunch : State := ((up.modTb 1 (fun t => { t with state := 2 })).setApp .tbCtl 1 0x40000000).setLaunch 127 { Launch.reset with state := 2, action := 6, tb := 1 }

/-- Timer 63 runs, with MATCH 0 and END 5. -/
def withTimer : State := (((up.setReg .tmCtl 63 0x20000).setReg .tmEnd 63 5).modTimer 63 (fun t => { t with state := 1 }))

/-- A reply of one word waits for host 0. -/
def replied : State := up.modHost 0 (fun x => { x with replies := [⟨0, 7, 0, false, false, 0, false, false, [5]⟩] })

/-- The hub in DOZE. -/
def dozing : State := { up with pwr := { up.pwr with floor := 1 } }

/-- A SYS_NOP of host 0. -/
def nop : Pkt := ⟨0, 7, true, false, 0, false, 0, []⟩

/-- Channel `c` in state `st` with the descriptor words `w`. -/
def chanIs (c st : Nat) (w : List Word) : State := (up.wrWords (0x20000000 + 64 * c) w).modChan c (fun x => { x with state := st })

/-- Serial port `p` in use with configuration `cfg`, and RUNNING channel 191 on it: W0 `w0`, one component of one byte, UNIT `unit`, W3 `w3`. -/
def onPort (p : Nat) (cfg : Word) (w0 unit w3 : Nat) : State :=
  let s := chanIs 191 2 [w32 w0, w32 (p * 2 ^ 27 + unit * 2 ^ 16), 0x04000000, w32 w3]
  if p < 12 then s.setApp .sspCfg p cfg else s.setApp .i3cCfg (p - 12) cfg

/-- An acquisition of channel 191 in phase `ph`, of `n` slots that write one byte and read one. -/
def acq191 (ph n : Nat) (w0 : Word) : Acq := ⟨191, 0, 0, Stamp.at 0 0, List.replicate n [w0, 0x00020000, 0, 0], 0, 0, ph, [], none, false, false, false⟩

/-- Port `p` with that acquisition. -/
def acquires (p : Nat) (cfg : Word) (ph n : Nat) (w0 : Word) : State :=
  (onPort p cfg 0x90000000 0 0).modPort p (fun x => { x with acqs := [acq191 ph n w0] })

/-- AIN 15 runs for channel 191. -/
def withAin : State := (chanIs 191 2 [0xA8000000, 0x900F0000]).setApp .afeAinCfg 15 0x81000000

/-- An output of channel 191; it is a sample, or only carries events. -/
def out191 (sample : Bool) : Output := ⟨191, [256], OutFlags.none, ⟨none, 5, 0, 0⟩, 0, some (1, 1), [], [], sample, []⟩

/-- The same as a destination receives it. -/
def got191 : Delivered := ⟨191, [256], OutFlags.none, 5, 0, 2, []⟩

/-- An input of channel 191. -/
def in191 : Sample := ⟨191, [5], false, false, false, false, false, ⟨none, 5, 0, 0⟩, none, false⟩

/-- A record of channel 191 for stream 31. -/
def rec191 : PanItem := ⟨0, 191, 31, OutFlags.none, 5, 0, 0, [5]⟩

/-- That record at the front of the FIFO of a hub. -/
def queued (s : State) : State := { s with pan := { s.pan with fifo := [rec191] } }

/-- Stream 31 with no room. -/
def full (s : State) : State := s.modStream 31 (fun x => { x with rp := 1, wp := 0 })

/-- A wake request of host 3. -/
def wakeful (s : State) : State := { s with svc := { s.svc with wakeReqs := [(3, 200, 1)] } }

/-- A time message of type `t` from hub 3. -/
def msg (t : Nat) : TimeMsg := ⟨t, 0, 3, 0, 5, 0, 7, 0, 0, 0, 3⟩

/-- A hub in saltern state `st`, both Legus links and the O-QPSK radio running, TB3 bound to the saltern and set. -/
def salt (st : Nat) : State :=
  let s := (((up.setApp .legCfg 0 0xC0000000).setApp .rfCfg 0 0x80000000).setApp .tbCtl 3 0x40000000).modTb 3 (fun t => { t with state := 1 })
  { s with slt := { s.slt with state := st, links := [(0, { LegLink.reset with up := true }), (1, { LegLink.reset with up := true })] } }

/-- Timebase 3 in state `st`. -/
def tb3 (st : Nat) : State := (up.setApp .tbCtl 3 0x40000000).modTb 3 (fun t => { t with state := st })

/-- The hub with the calendar valid at `utc`, its second over, and TB_UTC `w`. -/
def atUtc (utc : Nat) (w : Word) : State :=
  let s := (up.setApp .tbUtc 0 w).modTb 3 (fun t => { t with state := 1 })
  { s with cal := { s.cal with valid := true, utc := utc, mark := -32768 } }

/-- A hub in power phase `n`. -/
def inPhase (n : Nat) : State := { up with pwr := { up.pwr with phase := n } }

/-- A patch image of 32 words with word 1 `w1`, its length and CRC as given to FW_BEGIN. -/
def image (w0 w1 : Word) : List Word := [w0, w1, 128] ++ List.replicate 29 0

/-- A transfer of those words that a FW_VERIFY checks, expecting CRC `crc`. -/
def verifying (words : List Word) (crc : Word) : FwXfer := ⟨1, 128, crc, words, none, some (3, 7, true)⟩

/-- A PROVISIONED hub with that transfer. -/
def checking (x : FwXfer) : State := { secured with store := { secured.store with xfer := some x, minMinor := 1 } }

/-- Bytes on a Legus link, their CRC after them. -/
def onLine (l : List Nat) : List Nat := l ++ (wordBytes (crc32c (l.map (BitVec.ofNat 8)))).map BitVec.toNat

/-- The bytes of a Legus frame of 8 payload words of which word 1 holds `uid`. -/
def legBytes (type src hops uid : Nat) : List Nat := onLine ([0x30 + type, src, hops, 8, 9, 0, 0, 0, 0, 0, 0, 0, uid] ++ List.replicate 27 0)

/-- What a link delivers of those bytes before the CRC. -/
def lineBody (bytes : List Nat) : List Byte := (bytes.map (BitVec.ofNat 8)).take (bytes.length - 4)

/-- Their CRC matches. -/
def lineOk (bytes : List Nat) : Prop :=
  4 ≤ bytes.length ∧ crc32c (lineBody bytes) = bytesWord ((bytes.map (BitVec.ofNat 8)).drop (bytes.length - 4))

/-- The forwarding of a frame of those bytes had begun. -/
def lineBegun (s : State) (l : Nat) (bytes : List Nat) : Prop :=
  let h := LegFrame.ofBytes (lineBody bytes)
  legHeaderOk (lineBody bytes) = true ∧ ¬ (h.src = s.ownIndex ∧ s.slt.state ≠ 0) ∧ (s.peer h.src).lastSeq ≠ some h.seq ∧ h.hops ≠ 31 ∧ s.blocked = false ∧
    s.linkRuns (1 - l) = true ∧ h.type ≠ 1

/-- The frame they spell. -/
def legFrame (type src hops uid : Nat) : LegFrame := ⟨type, src, hops, 9, 0, [0, w32 uid, 0, 0, 0, 0, 0, 0]⟩

/-- The bytes of an O-QPSK frame of a data body, its FCS after them. -/
def withFcs (l : List Byte) : List Byte := l ++ crcBytes (fcs16 l)

/-- The bytes of a long-range frame, its CRC after them. -/
def withCrc (l : List Byte) : List Byte := l ++ crcBytes (crc16 l)

/-- The hub `s` with its radio changed. -/
def radio (s : State) (f : RfBlk → RfBlk) : State := s.modRf f

/-- A frame in hand. -/
def frame (ackReq auth : Bool) (tries : Nat) : RfTx := ⟨5, 5, [1], ackReq, auth, 0, none, false, tries, 0⟩

/-- The state that a command leaves. -/
def after (i : Instr) (s : State) : State := match exec i s with
  | .next t => t
  | _ => s

/-! ### States and operands that meet the hypotheses of each clause of each obligation -/

theorem met_identityAndSessionOpcodesComplete :
    (let s : State := up; let c : Call := ask []; c.params = [] ∧ Ready s 0x00 0 c) ∧
    (let s : State := up; let c : Call := ask []; c.params = [] ∧ Ready s 0x01 0 c) ∧
    (let s : State := up; let c : Call := ask []; c.params = [] ∧ Ready s 0x02 0 c ∧ (s.host c.host).asyncOut = []) ∧
    (let s : State := up; let c : Call := ask []; c.params = [] ∧ Ready s 0x03 0 c ∧ (s.host c.host).asyncOut = []) ∧
    (let s : State := up; let c : Call := ask []; c.params = [] ∧ Ready s 0x0C 0 c) := by
  unfold Ready; refine ⟨?_, ?_, ?_, ?_, ?_⟩ <;> decide +kernel

theorem met_controlOpcodesComplete :
    (let s : State := up; let c : Call := ask [0x400F0010, 62]; Ready s 0x04 0 c ∧ c.params.length = 2 ∧ 1 ≤ (c.word 1).toNat ∧ (c.word 1).toNat ≤ 62) ∧
    (let s : State := up; let c : Call := ask [0x40020000, 1, 5]; Ready s 0x05 0 c ∧ 3 ≤ c.params.length ∧ c.params.length ≤ 63 ∧ (c.word 1).toNat + 2 = c.params.length) ∧
    (let s : State := up; let c : Call := ask []; Ready s 0x06 0 c ∧ c.params = []) ∧
    (let s : State := up; let c : Call := ask [2]; Ready s 0x07 1 c ∧ c.params.length = 1 ∧ (c.word 0).toNat ≤ 2) ∧
    (let s : State := up; let c : Call := ask [3]; Ready s 0x08 1 c ∧ c.params.length = 1 ∧ (c.word 0).toNat < 4) ∧
    (let s : State := up; let c : Call := ask []; Ready s 0x09 1 c ∧ c.params = []) ∧
    (let s : State := up; let c : Call := ask []; Ready s 0x0A 1 c ∧ AsyncReady s c ∧ c.params = [] ∧ s.check.commit = none) ∧
    (let s : State := up; let c : Call := ask []; Ready s 0x0B 0 c ∧ c.params = []) := by
  unfold Ready AsyncReady; refine ⟨?_, ?_, ?_, ?_, ?_, ?_, ?_, ?_⟩ <;> decide +kernel

set_option maxRecDepth 100000 in
theorem met_channelOpcodesComplete :
    (let s : State := up; let c : Call := ask [191, 0x100]; Ready s 0x10 0 c ∧ c.params.length = 2 ∧ c.fld 0 31 9 = 0 ∧ c.fld 0 7 0 < 192 ∧ c.fld 1 31 9 = 0 ∧ 1 ≤ c.fld 1 8 4 ∧ c.fld 1 3 0 + c.fld 1 8 4 ≤ 16) ∧
    (let s : State := up; let c : Call := ask [1, 0, 0, 0, 0, 0x80000000]; Ready s 0x12 1 c ∧ AsyncReady s c ∧ c.params.length = 6 ∧ (let u := startedAsync s 0x12 c; let l := maskChans c; l ≠ [] ∧ (∀ n ∈ l, (u.chan n).state ≠ 4 ∧ u.locked n = false ∧ u.checkDesc n l = 0) ∧ u.poolTooFull l = false ∧ (∀ n ∈ l, (u.tdesc n).enable = true → (u.chan n).state = 0 → u.admission n (u.tdesc n) ≠ 0))) ∧
    (let s : State := withPin; let c : Call := ask [0x80, 0, 0, 0, 0, 0]; Ready s 0x13 1 c ∧ AsyncReady s c ∧ c.params.length = 6 ∧ (let u := startedAsync s 0x13 c; let l := maskChans c; let new := l.filter (fun n => !u.running n); l ≠ [] ∧ (∀ n ∈ l, (u.chan n).state ≠ 4 ∧ u.locked n = false) ∧ (∀ n ∈ new, u.checkDesc n new = 0 ∧ (u.tdesc n).enable = true) ∧ (∀ n ∈ l, u.admission n (if u.running n then u.ad n else u.tdesc n) ≠ 0) ∧ u.poolTooFull new = false)) ∧
    (let s : State := withPin; let c : Call := ask [0x80, 0, 0, 0, 0, 0]; Ready s 0x14 1 c ∧ AsyncReady s c ∧ c.params.length = 6 ∧ (let u := startedAsync s 0x14 c; let l := maskChans c; l ≠ [] ∧ (∀ n ∈ l, (u.chan n).state ≠ 4))) ∧
    (let s : State := up; let c : Call := ask [191]; Ready s 0x15 0 c ∧ c.params.length = 1 ∧ (c.word 0).toNat < 192) ∧
    (let s : State := up; let c : Call := ask [4095, 5]; Ready s 0x16 1 c ∧ 2 ≤ c.params.length ∧ c.params.length ≤ 63 ∧ (c.word 0).toNat + c.params.length ≤ 4097) ∧
    (let s : State := up; let c : Call := ask [4095, 1]; Ready s 0x17 0 c ∧ c.params.length = 2 ∧ 1 ≤ (c.word 1).toNat ∧ (c.word 1).toNat < 64 ∧ (c.word 0).toNat + (c.word 1).toNat ≤ 4096) ∧
    (let s : State := up; let c : Call := ask [17]; Ready s 0x18 0 c ∧ c.params.length = 1 ∧ (c.word 0).toNat ≤ 17 ∧ s.isFenced 8 (portDomain (c.word 0).toNat) = false) := by
  unfold Ready AsyncReady; refine ⟨?_, ?_, ?_, ?_, ?_, ?_, ?_, ?_⟩ <;> decide +kernel

set_option maxRecDepth 100000 in
theorem met_seedAndServiceOpcodesComplete :
    (let s : State := up; let c : Call := ask [0x13F, 0x7F, 9]; Ready s 0x50 1 c ∧ c.fld 0 31 9 = 0 ∧ c.fld 0 7 6 = 0 ∧ c.fld 1 31 13 = 0 ∧ 1 ≤ c.fld 1 12 6 ∧ c.fld 1 12 6 ≤ 61 ∧ c.fld 1 5 0 + c.fld 1 12 6 ≤ 64 ∧ c.params.length = c.fld 1 12 6 + 2 ∧ (let n := c.fld 0 5 0; s.isFenced 8 7 = false ∧ s.isFenced 2 n = false ∧ (s.seed n).armed = false)) ∧
    (let s : State := up; let c : Call := ask [63, 0x7F]; Ready s 0x51 0 c ∧ c.params.length = 2 ∧ c.fld 0 31 6 = 0 ∧ c.fld 1 31 13 = 0 ∧ 1 ≤ c.fld 1 12 6 ∧ c.fld 1 12 6 ≤ 62 ∧ c.fld 1 5 0 + c.fld 1 12 6 ≤ 64 ∧ s.isFenced 8 7 = false) ∧
    (let s : State := withSeed; let c : Call := ask [1, 0, 0]; Ready s 0x52 1 c ∧ c.params.length = 3 ∧ c.word 2 = 0 ∧ (let u := started s 0x52 c; maskSeeds c ≠ [] ∧ s.isFenced 8 7 = false ∧ (∀ n ∈ maskSeeds c, s.isFenced 2 n = false ∧ u.seedCheck n (maskSeeds c) = 0))) ∧
    (let s : State := withSeed; let c : Call := ask [1, 0, 1]; let d := seedCall 1 c; Ready s 0x52 1 d ∧ maskSeeds d ≠ [] ∧ s.isFenced 8 7 = false ∧ (∀ n ∈ maskSeeds d, s.isFenced 2 n = false)) ∧
    (let s : State := withSeed; let c : Call := ask [1, 0, 2]; let d := seedCall 2 c; Ready s 0x52 1 d ∧ maskSeeds d ≠ [] ∧ s.isFenced 8 7 = false ∧ (∀ n ∈ maskSeeds d, s.isFenced 2 n = false) ∧ (let u := started s 0x52 d; let l := (maskSeeds d).filter (fun n => (u.seed n).armed); (∀ n ∈ l, u.seedCheck n l = 0))) ∧
    (let s : State := up; let c : Call := ask [16383, 1, 9]; Ready s 0x53 1 c ∧ c.fld 0 31 14 = 0 ∧ c.fld 1 31 6 = 0 ∧ 1 ≤ c.fld 1 5 0 ∧ c.fld 1 5 0 ≤ 61 ∧ c.fld 0 13 0 + c.fld 1 5 0 ≤ 16384 ∧ c.params.length = c.fld 1 5 0 + 2 ∧ s.isFenced 8 7 = false ∧ (let u := started s 0x53 c; let a := 0x21000000 + 4 * c.fld 0 13 0; (∀ k < 4 * c.fld 1 5 0, u.seedByteRefused (a + k) = false))) ∧
    (let s : State := up; let c : Call := ask [0x50000, 0, 0]; Ready s 0x54 1 c ∧ 2 ≤ c.params.length ∧ opSvcConfig.valid (started s 0x54 c) c = true ∧ s.isFenced 8 2 = false ∧ s.svcFenced c.svcIdx = false) ∧
    (let s : State := up; let c : Call := ask [0x10000]; Ready s 0x55 0 c ∧ c.params.length = 1 ∧ c.fld 0 31 19 = 0 ∧ c.fld 0 11 0 = 0 ∧ svcNamed c = true ∧ s.isFenced 8 2 = false) := by
  unfold Ready; refine ⟨?_, ?_, ?_, ?_, ?_, ?_, ?_, ?_⟩ <;> decide +kernel

set_option maxRecDepth 100000 in
theorem met_panOpcodesComplete :
    (let s : State := up; let c : Call := ask [31, 0, 1023, 0]; s.isFenced 8 8 = false ∧ Ready s 0x20 1 c ∧ c.params.length = 4 ∧ (c.word 0).toNat < 32 ∧ c.fld 1 26 16 = 0 ∧ (c.word 2).toNat < 1024 ∧ c.word 3 = 0 ∧ (let n := (c.word 0).toNat; let u := started s 0x20 c; s.isFenced 4 n = false ∧ u.panCfgOk n (c.word 1) = true)) ∧
    (let s : State := withPan; let c : Call := ask [31, 0x80000000, 62]; s.isFenced 8 8 = false ∧ Ready s 0x21 0 c ∧ c.params.length = 3 ∧ c.fld 0 31 9 = 0 ∧ c.fld 0 7 5 = 0 ∧ c.fld 1 30 19 = 0 ∧ (bitAt (c.word 1) 31 = true → c.fld 1 18 0 = 0) ∧ 1 ≤ (c.word 2).toNat ∧ (c.word 2).toNat ≤ 62 ∧ (let n := c.fld 0 4 0; let u := started s 0x21 c; let x := s.stream n; let cfg := s.app .panCfg n; let r := ringSize cfg; let start := if bitAt (c.word 1) 31 then x.rp else c.fld 1 18 0; s.isFenced 4 n = false ∧ s.streamOn n = true ∧ (u.recStarts cfg x.wp (ringDist r x.keep x.wp) x.keep).contains start = true)) ∧
    (let s : State := withPan; let c : Call := ask [31]; s.isFenced 8 8 = false ∧ Ready s 0x22 0 c ∧ c.params.length = 1 ∧ c.fld 0 31 9 = 0 ∧ c.fld 0 7 5 = 0 ∧ (let n := c.fld 0 4 0; s.isFenced 4 n = false ∧ s.streamOn n = true ∧ bitAt (c.word 0) 8 = false)) ∧
    (let s : State := withPan; let c : Call := ask [0x11F]; s.isFenced 8 8 = false ∧ Ready s 0x22 0 c ∧ c.params.length = 1 ∧ c.fld 0 31 9 = 0 ∧ c.fld 0 7 5 = 0 ∧ (let n := c.fld 0 4 0; s.isFenced 4 n = false ∧ s.streamOn n = true ∧ bitAt (c.word 0) 8 = true)) ∧
    (let s : State := withMark; let c : Call := ask [31]; s.isFenced 8 8 = false ∧ Ready s 0x23 0 c ∧ c.params.length = 1 ∧ (c.word 0).toNat < 32 ∧ (let n := (c.word 0).toNat; let x := s.stream n; s.isFenced 4 n = false ∧ s.streamOn n = true ∧ x.markValid = true)) ∧
    (let s : State := withPan; let c : Call := ask [31]; s.isFenced 8 8 = false ∧ Ready s 0x23 0 c ∧ c.params.length = 1 ∧ (c.word 0).toNat < 32 ∧ (let n := (c.word 0).toNat; let x := s.stream n; s.isFenced 4 n = false ∧ s.streamOn n = true ∧ x.markValid = false)) ∧
    (let s : State := withPan; let c : Call := ask [32]; s.isFenced 8 8 = false ∧ Ready s 0x24 1 c ∧ c.params.length = 1 ∧ (let n := (c.word 0).toNat; n = 32)) ∧
    (let s : State := withPan; let c : Call := ask [31]; s.isFenced 8 8 = false ∧ Ready s 0x24 1 c ∧ c.params.length = 1 ∧ (let n := (c.word 0).toNat; n < 32 ∧ s.isFenced 4 n = false)) ∧
    (let s : State := up; let c : Call := ask [31]; s.isFenced 8 8 = false ∧ Ready s 0x25 0 c ∧ c.params.length = 1 ∧ (c.word 0).toNat < 32 ∧ (let n := (c.word 0).toNat; s.isFenced 4 n = false)) := by
  unfold Ready; refine ⟨?_, ?_, ?_, ?_, ?_, ?_, ?_, ?_, ?_⟩ <;> decide +kernel

set_option maxRecDepth 100000 in
theorem met_timebaseOpcodesComplete :
    (let s : State := up; let c : Call := ask [3]; Ready s 0x30 0 c ∧ c.params.length = 1 ∧ (c.word 0).toNat < 4 ∧ (let u := started s 0x30 c; (u.edgePush 80).2 = true)) ∧
    (let s : State := { up with time := { up.time with latches := [(80, [(1, 0), (1, 0)])] } }; let c : Call := ask [3]; Ready s 0x30 0 c ∧ c.params.length = 1 ∧ (c.word 0).toNat < 4 ∧ (let u := started s 0x30 c; (u.edgePush 80).2 = false)) ∧
    (let s : State := up; let c : Call := ask [3, 5, 0]; Ready s 0x31 1 c ∧ c.params.length = 3 ∧ c.fld 0 31 9 = 0 ∧ c.fld 0 7 2 = 0 ∧ (let k := c.fld 0 1 0; k ≠ 0 ∧ bitAt (c.word 0) 8 = false ∧ (s.tb k).state = 0)) ∧
    (let s : State := withServo; let c : Call := ask [0x103, 5, 0]; Ready s 0x31 1 c ∧ c.params.length = 3 ∧ c.fld 0 31 9 = 0 ∧ c.fld 0 7 2 = 0 ∧ (let k := c.fld 0 1 0; k ≠ 0 ∧ bitAt (c.word 0) 8 = true ∧ s.svcFenced 26 = false ∧ (s.tbSource k = 3 ∨ s.isGm k = true))) ∧
    (let s : State := withTb; let c : Call := ask [0x103, 5, 0]; Ready s 0x32 1 c ∧ c.params.length = 3 ∧ c.fld 0 31 9 = 0 ∧ c.fld 0 7 2 = 0 ∧ (let k := c.fld 0 1 0; k ≠ 0 ∧ (s.tb k).state ≠ 0 ∧ bitAt (c.word 0) 8 = true)) ∧
    (let s : State := withTb; let c : Call := ask [3, 0, 0]; Ready s 0x32 1 c ∧ c.params.length = 3 ∧ c.fld 0 31 9 = 0 ∧ c.fld 0 7 2 = 0 ∧ (let k := c.fld 0 1 0; let u := started s 0x32 c; k ≠ 0 ∧ (s.tb k).state ≠ 0 ∧ bitAt (c.word 0) 8 = false ∧ c.pair 1 = 0 ∧ s.svcFenced 26 = false ∧ (∃ a, (s.tb k).measAt = some a ∧ u.tb0u - a < u.lossUnits k))) ∧
    (let s : State := up; let c : Call := ask [3, 285870602]; Ready s 0x33 1 c ∧ c.params.length = 2 ∧ c.fld 0 31 10 = 0 ∧ c.fld 0 7 2 = 0 ∧ c.fld 1 31 30 = 0 ∧ (let n := c.fld 0 1 0; let w := w32 (c.fld 0 9 8 * 2 ^ 30 + c.fld 1 29 0); n ≠ 0 ∧ s.tbCtlOk n w = true)) := by
  unfold Ready; refine ⟨?_, ?_, ?_, ?_, ?_, ?_, ?_⟩ <;> decide +kernel

set_option maxRecDepth 100000 in
theorem met_launchTimerAndCalendarOpcodesComplete :
    (let s : State := up; let c : Call := ask [0x47F, 10000, 0, 0, 0, 0, 0x10000000 + 191, 0]; s.isFenced 8 11 = false ∧ Ready s 0x34 1 c ∧ c.params.length = 8 ∧ launchWordsOk c = true ∧ s.pwr.reserveHold = false ∧ s.tbSet (c.fld 0 9 8) = true ∧ (s.slt.stale = false ∨ s.saltTb ≠ some (c.fld 0 9 8)) ∧ (let u := started s 0x34 c; let period := c.pair 3; let policy := c.fld 0 13 12; let l : Launch := { state := if bitAt (c.word 0) 10 then 1 else 2, onStart := bitAt (c.word 0) 10, late := if policy = 0 then (if period = 0 then 1 else 2) else policy, tb := c.fld 0 9 8, time := c.pair 1, period := period, rept := (c.word 5).toNat, action := c.fld 6 31 28, allBound := bitAt (c.word 6) 8, arg := c.fld 6 7 0, pinMode := c.fld 7 17 16, width := c.fld 7 15 0, t0 := c.pair 1, k := 0, fired := 0, skipped := 0, firings := 0 }; (u.launchLate l = false ∨ l.late ≠ 3))) ∧
    (let s : State := up; let c : Call := ask [127]; s.isFenced 8 11 = false ∧ Ready s 0x35 1 c ∧ c.params.length = 1 ∧ (c.word 0).toNat < 128) ∧
    (let s : State := up; let c : Call := ask [0x13F, 0x00030000, 10, 9]; s.isFenced 8 11 = false ∧ Ready s 0x36 1 c ∧ c.params.length = 4 ∧ c.fld 0 31 9 = 0 ∧ c.fld 0 7 6 = 0 ∧ c.fld 1 31 29 = 0 ∧ c.fld 1 27 24 = 0 ∧ c.fld 1 10 9 = 0 ∧ c.word 2 ≠ 0 ∧ (bitAt (c.word 1) 17 = true → (c.word 3).toNat < (c.word 2).toNat)) ∧
    (let s : State := up; let c : Call := ask [0, 0x02000000, 0, 0]; c.params.length = 4 ∧ s.isFenced 8 2 = false ∧ Ready s 0x37 1 c ∧ c.fld 1 24 16 = 0 ∧ -48 ≤ signedOf 8 (c.fld 1 15 8) ∧ signedOf 8 (c.fld 1 15 8) ≤ 56 ∧ c.fld 1 7 0 ≤ 120 ∧ ruleOk (c.word 2) = true ∧ ruleOk (c.word 3) = true ∧ bitAt (c.word 1) 25 = true) ∧
    (let s : State := up; let c : Call := ask [0xC7CFDFB0, 0xEC000000, 0, 0]; c.params.length = 4 ∧ s.isFenced 8 2 = false ∧ Ready s 0x37 1 c ∧ c.fld 1 24 16 = 0 ∧ -48 ≤ signedOf 8 (c.fld 1 15 8) ∧ signedOf 8 (c.fld 1 15 8) ≤ 56 ∧ c.fld 1 7 0 ≤ 120 ∧ ruleOk (c.word 2) = true ∧ ruleOk (c.word 3) = true ∧ bitAt (c.word 1) 25 = false ∧ dateOk (c.word 0) (c.fld 1 31 26) = true ∧ s.calSource = 0) ∧
    (let s : State := up; let c : Call := ask [3, 0, 0x03E00000, 0]; c.params.length = 4 ∧ s.isFenced 8 2 = false ∧ Ready s 0x38 1 c ∧ opCalAlarm.valid s c = true) := by
  unfold Ready; refine ⟨?_, ?_, ?_, ?_, ?_, ?_⟩ <;> decide +kernel

theorem met_energyOpcodesComplete :
    (let s : State := up; let c : Call := ask [819232]; Ready s 0x40 1 c ∧ c.params.length = 1 ∧ plnCfgOk (c.word 0) = true ∧ c.fld 0 4 2 = 0 ∧ (c.fld 0 1 0 = 2 → s.reg64 .plnBudget 0 ≠ 0)) ∧
    (let s : State := up; let c : Call := ask [1, 0, 0, 0]; Ready s 0x41 1 c ∧ c.params.length = 4 ∧ c.pair 0 ≠ 0 ∧ c.pair 0 < 2 ^ 48 ∧ c.pair 2 < 2 ^ 48) ∧
    (let s : State := up; let c : Call := ask [0]; Ready s 0x42 0 c ∧ c.params.length = 1 ∧ c.word 0 = 0) ∧
    (let s : State := up; let c : Call := ask [0x5182]; Ready s 0x42 0 c ∧ c.params.length = 1 ∧ c.fld 0 31 16 = 0 ∧ c.fld 0 15 14 = 1 ∧ 1 ≤ c.fld 0 13 8 ∧ c.fld 0 13 8 ≤ 62 ∧ c.fld 0 7 0 + c.fld 0 13 8 ≤ 192) ∧
    (let s : State := up; let c : Call := ask [0]; Ready s 0x43 0 c ∧ c.params.length = 1 ∧ c.word 0 = 0) ∧
    (let s : State := up; let c : Call := ask [0x4000]; Ready s 0x43 0 c ∧ c.params.length = 1 ∧ c.word 0 = 0x4000) ∧
    (let s : State := up; let c : Call := ask [0x97A9]; Ready s 0x43 0 c ∧ c.params.length = 1 ∧ c.fld 0 31 16 = 0 ∧ c.fld 0 13 13 = 0 ∧ c.fld 0 15 14 = 2 ∧ 1 ≤ c.fld 0 12 8 ∧ c.fld 0 12 8 ≤ 23 ∧ c.fld 0 7 0 + c.fld 0 12 8 ≤ 192) := by
  unfold Ready; refine ⟨?_, ?_, ?_, ?_, ?_, ?_, ?_⟩ <;> decide +kernel

set_option maxRecDepth 100000 in
theorem met_storeOpcodesComplete :
    (let s : State := up; let c : Call := ask [10239, 1]; s.storeOff = false ∧ Ready s 0x80 0 c ∧ c.params.length = 2 ∧ (c.word 0).toNat < 10240 ∧ 1 ≤ (c.word 1).toNat ∧ (c.word 1).toNat < 64 ∧ (c.word 0).toNat + (c.word 1).toNat ≤ 10240) ∧
    (let s : State := up; let c : Call := ask [0x80000000 + 10239, 1]; s.storeOff = false ∧ Ready s 0x80 0 c ∧ c.params.length = 2 ∧ (c.word 0).toNat = 2 ^ 31 + c.fld 0 13 0 ∧ 1 ≤ (c.word 1).toNat ∧ (c.word 1).toNat < 64 ∧ c.fld 0 13 0 + (c.word 1).toNat ≤ 10240) ∧
    (let s : State := up; let c : Call := ask [0x10000]; s.storeOff = false ∧ (Ready s 0x81 (if s.store.lockCfg then 2 else 1) c) ∧ AsyncReady s c ∧ c.params.length = 1 ∧ c.fld 0 15 1 = 0 ∧ s.storeBusy = false ∧ s.check.commit = none) ∧
    (let s : State := up; let c : Call := ask [2]; s.storeOff = false ∧ (Ready s 0x82 (if s.store.lockCfg then 2 else 1) c) ∧ c.params.length = 1 ∧ (c.word 0).toNat < 3 ∧ s.storeBusy = false) ∧
    (let s : State := secured; let c : Call := ask [90112, 0]; s.storeOff = false ∧ s.provisioned = true ∧ s.verifying = false ∧ s.storeBusy = false ∧ Ready s 0x83 2 c ∧ c.params.length = 2 ∧ 128 ≤ (c.word 0).toNat ∧ (c.word 0).toNat ≤ 90112 ∧ (c.word 0).toNat % 4 = 0) ∧
    (let s : State := loading; let c : Call := ask [0, 1]; s.storeOff = false ∧ s.provisioned = true ∧ s.verifying = false ∧ s.storeBusy = false ∧ (let x := ⟨0, 128, 0, [], none, none⟩; s.store.xfer = some x ∧ Ready s 0x84 2 c ∧ 2 ≤ c.params.length ∧ ((c.word 0).toNat = 4 * x.words.length ∨ x.lastOff = some (c.word 0).toNat) ∧ (c.word 0).toNat + 4 * (c.params.length - 1) ≤ x.length)) ∧
    (let s : State := loading; let c : Call := ask []; s.storeOff = false ∧ s.provisioned = true ∧ s.verifying = false ∧ s.storeBusy = false ∧ (let x := ⟨0, 128, 0, [], none, none⟩; s.store.xfer = some x ∧ Ready s 0x85 2 c ∧ AsyncReady s c ∧ c.params = [])) ∧
    (let s : State := up; let c : Call := ask [2, 0, 0x50524F56, 0]; s.storeOff = false ∧ Ready s 0x86 1 c ∧ s.provisioned = false ∧ s.storeBusy = false ∧ c.params.length = 4 ∧ provisionOk c = true) ∧
    (let s : State := secured; let c : Call := ask [3, 0, 0, 0, 0, 1114675946]; s.storeOff = false ∧ Ready s 0x87 2 c ∧ s.provisioned = true ∧ s.storeBusy = false ∧ c.params.length = 6 ∧ c.fld 0 31 9 = 0 ∧ c.fld 0 7 2 = 0 ∧ (let words := (c.params.drop 1).take 4; bitAt (c.word 0) 8 = false ∧ crc32c (wordsBytes words) = c.word 5)) ∧
    (let s : State := secured; let c : Call := ask [0x103, 0, 0, 0, 0, 0]; s.storeOff = false ∧ Ready s 0x87 2 c ∧ s.provisioned = true ∧ s.storeBusy = false ∧ c.params.length = 6 ∧ c.fld 0 31 9 = 0 ∧ c.fld 0 7 2 = 0 ∧ bitAt (c.word 0) 8 = true ∧ c.params.drop 1 = List.replicate 5 0) := by
  unfold Ready AsyncReady; refine ⟨?_, ?_, ?_, ?_, ?_, ?_, ?_, ?_, ?_, ?_⟩ <;> decide +kernel

set_option maxRecDepth 100000 in
theorem met_salternOpcodesComplete :
    (let s : State := up; let c : Call := ask [0x11F02, 0xFF]; s.isFenced 8 10 = false ∧ Ready s 0x60 1 c ∧ c.params.length = 2 ∧ c.fld 0 31 17 = 0 ∧ c.fld 0 15 13 = 0 ∧ c.fld 0 7 2 = 0 ∧ c.fld 0 1 0 ≠ 3 ∧ c.fld 1 31 8 = 0 ∧ s.slt.state = 0) ∧
    (let s : State := inSaltern; let c : Call := ask [0x10002 + inSaltern.ownIndex * 256, 0xFF]; s.isFenced 8 10 = false ∧ Ready s 0x60 1 c ∧ c.params.length = 2 ∧ c.fld 0 31 17 = 0 ∧ c.fld 0 15 13 = 0 ∧ c.fld 0 7 2 = 0 ∧ c.fld 0 1 0 ≠ 3 ∧ c.fld 1 31 8 = 0 ∧ (let r : Role := ⟨c.fld 0 1 0, c.fld 0 12 8, c.fld 1 7 0, bitAt (c.word 0) 16⟩; s.slt.state ≠ 0 ∧ r.index = s.ownIndex)) ∧
    (let s : State := up; let c : Call := ask []; s.isFenced 8 10 = false ∧ Ready s 0x61 0 c ∧ c.params = []) ∧
    (let s : State := up; let c : Call := ask [0x8000001F, 5]; s.isFenced 8 10 = false ∧ Ready s 0x62 1 c ∧ c.params.length = 2 ∧ c.fld 0 30 5 = 0 ∧ s.slt.stale = false) ∧
    (let s : State := inSaltern; let c : Call := ask []; s.isFenced 8 10 = false ∧ Ready s 0x63 1 c ∧ AsyncReady s c ∧ c.params = [] ∧ s.slt.state ≠ 0) ∧
    (let s : State := up; let c : Call := ask [1]; s.isFenced 8 10 = false ∧ Ready s 0x64 0 c ∧ c.params.length = 1 ∧ (c.word 0).toNat < 2 ∧ s.isFenced 6 (c.word 0).toNat = false) := by
  unfold Ready AsyncReady; refine ⟨?_, ?_, ?_, ?_, ?_, ?_⟩ <;> decide +kernel

set_option maxRecDepth 100000 in
theorem met_radioOpcodesComplete :
    (let s : State := up; let c : Call := ask [5248, 0xFFFFFFFE, 3034717547, 53627648]; s.isFenced 8 9 = false ∧ s.isFenced 5 0 = false ∧ Ready s 0x70 1 c ∧ c.params.length = 4 ∧ rfCfgOk (c.word 0) = true ∧ c.fld 0 23 13 = 0 ∧ rfSyncOk (c.word 2) = true ∧ rfMacOk (c.word 3) = true ∧ c.fld 3 7 0 = 0 ∧ (s.provisioned = true ∨ c.fld 3 30 29 = 0)) ∧
    (let s : State := up; let c : Call := ask [0x103, 31, 0x00100000]; s.isFenced 8 9 = false ∧ s.isFenced 5 0 = false ∧ Ready s 0x71 0 c ∧ AsyncReady s c ∧ 2 ≤ c.params.length ∧ s.rfTxOk c = true ∧ (bitAt (c.word 0) 6 = true → s.provisioned = true ∧ s.keySet (c.fld 0 5 4) = true) ∧ bitAt (c.word 0) 8 = true) ∧
    (let s : State := up; let c : Call := ask [3, 31, 0x00100000]; s.isFenced 8 9 = false ∧ s.isFenced 5 0 = false ∧ Ready s 0x71 0 c ∧ AsyncReady s c ∧ 2 ≤ c.params.length ∧ s.rfTxOk c = true ∧ (bitAt (c.word 0) 6 = true → s.provisioned = true ∧ s.keySet (c.fld 0 5 4) = true) ∧ bitAt (c.word 0) 8 = false) ∧
    (let s : State := up; let c : Call := ask [2, 10000]; s.isFenced 8 9 = false ∧ s.isFenced 5 0 = false ∧ Ready s 0x72 0 c ∧ c.params.length = 2 ∧ (c.word 0).toNat < 3 ∧ 10 ≤ (c.word 1).toNat ∧ (c.word 1).toNat ≤ 10000) ∧
    (let s : State := up; let c : Call := ask [15]; s.isFenced 8 9 = false ∧ s.isFenced 5 0 = false ∧ Ready s 0x73 1 c ∧ AsyncReady s c ∧ c.params.length = 1 ∧ (c.word 0).toNat < 16 ∧ s.rf.cal = none) ∧
    (let s : State := up; let c : Call := ask []; s.isFenced 8 9 = false ∧ s.isFenced 5 0 = false ∧ Ready s 0x74 0 c ∧ c.params = []) := by
  unfold Ready AsyncReady; refine ⟨?_, ?_, ?_, ?_, ?_, ?_⟩ <;> decide +kernel

set_option maxRecDepth 100000 in
theorem met_fenceAndLogOpcodesComplete :
    (let s : State := logged; let c : Call := ask [0, 1]; Ready s 0x90 0 c ∧ c.params.length = 2 ∧ (c.word 0).toNat < 256 ∧ 1 ≤ (c.word 1).toNat ∧ (c.word 1).toNat < 32 ∧ (c.word 0).toNat + (c.word 1).toNat ≤ s.log.length) ∧
    (let s : State := up; let c : Call := ask []; Ready s 0x91 1 c ∧ c.params = []) ∧
    (let s : State := up; let c : Call := ask [0x80B]; c.params.length = 1 ∧ (c.word 0).toNat < 4096 ∧ (let kind := (c.word 0).toNat / 256; let index := (c.word 0).toNat % 256; selectorOk kind index = true ∧ Ready s 0x92 1 c)) ∧
    (let s : State := up; let c : Call := ask [0x80B]; c.params.length = 1 ∧ (c.word 0).toNat < 4096 ∧ (let kind := (c.word 0).toNat / 256; let index := (c.word 0).toNat % 256; selectorOk kind index = true ∧ Ready s 0x93 1 c ∧ (kind = 8 ∨ s.isFenced 8 (funcDomain kind index) = false))) ∧
    (let s : State := up; let c : Call := ask []; Ready s 0x94 0 c ∧ c.params = []) := by
  unfold Ready; refine ⟨?_, ?_, ?_, ?_, ?_⟩ <;> decide +kernel

set_option maxRecDepth 100000 in
theorem met_chanWriteStoresDescriptorWords :
    (let s : State := up.modChan 191 (fun x => { x with state := 4 }); let c : Call := ask [0x1BF, 0x1F, 9]; Ready s 0x11 1 c ∧ c.params.length = c.fld 1 8 4 + 2 ∧ c.fld 0 31 9 = 0 ∧ c.fld 0 7 0 < 192 ∧ c.fld 1 31 9 = 0 ∧ 1 ≤ c.fld 1 8 4 ∧ c.fld 1 3 0 + c.fld 1 8 4 ≤ 16 ∧ (let n := c.fld 0 7 0; (s.chan n).state = 4)) ∧
    (let s : State := { up with jobs := [⟨0, 0x12, 1, true, [191], false, [], false⟩] }; let c : Call := ask [0x1BF, 0x1F, 9]; Ready s 0x11 1 c ∧ c.params.length = c.fld 1 8 4 + 2 ∧ c.fld 0 31 9 = 0 ∧ c.fld 0 7 0 < 192 ∧ c.fld 1 31 9 = 0 ∧ 1 ≤ c.fld 1 8 4 ∧ c.fld 1 3 0 + c.fld 1 8 4 ≤ 16 ∧ (let n := c.fld 0 7 0; (s.chan n).state ≠ 4 ∧ s.tableRefused n = true)) ∧
    (let s : State := up; let c : Call := ask [0x1BF, 0x1F, 9]; Ready s 0x11 1 c ∧ c.params.length = c.fld 1 8 4 + 2 ∧ c.fld 0 31 9 = 0 ∧ c.fld 0 7 0 < 192 ∧ c.fld 1 31 9 = 0 ∧ 1 ≤ c.fld 1 8 4 ∧ c.fld 1 3 0 + c.fld 1 8 4 ≤ 16 ∧ (let n := c.fld 0 7 0; (s.chan n).state ≠ 4 ∧ s.tableRefused n = false)) ∧
    (let s : State := up; let c : Call := ask [0x1BF, 0x1F, 9]; Ready s 0x11 1 c ∧ c.params.length = c.fld 1 8 4 + 2 ∧ c.fld 0 31 9 = 0 ∧ c.fld 0 7 0 < 192 ∧ c.fld 1 31 9 = 0 ∧ 1 ≤ c.fld 1 8 4 ∧ c.fld 1 3 0 + c.fld 1 8 4 ≤ 16 ∧ (let n := c.fld 0 7 0; (s.chan n).state ≠ 4 ∧ s.tableRefused n = false ∧ (let k := 14; k < 15))) ∧
    (let s : State := up; let c : Call := ask [0x1BF, 0x1F, 9]; Ready s 0x11 1 c ∧ c.params.length = c.fld 1 8 4 + 2 ∧ c.fld 0 31 9 = 0 ∧ c.fld 0 7 0 < 192 ∧ c.fld 1 31 9 = 0 ∧ 1 ≤ c.fld 1 8 4 ∧ c.fld 1 3 0 + c.fld 1 8 4 ≤ 16 ∧ (let n := c.fld 0 7 0; let a := 0x20000000 + 64 * n; (s.chan n).state ≠ 4 ∧ s.tableRefused n = false ∧ (let b := 0x20000000 + 64 * 191 - 1; (b < a ∨ a + 64 ≤ b)))) := by
  unfold Ready; refine ⟨?_, ?_, ?_, ?_, ?_⟩ <;> decide +kernel

set_option maxRecDepth 100000 in
theorem met_ackReadGivesTheVectorThatIsDue :
    (let s : State := ringing; let h : Nat := 0; let t : Nat := 0; s.pwr.phase = 2 ∧ s.pwr.floor = 0 ∧ h < 4 ∧ t < 4 ∧ s.judge h (Reg.addr .icAck t) 4 none = .pass ∧ s.faultVector t = none ∧ s.deliverable t ≠ []) ∧
    (let s : State := ringing; let h : Nat := 0; let t : Nat := 0; s.pwr.phase = 2 ∧ s.pwr.floor = 0 ∧ h < 4 ∧ t < 4 ∧ s.judge h (Reg.addr .icAck t) 4 none = .pass ∧ s.faultVector t = none ∧ s.deliverable t ≠ [] ∧ (let x := (1, 8); x ∈ s.deliverable t)) ∧
    (let s : State := up.modTarget 0 (fun x => { x with stackFault := true }); let h : Nat := 0; let t : Nat := 0; s.pwr.phase = 2 ∧ s.pwr.floor = 0 ∧ h < 4 ∧ t < 4 ∧ s.judge h (Reg.addr .icAck t) 4 none = .pass ∧ (s.target t).stackFault = true) ∧
    (let s : State := up.modTarget 0 (fun x => { x with logSat := true }); let h : Nat := 0; let t : Nat := 0; s.pwr.phase = 2 ∧ s.pwr.floor = 0 ∧ h < 4 ∧ t < 4 ∧ s.judge h (Reg.addr .icAck t) 4 none = .pass ∧ (s.target t).stackFault = false ∧ (s.target t).logSat = true ∧ s.bankFenced t = false) ∧
    (let s : State := up; let h : Nat := 0; let t : Nat := 0; s.pwr.phase = 2 ∧ s.pwr.floor = 0 ∧ h < 4 ∧ t < 4 ∧ s.judge h (Reg.addr .icAck t) 4 none = .pass ∧ s.faultVector t = none ∧ s.deliverable t = []) := by
  refine ⟨?_, ?_, ?_, ?_, ?_⟩ <;> decide +kernel

set_option maxRecDepth 100000 in
theorem met_eoiWriteEndsTheTopVector :
    (let s : State := up; let h : Nat := 0; let t : Nat := 0; let v : Nat := 0x3FD; s.writeUp h = true ∧ t < 4 ∧ v < 1024 ∧ (s.atF 0).judge h (Reg.addr .icEoi t) 4 (some v) = .pass ∧ 0x3FD ≤ v) ∧
    (let s : State := up.modTarget 0 (fun x => { x with stack := [(0x3FC, 8)] }); let h : Nat := 0; let t : Nat := 0; let v : Nat := 0x3FC; s.writeUp h = true ∧ t < 4 ∧ v < 1024 ∧ (s.atF 0).judge h (Reg.addr .icEoi t) 4 (some v) = .pass ∧ v < 0x3FD ∧ (let prio := 8; let rest := []; (s.target t).stack = (v, prio) :: rest)) ∧
    (let s : State := up; let h : Nat := 0; let t : Nat := 0; let v : Nat := 0x3FC; s.writeUp h = true ∧ t < 4 ∧ v < 1024 ∧ (s.atF 0).judge h (Reg.addr .icEoi t) 4 (some v) = .pass ∧ v < 0x3FD ∧ ((s.target t).stack.head?).map (·.1) ≠ some v) := by
  refine ⟨?_, ?_, ?_⟩ <;> decide +kernel

set_option maxRecDepth 100000 in
theorem met_interruptCommandsComplete :
    (let s : State := up; let h : Nat := 0; let t : Nat := 3; let v : Nat := 1; s.writeUp h = true ∧ t < 4 ∧ v < 2 ∧ (s.atF 0).judge h (Reg.addr .icDbell t) 4 (some v) = .pass) ∧
    (let s : State := ringing.setReg .icTgtcfg 0 0x80000000; bitAt (s.reg .icTgtcfg s.hp1Host) 31 = true ∧ s.hasDelivery s.hp1Host = true ∧ s.asleep s.hp1Host = false) ∧
    (let s : State := (((up.setReg .icTgtcfg 0 0x40000000).modHost 0 (fun x => { x with pinAsleep := true })).setSrc 239 ⟨true, none, some 0⟩); let k : Nat := 239; let t : Nat := 0; k < 240 ∧ (s.src k).wakeSent = some t ∧ (s.src k).pending = true ∧ (s.src k).moved = none ∧ s.asleep t = true ∧ (let cfg := s.reg .icTgtcfg t; let fb := bits cfg 29 28; bitAt cfg 30 = true ∧ s.bankFenced fb = false)) := by
  refine ⟨?_, ?_, ?_⟩ <;> decide +kernel

set_option maxRecDepth 100000 in
theorem met_sluiceCommandsComplete :
    (let s : State := withSluice.setReg .slOwn 63 0; s.fabricOff = false ∧ (let h : Nat := 0; let n : Nat := 63; s.writeUp h = true ∧ n < 64 ∧ s.judge h (Reg.addr .slFire 0) 4 (some n) = .pass ∧ s.slOn n = true ∧ (let owner := s.fld .slOwn n 2 0; owner = h))) ∧
    (let s : State := withSluice.setReg .slOwn 63 1; s.fabricOff = false ∧ (let h : Nat := 0; let n : Nat := 63; s.writeUp h = true ∧ n < 64 ∧ s.judge h (Reg.addr .slFire 0) 4 (some n) = .pass ∧ s.slOn n = true ∧ (let owner := s.fld .slOwn n 2 0; owner ≠ h))) ∧
    (let s : State := { up with evq := [⟨0, 1⟩] }; s.fabricOff = false ∧ (let e := ⟨0, 1⟩; let t := []; s.evq = e :: t ∧ (let u := ({ s with evq := t }).countEvents e.output; u.slFed e.output = []))) ∧
    (let s : State := { withSluice with evq := [⟨0, 1⟩] }; s.fabricOff = false ∧ (let e := ⟨0, 1⟩; let t := []; s.evq = e :: t ∧ (let u := ({ s with evq := t }).countEvents e.output; u.slFed e.output ≠ []))) ∧
    (let s : State := withSluice.modSluice 63 (fun x => { x with filtering := some 5 }); s.fabricOff = false ∧ (let n : Nat := 63; let w : Nat := 5; n < 64 ∧ (s.sluice n).filtering = some w ∧ s.slFf n = 0)) ∧
    (let s : State := (withSluice.setApp .slCtl 63 0xD0000000).modSluice 63 (fun x => { x with filtering := some 5 }); s.fabricOff = false ∧ (let n : Nat := 63; let w : Nat := 5; n < 64 ∧ (s.sluice n).filtering = some w ∧ s.slFf n ≠ 0)) := by
  refine ⟨?_, ?_, ?_, ?_, ?_, ?_⟩ <;> decide +kernel

set_option maxRecDepth 100000 in
theorem met_launchCommandsComplete :
    (let s : State := up.setLaunch 127 { Launch.reset with onStart := true, state := 1 }; let n : Nat := 127; n < 128 ∧ s.pd11Stopped = false ∧ (let l := s.launch n; l.onStart = true ∧ l.state = 1)) ∧
    (let s : State := up.setLaunch 127 { Launch.reset with onStart := true, state := 2 }; let n : Nat := 127; n < 128 ∧ s.pd11Stopped = false ∧ (let l := s.launch n; l.onStart = true ∧ l.state = 2)) ∧
    (let s : State := up; let n : Nat := 127; n < 128 ∧ s.pd11Stopped = false ∧ (let l := s.launch n; (l.onStart = false ∨ l.state = 0 ∨ l.state = 3))) ∧
    (let s : State := { withLaunch with slt := { withLaunch.slt with outlier := true } }; let n : Nat := 127; let u : State := s; n < 128 ∧ s.pd11Stopped = false ∧ (let l := s.launch n; l.state = 2 ∧ s.tbSet l.tb = true ∧ s.toTb l.tb ((l.t0 + l.k * l.period) * 2 ^ 32) = some u ∧ (let ended := (l.period = 0 && l.k + 1 ≠ 0) || (l.rept ≠ 0 && decide (l.rept ≤ l.k + 1)); let v := u.setLaunch n { l with k := l.k + 1, state := if ended then (if l.onStart then 1 else 3) else l.state }; let outlier := v.slt.outlier && v.saltTb == some (v.launch n).tb; outlier = true))) ∧
    (let s : State := withLaunch; let n : Nat := 127; let u : State := s; n < 128 ∧ s.pd11Stopped = false ∧ (let l := s.launch n; l.state = 2 ∧ s.tbSet l.tb = true ∧ s.toTb l.tb ((l.t0 + l.k * l.period) * 2 ^ 32) = some u ∧ (let ended := (l.period = 0 && l.k + 1 ≠ 0) || (l.rept ≠ 0 && decide (l.rept ≤ l.k + 1)); let v := u.setLaunch n { l with k := l.k + 1, state := if ended then (if l.onStart then 1 else 3) else l.state }; let outlier := v.slt.outlier && v.saltTb == some (v.launch n).tb; outlier = false ∧ (let w := v.setLaunch n { (v.launch n) with fired := ((v.launch n).fired + 1) % 65536, firings := min (2 ^ 29 - 1) ((v.launch n).firings + 1) }; (w.launchAction n l.k false).2 = true)))) ∧
    (let s : State := withLaunch.setLaunch 127 { Launch.reset with state := 2, action := 1, arg := 191, tb := 1 }; let n : Nat := 127; let u : State := s; n < 128 ∧ s.pd11Stopped = false ∧ (let l := s.launch n; l.state = 2 ∧ s.tbSet l.tb = true ∧ s.toTb l.tb ((l.t0 + l.k * l.period) * 2 ^ 32) = some u ∧ (let ended := (l.period = 0 && l.k + 1 ≠ 0) || (l.rept ≠ 0 && decide (l.rept ≤ l.k + 1)); let v := u.setLaunch n { l with k := l.k + 1, state := if ended then (if l.onStart then 1 else 3) else l.state }; let outlier := v.slt.outlier && v.saltTb == some (v.launch n).tb; outlier = false ∧ (let w := v.setLaunch n { (v.launch n) with fired := ((v.launch n).fired + 1) % 65536, firings := min (2 ^ 29 - 1) ((v.launch n).firings + 1) }; (w.launchAction n l.k false).2 = false)))) ∧
    (let s : State := up.modPin 31 (fun p => { p with pulses := [true, false] }); let n : Nat := 31; n < 32 ∧ (let a := true; let b := false; let t := []; (s.pin n).pulses = a :: b :: t)) ∧
    (let s : State := up.modPin 31 (fun p => { p with pulses := [true] }); let n : Nat := 31; n < 32 ∧ (let a := true; (s.pin n).pulses = [a])) := by
  refine ⟨?_, ?_, ?_, ?_, ?_, ?_, ?_, ?_⟩ <;> decide +kernel

set_option maxRecDepth 100000 in
theorem met_timerCommandsComplete :
    (let s : State := up; let n : Nat := 63; n < 64 ∧ (let h : Nat := 0; let f : Nat := 0; s.writeUp h = true ∧ (s.reg .tmCtl n).toNat < 2 ^ 29 ∧ s.fld .tmCtl n 27 24 = 0 ∧ s.fld .tmCtl n 10 9 = 0 ∧ (let a := Reg.addr .tmCtl n; let w := s.reg .tmCtl n; (s.atF f).judge h a 4 (some (w.toNat + 2 ^ 31)) = .pass))) ∧
    (let s : State := up; let n : Nat := 63; n < 64 ∧ (let h : Nat := 0; let f : Nat := 0; s.writeUp h = true ∧ (s.reg .tmCtl n).toNat < 2 ^ 29 ∧ s.fld .tmCtl n 27 24 = 0 ∧ s.fld .tmCtl n 10 9 = 0 ∧ (let a := Reg.addr .tmCtl n; let w := s.reg .tmCtl n; (s.atF f).judge h a 4 (some (w.toNat + 2 ^ 30)) = .pass))) ∧
    (let s : State := up; let n : Nat := 63; n < 64 ∧ (let h : Nat := 0; let f : Nat := 0; s.writeUp h = true ∧ (s.reg .tmCtl n).toNat < 2 ^ 29 ∧ s.fld .tmCtl n 27 24 = 0 ∧ s.fld .tmCtl n 10 9 = 0 ∧ (let a := Reg.addr .tmCtl n; let w := s.reg .tmCtl n; (s.atF f).judge h a 4 (some (w.toNat + 2 ^ 29)) = .pass))) ∧
    (let s : State := up; let n : Nat := 63; n < 64 ∧ (let h : Nat := 0; let f : Nat := 0; let v : Word := 0xFFFFFFFF; s.writeUp h = true ∧ (s.atF f).judge h (Reg.addr .tmCnt n) 4 (some v.toNat) = .pass)) ∧
    (let s : State := withTimer; let n : Nat := 63; n < 64 ∧ s.pd11Stopped = false ∧ s.matchDue n = true) ∧
    (let s : State := withTimer.modTimer 63 (fun t => { t with matched := true, count := 5 }); let n : Nat := 63; n < 64 ∧ s.pd11Stopped = false ∧ s.endDue n = true ∧ s.matchDue n = false) := by
  refine ⟨?_, ?_, ?_, ?_, ?_, ?_⟩ <;> decide +kernel

set_option maxRecDepth 100000 in
theorem met_captureCommandsComplete :
    (let s : State := up; let h : Nat := 0; let f : Nat := 0; s.writeUp h = true ∧ (s.atF f).judge h (Reg.addr .tbCapcmd 0) 4 (some 1) = .pass ∧ s.groupOpen 0 = false ∧ ((s.atF f).edgePush 80).2 = true) ∧
    (let s : State := { up with groups := [(0, [0])] }; let h : Nat := 0; let f : Nat := 0; s.writeUp h = true ∧ (s.atF f).judge h (Reg.addr .tbCapcmd 0) 4 (some 1) = .pass ∧ s.groupOpen 0 = true ∧ s.time.cap2 = none ∧ ((s.atF f).edgePush 80).2 = true) ∧
    (let s : State := { up with groups := [(0, [0])], time := { up.time with cap2 := some ⟨[], []⟩ } }; let h : Nat := 0; let f : Nat := 0; s.writeUp h = true ∧ (s.atF f).judge h (Reg.addr .tbCapcmd 0) 4 (some 1) = .pass ∧ s.groupOpen 0 = true ∧ s.time.cap2 ≠ none ∧ ((s.atF f).edgePush 80).2 = true) ∧
    (let s : State := { up with time := { up.time with latches := [(80, [(1, 0), (1, 0)])] } }; let h : Nat := 0; let f : Nat := 0; s.writeUp h = true ∧ (s.atF f).judge h (Reg.addr .tbCapcmd 0) 4 (some 1) = .pass ∧ ((s.atF f).edgePush 80).2 = false) ∧
    (let s : State := up; let h : Nat := 0; s.writeUp h = true ∧ (s.atF 0).judge h (Reg.addr .chkCmd 0) 4 (some 1) = .pass) ∧
    (let g : Nat := 65; let h : Nat := 3; g < 66 ∧ h < 4) ∧
    (let s : State := up; let h : Nat := 0; let a : Nat := Reg.addr .tbCap 0; let ref : RegRef := ⟨.tbCap, 0, false⟩; let g : Nat := 0; let total : Nat := 9; s.pwr.phase = 2 ∧ s.pwr.floor = 0 ∧ h < 4 ∧ a % 4 = 0 ∧ spotOf a = .reg ref ∧ groupOf ref.reg ref.inst = some (g, total) ∧ s.judge h a 4 none = .pass) ∧
    (let s : State := up; let h : Nat := 0; let k : Nat := 3; let f : Nat := 0; s.pwr.phase = 2 ∧ s.pwr.floor = 0 ∧ h < 4 ∧ k < 4 ∧ (s.atF f).judge h (Reg.addr .tbVal k) 8 none = .pass ∧ ((s.atF f).edgePush 80).2 = true) ∧
    (let s : State := { up with time := { up.time with latches := [(80, [(1, 0), (1, 0)])] } }; let h : Nat := 0; let k : Nat := 3; let f : Nat := 0; s.pwr.phase = 2 ∧ s.pwr.floor = 0 ∧ h < 4 ∧ k < 4 ∧ (s.atF f).judge h (Reg.addr .tbVal k) 8 none = .pass ∧ ((s.atF f).edgePush 80).2 = false) := by
  refine ⟨?_, ?_, ?_, ?_, ?_, ?_, ?_, ?_, ?_⟩ <;> decide +kernel

set_option maxRecDepth 100000 in
theorem met_packetsArriveAsTheyWereSent :
    (let s : State := up; let h : Nat := 3; let ps : List Pkt := [⟨0x11, 255, true, true, 3, false, 0, List.replicate 63 5⟩, nop]; s.pwr.floor = 0 ∧ s.portsUp = true ∧ h < 4 ∧ ps ≠ [] ∧ (∀ p ∈ ps, p.Ok) ∧ (∀ p ∈ ps, p.port = 0)) ∧
    (let s : State := up; let h : Nat := 3; let ps : List Pkt := [⟨0x11, 255, true, true, 3, false, 1, List.replicate 63 5⟩]; s.pwr.floor = 0 ∧ s.portsUp = true ∧ h < 4 ∧ ps ≠ [] ∧ (∀ p ∈ ps, p.Ok) ∧ (∀ p ∈ ps, p.port = 1)) := by
  unfold Pkt.Ok; refine ⟨?_, ?_⟩ <;> decide +kernel

set_option maxRecDepth 100000 in
theorem met_packetWriteTakesOrRefuses :
    (let s : State := up; let h : Nat := 0; s.pwr.floor = 0 ∧ s.portsUp = true ∧ h < 4 ∧ (let p : Pkt := nop; p.Ok ∧ p.port = 0 ∧ (let q := (s.host h).queue; q.length < 15))) ∧
    (let s : State := up.modHost 0 (fun x => { x with queue := List.replicate 16 nop }); let h : Nat := 0; s.pwr.floor = 0 ∧ s.portsUp = true ∧ h < 4 ∧ (let p : Pkt := nop; p.Ok ∧ p.port = 0 ∧ (let q := (s.host h).queue; 16 ≤ q.length))) ∧
    (let s : State := up; let h : Nat := 0; s.pwr.floor = 0 ∧ s.portsUp = true ∧ h < 4 ∧ (let l : List Byte := [0xA5, 64, 0, 0, 0, 0, 0, 0]; 8 ≤ l.length ∧ l.getD 0 0 = 0xA5#8 ∧ (64 ≤ (l.getD 1 0).toNat ∨ l.length < 8 + 4 * (l.getD 1 0).toNat))) ∧
    (let s : State := up; let h : Nat := 0; s.pwr.floor = 0 ∧ s.portsUp = true ∧ h < 4 ∧ (let l : List Byte := [0xA5, 0, 0, 0, 0, 0, 0]; l.length < 8 ∧ l.getD 0 0 = 0xA5#8 ∧ l ≠ [])) ∧
    (let s : State := up; let h : Nat := 0; s.pwr.floor = 0 ∧ s.portsUp = true ∧ h < 4 ∧ (let l : List Byte := [0x5A]; l.getD 0 0 ≠ 0xA5#8)) := by
  unfold Pkt.Ok; refine ⟨?_, ?_, ?_, ?_, ?_⟩ <;> decide +kernel

set_option maxRecDepth 100000 in
theorem met_hostTransfersComplete :
    (let s : State := up; let h : Nat := 0; s.portsUp = true ∧ h < 4 ∧ s.pwr.floor = 0 ∧ (s.host h).replies = []) ∧
    (let s : State := replied; let h : Nat := 0; s.portsUp = true ∧ h < 4 ∧ (let n : Nat := 11; s.pwr.floor = 0 ∧ (let rest := ((s.host h).replies.head?.map Reply.bytes).getD [] |>.drop (s.host h).readPos; (s.host h).replies ≠ [] ∧ 0 < n ∧ n < rest.length))) ∧
    (let s : State := replied; let h : Nat := 0; s.portsUp = true ∧ h < 4 ∧ (let n : Nat := 12; s.pwr.floor = 0 ∧ (let rest := ((s.host h).replies.head?.map Reply.bytes).getD [] |>.drop (s.host h).readPos; (s.host h).replies ≠ [] ∧ 0 < n ∧ n = rest.length))) ∧
    (let s : State := replied; let h : Nat := 0; s.portsUp = true ∧ h < 4 ∧ (let n : Nat := 13; s.pwr.floor = 0 ∧ (let rest := ((s.host h).replies.head?.map Reply.bytes).getD [] |>.drop (s.host h).readPos; rest ≠ [] ∧ rest.length < n))) ∧
    (let s : State := up; let h : Nat := 0; s.portsUp = true ∧ h < 4 ∧ s.pwr.floor = 0 ∧ s.hp1Host = h ∧ (s.host h).replies = []) ∧
    (let s : State := replied; let h : Nat := 0; s.portsUp = true ∧ h < 4 ∧ (let n : Nat := 11; s.pwr.floor = 0 ∧ (let rest := ((s.host h).replies.head?.map Reply.bytes).getD [] |>.drop (s.host h).readPos; s.hp1Host = h ∧ (s.host h).replies ≠ [] ∧ 0 < n ∧ n < rest.length))) ∧
    (let s : State := replied; let h : Nat := 0; s.portsUp = true ∧ h < 4 ∧ (let n : Nat := 12; s.pwr.floor = 0 ∧ (let rest := ((s.host h).replies.head?.map Reply.bytes).getD [] |>.drop (s.host h).readPos; s.hp1Host = h ∧ (s.host h).replies ≠ [] ∧ 0 < n ∧ n = rest.length))) ∧
    (let s : State := up; let h : Nat := 0; s.portsUp = true ∧ h < 4 ∧ s.pwr.floor = 0) ∧
    (let s : State := up; let h : Nat := 0; s.portsUp = true ∧ h < 4 ∧ (let a : Nat := Reg.addr .chkEvt 0; let f : Nat := 0; s.pwr.phase = 2 ∧ s.pwr.floor = 0 ∧ a % 4 = 0 ∧ (let u := s.atF f; u.judge h a 4 none = .pass))) ∧
    (let s : State := up; let h : Nat := 0; s.portsUp = true ∧ h < 4 ∧ (let a : Nat := 0x20003000; let f : Nat := 0; s.pwr.phase = 2 ∧ s.pwr.floor = 0 ∧ a % 4 = 0 ∧ (let u := s.atF f; let st := stBadParam; let len := 4; 4 ≤ len ∧ pairLow a = false ∧ u.judge h a 4 none = .bus st))) ∧
    (let s : State := up; let h : Nat := 0; s.portsUp = true ∧ h < 4 ∧ (let a : Nat := Reg.addr .tbVal 0; let f : Nat := 0; s.pwr.phase = 2 ∧ s.pwr.floor = 0 ∧ a % 4 = 0 ∧ (let u := s.atF f; pairLow a = true ∧ u.judge h a 8 none = .pass))) ∧
    (let s : State := up; let h : Nat := 0; s.portsUp = true ∧ h < 4 ∧ (let a : Nat := Reg.addr .tmEnd 0; let f : Nat := 0; s.pwr.phase = 2 ∧ s.pwr.floor = 0 ∧ a % 4 = 0 ∧ (let u := s.atF f; let v : Word := 5; u.judge h a 4 (some v.toNat) = .pass))) ∧
    (let s : State := up; let h : Nat := 0; s.portsUp = true ∧ h < 4 ∧ (let a : Nat := 0x20003000; let f : Nat := 0; s.pwr.phase = 2 ∧ s.pwr.floor = 0 ∧ a % 4 = 0 ∧ (let u := s.atF f; let v : Word := 5; let st : Nat := stBadParam; u.judge h a 4 (some v.toNat) = .bus st))) ∧
    (let s : State := dozing; let h : Nat := 0; s.portsUp = true ∧ h < 4 ∧ (let l : List Byte := List.replicate 64 0; s.pwr.floor ≠ 0 ∧ l.length ≤ 64 ∧ s.pwr.wakeBuf = none)) ∧
    (let s : State := dozing; let h : Nat := 0; s.portsUp = true ∧ h < 4 ∧ (let l : List Byte := List.replicate 65 0; s.pwr.floor ≠ 0 ∧ (64 < l.length ∨ s.pwr.wakeBuf ≠ none))) := by
  refine ⟨?_, ?_, ?_, ?_, ?_, ?_, ?_, ?_, ?_, ?_, ?_, ?_, ?_, ?_, ?_⟩ <;> decide +kernel

set_option maxRecDepth 100000 in
theorem met_packetServingCompletes :
    (let chained : List Pkt := [{ nop with chain := true, hostField := 3 }]; let last := { nop with hostField := 3 }; let rest : List Pkt := [nop]; let s : State := up.modHost 3 (fun x => { x with session := some 0, queue := chained ++ last :: rest }); s.pwr.phase = 2 ∧ s.pwr.floor = 0 ∧ (let f : Nat := 3; let i : Nat := 3; i < 4 ∧ s.turn < 4 ∧ (let h := (s.turn + i) % 4; (∀ j < i, s.unitOf ((s.turn + j) % 4) = none) ∧ (s.host h).queue = chained ++ last :: rest ∧ (∀ p ∈ chained, p.chain = true) ∧ last.chain = false ∧ (s.host h).held = [] ∧ chained.length + 1 ≤ (s.host h).freeSlots ∧ (let l := chained ++ [last]; let checked := (({ s with turn := (h + 1) % 4 }.modHost h (fun x => { x with queue := rest })).atF f).checkChain h f l; ∀ r ∈ checked.2, r.1 = 0)))) ∧
    (let chained : List Pkt := [{ nop with chain := true, hostField := 3 }]; let last := { nop with op := 0xC0, hostField := 3 }; let rest : List Pkt := [nop]; let s : State := up.modHost 3 (fun x => { x with queue := chained ++ last :: rest }); s.pwr.phase = 2 ∧ s.pwr.floor = 0 ∧ (let f : Nat := 3; let i : Nat := 3; i < 4 ∧ s.turn < 4 ∧ (let h := (s.turn + i) % 4; (∀ j < i, s.unitOf ((s.turn + j) % 4) = none) ∧ (s.host h).queue = chained ++ last :: rest ∧ (∀ p ∈ chained, p.chain = true) ∧ last.chain = false ∧ (s.host h).held = [] ∧ chained.length + 1 ≤ (s.host h).freeSlots ∧ (let l := chained ++ [last]; let checked := (({ s with turn := (h + 1) % 4 }.modHost h (fun x => { x with queue := rest })).atF f).checkChain h f l; let st := stUnknown; let lg := false; checked.2 = [(0, false)] ++ (st, lg) :: [] ∧ (∀ r ∈ [((0 : Nat), false)], r.1 = 0) ∧ st ≠ 0)))) ∧
    (let s : State := up; s.pwr.phase = 2 ∧ s.pwr.floor = 0 ∧ s.turn < 4 ∧ (∀ h < 4, s.unitOf h = none)) ∧
    (let s : State := up.modHost 0 (fun x => { x with queue := [nop, { nop with chain := true }] }); s.pwr.phase = 2 ∧ s.pwr.floor = 0 ∧ (let h : Nat := 0; let q : List Pkt := [nop]; let run : List Pkt := [{ nop with chain := true }]; h < 4 ∧ (s.host h).queue = q ++ run ∧ (∀ p ∈ run, p.chain = true) ∧ (∀ p ∈ q.getLast?, p.chain = false))) := by
  refine ⟨?_, ?_, ?_, ?_⟩ <;> decide +kernel

set_option maxRecDepth 100000 in
theorem met_channelCommandsComplete :
    (let s : State := (chanIs 191 2 [0x90000000, 0xA0000000]).modChan 191 (fun x => { x with tierNext := some (0, false) }); let c : Nat := 191; c < 192 ∧ s.isDue c = true ∧ (let u := if (s.ad c).acq = 0 ∧ s.running c = true then s.toGrid c else s; let here := u.atOnce c = true ∨ (u.fifoBound c = true ∧ (u.chan c).overdue = true) ∨ ((s.ad c).acq = 0 ∧ u.onGrid c = true); here)) ∧
    (let s : State := let s := (chanIs 191 2 [0x90000000, 0xA0000000]).modChan 191 (fun x => { x with tierNext := some (0, false) }); { s with twr := { s.twr with entry := [in191] } }; let c : Nat := 191; c < 192 ∧ s.isDue c = true ∧ (let u := if (s.ad c).acq = 0 ∧ s.running c = true then s.toGrid c else s; let here := u.atOnce c = true ∨ (u.fifoBound c = true ∧ (u.chan c).overdue = true) ∨ ((s.ad c).acq = 0 ∧ u.onGrid c = true); ¬ here)) ∧
    (let s : State := (chanIs 191 2 [0x90000000, 0xA0000000]).modChan 191 (fun x => { x with tierNext := some (0, false) }); let c : Nat := 191; c < 192 ∧ s.isDue c = true ∧ s.fifoBound c = true) ∧
    (let s : State := { up with time := { up.time with latches := [(50, [(0, 3)])] } }; let l : Nat := 50; let n : Nat := 0; let f : Nat := 3; let rest : List (Nat × Nat) := []; (s.time.latches.get (fun _ => []) l = (n, f) :: rest) ∧ n ≤ s.tick) := by
  refine ⟨?_, ?_, ?_, ?_⟩ <;> decide +kernel

set_option maxRecDepth 100000 in
theorem met_windowAndRegisterWritesComplete :
    (let s : State := up; let h : Nat := 0; let a : Nat := 0x20000000 + 64 * 191; let v : Word := 5; s.writeUp h = true ∧ a % 4 = 0 ∧ s.judge h a 4 (some v.toNat) = .pass ∧ (let u := (s.tableStore a (bytesOf 4 v.toNat)).getD s; spotOf a = .mem 0 ∧ spotOf (a + 3) = .mem 0 ∧ s.tableStore a (bytesOf 4 v.toNat) = some u)) ∧
    (let s : State := up; let h : Nat := 0; let a : Nat := 0x20010000 + 16 * 1023; let v : Word := 5; s.writeUp h = true ∧ a % 4 = 0 ∧ s.judge h a 4 (some v.toNat) = .pass ∧ spotOf a = .mem 1 ∧ spotOf (a + 3) = .mem 1) ∧
    (let s : State := up; let h : Nat := 0; let a : Nat := 0x400A8000; let v : Word := 5; s.writeUp h = true ∧ a % 4 = 0 ∧ s.judge h a 4 (some v.toNat) = .pass ∧ (let k := 2; let u := (s.seedStore a (bytesOf 4 v.toNat)).getD s; (k = 2 ∨ k = 3) ∧ spotOf a = .mem k ∧ spotOf (a + 3) = .mem k ∧ s.seedStore a (bytesOf 4 v.toNat) = some u)) ∧
    (let s : State := up; let h : Nat := 0; let a : Nat := Reg.addr .tmEnd 63; let v : Word := 5; s.writeUp h = true ∧ s.judge h a 4 (some v.toNat) = .pass) ∧
    (let s : State := up; let h : Nat := 0; let a : Nat := 0x20003000; let v : Word := 5; s.writeUp h = true ∧ (let st := stBadParam; s.judge h a 4 (some v.toNat) = .bus st)) ∧
    (let s : State := up; let h : Nat := 0; let a : Nat := Reg.addr .sspCfg 11; s.writeUp h = true ∧ (let ref := ⟨.sspCfg, 11, false⟩; s.isFenced 8 (spotDomain a) = false ∧ regAt (a - a % 4) = some ref ∧ ref.reg.row.access = .rwb)) := by
  refine ⟨?_, ?_, ?_, ?_, ?_, ?_⟩ <;> decide +kernel

set_option maxRecDepth 100000 in
theorem met_acquisitionCommandsComplete :
    (let s : State := onPort 11 0x80000000 0x90000000 0 0; let c : Nat := 191; c < 192 ∧ s.acquiring c = true ∧ s.isFenced 8 2 = false ∧ (let d := s.ad c; let p := d.kind; d.acq = 2 ∧ p < 18 ∧ s.isFenced 0 p = false ∧ s.portOn p = true ∧ s.portTarget p = false ∧ s.scriptOk d (s.copyScript d) = true)) ∧
    (let s : State := chanIs 191 2 pinDesc; let c : Nat := 191; c < 192 ∧ s.acquiring c = true ∧ s.isFenced 8 2 = false ∧ (let d := s.ad c; let p := d.kind; d.acq = 2 ∧ p = 20)) ∧
    (let s : State := onPort 11 0x80000000 0x80000000 0 1000; let c : Nat := 191; c < 192 ∧ s.acquiring c = true ∧ s.isFenced 8 2 = false ∧ (let d := s.ad c; d.acq = 0 ∧ (let u := s.toGrid c; u.onGrid c = true))) ∧
    (let s : State := acquires 17 0x80000000 0 1 0x1001; let p : Nat := 17; p < 18 ∧ (let f : Nat := 3; let sda : Nat := 9; let a : Acq := acq191 0 1 0x1001; let t : List Acq := []; s.isFenced 8 2 = false ∧ (let u := (s.atF f).selectAcq p; (u.port p).acqs = a :: t ∧ a.phase = 0 ∧ s.busWait p = false ∧ s.isFenced 0 p = false ∧ s.portOn p = true ∧ s.portTarget p = false ∧ (p < 12 ∨ sda < 10) ∧ a.idx = 0 ∧ (s.ad a.chan).acq ≠ 1))) ∧
    (let s : State := (acquires 17 0x80000000 0 2 0x1001).modPort 17 (fun x => x.mapHead (fun a => { a with idx := 1 })); let p : Nat := 17; p < 18 ∧ (let f : Nat := 3; let sda : Nat := 9; let a : Acq := { acq191 0 2 0x1001 with idx := 1 }; let t : List Acq := []; s.isFenced 8 2 = false ∧ (let u := (s.atF f).selectAcq p; (u.port p).acqs = a :: t ∧ a.phase = 0 ∧ s.busWait p = false ∧ s.isFenced 0 p = false ∧ s.portOn p = true ∧ s.portTarget p = false ∧ (p < 12 ∨ sda < 10) ∧ (a.idx ≠ 0 ∨ (s.ad a.chan).acq = 1)))) ∧
    (let s : State := acquires 17 0x80000000 1 1 0x1001; let p : Nat := 17; p < 18 ∧ (let slot := fun (a : Acq) => a.script.getD a.idx []; let cause : Nat := 5; let bytes : List Nat := []; let a : Acq := acq191 1 1 0x1001; let t : List Acq := []; (s.port p).acqs = a :: t ∧ a.phase = 1 ∧ (if cause = 0 then bytes.length = slotRead (slot a) else 12 ≤ p ∧ (cause = 1 ∨ cause = 5 ∨ cause = 7) ∧ bytes.length ≤ slotRead (slot a)) ∧ (let k := if cause = 0 ∧ bitAt ((slot a).getD 1 0) 21 = true ∧ uniform bytes = true then 3 else cause; k ≠ 0))) ∧
    (let s : State := acquires 11 0x80000000 1 2 0x1001; let p : Nat := 11; p < 18 ∧ (let slot := fun (a : Acq) => a.script.getD a.idx []; let cause : Nat := 0; let bytes : List Nat := [5]; let a : Acq := acq191 1 2 0x1001; let t : List Acq := []; (s.port p).acqs = a :: t ∧ a.phase = 1 ∧ (if cause = 0 then bytes.length = slotRead (slot a) else 12 ≤ p ∧ (cause = 1 ∨ cause = 5 ∨ cause = 7) ∧ bytes.length ≤ slotRead (slot a)) ∧ (let k := if cause = 0 ∧ bitAt ((slot a).getD 1 0) 21 = true ∧ uniform bytes = true then 3 else cause; k = 0 ∧ a.idx + 1 < a.script.length))) ∧
    (let s : State := acquires 11 0x80000000 1 1 0x1001; let p : Nat := 11; p < 18 ∧ (let slot := fun (a : Acq) => a.script.getD a.idx []; let cause : Nat := 0; let bytes : List Nat := [5]; let a : Acq := acq191 1 1 0x1001; let t : List Acq := []; (s.port p).acqs = a :: t ∧ a.phase = 1 ∧ (if cause = 0 then bytes.length = slotRead (slot a) else 12 ≤ p ∧ (cause = 1 ∨ cause = 5 ∨ cause = 7) ∧ bytes.length ≤ slotRead (slot a)) ∧ (let k := if cause = 0 ∧ bitAt ((slot a).getD 1 0) 21 = true ∧ uniform bytes = true then 3 else cause; k = 0 ∧ a.script.length ≤ a.idx + 1))) ∧
    (let p : Nat := 17; p < 18) ∧
    (let s : State := (acquires 11 0xA0000000 0 1 0x1001).modPort 11 (fun x => { x with foreign := true }); let p : Nat := 11; p < 18 ∧ (let a : Acq := acq191 0 1 0x1001; let t : List Acq := []; let u := s.selectAcq p; (u.port p).acqs = a :: t ∧ a.phase ≠ 1 ∧ a.phase ≠ 3 ∧ s.busWait p = true)) := by
  refine ⟨?_, ?_, ?_, ?_, ?_, ?_, ?_, ?_, ?_, ?_⟩ <;> decide +kernel

set_option maxRecDepth 100000 in
theorem met_sspCommandsComplete :
    (let s : State := acquires 11 0xA0000000 1 1 0x1001; let p : Nat := 11; p < 12 ∧ s.portOn p = true ∧ bitAt (s.portCfg p) 29 = true ∧ s.portTarget p = false ∧ s.isFenced 0 p = false ∧ (let a := acq191 1 1 0x1001; let t := []; (s.port p).acqs = a :: t ∧ a.phase = 1 ∧ (s.port p).foreign = false)) ∧
    (let s : State := onPort 11 0xA0000000 0x90000000 0 0; let p : Nat := 11; p < 12 ∧ s.portOn p = true ∧ bitAt (s.portCfg p) 29 = true ∧ s.portTarget p = false ∧ s.isFenced 0 p = false ∧ ((∀ a ∈ (s.port p).acqs.head?, a.phase ≠ 1) ∨ (s.port p).foreign = true)) ∧
    (let s : State := up; let p : Nat := 11; p < 12 ∧ (s.port p).foreign = false) ∧
    (let s : State := onPort 11 0xC0000000 0x90000000 0 0; let p : Nat := 11; p < 12 ∧ (let line : Nat := 3; let extra : Nat := 0; let bytes : List Nat := [5]; line < 4 ∧ s.portOn p = true ∧ s.portTarget p = true ∧ s.isFenced 0 p = false ∧ (let need := match s.frameChan p line with | some c => bits (s.desc c 2) 23 16 + (s.ad c).ncomp * (s.ad c).cwidth | none => 0; let kind := frameClass (s.portCfg p) need (8 * bytes.length + extra); kind = 0 ∧ s.frameChan p line = none))) ∧
    (let s : State := (onPort 11 0xC0000000 0x88000000 3 0).modChan 191 (fun x => { x with suspended := true }); let p : Nat := 11; p < 12 ∧ (let line : Nat := 3; let f : Nat := 3; let extra : Nat := 0; let bytes : List Nat := [5]; line < 4 ∧ s.portOn p = true ∧ s.portTarget p = true ∧ s.isFenced 0 p = false ∧ (let u := s.atF f; let need := match s.frameChan p line with | some c => bits (s.desc c 2) 23 16 + (s.ad c).ncomp * (s.ad c).cwidth | none => 0; let kind := frameClass (s.portCfg p) need (8 * bytes.length + extra); let v := (u.modPort p (fun x => { x with frames := (x.frames + 1) % 65536 })).logEndRun 0 p 0x12 line; let c := 191; kind = 0 ∧ s.frameChan p line = some c ∧ v.acquiring c = false))) ∧
    (let s : State := onPort 11 0xC0000000 0x88000000 3 0; let p : Nat := 11; p < 12 ∧ (let line : Nat := 3; let f : Nat := 3; let extra : Nat := 0; let bytes : List Nat := [5]; line < 4 ∧ s.portOn p = true ∧ s.portTarget p = true ∧ s.isFenced 0 p = false ∧ (let u := s.atF f; let need := match s.frameChan p line with | some c => bits (s.desc c 2) 23 16 + (s.ad c).ncomp * (s.ad c).cwidth | none => 0; let kind := frameClass (s.portCfg p) need (8 * bytes.length + extra); let v := (u.modPort p (fun x => { x with frames := (x.frames + 1) % 65536 })).logEndRun 0 p 0x12 line; let c := 191; kind = 0 ∧ s.frameChan p line = some c ∧ v.acquiring c = true ∧ (v.latchFor (portLatch p) c 0).2 ≠ none))) ∧
    (let s : State := let s := onPort 11 0xC0000000 0x88000000 3 0; { s with time := { s.time with latches := [(portLatch 11, [(1, 0), (1, 0)])] } }; let p : Nat := 11; p < 12 ∧ (let line : Nat := 3; let f : Nat := 3; let extra : Nat := 0; let bytes : List Nat := [5]; line < 4 ∧ s.portOn p = true ∧ s.portTarget p = true ∧ s.isFenced 0 p = false ∧ (let u := s.atF f; let need := match s.frameChan p line with | some c => bits (s.desc c 2) 23 16 + (s.ad c).ncomp * (s.ad c).cwidth | none => 0; let kind := frameClass (s.portCfg p) need (8 * bytes.length + extra); let v := (u.modPort p (fun x => { x with frames := (x.frames + 1) % 65536 })).logEndRun 0 p 0x12 line; let c := 191; kind = 0 ∧ s.frameChan p line = some c ∧ v.acquiring c = true ∧ (v.latchFor (portLatch p) c 0).2 = none))) ∧
    (let s : State := onPort 11 0xC0000000 0x88000000 3 0; let p : Nat := 11; p < 12 ∧ (let line : Nat := 3; let extra : Nat := 0; let bytes : List Nat := []; line < 4 ∧ s.portOn p = true ∧ s.portTarget p = true ∧ s.isFenced 0 p = false ∧ (let need := match s.frameChan p line with | some c => bits (s.desc c 2) 23 16 + (s.ad c).ncomp * (s.ad c).cwidth | none => 0; let kind := frameClass (s.portCfg p) need (8 * bytes.length + extra); kind = 1))) ∧
    (let s : State := onPort 11 0xC0000001 0x88000000 3 0; let p : Nat := 11; p < 12 ∧ (let line : Nat := 3; let extra : Nat := 0; let bytes : List Nat := [5, 5]; line < 4 ∧ s.portOn p = true ∧ s.portTarget p = true ∧ s.isFenced 0 p = false ∧ (let need := match s.frameChan p line with | some c => bits (s.desc c 2) 23 16 + (s.ad c).ncomp * (s.ad c).cwidth | none => 0; let kind := frameClass (s.portCfg p) need (8 * bytes.length + extra); kind = 2))) ∧
    (let s : State := onPort 11 0xC0000000 0x88000000 3 1000; let p : Nat := 11; p < 12 ∧ (let c : Nat := 191; c < 192 ∧ s.acquiring c = true ∧ (s.ad c).acq = 1 ∧ (s.ad c).kind ≠ 21 ∧ s.desc c 3 ≠ 0)) := by
  refine ⟨?_, ?_, ?_, ?_, ?_, ?_, ?_, ?_, ?_, ?_⟩ <;> decide +kernel

set_option maxRecDepth 100000 in
theorem met_i3cCommandsComplete :
    (let s : State := ((onPort 17 0x80000000 0x88000000 5 0).setApp .i3cTgt 47 0x90050000).modPort 17 (fun x => { x with init := true }); let p : Nat := 17; 12 ≤ p ∧ p < 18 ∧ (s.port p).init = true ∧ s.isFenced 0 p = false) ∧
    (let s : State := ((onPort 17 0x80000000 0x88000000 5 0).setApp .i3cTgt 47 0x90050000); let p : Nat := 17; 12 ≤ p ∧ p < 18 ∧ s.portOn p = true ∧ s.isFenced 0 p = false ∧ bitAt (s.portCfg p) 30 = false) ∧
    (let s : State := onPort 17 0xC0000000 0x88000000 5 0; let p : Nat := 17; 12 ≤ p ∧ p < 18 ∧ (let found : List Nat := [1]; s.portOn p = true ∧ s.isFenced 0 p = false ∧ (let openOnes := (s.tgtList p false).filter (fun k => !bitAt (s.tgtEntry p k) 25); bitAt (s.portCfg p) 30 = true ∧ openOnes.length < max 1 found.length))) ∧
    (let s : State := ((onPort 17 0xC0000000 0x88000000 5 0).setApp .i3cTgt 47 0x90050000); let p : Nat := 17; 12 ≤ p ∧ p < 18 ∧ (let found : List Nat := [1]; s.portOn p = true ∧ s.isFenced 0 p = false ∧ (let openOnes := (s.tgtList p false).filter (fun k => !bitAt (s.tgtEntry p k) 25); bitAt (s.portCfg p) 30 = true ∧ max 1 found.length ≤ openOnes.length))) ∧
    (let s : State := ((onPort 17 0x80000000 0x88000000 5 0).setApp .i3cTgt 47 0x90050000); let p : Nat := 17; 12 ≤ p ∧ p < 18 ∧ (let addr : Nat := 4; s.portOn p = true ∧ s.isFenced 0 p = false ∧ s.inTransaction p = false ∧ (let entry := (List.range 8).find? (fun k => bitAt (s.tgtEntry p k) 31 && bits (s.tgtEntry p k) 22 16 == addr && bitAt (s.tgtEntry p k) 28); entry = none))) ∧
    (let s : State := ((onPort 17 0x80000000 0x88000000 5 0).setApp .i3cTgt 47 0x90060000); let p : Nat := 17; 12 ≤ p ∧ p < 18 ∧ (let addr : Nat := 6; let f : Nat := 0; s.portOn p = true ∧ s.isFenced 0 p = false ∧ s.inTransaction p = false ∧ (let entry := (List.range 8).find? (fun k => bitAt (s.tgtEntry p k) 31 && bits (s.tgtEntry p k) 22 16 == addr && bitAt (s.tgtEntry p k) 28); let u := s.atF f; let k := 7; entry = some k ∧ (let v := u.logEndRun 0 p 0x14 addr; let chans := (List.range 192).filter (fun c => v.acquiring c && (v.ad c).kind == p && (v.ad c).acq == 1 && (v.ad c).unit == addr); chans = [])))) ∧
    (let s : State := ((onPort 17 0x80000000 0x88000000 5 0).setApp .i3cTgt 47 0x90050000); let p : Nat := 17; 12 ≤ p ∧ p < 18 ∧ (let addr : Nat := 5; let f : Nat := 0; s.portOn p = true ∧ s.isFenced 0 p = false ∧ s.inTransaction p = false ∧ (let entry := (List.range 8).find? (fun k => bitAt (s.tgtEntry p k) 31 && bits (s.tgtEntry p k) 22 16 == addr && bitAt (s.tgtEntry p k) 28); let u := s.atF f; let k := 7; entry = some k ∧ (let v := u.logEndRun 0 p 0x14 addr; let chans := (List.range 192).filter (fun c => v.acquiring c && (v.ad c).kind == p && (v.ad c).acq == 1 && (v.ad c).unit == addr); chans ≠ [] ∧ (v.latchPush (portLatch p)).2 = true)))) ∧
    (let s : State := let s := (onPort 17 0x80000000 0x88000000 5 0).setApp .i3cTgt 47 0x90050000; { s with time := { s.time with latches := [(portLatch 17, [(1, 0), (1, 0)])] } }; let p : Nat := 17; 12 ≤ p ∧ p < 18 ∧ (let addr : Nat := 5; let f : Nat := 0; s.portOn p = true ∧ s.isFenced 0 p = false ∧ s.inTransaction p = false ∧ (let entry := (List.range 8).find? (fun k => bitAt (s.tgtEntry p k) 31 && bits (s.tgtEntry p k) 22 16 == addr && bitAt (s.tgtEntry p k) 28); let u := s.atF f; let k := 7; entry = some k ∧ (let v := u.logEndRun 0 p 0x14 addr; let chans := (List.range 192).filter (fun c => v.acquiring c && (v.ad c).kind == p && (v.ad c).acq == 1 && (v.ad c).unit == addr); chans ≠ [] ∧ (v.latchPush (portLatch p)).2 = false)))) ∧
    (let s : State := acquires 17 0x80000000 1 1 0x81001; let p : Nat := 17; 12 ≤ p ∧ p < 18 ∧ (let a := acq191 1 1 0x81001; let t := []; (s.port p).acqs = a :: t ∧ a.phase = 1 ∧ (let slot := a.script.getD a.idx []; bitAt (slot.getD 0 0) 19 = true))) := by
  refine ⟨?_, ?_, ?_, ?_, ?_, ?_, ?_, ?_, ?_⟩ <;> decide +kernel

set_option maxRecDepth 100000 in
theorem met_analogueCommandsComplete :
    (let s : State := withAin.setPre 15 ⟨[], 0, true, false⟩; let i : Nat := 15; let f : Nat := 3; let exc : Nat := 0; let raw : List (Nat × Int) := [(1, 0), (0, 0)]; i < 24 ∧ s.afePowered = true ∧ bitAt (s.afeCfg i) 31 = true ∧ (let bs := raw.map (fun b => (b.1, (s.atF f).ainOver i exc b.2)); let u := (s.atF f).noteOver i (bs.map (·.2)); s.afeRun i = false)) ∧
    (let s : State := ({ withAin with fenced := [(selOf 8 6, 0x81)] } : State); let i : Nat := 15; let f : Nat := 3; let exc : Nat := 0; let raw : List (Nat × Int) := [(1, 0), (0, 0)]; i < 24 ∧ s.afePowered = true ∧ bitAt (s.afeCfg i) 31 = true ∧ (let bs := raw.map (fun b => (b.1, (s.atF f).ainOver i exc b.2)); let u := (s.atF f).noteOver i (bs.map (·.2)); let c : Nat := 191; s.afeRun i = true ∧ s.preChan i = some c ∧ bs.length = 2 ^ s.preDec i ∧ s.isFenced 8 6 = true ∧ u.acquiring c = true)) ∧
    (let s : State := ({ withAin with fenced := [(selOf 8 6, 0x81)] } : State).modChan 191 (fun x => { x with suspended := true }); let i : Nat := 15; let f : Nat := 3; let exc : Nat := 0; let raw : List (Nat × Int) := [(1, 0), (0, 0)]; i < 24 ∧ s.afePowered = true ∧ bitAt (s.afeCfg i) 31 = true ∧ (let bs := raw.map (fun b => (b.1, (s.atF f).ainOver i exc b.2)); let u := (s.atF f).noteOver i (bs.map (·.2)); let c : Nat := 191; s.afeRun i = true ∧ s.preChan i = some c ∧ bs.length = 2 ^ s.preDec i ∧ s.isFenced 8 6 = true ∧ u.acquiring c = false)) ∧
    (let s : State := withAin.modChan 191 (fun x => { x with suspended := true }); let i : Nat := 15; let f : Nat := 3; let exc : Nat := 0; let raw : List (Nat × Int) := [(1, 0), (0, 0)]; i < 24 ∧ s.afePowered = true ∧ bitAt (s.afeCfg i) 31 = true ∧ (let bs := raw.map (fun b => (b.1, (s.atF f).ainOver i exc b.2)); let u := (s.atF f).noteOver i (bs.map (·.2)); let c : Nat := 191; s.afeRun i = true ∧ s.preChan i = some c ∧ bs.length = 2 ^ s.preDec i ∧ s.isFenced 8 6 = false ∧ (let r := preBits (s.preDec i) (s.pre i) bs; let v := (u.setPre i r.1).tallyAdd c 4 6 bs.length; (r.2 = none ∨ v.acquiring c = false)))) ∧
    (let s : State := withAin; let i : Nat := 15; let f : Nat := 3; let exc : Nat := 0; let raw : List (Nat × Int) := [(1, 0), (0, 0)]; i < 24 ∧ s.afePowered = true ∧ bitAt (s.afeCfg i) 31 = true ∧ (let bs := raw.map (fun b => (b.1, (s.atF f).ainOver i exc b.2)); let u := (s.atF f).noteOver i (bs.map (·.2)); let c : Nat := 191; s.afeRun i = true ∧ s.preChan i = some c ∧ bs.length = 2 ^ s.preDec i ∧ s.isFenced 8 6 = false ∧ (let r := preBits (s.preDec i) (s.pre i) bs; let v := (u.setPre i r.1).tallyAdd c 4 6 bs.length; let x := r.2.getD ⟨0, false, false⟩; r.2 = some x ∧ v.acquiring c = true ∧ (v.latchFor (50 + i) c (v.groupDelay i)).2 ≠ none))) ∧
    (let s : State := { withAin with time := { withAin.time with latches := [(65, [(1, 0), (1, 0)])] } }; let i : Nat := 15; let f : Nat := 3; let exc : Nat := 0; let raw : List (Nat × Int) := [(1, 0), (0, 0)]; i < 24 ∧ s.afePowered = true ∧ bitAt (s.afeCfg i) 31 = true ∧ (let bs := raw.map (fun b => (b.1, (s.atF f).ainOver i exc b.2)); let u := (s.atF f).noteOver i (bs.map (·.2)); let c : Nat := 191; s.afeRun i = true ∧ s.preChan i = some c ∧ bs.length = 2 ^ s.preDec i ∧ s.isFenced 8 6 = false ∧ (let r := preBits (s.preDec i) (s.pre i) bs; let v := (u.setPre i r.1).tallyAdd c 4 6 bs.length; let x := r.2.getD ⟨0, false, false⟩; r.2 = some x ∧ v.acquiring c = true ∧ (v.latchFor (50 + i) c (v.groupDelay i)).2 = none))) ∧
    (let s : State := up.setPre 23 ⟨[], 0, true, false⟩; let i : Nat := 23; i < 24 ∧ (s.pre i).blank = true ∧ (s.pre i).noRestart = false) ∧
    (let s : State := up.setPre 23 ⟨[], 0, true, true⟩; let i : Nat := 23; i < 24 ∧ (s.pre i).blank = true ∧ (s.pre i).noRestart = true) ∧
    (let s : State := up; s.afePowered = true) ∧
    (let s : State := up.setReg .afeExc 3 0x80000000; let k : Nat := 3; k < 4 ∧ s.afePowered = true ∧ bitAt (s.reg .afeExc k) 31 = true) ∧
    (let s : State := up.setReg .slPin 31 0x80000000; let n : Nat := 31; let rise : Bool := true; n < 32 ∧ (s.pinMode n = 2 ∨ (s.pin n).level = rise)) ∧
    (let s : State := up; let n : Nat := 31; let rise : Bool := true; n < 32 ∧ s.pinMode n ≠ 2 ∧ (s.pin n).level ≠ rise ∧ (s.pinMode n ≠ 1 ∨ s.pwr.phase ≠ 2)) ∧
    (let s : State := up.setReg .slPin 31 0x40000000; let n : Nat := 31; let rise : Bool := true; n < 32 ∧ s.pinMode n = 1 ∧ (s.pin n).level ≠ rise ∧ s.pwr.phase = 2) := by
  refine ⟨?_, ?_, ?_, ?_, ?_, ?_, ?_, ?_, ?_, ?_, ?_, ?_, ?_⟩ <;> decide +kernel

set_option maxRecDepth 100000 in
theorem met_engineCommandsComplete :
    (let s : State := let s := chanIs 191 2 [0x90000000, 0xA0000000]; { s with twr := { s.twr with entry := [in191] } }; s.isFenced 8 6 = false ∧ s.pwr.floor = 0 ∧ (let c := 191; let x := in191; s.fanoutHeld = false ∧ s.pickChan = some c ∧ (s.twr.entry.find? (fun y => y.chan == c) = some x))) ∧
    (let s : State := { up with twr := { up.twr with held := [out191 false] } }; s.isFenced 8 6 = false ∧ s.pwr.floor = 0 ∧ (let o := out191 false; handoffNext [] s.twr.held = some o ∧ s.destsReady o = true ∧ o.sample = false)) ∧
    (let s : State := { up with twr := { up.twr with held := [out191 true] } }; s.isFenced 8 6 = false ∧ s.pwr.floor = 0 ∧ (let o := out191 true; handoffNext [] s.twr.held = some o ∧ s.destsReady o = true ∧ o.sample = true)) ∧
    (let s : State := { up with cry := { up.cry with fifo := [got191] } }; let o := got191; let t := []; s.cry.fifo = o :: t ∧ s.pwr.floor = 0 ∧ s.isFenced 8 7 = false) ∧
    (let s : State := up.modSeed 63 (fun x => { x with armed := true }); let n : Nat := 63; n < 64 ∧ s.pwr.floor = 0 ∧ (s.seed n).armed = true ∧ s.isFenced 2 n = false ∧ s.seedCrc n ≠ bits (s.seedWord n 63) 15 0) ∧
    (let s : State := withSeed.modSeed 0 (fun x => { x with armed := true }); let n : Nat := 0; n < 64 ∧ s.pwr.floor = 0 ∧ (s.seed n).armed = true ∧ s.isFenced 2 n = false ∧ s.seedCrc n = bits (s.seedWord n 63) 15 0) := by
  refine ⟨?_, ?_, ?_, ?_, ?_, ?_⟩ <;> decide +kernel

set_option maxRecDepth 100000 in
theorem met_panCommandsComplete :
    (let s : State := queued up; let it := rec191; let t := []; s.pan.fifo = it :: t ∧ s.pwr.floor = 0 ∧ (let n := it.stream; s.streamOn n = false)) ∧
    (let s : State := queued { withPan with fenced := [(selOf 4 31, 0x81)] }; let it := rec191; let t := []; s.pan.fifo = it :: t ∧ s.pwr.floor = 0 ∧ (let n := it.stream; s.streamOn n = true ∧ s.isFenced 4 n = true)) ∧
    (let s : State := queued (full (withPan.setApp .panCfg 31 0xC0008000)); let it := rec191; let t := []; s.pan.fifo = it :: t ∧ s.pwr.floor = 0 ∧ (let u : State := { s with pan := { s.pan with fifo := t } }; let n := it.stream; let x := s.stream n; let cfg := s.app .panCfg n; let behind := if x.resumeOwed then u.modStream n (fun y => { y with tide := u.tbNow (u.afld .panCfg n 29 28) }) else u; let need := (behind.recWords n it).length + (if x.resumeOwed then 14 else 0); s.streamOn n = true ∧ s.isFenced 4 n = false ∧ bitAt cfg 30 = true ∧ x.freeWords (ringSize cfg) < need)) ∧
    (let s : State := queued withPan; let it := rec191; let t := []; s.pan.fifo = it :: t ∧ s.pwr.floor = 0 ∧ (let u : State := { s with pan := { s.pan with fifo := t } }; let n := it.stream; let x := s.stream n; let cfg := s.app .panCfg n; let behind := if x.resumeOwed then u.modStream n (fun y => { y with tide := u.tbNow (u.afld .panCfg n 29 28) }) else u; let need := (behind.recWords n it).length + (if x.resumeOwed then 14 else 0); s.streamOn n = true ∧ s.isFenced 4 n = false ∧ need ≤ x.freeWords (ringSize cfg))) ∧
    (let s : State := queued (full withPan); let it := rec191; let t := []; s.pan.fifo = it :: t ∧ s.pwr.floor = 0 ∧ (let u : State := { s with pan := { s.pan with fifo := t } }; let n := it.stream; let x := s.stream n; let cfg := s.app .panCfg n; let behind := if x.resumeOwed then u.modStream n (fun y => { y with tide := u.tbNow (u.afld .panCfg n 29 28) }) else u; let need := (behind.recWords n it).length + (if x.resumeOwed then 14 else 0); s.streamOn n = true ∧ s.isFenced 4 n = false ∧ bitAt cfg 30 = false ∧ x.freeWords (ringSize cfg) < need)) ∧
    (let s : State := up; s.pwr.floor = 0 ∧ s.tb0u % s.tideInterval ≤ 10000000 * 64) ∧
    (let s : State := up; let h : Nat := 0; s.writeUp h = true ∧ (s.atF 0).judge h (Reg.addr .panCmd 0) 4 (some 1) = .pass ∧ s.pan.fifo = []) ∧
    (let s : State := queued up; let h : Nat := 0; s.writeUp h = true ∧ (s.atF 0).judge h (Reg.addr .panCmd 0) 4 (some 1) = .pass ∧ (let it := rec191; let t := []; s.pan.fifo = it :: t)) ∧
    (let s : State := withPan; let h : Nat := 0; let n : Nat := 31; let v : Nat := 0; s.writeUp h = true ∧ n < 32 ∧ v < 2 ^ 19 ∧ (s.atF 0).judge h (Reg.addr .panRp n) 4 (some v) = .pass ∧ (let u := s.atF 0; let x := s.stream n; let cfg := s.app .panCfg n; s.streamOn n = true ∧ (u.recStarts cfg x.wp (x.fill (ringSize cfg)) x.rp).contains v = true)) ∧
    (let s : State := withPan; let h : Nat := 0; let n : Nat := 31; let v : Nat := 5; s.writeUp h = true ∧ n < 32 ∧ v < 2 ^ 19 ∧ (s.atF 0).judge h (Reg.addr .panRp n) 4 (some v) = .pass ∧ (let u := s.atF 0; let x := s.stream n; let cfg := s.app .panCfg n; (s.streamOn n = false ∨ (u.recStarts cfg x.wp (x.fill (ringSize cfg)) x.rp).contains v = false))) := by
  refine ⟨?_, ?_, ?_, ?_, ?_, ?_, ?_, ?_, ?_, ?_⟩ <;> decide +kernel

set_option maxRecDepth 100000 in
theorem met_serviceCommandsComplete :
    (let s : State := { up with svc := { up.svc with queue := [(0, got191)] } }; let i := 0; let o := got191; let t := []; s.svc.queue = (i, o) :: t ∧ s.pwr.floor = 0 ∧ s.isFenced 8 2 = false) ∧
    (let s : State := let s := chanIs 191 2 ([0xA8000000] ++ List.replicate 12 0 ++ [0x80000000]); { s with svc := { s.svc with stored := [(256 * 8, 0x80000000)] } }; let c : Nat := 191; let day : Bool := false; c < 192 ∧ s.svcFenced 8 = false ∧ s.isFenced 8 2 = false ∧ bitAt (s.svcStored 8 0) 31 = true ∧ bitAt (s.desc c 13) 31 = true ∧ s.periodPoint day = none) ∧
    (let s : State := let s := chanIs 191 2 ([0xA8000000] ++ List.replicate 12 0 ++ [0x80000000]); { s with cal := { s.cal with valid := true, utc := 3600 }, svc := { s.svc with stored := [(256 * 8, 0x80000000)], trend := [(382, { TrendPeriod.fresh with ended := some (0, true) })] } }; let c : Nat := 191; let day : Bool := false; c < 192 ∧ s.svcFenced 8 = false ∧ s.isFenced 8 2 = false ∧ bitAt (s.svcStored 8 0) 31 = true ∧ bitAt (s.desc c 13) 31 = true ∧ (let e := s; s.periodPoint day = some e ∧ e.periodEnded c day = true)) ∧
    (let s : State := let s := chanIs 191 2 ([0xA8000000] ++ List.replicate 12 0 ++ [0x80000000]); { s with cal := { s.cal with valid := true, utc := 3600 }, pwr := { s.pwr with floor := 2 }, svc := { s.svc with stored := [(256 * 8, 0x80000000)] } }; let c : Nat := 191; let day : Bool := false; c < 192 ∧ s.svcFenced 8 = false ∧ s.isFenced 8 2 = false ∧ bitAt (s.svcStored 8 0) 31 = true ∧ bitAt (s.desc c 13) 31 = true ∧ (let e := s; s.periodPoint day = some e ∧ e.periodEnded c day = false ∧ e.pwr.floor ≠ 0)) ∧
    (let s : State := let s := chanIs 191 2 ([0xA8000000] ++ List.replicate 12 0 ++ [0x80000000]); { s with cal := { s.cal with valid := true, utc := 3600 }, svc := { s.svc with stored := [(256 * 8, 0x80000000)] } }; let c : Nat := 191; let day : Bool := false; c < 192 ∧ s.svcFenced 8 = false ∧ s.isFenced 8 2 = false ∧ bitAt (s.svcStored 8 0) 31 = true ∧ bitAt (s.desc c 13) 31 = true ∧ (let e := s; s.periodPoint day = some e ∧ e.periodEnded c day = false ∧ e.pwr.floor = 0)) ∧
    (let s : State := { wakeful up with fenced := [(selOf 3 80, 0x81)] }; let t := 3; let vec := 200; let prio := 1; let rest := []; s.pwr.floor = 0 ∧ s.isFenced 8 2 = false ∧ s.svc.wakeReqs = (t, vec, prio) :: rest ∧ s.svcFenced 27 = true) ∧
    (let s : State := wakeful up; let t := 3; let vec := 200; let prio := 1; let rest := []; s.pwr.floor = 0 ∧ s.isFenced 8 2 = false ∧ s.svc.wakeReqs = (t, vec, prio) :: rest ∧ s.svcFenced 27 = false ∧ (let same := rest.filter (fun r => r.1 == t); let vecs := vec :: same.map (fun r => r.2.1); let u := ({ s with svc := { s.svc with wakeReqs := rest.filter (fun r => r.1 ≠ t) } } : State).svcWork 27 (250 * vecs.length); let w := u.svcWord 27 t; let urgent := (prio :: same.map (fun r => r.2.2)).any (fun p => decide (bits w 27 24 ≤ p)); (bitAt w 31 = false ∨ urgent = true))) ∧
    (let s : State := ({ (wakeful up) with svc := { (wakeful up).svc with applied := [(256 * 27 + 3, 0x8F000000)] } } : State).modWakeHost 3 (fun x => { x with gapRun := true }); let t := 3; let vec := 200; let prio := 1; let rest := []; s.pwr.floor = 0 ∧ s.isFenced 8 2 = false ∧ s.svc.wakeReqs = (t, vec, prio) :: rest ∧ s.svcFenced 27 = false ∧ (let same := rest.filter (fun r => r.1 == t); let vecs := vec :: same.map (fun r => r.2.1); let u := ({ s with svc := { s.svc with wakeReqs := rest.filter (fun r => r.1 ≠ t) } } : State).svcWork 27 (250 * vecs.length); let w := u.svcWord 27 t; let x := u.wakeHost t; let urgent := (prio :: same.map (fun r => r.2.2)).any (fun p => decide (bits w 27 24 ≤ p)); bitAt w 31 = true ∧ urgent = false ∧ x.gapRun = true)) ∧
    (let s : State := { (wakeful up) with svc := { (wakeful up).svc with applied := [(256 * 27 + 3, 0x8F000000)] } }; let t := 3; let vec := 200; let prio := 1; let rest := []; s.pwr.floor = 0 ∧ s.isFenced 8 2 = false ∧ s.svc.wakeReqs = (t, vec, prio) :: rest ∧ s.svcFenced 27 = false ∧ (let same := rest.filter (fun r => r.1 == t); let vecs := vec :: same.map (fun r => r.2.1); let u := ({ s with svc := { s.svc with wakeReqs := rest.filter (fun r => r.1 ≠ t) } } : State).svcWork 27 (250 * vecs.length); let w := u.svcWord 27 t; let x := u.wakeHost t; let urgent := (prio :: same.map (fun r => r.2.2)).any (fun p => decide (bits w 27 24 ≤ p)); bitAt w 31 = true ∧ urgent = false ∧ x.gapRun = false)) ∧
    (let s : State := up.modWakeHost 3 (fun x => { x with gapRun := true }); let h : Nat := 3; h < 4 ∧ s.pwr.floor = 0 ∧ (s.wakeHost h).gapRun = true) ∧
    (let s : State := up.modWakeHost 3 (fun x => { x with gapRun := true }); let h : Nat := 3; h < 4 ∧ (s.wakeHost h).gapRun = true) ∧
    (let s : State := up; let h : Nat := 3; h < 4 ∧ (s.wakeHost h).gapRun = false) := by
  refine ⟨?_, ?_, ?_, ?_, ?_, ?_, ?_, ?_, ?_, ?_, ?_, ?_⟩ <;> decide +kernel

set_option maxRecDepth 100000 in
theorem met_timeMessagesComplete :
    (let s : State := let s := salt 3; { s with time := { s.time with latches := [(75, [(1, 0), (1, 0)])] } }; let f : Nat := 3; let words : List Word := (msg 1).words; let l : Nat := 1; let m : TimeMsg := msg 1; let u := (s.atF f).clearSent; TimeMsg.parse words = some m ∧ m.type = 1 ∧ ((l < 2 ∧ s.linkRuns l = true) ∨ (l = 2 ∧ s.rfServes = true)) ∧ (u.edgePush (rxLatch l)).2 = false) ∧
    (let s : State := salt 4; let f : Nat := 3; let words : List Word := (msg 1).words; let l : Nat := 1; let m : TimeMsg := msg 1; let u := (s.atF f).clearSent; TimeMsg.parse words = some m ∧ m.type = 1 ∧ ((l < 2 ∧ s.linkRuns l = true) ∨ (l = 2 ∧ s.rfServes = true)) ∧ (u.edgePush (rxLatch l)).2 = true ∧ s.takesSync = false) ∧
    (let s : State := salt 3; let f : Nat := 3; let words : List Word := (msg 1).words; let l : Nat := 2; let m : TimeMsg := msg 1; let u := (s.atF f).clearSent; TimeMsg.parse words = some m ∧ m.type = 1 ∧ ((l < 2 ∧ s.linkRuns l = true) ∨ (l = 2 ∧ s.rfServes = true)) ∧ (u.edgePush (rxLatch l)).2 = true ∧ s.takesSync = true) ∧
    (let s : State := let s := salt 3; { s with time := { s.time with latches := [(75, [(1, 0), (1, 0)])] } }; let f : Nat := 3; let words : List Word := (msg 2).words; let l : Nat := 1; let m : TimeMsg := msg 2; let u := (s.atF f).clearSent; TimeMsg.parse words = some m ∧ m.type = 2 ∧ l < 2 ∧ s.linkRuns l = true ∧ (u.edgePush (rxLatch l)).2 = false) ∧
    (let s : State := salt 3; let f : Nat := 3; let words : List Word := (msg 2).words; let l : Nat := 1; let m : TimeMsg := msg 2; let u := (s.atF f).clearSent; TimeMsg.parse words = some m ∧ m.type = 2 ∧ l < 2 ∧ s.linkRuns l = true ∧ (u.edgePush (rxLatch l)).2 = true) ∧
    (let s : State := let s := salt 3; { s with time := { s.time with latches := [(75, [(1, 0), (1, 0)])] } }; let f : Nat := 3; let words : List Word := (msg 3).words; let l : Nat := 1; let m : TimeMsg := msg 3; let u := (s.atF f).clearSent; TimeMsg.parse words = some m ∧ m.type = 3 ∧ l < 2 ∧ s.linkRuns l = true ∧ (u.edgePush (rxLatch l)).2 = false) ∧
    (let s : State := (salt 3).setLink 1 { TimeLink.reset with req := some (6, 0) }; let f : Nat := 3; let words : List Word := (msg 3).words; let l : Nat := 1; let m : TimeMsg := msg 3; let u := (s.atF f).clearSent; TimeMsg.parse words = some m ∧ m.type = 3 ∧ l < 2 ∧ s.linkRuns l = true ∧ (u.edgePush (rxLatch l)).2 = true ∧ (let q := 6; let t1 := 0; (s.link l).req = some (q, t1) ∧ q ≠ m.seq)) ∧
    (let s : State := (salt 3).setLink 1 { TimeLink.reset with req := some (5, 0) }; let f : Nat := 3; let words : List Word := (msg 3).words; let l : Nat := 1; let m : TimeMsg := msg 3; let u := (s.atF f).clearSent; TimeMsg.parse words = some m ∧ m.type = 3 ∧ l < 2 ∧ s.linkRuns l = true ∧ (u.edgePush (rxLatch l)).2 = true ∧ (let q := 5; let t1 := 0; (s.link l).req = some (q, t1) ∧ q = m.seq)) ∧
    (let s : State := salt 3; let f : Nat := 3; let words : List Word := (msg 3).words; let l : Nat := 1; let m : TimeMsg := msg 3; let u := (s.atF f).clearSent; TimeMsg.parse words = some m ∧ m.type = 3 ∧ l < 2 ∧ s.linkRuns l = true ∧ (u.edgePush (rxLatch l)).2 = true ∧ (s.link l).req = none) ∧
    (let s : State := let s := salt 3; { s with time := { s.time with latches := [(78, [(1, 0), (1, 0)])] } }; let f : Nat := 3; let words : List Word := (msg 4).words; let l : Nat := 2; let m : TimeMsg := msg 4; let u := (s.atF f).clearSent; TimeMsg.parse words = some m ∧ m.type = 4 ∧ s.rfServes = true ∧ (u.edgePush (rxLatch l)).2 = false) ∧
    (let s : State := salt 4; let f : Nat := 3; let words : List Word := (msg 4).words; let l : Nat := 2; let m : TimeMsg := msg 4; let u := (s.atF f).clearSent; TimeMsg.parse words = some m ∧ m.type = 4 ∧ s.rfServes = true ∧ (u.edgePush (rxLatch l)).2 = true ∧ (let k := 3; s.saltTb = some k ∧ s.isLeader = true)) ∧
    (let s : State := salt 3; let f : Nat := 3; let words : List Word := (msg 4).words; let l : Nat := 2; let m : TimeMsg := msg 4; let u := (s.atF f).clearSent; TimeMsg.parse words = some m ∧ m.type = 4 ∧ s.rfServes = true ∧ (u.edgePush (rxLatch l)).2 = true ∧ (s.saltTb = none ∨ s.isLeader = false)) ∧
    (let s : State := let s := salt 3; { s with time := { s.time with latches := [(78, [(1, 0), (1, 0)])] } }; let f : Nat := 3; let words : List Word := (msg 5).words; let l : Nat := 2; let m : TimeMsg := msg 5; let u := (s.atF f).clearSent; TimeMsg.parse words = some m ∧ m.type = 5 ∧ s.rfServes = true ∧ ((s.atF 122071).clearSent.edgePush 78).2 = false) ∧
    (let s : State := let s := (salt 3).setLink 2 { TimeLink.reset with req := some (5, 0) }; { s with time := { s.time with radioSync := some (1, 2) } }; let f : Nat := 3; let words : List Word := (msg 5).words; let l : Nat := 2; let m : TimeMsg := msg 5; let u := (s.atF f).clearSent; TimeMsg.parse words = some m ∧ m.type = 5 ∧ s.rfServes = true ∧ ((s.atF 122071).clearSent.edgePush 78).2 = true ∧ (let x := s.link 2; let q := 5; let t3 := 0; let t1 := 1; let t2 := 2; x.req = some (q, t3) ∧ s.time.radioSync = some (t1, t2) ∧ q = m.seq)) ∧
    (let s : State := salt 3; let f : Nat := 3; let words : List Word := (msg 5).words; let l : Nat := 2; let m : TimeMsg := msg 5; let u := (s.atF f).clearSent; TimeMsg.parse words = some m ∧ m.type = 5 ∧ s.rfServes = true ∧ ((s.atF 122071).clearSent.edgePush 78).2 = true ∧ (let x := s.link 2; (x.req = none ∨ s.time.radioSync = none ∨ x.req.map (·.1) ≠ some m.seq))) ∧
    (let s : State := salt 3; let words : List Word := [5]; let l : Nat := 1; l < 2 ∧ s.linkRuns l = true ∧ TimeMsg.parse words = none) := by
  refine ⟨?_, ?_, ?_, ?_, ?_, ?_, ?_, ?_, ?_, ?_, ?_, ?_, ?_, ?_, ?_, ?_⟩ <;> decide +kernel

set_option maxRecDepth 100000 in
theorem met_timeSendingAndTimeoutsComplete :
    (let s : State := salt 3; let l : Nat := 1; l < 2 ∧ s.linkRuns l = true ∧ s.slt.state ≠ 0) ∧
    (let s : State := salt 4; let k : Nat := 3; s.saltTb = some k ∧ s.isLeader = true ∧ s.tbSet k = true ∧ (let l : Nat := 1; l < 2)) ∧
    (let s : State := salt 4; let k : Nat := 3; s.saltTb = some k ∧ s.isLeader = true ∧ s.tbSet k = true) ∧
    (let l : Nat := 1; l < 2) ∧
    (let s : State := tb3 3; let k : Nat := 3; 1 ≤ k ∧ k ≤ 3 ∧ (s.tb k).state = 3 ∧ s.lossUnits k ≤ s.tb0u - (s.tb k).accAt.getD 0) ∧
    (let s : State := (tb3 3).setApp .tbCtl 3 0x40400000; let k : Nat := 3; 1 ≤ k ∧ k ≤ 3 ∧ (s.tb k).state = 3 ∧ s.tb0u - (s.tb k).accAt.getD 0 < s.lossUnits k) := by
  refine ⟨?_, ?_, ?_, ?_, ?_, ?_⟩ <;> decide +kernel

set_option maxRecDepth 100000 in
theorem met_measurementFollowsTheTimebaseState :
    (let s : State := tb3 0; let k : Nat := 3; s.svcFenced 26 = false ∧ s.pwr.floor = 0 ∧ (let st := (s.tb k).state; st = 0)) ∧
    (let s : State := tb3 2; let k : Nat := 3; let o : Int := 0; s.svcFenced 26 = false ∧ s.pwr.floor = 0 ∧ (let st := (s.tb k).state; let inside := o.natAbs ≤ 1000 * s.afld .tbCtl k 7 0 * 2 ^ 32; st = 2 ∧ inside)) ∧
    (let s : State := tb3 2; let k : Nat := 3; let o : Int := 2 ^ 60; s.svcFenced 26 = false ∧ s.pwr.floor = 0 ∧ (let st := (s.tb k).state; let inside := o.natAbs ≤ 1000 * s.afld .tbCtl k 7 0 * 2 ^ 32; st = 2 ∧ ¬ inside)) ∧
    (let s : State := tb3 3; let k : Nat := 3; let o : Int := 0; let backward : Bool := false; s.svcFenced 26 = false ∧ s.pwr.floor = 0 ∧ (let st := (s.tb k).state; let inside := o.natAbs ≤ 1000 * s.afld .tbCtl k 7 0 * 2 ^ 32; st = 3 ∧ inside ∧ backward = false)) ∧
    (let s : State := tb3 4; let k : Nat := 3; let o : Int := 0; let backward : Bool := false; s.svcFenced 26 = false ∧ s.pwr.floor = 0 ∧ (let st := (s.tb k).state; let inside := o.natAbs ≤ 1000 * s.afld .tbCtl k 7 0 * 2 ^ 32; st = 4 ∧ inside ∧ backward = false)) ∧
    (let s : State := tb3 4; let k : Nat := 3; let o : Int := -2 ^ 60; let backward : Bool := false; s.svcFenced 26 = false ∧ s.pwr.floor = 0 ∧ (let st := (s.tb k).state; let inside := o.natAbs ≤ 1000 * s.afld .tbCtl k 7 0 * 2 ^ 32; (st = 3 ∨ st = 4) ∧ (¬ inside ∨ backward = true))) ∧
    (let s : State := tb3 5; let k : Nat := 3; s.svcFenced 26 = false ∧ s.pwr.floor = 0 ∧ (let st := (s.tb k).state; st = 5)) := by
  refine ⟨?_, ?_, ?_, ?_, ?_, ?_, ?_⟩ <;> decide +kernel

set_option maxRecDepth 100000 in
theorem met_meteringCommandsComplete :
    (let s : State := up; let d : Nat := 11; d < 12 ∧ (s.dom d).rail ≠ 0) ∧
    (let s : State := { up with tick := 10 ^ 11 }; let l : List Nat := List.replicate 12 5; l.length ≤ 12 ∧ s.pwr.phase = 2 ∧ s.recalNow = true) ∧
    (let s : State := up; let l : List Nat := List.replicate 12 5; l.length ≤ 12 ∧ s.pwr.phase = 2 ∧ s.recalNow = false) ∧
    (let s : State := up.setDom 11 ⟨0, none⟩; let d : Nat := 11; d < 12 ∧ (s.dom d).rail = 0) ∧
    (let s : State := up.setMeter 11 { Meter.reset with q := 5 }; let d : Nat := 11; let q : Nat := 1000; d < 12 ∧ (let m := s.meter d; (s.dom d).rail ≠ 0 ∧ m.q ≠ 0 ∧ m.q < 5 * ((q : Int) - m.q).natAbs)) ∧
    (let s : State := up.setMeter 11 { Meter.reset with q := 5 }; let d : Nat := 11; let q : Nat := 6; d < 12 ∧ (let m := s.meter d; (s.dom d).rail ≠ 0 ∧ (m.q = 0 ∨ 5 * ((q : Int) - m.q).natAbs ≤ m.q))) ∧
    (let s : State := up; let h : Nat := 0; let lo : Word := 5; let hi : Word := 0; s.writeUp h = true ∧ s.judge h (Reg.addr .ldgStore 0) 8 (some (lo.toNat + 2 ^ 32 * hi.toNat)) = .pass) := by
  refine ⟨?_, ?_, ?_, ?_, ?_, ?_, ?_⟩ <;> decide +kernel

set_option maxRecDepth 100000 in
theorem met_plannerCommandsComplete :
    (let s : State := { up with tick := 10 ^ 9 }; s.pwr.phase = 2 ∧ s.pwr.floor = 0 ∧ s.epochDue = true ∧ (let e := s.epochBoundary false; (e.pwr.reserveHold = false ∨ e.plnModeInForce = 2))) ∧
    (let s : State := { up with tick := 10 ^ 9, pwr := { up.pwr with reserveHold := true } }; s.pwr.phase = 2 ∧ s.pwr.floor = 0 ∧ s.epochDue = true ∧ (let e := s.epochBoundary false; e.pwr.reserveHold = true ∧ e.plnModeInForce ≠ 2)) ∧
    (let s : State := let s := up; { s with pln := { s.pln with limit := some (-1) } }; s.pwr.phase = 2 ∧ (let l := -1; s.pln.limit = some l ∧ l < s.sinceBoundary ∧ s.plnModeInForce ≠ 2)) ∧
    (let s : State := let s := (up.setApp .plnCfg 0 0x2002).setApp .plnBudget 0 1000; { s with pln := { s.pln with limit := some (-1) } }; s.pwr.phase = 2 ∧ (let l := -1; s.pln.limit = some l ∧ l < s.sinceBoundary ∧ s.plnModeInForce = 2 ∧ s.pwr.floor = 0 ∧ 0 < s.budgetLeft ∧ s.pln.trips = 0)) ∧
    (let s : State := let s := up.setApp .plnCfg 0 0x2002; { s with pln := { s.pln with limit := some (-1) } }; s.pwr.phase = 2 ∧ (let l := -1; s.pln.limit = some l ∧ l < s.sinceBoundary ∧ s.plnModeInForce = 2 ∧ s.pwr.floor = 0 ∧ (s.budgetLeft ≤ 0 ∨ 1 ≤ s.pln.trips))) ∧
    (let s : State := { up with ldg := { up.ldg with storeValid := true } }; s.pwr.phase = 2 ∧ s.ldg.storeValid = true ∧ s.ldg.store ≤ (s.reg64 .plnReserve 0 : Rat) ∧ s.pln.reserveReady = true ∧ (s.plnModeInForce ≠ 2 ∨ s.pwr.reserveHold = true)) ∧
    (let s : State := let s := up.setApp .plnCfg 0 0x2002; { s with ldg := { s.ldg with storeValid := true } }; s.pwr.phase = 2 ∧ s.ldg.storeValid = true ∧ s.ldg.store ≤ (s.reg64 .plnReserve 0 : Rat) ∧ s.pln.reserveReady = true ∧ s.plnModeInForce = 2 ∧ s.pwr.reserveHold = false) := by
  refine ⟨?_, ?_, ?_, ?_, ?_, ?_, ?_⟩ <;> decide +kernel

set_option maxRecDepth 100000 in
theorem met_calendarSecondsComplete :
    (let s : State := atUtc 5 0; (s.pwr.phase = 1 ∨ s.pwr.phase = 2) ∧ s.calSource = 0 ∧ s.cal.valid = true ∧ s.cal.mark + 32768 ≤ (s.tick : Int) ∧ s.cal.inLeap = false ∧ s.leapDue 30 = false ∧ s.leapDue 29 = false) ∧
    (let s : State := atUtc 5 0; (s.pwr.phase = 1 ∨ s.pwr.phase = 2) ∧ s.calSource = 0 ∧ s.cal.valid = true ∧ s.cal.mark + 32768 ≤ (s.tick : Int) ∧ (let t := s.cal.utc; s.cal.inLeap = false ∧ t % 86400 ≠ 86399 ∧ t % 86400 ≠ 86398)) ∧
    (let s : State := atUtc 86399 0x40000000; (s.pwr.phase = 1 ∨ s.pwr.phase = 2) ∧ s.calSource = 0 ∧ s.cal.valid = true ∧ s.cal.mark + 32768 ≤ (s.tick : Int) ∧ (let t := s.cal.utc; s.cal.inLeap = false ∧ t % 86400 = 86399 ∧ s.leapDue 30 = true)) ∧
    (let s : State := atUtc 86398 0x20000000; (s.pwr.phase = 1 ∨ s.pwr.phase = 2) ∧ s.calSource = 0 ∧ s.cal.valid = true ∧ s.cal.mark + 32768 ≤ (s.tick : Int) ∧ (let t := s.cal.utc; s.cal.inLeap = false ∧ t % 86400 = 86398 ∧ s.leapDue 29 = true)) ∧
    (let s : State := let s := atUtc 86399 0; s.modCal (fun c => { c with inLeap := true }); (s.pwr.phase = 1 ∨ s.pwr.phase = 2) ∧ s.calSource = 0 ∧ s.cal.valid = true ∧ s.cal.mark + 32768 ≤ (s.tick : Int) ∧ s.cal.inLeap = true) ∧
    (let s : State := (atUtc 5 0x83000000).modCal (fun c => { c with valid := false }); (s.pwr.phase = 1 ∨ s.pwr.phase = 2) ∧ s.calSource ≠ 0 ∧ s.cal.valid = false) ∧
    (let s : State := (atUtc 0 0x83000000).modTb 3 (fun t => { t with v := 10 ^ 9 * 2 ^ 32 }); (s.pwr.phase = 1 ∨ s.pwr.phase = 2) ∧ s.calSource ≠ 0 ∧ (let t := s.calByTb; s.cal.valid = true ∧ t = s.cal.utc + 1)) ∧
    (let s : State := atUtc 0 0x83000000; (s.pwr.phase = 1 ∨ s.pwr.phase = 2) ∧ s.calSource ≠ 0 ∧ (let t := s.calByTb; s.cal.valid = true ∧ t = s.cal.utc)) ∧
    (let s : State := atUtc 5 0x83000000; (s.pwr.phase = 1 ∨ s.pwr.phase = 2) ∧ s.calSource ≠ 0 ∧ (let t := s.calByTb; s.cal.valid = true ∧ t ≠ s.cal.utc ∧ t ≠ s.cal.utc + 1)) := by
  refine ⟨?_, ?_, ?_, ?_, ?_, ?_, ?_, ?_, ?_⟩ <;> decide +kernel

set_option maxRecDepth 100000 in
theorem met_floorCommandsComplete :
    (let s : State := up.setDom 11 ⟨2, some 5⟩; let d : Nat := 11; let r : Nat := 5; d < 12 ∧ (s.dom d).rail ≠ 0 ∧ (s.dom d).slew = some r ∧ (s.dom d).rail ≤ r ∨ (∀ c < 192, (s.chan c).tierNext = none)) ∧
    (let s : State := (up.setDom 11 ⟨5, some 2⟩).modChan 191 (fun x => { x with tierNext := some (0, false) }); let d : Nat := 11; let r : Nat := 2; d < 12 ∧ (s.dom d).rail ≠ 0 ∧ (s.dom d).slew = some r ∧ (let c := 191; c < 192 ∧ r < (s.dom d).rail ∧ (s.chan c).tierNext ≠ none)) ∧
    (let s : State := { up with pwr := { up.pwr with permit := 2 } }; let f : Nat := 2; s.pwr.phase = 2 ∧ s.pwr.floor = 0 ∧ s.onHold = false ∧ s.pwr.brownWait = false ∧ f = 2 ∧ s.floorOk 2 = true) ∧
    (let s : State := { up with pwr := { up.pwr with permit := 1 } }; let f : Nat := 1; s.pwr.phase = 2 ∧ s.pwr.floor = 0 ∧ s.onHold = false ∧ s.pwr.brownWait = false ∧ f = 1 ∧ s.floorOk 2 = false ∧ s.floorOk 1 = true) ∧
    (let s : State := { up with pwr := { up.pwr with wakeCmp := some 0 } }; let t : Nat := 0; s.pwr.wakeCmp = some t ∧ t ≤ s.tb0u + tickUnits) ∧
    (let s : State := { up with pwr := { up.pwr with wakeCmp := some (10 ^ 9) } }; let t : Nat := 10 ^ 9; s.pwr.wakeCmp = some t ∧ s.tb0u + tickUnits < t) ∧
    (let s : State := dozing; let k : Nat := 5; s.pwr.phase = 2 ∧ s.pwr.floor ≠ 0 ∧ (k = 2 ∨ k = 3 ∨ (k = 5 ∧ s.onHold = false))) ∧
    (let s : State := { dozing with pwr := { dozing.pwr with wakeReq := true } }; let k : Nat := 9; s.pwr.phase = 2 ∧ s.pwr.floor ≠ 0 ∧ k ≠ 2 ∧ k ≠ 3 ∧ k ≠ 5 ∧ s.pwr.wakeReq = true) ∧
    (let s : State := dozing; let k : Nat := 9; s.pwr.phase = 2 ∧ s.pwr.floor ≠ 0 ∧ k ≠ 2 ∧ k ≠ 3 ∧ k ≠ 5 ∧ s.pwr.wakeReq = false) ∧
    (let h : Nat := 3; h < 4) ∧
    (let s : State := up.setApp .legCfg 0 0x50000000; let l : Nat := 1; l < 2 ∧ s.slt.state = 0 ∧ s.onHold = false ∧ bitAt (s.app .legCfg 0) 28 = true ∧ bitAt (s.app .legCfg 0) (31 - l) = true) := by
  refine ⟨?_, ?_, ?_, ?_, ?_, ?_, ?_, ?_, ?_, ?_, ?_⟩ <;> decide +kernel

set_option maxRecDepth 100000 in
theorem met_resetCommandsComplete :
    (let s : State := up; s.pwr.phase ≠ 3) ∧
    (let s : State := inPhase 3; s.pwr.phase = 3) ∧
    (let s : State := { up with pwr := { up.pwr with resetArm := true } }; s.pwr.phase = 2 ∧ s.pwr.resetArm = true) ∧
    (let s : State := up; let core : Nat := 1; core < 2 ∧ s.pwr.phase ≠ 3) ∧
    (let s : State := up; let code : Nat := 5; 1 ≤ code ∧ code ≤ 5 ∧ s.pwr.phase ≠ 3) ∧
    (let s : State := { up with pwr := { up.pwr with shutArm := some (3, 7, true, false) } }; let h : Nat := 3; let k : Nat := 7; let en : Bool := true; let falling : Bool := false; s.pwr.shutArm = some (h, k, en, falling) ∧ s.pwr.phase = 2 ∧ s.life.writing = none) ∧
    (let s : State := { up with pwr := { up.pwr with phase := 3, shutWake := some false } }; let level : Bool := true; s.pwr.phase = 3 ∧ s.pwr.shutWake = some (!level)) ∧
    (let s : State := { up with fenced := [(selOf 8 11, 0x81)] }; let kind : Nat := 8; let idx : Nat := 11; idx < 256 ∧ s.pwr.phase = 2 ∧ selectorOk kind idx = true ∧ s.isFenced kind idx = true ∧ kind = 8) ∧
    (let s : State := { up with fenced := [(selOf 4 31, 0x81)] }; let kind : Nat := 4; let idx : Nat := 31; idx < 256 ∧ s.pwr.phase = 2 ∧ selectorOk kind idx = true ∧ s.isFenced kind idx = true ∧ kind ≠ 8 ∧ funcDomain kind idx ≠ 0) := by
  refine ⟨?_, ?_, ?_, ?_, ?_, ?_, ?_, ?_, ?_⟩ <;> decide +kernel

set_option maxRecDepth 100000 in
theorem met_resetLeavesWhatItsCauseKeeps :
    (let s : State := up; s.life.writing = none) ∧
    (let s : State := up; s.store.save = none) ∧
    (let pd0 : Bool := true; let ok : Bool := true; pd0 = true ∧ ok = true) ∧
    (let pd0 : Bool := false; let ok : Bool := true; (pd0 = false ∨ ok = false)) ∧
    (let pd0 : Bool := true; pd0 = true) ∧
    (let pd0 : Bool := false; pd0 = false) := by
  refine ⟨?_, ?_, ?_, ?_, ?_, ?_⟩ <;> decide +kernel

set_option maxRecDepth 100000 in
theorem met_bootAndTickCommandsComplete :
    (let s : State := State.reset; s.pwr.phase = 1) ∧
    (let s : State := up; s.pwr.phase ≠ 1) ∧
    (let s : State := { up with pwr := { up.pwr with cause := 6 } }; s.pwr.cause = 6) ∧
    (let s : State := { up with pwr := { up.pwr with cause := 7 } }; s.pwr.cause = 7) ∧
    (let s : State := up; s.pwr.cause ≠ 6 ∧ s.pwr.cause ≠ 7) ∧
    (let s : State := up.setPatch 1 { PatchSlot.reset with pend := true }; let k : Nat := 1; (k = 1 ∧ (s.patch 0).pend = false ∧ (s.patch 1).pend = true) ∧ (s.patch k).sound = false) ∧
    (let s : State := up; (s.patch 0).pend = false ∧ (s.patch 1).pend = false ∧ (s.patch 0).ranLast = false ∧ (s.patch 1).ranLast = false) ∧
    (let s : State := { up with store := { up.store with selected := 2 } }; 2 ≤ s.store.selected) ∧
    (let s : State := { up with store := { up.store with selected := 1 } }; s.store.selected < 2 ∧ s.store.images.get (fun _ => none) s.store.selected = none) ∧
    (let img : CfgImage := ⟨[], [], [], [], none, 0, [], 0, 0, true⟩; let s : State := { up with store := { up.store with selected := 1, images := [(1, some img)] } }; s.store.selected < 2 ∧ s.store.images.get (fun _ => none) s.store.selected = some img ∧ img.intact = true) ∧
    (let img : CfgImage := ⟨[], [], [], [], none, 0, [], 0, 0, false⟩; let s : State := { up with store := { up.store with selected := 1, images := [(1, some img)] } }; s.store.selected < 2 ∧ s.store.images.get (fun _ => none) s.store.selected = some img ∧ img.intact = false) ∧
    (let s : State := up; s.pwr.phase = 2 ∧ s.pwr.brownHold = false) ∧
    (let s : State := inPhase 3; (s.pwr.phase ≠ 2 ∨ s.pwr.brownHold = true)) ∧
    (let s : State := { up with pwr := { up.pwr with brownWait := true } }; s.pwr.phase = 2 ∧ s.pwr.brownWait = true) ∧
    (let s : State := up; (s.pwr.phase ≠ 2 ∨ s.pwr.brownWait = false)) ∧
    (let s : State := { up with pwr := { up.pwr with brownHold := true } }; (s.pwr.reserveHold = true ∨ s.pwr.brownHold = true)) ∧
    (let s : State := up; s.pwr.reserveHold = false ∧ s.pwr.brownHold = false) ∧
    (let s : State := up; s.pwr.phase ≠ 3) ∧
    (let s : State := up; s.life.ticks.getD s.pwr.floor 0 + 1 < 32768) ∧
    (let s : State := { up with life := { up.life with ticks := [32767, 0, 0] } }; 32768 ≤ s.life.ticks.getD s.pwr.floor 0 + 1) ∧
    (let s : State := up; s.wearOn = false) ∧
    (let s : State := { up with svc := { up.svc with stored := [(256 * 25, 0x80000000)], applied := [(256 * 25, 0x80000000)] } }; s.wearOn = true) ∧
    (let s : State := up.setDom 5 ⟨0, none⟩; (s.dom 5).rail = 0) ∧
    (let s : State := up; (s.dom 5).rail ≠ 0) ∧
    (let s : State := inPhase 3; s.pwr.phase = 3) := by
  refine ⟨?_, ?_, ?_, ?_, ?_, ?_, ?_, ?_, ?_, ?_, ?_, ?_, ?_, ?_, ?_, ?_, ?_, ?_, ?_, ?_, ?_, ?_, ?_, ?_, ?_⟩ <;> decide +kernel

set_option maxRecDepth 100000 in
theorem met_storeCompletionsComplete :
    (let s : State := { up with tick := 10 ^ 11 }; s.pwr.phase = 2 ∧ s.pwr.floor = 0 ∧ s.isFenced 8 2 = false ∧ s.life.writing = none ∧ s.life.lastAt / s.lifeInterval < s.tb0u / s.lifeInterval) ∧
    (let s : State := { up with life := { up.life with writing := some ⟨1, [], true⟩ } }; let c : LifeCopy := ⟨1, [], true⟩; s.life.writing = some c ∧ s.pwr.brownHold = false) ∧
    (let s : State := { up with life := { up.life with writing := some ⟨1, [], true⟩ }, pwr := { up.pwr with brownHold := true }, ldg := { up.ldg with vbat := 5000 } }; let c : LifeCopy := ⟨1, [], true⟩; s.life.writing = some c ∧ s.pwr.brownHold = true ∧ s.resumeLevel < s.ldg.vbat) ∧
    (let s : State := { up with life := { up.life with writing := some ⟨1, [], true⟩ }, pwr := { up.pwr with brownHold := true }, ldg := { up.ldg with vbat := 0 } }; let c : LifeCopy := ⟨1, [], true⟩; s.life.writing = some c ∧ s.pwr.brownHold = true ∧ s.ldg.vbat ≤ s.resumeLevel) ∧
    (let s : State := { up with store := { up.store with save := some (1, ⟨[], [], [], [], none, 0, [], 0, 0, true⟩, 3, 7, true) } }; let k : Nat := 1; let img : CfgImage := ⟨[], [], [], [], none, 0, [], 0, 0, true⟩; let h : Nat := 3; let tag : Nat := 7; let want : Bool := true; s.store.save = some (k, img, h, tag, want)) ∧
    (let s : State := checking (verifying ([5]) (0)); let x : FwXfer := verifying ([5]) (0); let h : Nat := 3; let tag : Nat := 7; let want : Bool := true; s.store.xfer = some x ∧ x.verify = some (h, tag, want) ∧ (let short := 4 * x.words.length < x.length; short)) ∧
    (let s : State := checking (verifying (image 0x54525A50 0x30001) (0)); let x : FwXfer := verifying (image 0x54525A50 0x30001) (0); let h : Nat := 3; let tag : Nat := 7; let want : Bool := true; s.store.xfer = some x ∧ x.verify = some (h, tag, want) ∧ (let l := wordsBytes x.words; let short := 4 * x.words.length < x.length; let wrong := crc32c l ≠ x.crc; ¬ short ∧ wrong)) ∧
    (let s : State := checking (verifying (image 0x54525A51 0x30001) (crc32c (wordsBytes (image 0x54525A51 0x30001)))); let x : FwXfer := verifying (image 0x54525A51 0x30001) (crc32c (wordsBytes (image 0x54525A51 0x30001))); let h : Nat := 3; let tag : Nat := 7; let want : Bool := true; s.store.xfer = some x ∧ x.verify = some (h, tag, want) ∧ (let l := wordsBytes x.words; let short := 4 * x.words.length < x.length; let wrong := crc32c l ≠ x.crc; let header := x.words.getD 0 0 ≠ 0x54525A50#32 ∨ (x.words.getD 2 0).toNat ≠ x.length ∨ ((l.drop 14).take 50).any (fun b => b ≠ 0) = true; ¬ short ∧ ¬ wrong ∧ header)) ∧
    (let s : State := checking (verifying (image 0x54525A50 0x20001) (crc32c (wordsBytes (image 0x54525A50 0x20001)))); let x : FwXfer := verifying (image 0x54525A50 0x20001) (crc32c (wordsBytes (image 0x54525A50 0x20001))); let h : Nat := 3; let tag : Nat := 7; let want : Bool := true; s.store.xfer = some x ∧ x.verify = some (h, tag, want) ∧ (let l := wordsBytes x.words; let short := 4 * x.words.length < x.length; let wrong := crc32c l ≠ x.crc; let header := x.words.getD 0 0 ≠ 0x54525A50#32 ∨ (x.words.getD 2 0).toNat ≠ x.length ∨ ((l.drop 14).take 50).any (fun b => b ≠ 0) = true; ¬ short ∧ ¬ wrong ∧ ¬ header ∧ bits (x.words.getD 1 0) 31 16 ≠ 3)) ∧
    (let s : State := checking (verifying (image 0x54525A50 0x30000) (crc32c (wordsBytes (image 0x54525A50 0x30000)))); let x : FwXfer := verifying (image 0x54525A50 0x30000) (crc32c (wordsBytes (image 0x54525A50 0x30000))); let h : Nat := 3; let tag : Nat := 7; let want : Bool := true; s.store.xfer = some x ∧ x.verify = some (h, tag, want) ∧ (let l := wordsBytes x.words; let short := 4 * x.words.length < x.length; let wrong := crc32c l ≠ x.crc; let header := x.words.getD 0 0 ≠ 0x54525A50#32 ∨ (x.words.getD 2 0).toNat ≠ x.length ∨ ((l.drop 14).take 50).any (fun b => b ≠ 0) = true; ¬ short ∧ ¬ wrong ∧ ¬ header ∧ bits (x.words.getD 1 0) 31 16 = 3 ∧ bits (x.words.getD 1 0) 15 0 < s.store.minMinor)) := by
  refine ⟨?_, ?_, ?_, ?_, ?_, ?_, ?_, ?_, ?_, ?_⟩ <;> decide +kernel

set_option maxRecDepth 100000 in
theorem met_checkPassCompletes :
    (let s : State := { up with check := { up.check with commit := some (3, 7, true) } }; s.pwr.phase = 2 ∧ s.pwr.floor = 0 ∧ s.check.commit ≠ none) ∧
    (let s : State := let s := up.setReg .chkCtl 0 0x80000000; { s with check := { s.check with units := [(276, { ChkUnit.reset with ref := some 5 })] } }; s.pwr.phase = 2 ∧ s.pwr.floor = 0 ∧ s.check.commit = none ∧ bitAt (s.reg .chkCtl 0) 31 = true ∧ (∃ p ∈ s.check.units, p.2.ref ≠ none)) ∧
    (let s : State := up.setReg .chkCtl 0 0; s.pwr.phase = 2 ∧ s.pwr.floor = 0 ∧ s.check.commit = none ∧ bitAt (s.reg .chkCtl 0) 31 = false) ∧
    (let s : State := up; s.pwr.phase = 2 ∧ s.pwr.floor = 0) ∧
    (let s : State := up; s.pwr.phase = 2 ∧ s.pwr.floor = 0 ∧ (let u : Nat := 191; let x := s.unit u; let now := crc32c (wordsBytes (s.unitWords u)); (s.dom (unitDomain u)).rail ≠ 0 ∧ (x.ref = some now ∨ x.ref = none ∨ x.dirty = true ∨ x.drift = true))) ∧
    (let s : State := up.setUnit 191 { ChkUnit.reset with ref := some 5 }; s.pwr.phase = 2 ∧ s.pwr.floor = 0 ∧ (let u : Nat := 191; let x := s.unit u; let now := crc32c (wordsBytes (s.unitWords u)); (s.dom (unitDomain u)).rail ≠ 0 ∧ (let r := 5; x.ref = some r ∧ r ≠ now ∧ x.dirty = false ∧ x.drift = false))) := by
  refine ⟨?_, ?_, ?_, ?_, ?_, ?_⟩ <;> decide +kernel

set_option maxRecDepth 100000 in
theorem met_legusFramesComplete :
    (let s : State := salt 3; let l : Nat := 1; let bytes : List Nat := legBytes 2 5 30 0 ++ [0]; l < 2 ∧ s.linkRuns l = true ∧ ¬ lineOk bytes ∧ lineBegun s l bytes) ∧
    (let s : State := salt 3; let l : Nat := 1; let bytes : List Nat := legBytes 2 5 31 0 ++ [0]; l < 2 ∧ s.linkRuns l = true ∧ ¬ lineOk bytes ∧ ¬ lineBegun s l bytes) ∧
    (let s : State := salt 3; let l : Nat := 1; let bytes : List Nat := onLine [0x32, 5, 0, 8, 9, 0, 0, 0]; l < 2 ∧ s.linkRuns l = true ∧ lineOk bytes ∧ LegFrame.parse (lineBody bytes) = none ∧ lineBegun s l bytes) ∧
    (let s : State := salt 3; let l : Nat := 1; let bytes : List Nat := onLine [5]; l < 2 ∧ s.linkRuns l = true ∧ lineOk bytes ∧ LegFrame.parse (lineBody bytes) = none ∧ ¬ lineBegun s l bytes) ∧
    (let s : State := salt 3; let l : Nat := 1; let bytes : List Nat := legBytes 2 5 30 0; l < 2 ∧ s.linkRuns l = true ∧ (let g := legFrame 2 5 30 0; lineOk bytes ∧ LegFrame.parse (lineBody bytes) = some g ∧ (let own := g.src = s.ownIndex ∧ s.slt.state ≠ 0; lineBegun s l bytes))) ∧
    (let s : State := salt 3; let l : Nat := 1; let bytes : List Nat := legBytes 2 5 31 0; l < 2 ∧ s.linkRuns l = true ∧ (let g := legFrame 2 5 31 0; lineOk bytes ∧ LegFrame.parse (lineBody bytes) = some g ∧ (let own := g.src = s.ownIndex ∧ s.slt.state ≠ 0; ¬ lineBegun s l bytes))) ∧
    (let s : State := salt 3; let l : Nat := 1; let bytes : List Nat := legBytes 3 0 0 0; l < 2 ∧ s.linkRuns l = true ∧ (let g := legFrame 3 0 0 0; lineOk bytes ∧ LegFrame.parse (lineBody bytes) = some g ∧ (let own := g.src = s.ownIndex ∧ s.slt.state ≠ 0; own ∧ s.clashFrame g = false))) ∧
    (let s : State := (salt 3).setPeer 5 { Peer.reset with lastSeq := some 9 }; let l : Nat := 1; let bytes : List Nat := legBytes 2 5 0 0; l < 2 ∧ s.linkRuns l = true ∧ (let g := legFrame 2 5 0 0; lineOk bytes ∧ LegFrame.parse (lineBody bytes) = some g ∧ (let own := g.src = s.ownIndex ∧ s.slt.state ≠ 0; ¬ own ∧ (s.peer g.src).lastSeq = some g.seq))) ∧
    (let s : State := salt 3; let l : Nat := 1; let bytes : List Nat := legBytes 1 5 0 0; l < 2 ∧ s.linkRuns l = true ∧ (let g := legFrame 1 5 0 0; lineOk bytes ∧ LegFrame.parse (lineBody bytes) = some g ∧ (let own := g.src = s.ownIndex ∧ s.slt.state ≠ 0; ¬ own ∧ (s.peer g.src).lastSeq ≠ some g.seq ∧ g.type = 1))) ∧
    (let s : State := salt 3; let l : Nat := 1; let bytes : List Nat := legBytes 2 5 31 0; l < 2 ∧ s.linkRuns l = true ∧ (let g := legFrame 2 5 31 0; lineOk bytes ∧ LegFrame.parse (lineBody bytes) = some g ∧ (let own := g.src = s.ownIndex ∧ s.slt.state ≠ 0; let u := (s.atF 3).clearSent; let v := u.logEnd 6 l 0x31; let w := (v.modPeer g.src (fun p => { p with lastSeq := some g.seq })).modLegLink l (fun x => { x with received := (x.received + 1) % 2 ^ 32, nb := if g.hops = 0 then some g.src else x.nb }); ¬ own ∧ (s.peer g.src).lastSeq ≠ some g.seq ∧ g.type ≠ 1 ∧ (g.hops = 31 ∨ w.blocked = true)))) ∧
    (let s : State := salt 3; let l : Nat := 1; let bytes : List Nat := legBytes 2 5 0 0; l < 2 ∧ s.linkRuns l = true ∧ (let g := legFrame 2 5 0 0; lineOk bytes ∧ LegFrame.parse (lineBody bytes) = some g ∧ (let own := g.src = s.ownIndex ∧ s.slt.state ≠ 0; let u := (s.atF 3).clearSent; let v := u.logEnd 6 l 0x31; let w := (v.modPeer g.src (fun p => { p with lastSeq := some g.seq })).modLegLink l (fun x => { x with received := (x.received + 1) % 2 ^ 32, nb := if g.hops = 0 then some g.src else x.nb }); ¬ own ∧ (s.peer g.src).lastSeq ≠ some g.seq ∧ g.type ≠ 1 ∧ g.hops ≠ 31 ∧ w.blocked = false))) := by
  unfold lineOk lineBegun; refine ⟨?_, ?_, ?_, ?_, ?_, ?_, ?_, ?_, ?_, ?_, ?_⟩ <;> decide +kernel

set_option maxRecDepth 100000 in
theorem met_salternCommandsComplete :
    (let s : State := salt 3; let p : Nat := 1; let src : Nat := 31; let words : List Word := []; src < 32 ∧ s.pathRuns p = true ∧ (let i := s.ownIndex; let w := fun k => words.getD k 0; let listed := bitAt (w 1) i && !s.slt.clash; p < 2)) ∧
    (let s : State := salt 3; let p : Nat := 2; let src : Nat := 31; let words : List Word := []; src < 32 ∧ s.pathRuns p = true ∧ (let i := s.ownIndex; let w := fun k => words.getD k 0; let listed := bitAt (w 1) i && !s.slt.clash; p = 2)) ∧
    (let s : State := salt 0; let p : Nat := 1; let src : Nat := 31; let words : List Word := []; src < 32 ∧ s.pathRuns p = true ∧ (let i := s.ownIndex; let w := fun k => words.getD k 0; let listed := bitAt (w 1) i && !s.slt.clash; s.slt.state = 0)) ∧
    (let s : State := salt 1; let p : Nat := 1; let src : Nat := 31; let words : List Word := [0, 1, 0, 0]; src < 32 ∧ s.pathRuns p = true ∧ (let i := s.ownIndex; let w := fun k => words.getD k 0; let listed := bitAt (w 1) i && !s.slt.clash; s.slt.state = 1 ∧ listed = true ∧ bitAt (w 3) i = false)) ∧
    (let s : State := salt 1; let p : Nat := 1; let src : Nat := 31; let words : List Word := [0, 1, 0, 1]; src < 32 ∧ s.pathRuns p = true ∧ (let i := s.ownIndex; let w := fun k => words.getD k 0; let listed := bitAt (w 1) i && !s.slt.clash; s.slt.state = 1 ∧ (listed = false ∨ bitAt (w 3) i = true))) ∧
    (let s : State := salt 2; let p : Nat := 1; let src : Nat := 31; let words : List Word := []; src < 32 ∧ s.pathRuns p = true ∧ (let i := s.ownIndex; let w := fun k => words.getD k 0; let listed := bitAt (w 1) i && !s.slt.clash; s.slt.state = 2)) ∧
    (let s : State := salt 3; let p : Nat := 1; let src : Nat := 31; let words : List Word := [0, 1, 0, 0]; src < 32 ∧ s.pathRuns p = true ∧ (let i := s.ownIndex; let w := fun k => words.getD k 0; let listed := bitAt (w 1) i && !s.slt.clash; s.slt.state = 3 ∧ listed = true)) ∧
    (let s : State := salt 3; let p : Nat := 1; let src : Nat := 31; let words : List Word := []; src < 32 ∧ s.pathRuns p = true ∧ (let i := s.ownIndex; let w := fun k => words.getD k 0; let listed := bitAt (w 1) i && !s.slt.clash; s.slt.state = 3 ∧ listed = false)) ∧
    (let s : State := salt 4; let p : Nat := 1; let src : Nat := 31; let words : List Word := []; src < 32 ∧ s.pathRuns p = true ∧ (let i := s.ownIndex; let w := fun k => words.getD k 0; let listed := bitAt (w 1) i && !s.slt.clash; s.slt.state = 4)) ∧
    (let s : State := let s := salt 1; { s with slt := { s.slt with role := { Role.solo with role := 2 } } }; s.pwr.floor = 0 ∧ s.isFenced 8 10 = false ∧ s.slt.state = 1 ∧ s.slt.role.role = 2) ∧
    (let s : State := salt 1; s.pwr.floor = 0 ∧ s.isFenced 8 10 = false ∧ s.slt.state = 1 ∧ s.slt.role.role ≠ 2) ∧
    (let s : State := salt 2; s.pwr.floor = 0 ∧ s.isFenced 8 10 = false ∧ s.slt.state = 2) ∧
    (let s : State := salt 3; s.pwr.floor = 0 ∧ s.isFenced 8 10 = false ∧ s.slt.state = 3) ∧
    (let s : State := let s := salt 4; { s with slt := { s.slt with members := 0x80000000 } }; s.pwr.floor = 0 ∧ s.isFenced 8 10 = false ∧ (let i : Nat := 31; i < 32 ∧ s.isLeader = true ∧ i ≠ s.ownIndex ∧ bitAt s.slt.members i = true)) ∧
    (let s : State := let s := salt 4; { s with slt := { s.slt with members := 1 } }; s.pwr.floor = 0 ∧ s.isFenced 8 10 = false ∧ (let i : Nat := 31; i < 32 ∧ s.isLeader = true ∧ i ≠ s.ownIndex ∧ bitAt s.slt.members i = false)) ∧
    (let s : State := salt 0; s.pwr.floor = 0 ∧ s.isFenced 8 10 = false ∧ s.slt.state = 0) ∧
    (let s : State := salt 3; s.pwr.floor = 0 ∧ s.isFenced 8 10 = false ∧ s.slt.state ≠ 0 ∧ s.isLeader = false) ∧
    (let s : State := salt 4; s.pwr.floor = 0 ∧ s.isFenced 8 10 = false ∧ s.isLeader = true ∧ (let t := (s.atF 3).clearSent; let v : State := { t with slt := { t.slt with admitted := [], lifted := t.ringBroken } }; let i := v.ownIndex; let wrong := v.cfgWrong i (v.reg .cfgRef 0); let z := if wrong || v.slt.outlier ≠ bitAt v.slt.outliers i then (v.putSets i true (bitAt v.slt.divergent i || wrong) (bitAt v.slt.staleSet i) v.slt.outlier).viewChanged v else v; z.slt.state ≠ 0)) ∧
    (let s : State := up; s.pwr.floor = 0 ∧ s.slt.batch = []) ∧
    (let s : State := { up with slt := { up.slt with batch := [[5]] } }; s.pwr.floor = 0 ∧ s.slt.batch ≠ []) ∧
    (let s : State := chanIs 191 2 [0x88000000, 0xA8000000]; s.pwr.floor = 0 ∧ (let c : Nat := 191; c < 192 ∧ s.acquiring c = true ∧ (s.ad c).kind = 21 ∧ (let r := s.remote c; let n := if r.accepted then 0 else r.failed + 1; n < 4))) ∧
    (let s : State := (chanIs 191 2 [0x88000000, 0xA8000000]).setRemote 191 { Remote.reset with failed := 3 }; s.pwr.floor = 0 ∧ (let c : Nat := 191; c < 192 ∧ s.acquiring c = true ∧ (s.ad c).kind = 21 ∧ (let r := s.remote c; let n := if r.accepted then 0 else r.failed + 1; 4 ≤ n))) ∧
    (let s : State := up.setApp .legCfg 0 0xC0000000; let l : Nat := 1; l < 2 ∧ bitAt (s.app .legCfg 0) (31 - l) = true ∧ s.isFenced 8 10 = false ∧ s.pwr.floor = 0 ∧ (s.legLink l).up = false) ∧
    (let s : State := salt 3; let l : Nat := 1; l < 2 ∧ (s.legLink l).up = true) ∧
    (let s : State := up; let l : Nat := 1; l < 2 ∧ (s.legLink l).up = false) := by
  refine ⟨?_, ?_, ?_, ?_, ?_, ?_, ?_, ?_, ?_, ?_, ?_, ?_, ?_, ?_, ?_, ?_, ?_, ?_, ?_, ?_, ?_, ?_, ?_, ?_, ?_⟩ <;> decide +kernel

set_option maxRecDepth 100000 in
theorem met_radioTransmitCommandsComplete :
    (let s : State := radio (salt 3) (fun r => { r with state := 1 }); s.rfStopped = false ∧ s.rf.state = 1 ∧ s.rf.launch = none) ∧
    (let s : State := radio (salt 3) (fun r => { r with state := 1, launch := some (frame true false 0) }); s.rfStopped = false ∧ s.rf.state = 1 ∧ s.rf.launch ≠ none) ∧
    (let s : State := radio (salt 3) (fun r => { r with state := 3, launch := some (frame true false 0) }); s.rfStopped = false ∧ s.rf.state = 3 ∧ s.rf.locked = false ∧ s.rf.launch ≠ none) ∧
    (let s : State := radio (salt 3) (fun r => { r with state := 3, tx := some (frame true false 0) }); s.rfStopped = false ∧ s.rf.state = 3 ∧ s.rf.locked = false ∧ (let tx := frame true false 0; s.rf.launch = none ∧ s.rf.tx = some tx)) ∧
    (let s : State := radio (salt 3) (fun r => { r with state := 3, wait := [frame true false 0] }); s.rfStopped = false ∧ s.rf.state = 3 ∧ s.rf.locked = false ∧ (let tx := frame true false 0; let t := []; s.rf.launch = none ∧ s.rf.tx = none ∧ s.rf.wait = tx :: t ∧ s.mustWait tx = false)) ∧
    (let s : State := radio (salt 3) (fun r => { r with state := 3, listen := 1 }); s.rfStopped = false ∧ s.rf.state = 3 ∧ s.rf.locked = false ∧ s.rf.launch = none ∧ s.rf.tx = none ∧ s.rf.wait = [] ∧ s.rfReceives = true) ∧
    (let s : State := radio (salt 3) (fun r => { r with state := 3 }); s.rfStopped = false ∧ s.rf.state = 3 ∧ s.rf.locked = false ∧ s.rf.launch = none ∧ s.rf.tx = none ∧ s.rf.wait = [] ∧ s.rfReceives = false) ∧
    (let s : State := radio ((salt 3).setApp .rfCfg 0 0x40000000) (fun r => { r with state := 6, tx := some (frame true false 0) }); s.rfStopped = false ∧ (let tx := frame true false 0; s.rf.tx = some tx ∧ s.rf.state = 6 ∧ s.rf.ackWait = false ∧ tx.ackReq = true ∧ s.rfMode = 1 ∧ tx.dst ≠ 0xFFFF)) ∧
    (let s : State := radio (salt 3) (fun r => { r with state := 6, tx := some (frame true false 0) }); s.rfStopped = false ∧ (let tx := frame true false 0; s.rf.tx = some tx ∧ s.rf.state = 6 ∧ s.rf.ackWait = false ∧ (tx.ackReq = false ∨ s.rfMode ≠ 1 ∨ tx.dst = 0xFFFF))) ∧
    (let s : State := radio ((salt 3).setApp .rfMac 0 0x07000000) (fun r => { r with ackWait := true, tx := some (frame true false 1) }); s.rfStopped = false ∧ (let tx := frame true false 1; s.rf.tx = some tx ∧ s.rf.ackWait = true ∧ (let again := tx.launched = false ∧ tx.tries ≤ s.afld .rfMac 0 26 24; again ∧ s.rfBarred tx = false))) ∧
    (let s : State := radio ((salt 3).setApp .rfMac 0 0x07000000) (fun r => { r with ackWait := true, tx := some (frame true true 1) }); s.rfStopped = false ∧ (let tx := frame true true 1; s.rf.tx = some tx ∧ s.rf.ackWait = true ∧ (let again := tx.launched = false ∧ tx.tries ≤ s.afld .rfMac 0 26 24; again ∧ s.rfBarred tx = true))) ∧
    (let s : State := radio ((salt 3).setApp .rfMac 0 0x07000000) (fun r => { r with ackWait := true, tx := some (frame true false 9) }); s.rfStopped = false ∧ (let tx := frame true false 9; s.rf.tx = some tx ∧ s.rf.ackWait = true ∧ (let again := tx.launched = false ∧ tx.tries ≤ s.afld .rfMac 0 26 24; ¬ again))) ∧
    (let s : State := radio ((salt 3).setApp .rfMac 0 0x80000000) (fun r => { r with state := 6, tx := some (frame true false 0) }); s.rfStopped = false ∧ (let tx := frame true false 0; s.rf.tx = some tx ∧ s.rf.state = 6 ∧ tx.tries = 0 ∧ tx.launched = false ∧ bitAt (s.app .rfMac 0) 31 = true)) ∧
    (let s : State := radio (salt 3) (fun r => { r with wait := [frame true false 0] }); s.rfStopped = false ∧ (let tx := frame true false 0; let t := []; s.rf.wait = tx :: t)) ∧
    (let s : State := (radio ((up.modTb 1 (fun t => { t with state := 2 })).setLaunch 127 { Launch.reset with state := 2, action := 6, tb := 1, time := 62000, t0 := 62000 }) (fun r => { r with state := 2 })).setRfBuf 0 ⟨false, false, 0, 5, [1]⟩; s.rfStopped = false ∧ (let n : Nat := 127; let u : State := s; n < 128 ∧ (s.launch n).state = 2 ∧ (s.launch n).action = 6 ∧ s.pd11Stopped = false ∧ s.rf.state ≠ 0 ∧ s.rf.launch = none ∧ s.bufReady (s.launch n).arg = true ∧ s.tbSet (s.launch n).tb = true ∧ s.toTb (s.launch n).tb (((s.launch n).instant (s.launch n).k - 62000) * 2 ^ 32) = some u ∧ (let b : Bool := false; (b = false ∨ s.rf.state ≠ 5)))) ∧
    (let s : State := (radio ((up.modTb 1 (fun t => { t with state := 2 })).setLaunch 127 { Launch.reset with state := 2, action := 6, tb := 1, time := 62000, t0 := 62000 }) (fun r => { r with state := 5 })).setRfBuf 0 ⟨false, false, 0, 5, [1]⟩; s.rfStopped = false ∧ (let n : Nat := 127; let u : State := s; n < 128 ∧ (s.launch n).state = 2 ∧ (s.launch n).action = 6 ∧ s.pd11Stopped = false ∧ s.rf.state ≠ 0 ∧ s.rf.launch = none ∧ s.bufReady (s.launch n).arg = true ∧ s.tbSet (s.launch n).tb = true ∧ s.toTb (s.launch n).tb (((s.launch n).instant (s.launch n).k - 62000) * 2 ^ 32) = some u ∧ (let b : Bool := true; b = true ∧ s.rf.state = 5))) ∧
    (let s : State := radio (salt 3) (fun r => { r with launch := some (frame true false 0) }); s.rfStopped = false ∧ (let tx := frame true false 0; s.rf.launch = some tx ∧ s.rf.locked = false ∧ tx.tries = 0)) ∧
    (let s : State := radio (salt 3) (fun r => { r with ended := [(0, 1, 3, 7, true)] }); s.rfStopped = false ∧ (let r : Nat := 0; let result : Nat := 0; let tries : Nat := 1; let h : Nat := 3; let tag : Nat := 7; let want : Bool := true; let t : List (Nat × Nat × Nat × Nat × Bool) := []; r ≠ 3 ∧ s.rf.ended = (result, tries, h, tag, want) :: t ∧ result ≤ 1)) ∧
    (let s : State := radio (salt 3) (fun r => { r with ended := [(4, 1, 3, 7, true)] }); s.rfStopped = false ∧ (let r : Nat := 0; let result : Nat := 4; let tries : Nat := 1; let h : Nat := 3; let tag : Nat := 7; let want : Bool := true; let t : List (Nat × Nat × Nat × Nat × Bool) := []; r ≠ 3 ∧ s.rf.ended = (result, tries, h, tag, want) :: t ∧ result = 4)) ∧
    (let s : State := radio (salt 3) (fun r => { r with ended := [(3, 1, 3, 7, true)] }); s.rfStopped = false ∧ (let r : Nat := 0; let result : Nat := 3; let tries : Nat := 1; let h : Nat := 3; let tag : Nat := 7; let want : Bool := true; let t : List (Nat × Nat × Nat × Nat × Bool) := []; r ≠ 3 ∧ s.rf.ended = (result, tries, h, tag, want) :: t ∧ (result = 2 ∨ result = 3))) := by
  refine ⟨?_, ?_, ?_, ?_, ?_, ?_, ?_, ?_, ?_, ?_, ?_, ?_, ?_, ?_, ?_, ?_, ?_, ?_, ?_, ?_⟩ <;> decide +kernel

set_option maxRecDepth 100000 in
theorem met_radioReceiveCommandsComplete :
    (let s : State := radio (salt 3) (fun r => { r with state := 2 }); let l : List Byte := []; let b := l.take (l.length - 2); let ok := 2 ≤ l.length ∧ l.drop (l.length - 2) = crcBytes (if s.rfMode = 1 then fcs16 b else crc16 b); let taken := s.rf.state = 5 ∨ (s.rf.state = 3 ∧ s.rf.tx ≠ none) ∨ s.rf.ackWait = true; s.rfStopped = false ∧ s.rfMode ≠ 0 ∧ ¬ taken) ∧
    (let s : State := radio ((salt 3).setApp .rfCfg 0 0x40000000) (fun r => { r with state := 5 }); let l : List Byte := []; let b := l.take (l.length - 2); let ok := 2 ≤ l.length ∧ l.drop (l.length - 2) = crcBytes (if s.rfMode = 1 then fcs16 b else crc16 b); let taken := s.rf.state = 5 ∨ (s.rf.state = 3 ∧ s.rf.tx ≠ none) ∨ s.rf.ackWait = true; s.rfStopped = false ∧ s.rfMode ≠ 0 ∧ taken ∧ s.rfMode = 1 ∧ (let dst := byteAt b 5 + 256 * byteAt b 6; let invalid := macUnsupported b = true ∨ 125 < b.length; let ours := byteAt b 3 + 256 * byteAt b 4 = s.afld .rfAddr 0 31 16 ∧ (dst = 0xFFFF ∨ dst = s.afld .rfAddr 0 15 0); ¬ ok)) ∧
    (let s : State := radio ((salt 3).setApp .rfCfg 0 0x40000000) (fun r => { r with state := 5 }); let l : List Byte := withFcs [7]; let b := l.take (l.length - 2); let ok := 2 ≤ l.length ∧ l.drop (l.length - 2) = crcBytes (if s.rfMode = 1 then fcs16 b else crc16 b); let taken := s.rf.state = 5 ∨ (s.rf.state = 3 ∧ s.rf.tx ≠ none) ∨ s.rf.ackWait = true; s.rfStopped = false ∧ s.rfMode ≠ 0 ∧ taken ∧ s.rfMode = 1 ∧ (let dst := byteAt b 5 + 256 * byteAt b 6; let invalid := macUnsupported b = true ∨ 125 < b.length; let ours := byteAt b 3 + 256 * byteAt b 4 = s.afld .rfAddr 0 31 16 ∧ (dst = 0xFFFF ∨ dst = s.afld .rfAddr 0 15 0); ok ∧ invalid)) ∧
    (let s : State := radio ((salt 3).setApp .rfCfg 0 0x40000000) (fun r => { r with state := 6, ackWait := true, tx := some { frame true false 1 with seq := 9 } }); let l : List Byte := withFcs [0x02, 0x10, 9]; let b := l.take (l.length - 2); let ok := 2 ≤ l.length ∧ l.drop (l.length - 2) = crcBytes (if s.rfMode = 1 then fcs16 b else crc16 b); let taken := s.rf.state = 5 ∨ (s.rf.state = 3 ∧ s.rf.tx ≠ none) ∨ s.rf.ackWait = true; s.rfStopped = false ∧ s.rfMode ≠ 0 ∧ taken ∧ s.rfMode = 1 ∧ (let dst := byteAt b 5 + 256 * byteAt b 6; let invalid := macUnsupported b = true ∨ 125 < b.length; let ours := byteAt b 3 + 256 * byteAt b 4 = s.afld .rfAddr 0 31 16 ∧ (dst = 0xFFFF ∨ dst = s.afld .rfAddr 0 15 0); ok ∧ ¬ invalid ∧ byteAt b 0 % 8 = 2 ∧ (let tx := { frame true false 1 with seq := 9 }; s.rf.tx = some tx ∧ s.rf.ackWait = true ∧ byteAt b 2 = tx.seq))) ∧
    (let s : State := radio ((salt 3).setApp .rfCfg 0 0x40000000) (fun r => { r with state := 5 }); let l : List Byte := withFcs [0x02, 0x10, 9]; let b := l.take (l.length - 2); let ok := 2 ≤ l.length ∧ l.drop (l.length - 2) = crcBytes (if s.rfMode = 1 then fcs16 b else crc16 b); let taken := s.rf.state = 5 ∨ (s.rf.state = 3 ∧ s.rf.tx ≠ none) ∨ s.rf.ackWait = true; s.rfStopped = false ∧ s.rfMode ≠ 0 ∧ taken ∧ s.rfMode = 1 ∧ (let dst := byteAt b 5 + 256 * byteAt b 6; let invalid := macUnsupported b = true ∨ 125 < b.length; let ours := byteAt b 3 + 256 * byteAt b 4 = s.afld .rfAddr 0 31 16 ∧ (dst = 0xFFFF ∨ dst = s.afld .rfAddr 0 15 0); ok ∧ ¬ invalid ∧ byteAt b 0 % 8 = 2 ∧ (s.rf.tx = none ∨ s.rf.ackWait = false ∨ s.rf.tx.map (·.seq) ≠ some (byteAt b 2)))) ∧
    (let s : State := radio ((salt 3).setApp .rfCfg 0 0x40000000) (fun r => { r with state := 6, ackWait := true, tx := some (frame true false 1) }); let l : List Byte := withFcs [0x41, 0x88, 9, 0xFF, 0xFF, 0xFF, 0xFF, 5, 0, 0x31, 0]; let b := l.take (l.length - 2); let ok := 2 ≤ l.length ∧ l.drop (l.length - 2) = crcBytes (if s.rfMode = 1 then fcs16 b else crc16 b); let taken := s.rf.state = 5 ∨ (s.rf.state = 3 ∧ s.rf.tx ≠ none) ∨ s.rf.ackWait = true; s.rfStopped = false ∧ s.rfMode ≠ 0 ∧ taken ∧ s.rfMode = 1 ∧ (let dst := byteAt b 5 + 256 * byteAt b 6; let invalid := macUnsupported b = true ∨ 125 < b.length; let ours := byteAt b 3 + 256 * byteAt b 4 = s.afld .rfAddr 0 31 16 ∧ (dst = 0xFFFF ∨ dst = s.afld .rfAddr 0 15 0); ok ∧ ¬ invalid ∧ byteAt b 0 % 8 ≠ 2 ∧ (s.rf.ackWait = true ∨ ¬ ours))) ∧
    (let s : State := radio ((salt 3).setApp .rfCfg 0 0x40000000) (fun r => { r with state := 5 }); let l : List Byte := withFcs [0x41, 0x88, 9, 0xFF, 0xFF, 0xFF, 0xFF, 5, 0, 0x31, 0]; let b := l.take (l.length - 2); let ok := 2 ≤ l.length ∧ l.drop (l.length - 2) = crcBytes (if s.rfMode = 1 then fcs16 b else crc16 b); let taken := s.rf.state = 5 ∨ (s.rf.state = 3 ∧ s.rf.tx ≠ none) ∨ s.rf.ackWait = true; s.rfStopped = false ∧ s.rfMode ≠ 0 ∧ taken ∧ s.rfMode = 1 ∧ (let dst := byteAt b 5 + 256 * byteAt b 6; let invalid := macUnsupported b = true ∨ 125 < b.length; let ours := byteAt b 3 + 256 * byteAt b 4 = s.afld .rfAddr 0 31 16 ∧ (dst = 0xFFFF ∨ dst = s.afld .rfAddr 0 15 0); ok ∧ ¬ invalid ∧ byteAt b 0 % 8 ≠ 2 ∧ s.rf.ackWait = false ∧ ours)) ∧
    (let s : State := radio (salt 3) (fun r => { r with state := 5 }); let l : List Byte := withCrc [5, 0xFF]; let b := l.take (l.length - 2); let ok := 2 ≤ l.length ∧ l.drop (l.length - 2) = crcBytes (if s.rfMode = 1 then fcs16 b else crc16 b); let taken := s.rf.state = 5 ∨ (s.rf.state = 3 ∧ s.rf.tx ≠ none) ∨ s.rf.ackWait = true; s.rfStopped = false ∧ s.rfMode ≠ 0 ∧ taken ∧ s.rfMode ≠ 1 ∧ (let ours := ok ∧ 5 ≤ byteAt b 0 ∧ byteAt b 0 ≤ 127 ∧ b.length = byteAt b 0 + 1 ∧ (byteAt b 1 = 0xFF ∨ byteAt b 1 = s.rfOwn); ¬ ours)) ∧
    (let s : State := radio (salt 3) (fun r => { r with state := 5 }); let l : List Byte := withCrc [5, 0xFF, 3, 9, 0x31, 0]; let b := l.take (l.length - 2); let ok := 2 ≤ l.length ∧ l.drop (l.length - 2) = crcBytes (if s.rfMode = 1 then fcs16 b else crc16 b); let taken := s.rf.state = 5 ∨ (s.rf.state = 3 ∧ s.rf.tx ≠ none) ∨ s.rf.ackWait = true; s.rfStopped = false ∧ s.rfMode ≠ 0 ∧ taken ∧ s.rfMode ≠ 1 ∧ (let ours := ok ∧ 5 ≤ byteAt b 0 ∧ byteAt b 0 ≤ 127 ∧ b.length = byteAt b 0 + 1 ∧ (byteAt b 1 = 0xFF ∨ byteAt b 1 = s.rfOwn); ours)) ∧
    (let s : State := up; let g : RxFrame := ⟨5, 5, 9, false, [], [5]⟩; let b0 := (g.body.getD 0 0).toNat; let b1 := (g.body.getD 1 0).toNat; let kind := b0 % 16; let valid := 2 ≤ g.body.length ∧ b0 / 16 = 3 ∧ 1 ≤ kind ∧ kind ≤ 5 ∧ b1 / 4 % 32 = 0; ¬ valid) ∧
    (let s : State := up.setApp .rfMac 0 0x20000000; let g : RxFrame := ⟨5, 5, 9, false, [], [0x32, 0] ++ List.replicate 32 0⟩; let b0 := (g.body.getD 0 0).toNat; let b1 := (g.body.getD 1 0).toNat; let kind := b0 % 16; let valid := 2 ≤ g.body.length ∧ b0 / 16 = 3 ∧ 1 ≤ kind ∧ kind ≤ 5 ∧ b1 / 4 % 32 = 0; valid ∧ b1 < 128 ∧ bitAt (s.app .rfMac 0) 29 = true) ∧
    (let s : State := up.setApp .rfMac 0 0; let g : RxFrame := ⟨5, 5, 9, false, [], [0x32, 0, 5]⟩; let b0 := (g.body.getD 0 0).toNat; let b1 := (g.body.getD 1 0).toNat; let kind := b0 % 16; let valid := 2 ≤ g.body.length ∧ b0 / 16 = 3 ∧ 1 ≤ kind ∧ kind ≤ 5 ∧ b1 / 4 % 32 = 0; valid ∧ b1 < 128 ∧ bitAt (s.app .rfMac 0) 29 = false ∧ contentFits kind (g.body.drop 2) = false) ∧
    (let s : State := up.setApp .rfMac 0 0; let g : RxFrame := ⟨5, 5, 9, false, [], [0x32, 0] ++ List.replicate 32 0⟩; let b0 := (g.body.getD 0 0).toNat; let b1 := (g.body.getD 1 0).toNat; let kind := b0 % 16; let valid := 2 ≤ g.body.length ∧ b0 / 16 = 3 ∧ 1 ≤ kind ∧ kind ≤ 5 ∧ b1 / 4 % 32 = 0; valid ∧ b1 < 128 ∧ bitAt (s.app .rfMac 0) 29 = false ∧ contentFits kind (g.body.drop 2) = true) ∧
    (let s : State := up; let g : RxFrame := ⟨5, 5, 9, false, [], [0x32, 0x80]⟩; let b0 := (g.body.getD 0 0).toNat; let b1 := (g.body.getD 1 0).toNat; let kind := b0 % 16; let valid := 2 ≤ g.body.length ∧ b0 / 16 = 3 ∧ 1 ≤ kind ∧ kind ≤ 5 ∧ b1 / 4 % 32 = 0; valid ∧ 128 ≤ b1 ∧ s.openBody g = none) ∧
    (let s : State := radio (salt 3) (fun r => { r with ackOwed := some 5 }); let q := 5; s.rfStopped = false ∧ s.rf.ackOwed = some q) ∧
    (let s : State := up; (s.rf.ackOwed = none ∨ s.rfStopped = true)) ∧
    (let s : State := radio (salt 3) (fun r => { r with state := 5 }); let b : Bool := false; let u := s.modRf (fun r => { r with window := b }); let receiving := s.rf.state = 5 ∨ (s.rf.state = 3 ∧ s.rf.tx = none ∧ s.rf.launch = none); s.rfStopped = false ∧ s.rf.listen = 0 ∧ u.rfReceives = false ∧ receiving) ∧
    (let s : State := radio (salt 3) (fun r => { r with state := 2 }); let b : Bool := true; let u := s.modRf (fun r => { r with window := b }); let receiving := s.rf.state = 5 ∨ (s.rf.state = 3 ∧ s.rf.tx = none ∧ s.rf.launch = none); s.rfStopped = false ∧ s.rf.listen = 0 ∧ (u.rfReceives = true ∨ ¬ receiving)) ∧
    (let s : State := radio (salt 3) (fun r => { r with state := 2, launch := some (frame true false 0) }); let b : Bool := true; let u := s.modRf (fun r => { r with window := b }); let receiving := s.rf.state = 5 ∨ (s.rf.state = 3 ∧ s.rf.tx = none ∧ s.rf.launch = none); s.rfStopped = false ∧ s.rf.listen = 0 ∧ (s.rf.launch ≠ none ∨ s.rf.tx ≠ none)) ∧
    (let s : State := radio (salt 3) (fun r => { r with state := 5 }); let b : Bool := true; let u := s.modRf (fun r => { r with window := b }); let receiving := s.rf.state = 5 ∨ (s.rf.state = 3 ∧ s.rf.tx = none ∧ s.rf.launch = none); s.rfStopped = false ∧ s.rf.listen = 0 ∧ s.rf.launch = none ∧ s.rf.tx = none ∧ s.rf.wait = [] ∧ s.rf.state ≠ 2) ∧
    (let s : State := radio (salt 3) (fun r => { r with state := 2 }); let b : Bool := false; let u := s.modRf (fun r => { r with window := b }); let receiving := s.rf.state = 5 ∨ (s.rf.state = 3 ∧ s.rf.tx = none ∧ s.rf.launch = none); s.rfStopped = false ∧ s.rf.listen = 0 ∧ s.rf.launch = none ∧ s.rf.tx = none ∧ s.rf.wait = [] ∧ s.rf.state = 2 ∧ u.rfReceives = false ∧ s.rfCalLeft = 0) ∧
    (let s : State := radio (up.setApp .rfCfg 0 0x80000000) (fun r => { r with state := 2 }); let b : Bool := true; let u := s.modRf (fun r => { r with window := b }); let receiving := s.rf.state = 5 ∨ (s.rf.state = 3 ∧ s.rf.tx = none ∧ s.rf.launch = none); s.rfStopped = false ∧ s.rf.listen = 0 ∧ s.rf.launch = none ∧ s.rf.tx = none ∧ s.rf.wait = [] ∧ s.rf.state = 2 ∧ u.rfReceives = true ∧ s.xoRuns = false) ∧
    (let s : State := radio (salt 3) (fun r => { r with state := 2, xo := true }); let b : Bool := true; let u := s.modRf (fun r => { r with window := b }); let receiving := s.rf.state = 5 ∨ (s.rf.state = 3 ∧ s.rf.tx = none ∧ s.rf.launch = none); s.rfStopped = false ∧ s.rf.listen = 0 ∧ s.rf.launch = none ∧ s.rf.tx = none ∧ s.rf.wait = [] ∧ s.rf.state = 2 ∧ u.rfReceives = true ∧ s.xoRuns = true ∧ s.rf.calDue ≠ 0) ∧
    (let s : State := radio (salt 3) (fun r => { r with state := 2, xo := true, calDue := 0 }); let b : Bool := true; let u := s.modRf (fun r => { r with window := b }); let receiving := s.rf.state = 5 ∨ (s.rf.state = 3 ∧ s.rf.tx = none ∧ s.rf.launch = none); s.rfStopped = false ∧ s.rf.listen = 0 ∧ s.rf.launch = none ∧ s.rf.tx = none ∧ s.rf.wait = [] ∧ s.rf.state = 2 ∧ u.rfReceives = true ∧ s.xoRuns = true ∧ s.rf.calDue = 0 ∧ s.rfCalLeft = 0) ∧
    (let s : State := radio (salt 3) (fun r => { r with state := 2 }); let k : Nat := 1; s.rfStopped = false ∧ k < 4 ∧ (let begins := k < 2 ∧ s.rf.launch = none ∧ (s.rf.state = 2 ∨ (s.rf.state = 4 ∧ s.rf.calTemp ≠ 0)) ∧ s.launchWithin (calTime (2 ^ k) + 62) = false; let runs := (s.rf.state = 4 ∧ (s.rf.calDue ||| s.rf.calTemp ||| s.rfCalLeft) &&& 2 ^ k ≠ 0) ∨ (k = 3 ∧ s.rf.state = 5); begins)) ∧
    (let s : State := radio (salt 3) (fun r => { r with state := 2 }); let k : Nat := 2; s.rfStopped = false ∧ k < 4 ∧ (let begins := k < 2 ∧ s.rf.launch = none ∧ (s.rf.state = 2 ∨ (s.rf.state = 4 ∧ s.rf.calTemp ≠ 0)) ∧ s.launchWithin (calTime (2 ^ k) + 62) = false; let runs := (s.rf.state = 4 ∧ (s.rf.calDue ||| s.rf.calTemp ||| s.rfCalLeft) &&& 2 ^ k ≠ 0) ∨ (k = 3 ∧ s.rf.state = 5); ¬ begins)) ∧
    (let s : State := radio (salt 3) (fun r => { r with state := 2 }); let k : Nat := 1; s.rfStopped = false ∧ k < 4 ∧ (let begins := k < 2 ∧ s.rf.launch = none ∧ (s.rf.state = 2 ∨ (s.rf.state = 4 ∧ s.rf.calTemp ≠ 0)) ∧ s.launchWithin (calTime (2 ^ k) + 62) = false; let runs := (s.rf.state = 4 ∧ (s.rf.calDue ||| s.rf.calTemp ||| s.rfCalLeft) &&& 2 ^ k ≠ 0) ∨ (k = 3 ∧ s.rf.state = 5); ¬ runs)) ∧
    (let s : State := radio (salt 3) (fun r => { r with state := 5 }); let k : Nat := 3; s.rfStopped = false ∧ k < 4 ∧ (let begins := k < 2 ∧ s.rf.launch = none ∧ (s.rf.state = 2 ∨ (s.rf.state = 4 ∧ s.rf.calTemp ≠ 0)) ∧ s.launchWithin (calTime (2 ^ k) + 62) = false; let runs := (s.rf.state = 4 ∧ (s.rf.calDue ||| s.rf.calTemp ||| s.rfCalLeft) &&& 2 ^ k ≠ 0) ∨ (k = 3 ∧ s.rf.state = 5); let u := (s.modRf (fun r => { r with calDue := r.calDue &&& (2 ^ k ^^^ 15), calTemp := r.calTemp &&& (2 ^ k ^^^ 15), calValid := r.calValid ||| 2 ^ k, cal := r.cal.map (fun c => (c.1, c.2.1, c.2.2.1, c.2.2.2.1, if s.rfCalLeft &&& 2 ^ k = 0 then (c.2.2.2.2.1, c.2.2.2.2.2) else (c.2.2.2.2.1 ||| 2 ^ k, c.2.2.2.2.2))) })).calLogEnd k; runs ∧ (u.rf.state ≠ 4 ∨ u.rf.calDue ≠ 0 ∨ u.rf.calTemp ≠ 0))) ∧
    (let s : State := radio (salt 3) (fun r => { r with state := 4, calDue := 1, launch := some (frame true false 0) }); let k : Nat := 0; s.rfStopped = false ∧ k < 4 ∧ (let begins := k < 2 ∧ s.rf.launch = none ∧ (s.rf.state = 2 ∨ (s.rf.state = 4 ∧ s.rf.calTemp ≠ 0)) ∧ s.launchWithin (calTime (2 ^ k) + 62) = false; let runs := (s.rf.state = 4 ∧ (s.rf.calDue ||| s.rf.calTemp ||| s.rfCalLeft) &&& 2 ^ k ≠ 0) ∨ (k = 3 ∧ s.rf.state = 5); let u := (s.modRf (fun r => { r with calDue := r.calDue &&& (2 ^ k ^^^ 15), calTemp := r.calTemp &&& (2 ^ k ^^^ 15), calValid := r.calValid ||| 2 ^ k, cal := r.cal.map (fun c => (c.1, c.2.1, c.2.2.1, c.2.2.2.1, if s.rfCalLeft &&& 2 ^ k = 0 then (c.2.2.2.2.1, c.2.2.2.2.2) else (c.2.2.2.2.1 ||| 2 ^ k, c.2.2.2.2.2))) })).calLogEnd k; runs ∧ u.rf.state = 4 ∧ u.rf.calDue = 0 ∧ u.rf.calTemp = 0 ∧ u.rf.launch ≠ none)) ∧
    (let s : State := radio (salt 3) (fun r => { r with state := 4, calDue := 1 }); let k : Nat := 0; s.rfStopped = false ∧ k < 4 ∧ (let begins := k < 2 ∧ s.rf.launch = none ∧ (s.rf.state = 2 ∨ (s.rf.state = 4 ∧ s.rf.calTemp ≠ 0)) ∧ s.launchWithin (calTime (2 ^ k) + 62) = false; let runs := (s.rf.state = 4 ∧ (s.rf.calDue ||| s.rf.calTemp ||| s.rfCalLeft) &&& 2 ^ k ≠ 0) ∨ (k = 3 ∧ s.rf.state = 5); let u := (s.modRf (fun r => { r with calDue := r.calDue &&& (2 ^ k ^^^ 15), calTemp := r.calTemp &&& (2 ^ k ^^^ 15), calValid := r.calValid ||| 2 ^ k, cal := r.cal.map (fun c => (c.1, c.2.1, c.2.2.1, c.2.2.2.1, if s.rfCalLeft &&& 2 ^ k = 0 then (c.2.2.2.2.1, c.2.2.2.2.2) else (c.2.2.2.2.1 ||| 2 ^ k, c.2.2.2.2.2))) })).calLogEnd k; runs ∧ u.rf.state = 4 ∧ u.rf.calDue = 0 ∧ u.rf.calTemp = 0 ∧ u.rf.launch = none ∧ u.rfCalLeft = 0)) ∧
    (let s : State := radio (salt 3) (fun r => { r with state := 4, calDue := 1, cal := some (3, 7, true, 3, 0, 0) }); let k : Nat := 0; s.rfStopped = false ∧ k < 4 ∧ (let begins := k < 2 ∧ s.rf.launch = none ∧ (s.rf.state = 2 ∨ (s.rf.state = 4 ∧ s.rf.calTemp ≠ 0)) ∧ s.launchWithin (calTime (2 ^ k) + 62) = false; let runs := (s.rf.state = 4 ∧ (s.rf.calDue ||| s.rf.calTemp ||| s.rfCalLeft) &&& 2 ^ k ≠ 0) ∨ (k = 3 ∧ s.rf.state = 5); let u := (s.modRf (fun r => { r with calDue := r.calDue &&& (2 ^ k ^^^ 15), calTemp := r.calTemp &&& (2 ^ k ^^^ 15), calValid := r.calValid ||| 2 ^ k, cal := r.cal.map (fun c => (c.1, c.2.1, c.2.2.1, c.2.2.2.1, if s.rfCalLeft &&& 2 ^ k = 0 then (c.2.2.2.2.1, c.2.2.2.2.2) else (c.2.2.2.2.1 ||| 2 ^ k, c.2.2.2.2.2))) })).calLogEnd k; runs ∧ u.rf.state = 4 ∧ u.rf.calDue = 0 ∧ u.rf.calTemp = 0 ∧ u.rf.launch = none ∧ u.rfCalLeft ≠ 0)) ∧
    (let s : State := radio (salt 3) (fun r => { r with cal := some (3, 7, true, 1, 1, 0) }); let h : Nat := 3; let tag : Nat := 7; let mask : Nat := 1; let pass : Nat := 1; let fail : Nat := 0; let want : Bool := true; s.rf.cal = some (h, tag, want, mask, pass, fail) ∧ s.rfCalLeft = 0 ∧ fail = 0) ∧
    (let s : State := radio (salt 3) (fun r => { r with cal := some (3, 7, true, 1, 0, 1) }); let h : Nat := 3; let tag : Nat := 7; let mask : Nat := 1; let pass : Nat := 0; let fail : Nat := 1; let want : Bool := true; s.rf.cal = some (h, tag, want, mask, pass, fail) ∧ s.rfCalLeft = 0 ∧ fail ≠ 0) ∧
    (let s : State := radio (salt 3) (fun r => { r with cal := some (3, 7, true, 1, 0, 0) }); let h : Nat := 3; let tag : Nat := 7; let mask : Nat := 1; let pass : Nat := 0; let fail : Nat := 0; let want : Bool := true; s.rf.cal = some (h, tag, want, mask, pass, fail) ∧ s.rfCalLeft ≠ 0) ∧
    (let s : State := up; s.rf.cal = none) := by
  refine ⟨?_, ?_, ?_, ?_, ?_, ?_, ?_, ?_, ?_, ?_, ?_, ?_, ?_, ?_, ?_, ?_, ?_, ?_, ?_, ?_, ?_, ?_, ?_, ?_, ?_, ?_, ?_, ?_, ?_, ?_, ?_, ?_, ?_, ?_, ?_⟩ <;> decide +kernel

set_option maxRecDepth 100000 in
theorem met_stepRunsTheFrontCommand :
    (let s : State := { up with pending := [.txDone] }; let i : Instr := .txDone; let rest : List Instr := []; s.pending = i :: rest) ∧
    (let s : State := up; s.pending = []) := by
  refine ⟨?_, ?_⟩ <;> decide +kernel

set_option maxRecDepth 100000 in
theorem met_everyStepAnswersAndKeepsTheLifecycle :
    (let s : State := secured; s.provisioned = true) := by
  decide +kernel

set_option maxRecDepth 100000 in
theorem met_resetHoldsWhatTheSpecGives :
    (let c := 191; let k := 14; c < 192 ∧ k < 15) ∧
    (let c := 191; c < 192) := by
  refine ⟨?_, ?_⟩ <;> decide +kernel

set_option maxRecDepth 100000 in
theorem met_memoryReadsWhatWasWritten :
    (let l : List Byte := [5]; let k := 0; k < l.length) ∧
    (let a : Nat := 9; let l : List Byte := [5]; let b := 10; (b < a ∨ a + l.length ≤ b)) ∧
    (let s : State := up; Memory.wf s.mem) ∧
    (let lo : Nat := 5; let hi : Nat := 6; let b := 5; lo ≤ b ∧ b < hi) ∧
    (let lo : Nat := 5; let hi : Nat := 6; let b := 6; (b < lo ∨ hi ≤ b)) := by
  refine ⟨?_, ?_, ?_, ?_, ?_⟩ <;> decide +kernel

set_option maxRecDepth 100000 in
theorem met_refusedReadsAreRecorded :
    (let s : State := up; let h : Nat := 3; let a : Nat := 0x20003000; h < 4 ∧ s.pwr.phase = 2 ∧ s.pwr.floor = 0 ∧ (a % 4 ≠ 0 ∨ spotOf a = .none ∨ s.isFenced 8 (spotDomain a) = true)) ∧
    (let s : State := { up with provisioned := true }; let h : Nat := 3; let a : Nat := Reg.addr .chkCtl 0; h < 4 ∧ s.pwr.phase = 2 ∧ s.pwr.floor = 0 ∧ (let ref := ⟨.chkCtl, 0, false⟩; a % 4 = 0 ∧ spotOf a = .reg ref ∧ ref.reg.row.priv = true ∧ s.privOf h = 0 ∧ s.isFenced 8 (spotDomain a) = false)) := by
  refine ⟨?_, ?_⟩ <;> decide +kernel

set_option maxRecDepth 100000 in
theorem met_logEntriesRunAndRepeat :
    (let s : State := logged; let kind : Nat := 15; let idx : Nat := 0; let code : Nat := 0x80; let src := selOf kind idx; let hit := fun e : LogEntry => e.isOpen = true ∧ e.source = src ∧ e.code = code ∧ e.run = 0; (∃ e ∈ s.log, hit e)) ∧
    (let s : State := logged; let kind : Nat := 15; let idx : Nat := 0; let code : Nat := 0x80; let src := selOf kind idx; let hit := fun e : LogEntry => e.isOpen = true ∧ e.source = src ∧ e.code = code ∧ e.run = 0; (∃ e ∈ s.log, hit e) ∧ (let k : Nat := 0; let e : LogEntry := ⟨0, selOf 15 0, 0x80, 0, 0, true⟩; s.log[k]? = some e ∧ hit e)) ∧
    (let s : State := { up with log := [⟨0, selOf 15 0, 0x80, 0, 0, true⟩, ⟨0, 0, 0x80, 0, 0, true⟩] }; let kind : Nat := 15; let idx : Nat := 0; let code : Nat := 0x80; let src := selOf kind idx; let hit := fun e : LogEntry => e.isOpen = true ∧ e.source = src ∧ e.code = code ∧ e.run = 0; (∃ e ∈ s.log, hit e) ∧ (let k : Nat := 1; let e : LogEntry := ⟨0, 0, 0x80, 0, 0, true⟩; s.log[k]? = some e ∧ ¬ hit e)) ∧
    (let s : State := logged; let kind : Nat := 15; let idx : Nat := 1; let code : Nat := 0x10; let src := selOf kind idx; let hit := fun e : LogEntry => e.isOpen = true ∧ e.source = src ∧ e.code = code ∧ e.run = 0; (∀ e ∈ s.log, ¬ hit e) ∧ s.log.length < 256) ∧
    (let s : State := { up with log := List.replicate 255 ⟨0, selOf 15 0, 0x80, 0, 0, true⟩ ++ [⟨0, 0, 0x10, 0, 0, true⟩] }; let kind : Nat := 15; let idx : Nat := 1; let code : Nat := 0x10; let src := selOf kind idx; let hit := fun e : LogEntry => e.isOpen = true ∧ e.source = src ∧ e.code = code ∧ e.run = 0; (∀ e ∈ s.log, ¬ hit e) ∧ (let l1 : List LogEntry := List.replicate 255 ⟨0, selOf 15 0, 0x80, 0, 0, true⟩; let l2 : List LogEntry := []; let x : LogEntry := ⟨0, 0, 0x10, 0, 0, true⟩; 256 ≤ s.log.length ∧ s.log = l1 ++ x :: l2 ∧ (∀ e ∈ l1, 0x80 ≤ e.code) ∧ x.code < 0x80)) ∧
    (let s : State := { up with log := List.replicate 256 ⟨0, selOf 15 0, 0x80, 0, 0, true⟩ }; let kind : Nat := 15; let idx : Nat := 1; let code : Nat := 0x10; let src := selOf kind idx; let hit := fun e : LogEntry => e.isOpen = true ∧ e.source = src ∧ e.code = code ∧ e.run = 0; (∀ e ∈ s.log, ¬ hit e) ∧ 256 ≤ s.log.length ∧ (∀ e ∈ s.log, 0x80 ≤ e.code)) ∧
    (let s : State := { up with log := List.replicate 256 ⟨0, selOf 15 0, 0x80, 0, 0, true⟩ }; let kind : Nat := 15; let idx : Nat := 1; let code : Nat := 0x10; let src := selOf kind idx; let hit := fun e : LogEntry => e.isOpen = true ∧ e.source = src ∧ e.code = code ∧ e.run = 0; (∀ e ∈ s.log, ¬ hit e) ∧ 256 ≤ s.log.length ∧ (∀ e ∈ s.log, 0x80 ≤ e.code) ∧ code < 0x80) ∧
    (let s : State := { up with log := List.replicate 256 ⟨0, selOf 15 0, 0x80, 0, 0, true⟩ }; let kind : Nat := 15; let idx : Nat := 1; let code : Nat := 0x81; let src := selOf kind idx; let hit := fun e : LogEntry => e.isOpen = true ∧ e.source = src ∧ e.code = code ∧ e.run = 0; (∀ e ∈ s.log, ¬ hit e) ∧ 256 ≤ s.log.length ∧ (∀ e ∈ s.log, 0x80 ≤ e.code) ∧ 0x80 ≤ code) := by
  refine ⟨?_, ?_, ?_, ?_, ?_, ?_, ?_, ?_⟩ <;> decide +kernel

set_option maxRecDepth 100000 in
theorem met_sessionCloseAndFloorFollowTheirRules :
    (let s : State := up; let c : Call := ask []; Ready s 0x03 0 c ∧ c.params = [] ∧ (s.host c.host).asyncOut = []) ∧
    (let s : State := up.modHost 0 (fun x => { x with asyncOut := [(1, 1)] }); let c : Call := ask []; Ready s 0x03 0 c ∧ c.params = [] ∧ (s.host c.host).asyncOut ≠ []) ∧
    (let s : State := up; let c : Call := ask [2]; Ready s 0x07 1 c ∧ c.params.length = 1 ∧ bits (c.word 0) 31 2 = 0 ∧ bits (c.word 0) 1 0 ≠ 3) ∧
    (let s : State := up; let c : Call := ask [3]; Ready s 0x07 1 c ∧ c.params.length = 1 ∧ (bits (c.word 0) 31 2 ≠ 0 ∨ bits (c.word 0) 1 0 = 3)) := by
  unfold Ready; refine ⟨?_, ?_, ?_, ?_⟩ <;> decide +kernel
/-- Every command answers a next state. -/
theorem exec_after (i : Instr) (s : State) : exec i s = .next (after i s) := by
  obtain ⟨t, h⟩ := exec_next i s
  simp [after, h]

theorem met_tb0CountsOnlyCrystalTicks :
    exec (.powerOn true) up = .next (after (.powerOn true) up) ∧ exec (.brownout true) up = .next (after (.brownout true) up) ∧
    exec (.pin true) up = .next (after (.pin true) up) ∧
    (let s : State := { up with pwr := { up.pwr with resetArm := true } }
     s.pwr.phase = 2 ∧ s.pwr.resetArm = true ∧ exec (.hostReset true) s = .next (after (.hostReset true) s)) ∧
    (1 < 2 ∧ up.pwr.phase ≠ 3 ∧ exec (.watchdog 1 true) up = .next (after (.watchdog 1 true) up)) ∧
    (1 ≤ 5 ∧ 5 ≤ 5 ∧ up.pwr.phase ≠ 3 ∧ exec (.pd0Fault 5 true true) up = .next (after (.pd0Fault 5 true true) up)) ∧
    (let s : State := { up with pwr := { up.pwr with phase := 3, shutWake := some false } }
     s.pwr.phase = 3 ∧ s.pwr.shutWake = some (!true) ∧ exec (.shutdownWake true true) s = .next (after (.shutdownWake true true) s)) ∧
    (up.pwr.phase ≠ 3 ∧ exec (.crystalTick 0 0) up = .next (after (.crystalTick 0 0) up)) ∧
    ((inPhase 3).pwr.phase = 3 ∧ exec (.crystalTick 0 0) (inPhase 3) = .next (after (.crystalTick 0 0) (inPhase 3))) ∧
    exec .txDone up = .next (after .txDone up) :=
  ⟨exec_after _ _, exec_after _ _, exec_after _ _, ⟨rfl, rfl, exec_after _ _⟩, ⟨by decide, by decide, exec_after _ _⟩,
   ⟨by decide, by decide, by decide, exec_after _ _⟩, ⟨rfl, rfl, exec_after _ _⟩, ⟨by decide, exec_after _ _⟩, ⟨rfl, exec_after _ _⟩, exec_after _ _⟩

set_option maxRecDepth 100000 in
/-- The last two clauses of StoreCompletionsComplete differ in what the signature check, which the spec does not give (log 1), answers: one of them is met. -/
theorem met_storeCompletionsComplete_signature :
    let w := image 0x54525A50 0x00030001
    let x := verifying w (crc32c (wordsBytes w))
    let s := checking x
    s.store.xfer = some x ∧ x.verify = some (3, 7, true) ∧ ¬ 4 * x.words.length < x.length ∧ crc32c (wordsBytes x.words) = x.crc ∧
    ¬ (x.words.getD 0 0 ≠ 0x54525A50#32 ∨ (x.words.getD 2 0).toNat ≠ x.length ∨ (((wordsBytes x.words).drop 14).take 50).any (fun b => b ≠ 0) = true) ∧
    bits (x.words.getD 1 0) 31 16 = 3 ∧ s.store.minMinor ≤ bits (x.words.getD 1 0) 15 0 ∧
    (Config.signatureValid (wordsBytes w) = false ∨ Config.signatureValid (wordsBytes w) = true) := by
  refine ⟨?_, ?_, ?_, ?_, ?_, ?_, ?_, ?_⟩
  case refine_8 => cases Config.signatureValid (wordsBytes (image 0x54525A50 0x00030001)) <;> simp
  all_goals decide +kernel

/-- An ANNOUNCE under this hub's own index clashes unless its UID is this hub's, which the spec does not give (log 6): of two UIDs one clashes. -/
theorem met_legusFramesComplete_clash :
    let s := salt 3
    1 < 2 ∧ s.linkRuns 1 = true ∧ LegFrame.parse (lineBody (legBytes 2 0 0 0)) = some (legFrame 2 0 0 0) ∧
    LegFrame.parse (lineBody (legBytes 2 0 0 1)) = some (legFrame 2 0 0 1) ∧ (legFrame 2 0 0 0).src = s.ownIndex ∧ s.slt.state ≠ 0 ∧
    (s.clashFrame (legFrame 2 0 0 0) = true ∨ s.clashFrame (legFrame 2 0 0 1) = true) := by
  refine ⟨?_, ?_, ?_, ?_, ?_, ?_, ?_⟩
  case refine_7 =>
    have h : ∀ u, (salt 3).clashFrame (legFrame 2 0 0 u) = decide ((w32 u).toNat ≠ Config.uid.toNat) := by
      intro u
      simp only [State.clashFrame, legFrame]
      rw [show (salt 3).ownIndex = 0 from rfl, show (salt 3).slt.state = 3 from rfl]
      simp
    rw [h, h]
    by_cases e : (w32 0).toNat = Config.uid.toNat
    · right; rw [← e]; decide
    · left; simpa using e
  all_goals decide +kernel

theorem met_packetsAreRefusedByTheFirstFailingCheck :
    ∃ d, opOf 0x04 = some d ∧ (∀ l, opcodeCall (.regRead (ask l)) = some (0x04, ask l)) ∧
      (let s : State := { up with slt := { up.slt with common := 0x02FF } }
       s.callRuns (ask []) = true ∧ s.slt.common < 0x0300) ∧
      (let s := up.modHost 0 (fun x => { x with session := none })
       s.callRuns (ask []) = true ∧ 0x0300 ≤ s.slt.common ∧ ¬ (2 < 0x04 → (s.host 0).session = some 0)) ∧
      (Admissible up 0x04 (ask []) ∧ (up.needPriv d ≤ up.privOf 0 ∧ up.lifecycleOk 0x04 = true) ∧ d.lenOk 0 (ask []) = false) ∧
      (Admissible up 0x04 (ask [1, 64]) ∧ d.lenOk 2 (ask [1, 64]) = true ∧ d.valid (admitted up 0x04 (ask [1, 64])) (ask [1, 64]) = false) := by
  unfold Admissible
  refine ⟨_, rfl, fun _ => rfl, ?_, ?_, ?_, ?_⟩ <;> decide +kernel

theorem met_packetsAreRefusedByTheFirstFailingCheck_privilege :
    ∃ d, opOf 0x83 = some d ∧ opcodeCall (.fwBegin (ask [])) = some (0x83, ask []) ∧ Admissible up 0x83 (ask []) ∧
      ¬ (up.needPriv d ≤ up.privOf 0 ∧ up.lifecycleOk 0x83 = true) := by
  unfold Admissible
  refine ⟨_, rfl, rfl, ?_, ?_⟩ <;> decide +kernel

theorem met_packetsAreRefusedByTheFirstFailingCheck_target :
    let s := up.modHost 0 (fun x => { x with asyncOut := [(1, 1)] })
    ∃ d, opOf 0x03 = some d ∧ opcodeCall (.sysSessionClose (ask [])) = some (0x03, ask []) ∧ Admissible s 0x03 (ask []) ∧
      (s.needPriv d ≤ s.privOf 0 ∧ s.lifecycleOk 0x03 = true) ∧ d.lenOk 0 (ask []) = true ∧ d.valid (admitted s 0x03 (ask [])) (ask []) = true ∧
      2 ≤ d.allow (admitted s 0x03 (ask [])) (ask []) := by
  unfold Admissible
  refine ⟨_, rfl, rfl, ?_, ?_, ?_, ?_, ?_⟩ <;> decide +kernel

set_option maxRecDepth 100000 in
theorem met_acceptedCommandsAreLimited :
    ∃ d, opOf 0x0A = some d ∧ d.async = true ∧ (∀ l, opcodeCall (.cfgCommit (ask l)) = some (0x0A, ask l)) ∧
      (let s := up.modHost 0 (fun x => { x with asyncOut := List.replicate 8 (1, 1) })
       Admissible s 0x0A (ask []) ∧ s.mayUse 0 d = true ∧ (admitted s 0x0A (ask [])).lastChecks d (ask []) = 0 ∧
       (d.run (startedAsync s 0x0A (ask [])) (ask [])).2.1 = stAccepted ∧ 8 ≤ (s.host 0).asyncOut.length) ∧
      (let s := up.modHost 0 (fun x => { x with asyncOut := [(7, 1)] })
       Admissible s 0x0A (ask []) ∧ s.mayUse 0 d = true ∧ (admitted s 0x0A (ask [])).lastChecks d (ask []) = 0 ∧
       (d.run (startedAsync s 0x0A (ask [])) (ask [])).2.1 = stAccepted ∧ (s.host 0).asyncOut.length < 8 ∧ ∃ p ∈ (s.host 0).asyncOut, p.1 = (ask []).tag) ∧
      (let s := up.modHost 0 (fun x => { x with asyncOut := List.replicate 7 (1, 1) })
       Admissible s 0x0A (ask []) ∧ s.mayUse 0 d = true ∧ (admitted s 0x0A (ask [])).lastChecks d (ask []) = 0 ∧
       (d.run (startedAsync s 0x0A (ask [])) (ask [])).2.1 = stAccepted ∧ (s.host 0).asyncOut.length < 8 ∧ ∀ p ∈ (s.host 0).asyncOut, p.1 ≠ (ask []).tag) ∧
      (Admissible up 0x0A (ask [5]) ∧ up.mayUse 0 d = true ∧ 2 ≤ (admitted up 0x0A (ask [5])).lastChecks d (ask [5])) := by
  unfold Admissible
  refine ⟨_, rfl, ?_, fun _ => rfl, ?_, ?_, ?_, ?_⟩ <;> decide +kernel

/-- A packet whose CRC does not match. -/
theorem met_packetWriteTakesOrRefuses_crc :
    nop.Ok ∧ (nop.bytes.set 6 0).length = nop.bytes.length ∧ (∀ k, k ≠ 6 → k ≠ 7 → (nop.bytes.set 6 0).getD k 0 = nop.bytes.getD k 0) ∧
    nop.bytes.set 6 0 ≠ nop.bytes := by
  unfold Pkt.Ok
  refine ⟨?_, ?_, ?_, ?_⟩
  case refine_3 =>
    intro k h _
    simp [List.getD, Ne.symm h]
  all_goals decide +kernel

/-! ### Worked values of the spec -/

/-- Spec 03, the worked example of SYS_NOP, and R63. -/
theorem test_nop_reply :
    ((after (.sysNop ⟨0, 0, 1, true, 0, []⟩) up).host 0).replies.map Reply.bytes = [[0x5A, 0x00, 0x00, 0x01, 0x00, 0x00, 0xB6, 0xCF]] := by
  decide +kernel

/-- Spec 03, the same example with byte 7 wrong: BAD_CRC from the port, with its opcode and tag. -/
theorem test_bad_crc_reply :
    let t := after (.pktWrite 0 0 1 [0xA5, 0x00, 0x00, 0x01, 0x01, 0x00, 0x09, 0xBB]) up
    (t.host 0).queue = [] ∧ (t.host 0).replies.map (fun r => r.bytes.take 6) = [[0x5A, 0x00, 0x00, 0x01, 0x10, 0x80]] ∧ t.fld .hpViol 0 15 8 = 1 := by
  decide +kernel

/-- The CRC-32C of the nine ASCII digits (log 3). -/
theorem test_crc32c : crc32c [0x31, 0x32, 0x33, 0x34, 0x35, 0x36, 0x37, 0x38, 0x39] = 0xE3069283#32 := by decide +kernel

/-- Spec 04, the worked example: the words of CH5. -/
def ch5 : List Word :=
  [0x852A0000, 0x10000000, 0x0A000428, 0x1388, 0x271, 0x40000000, 0, 0x00201000, 0, 0, 0x13, 0x4144, 0, 0xC0400040, 0]

/-- Script slot 40 of the example: one read of 6 bytes on SSP2. -/
def withScript : State := up.wrWords (0x20010000 + 16 * 40) [0x10020006, 0, 0, 0]

/-- Spec 04: CHAN_WRITE with AUTO_CRC stores them with their CRC, and CHAN_COMMIT finds nothing wrong. -/
theorem test_chan_write_check :
    let t := after (.chanWrite (ask ([0x105, 0xF0] ++ ch5))) withScript
    t.rdWords (0x20000000 + 64 * 5) 15 = ch5 ∧ t.checkDesc 5 [5] = 0 := by
  decide +kernel

/-- Spec 04: the three components of the bytes 00 40 FF 80 08 00. -/
theorem test_components : (compValue true false [0x00, 0x40], compValue true false [0xFF, 0x80], compValue true false [0x08, 0x00]) =
    ((64, false), (-128, false), (2048, false)) := by decide +kernel

/-- Spec 06: the configuration of AIN3 for the load cell is valid once EXC1 is enabled. -/
theorem test_ain_cfg : up.ainCfgOk 0xBE400000 = false ∧ (up.setReg .afeExc 1 0x80000001).ainCfgOk 0xBE400000 = true := by decide +kernel

/-- Spec 07: the weights for DELAY_FRAC 2 and the interpolated output. -/
theorem test_interpolator : lagrange 2 = (64601, 1526, -760, 169) ∧ (interpolate 2 0 [524288, 522240, 520192, 519680]).1 = 524276 := by decide +kernel

/-- Spec 10: the headers of the tide mark and of the SAMPLE record. -/
theorem test_record_headers :
    recHeader 4 0 12 OutFlags.none false false 0 = 0x400C0000#32 ∧ recHeader 0 0 3 OutFlags.none false false 5 = 0x00030005#32 := by decide +kernel

/-- Spec 11: an edge 10 µs before tick 393,217, in TB0 and in TB1. -/
theorem test_stamp :
    let s := { up with tick := 393217 }.modTb 1 (fun t => { t with state := 3, v := 5000000123456 * 2 ^ 32 + 2 ^ 30, r := 21990233 })
    s.stampOf 0 393217 40000 = 12000020518 ∧ s.stampOf 1 393217 40000 = 5000000113456 := by decide +kernel

/-- Spec 11: the rate of B after a measurement of −2.5 ns. -/
theorem test_servo : (servo 21990233 21990233 (-5 / 2) (1 / 8) 2 10).2 = 21991629 := by decide +kernel

/-- Spec 12: LN4 under SKIP, 29,990,123,456 ns after TB0's start: 1,000 periods are skipped. -/
theorem test_launch_skip :
    let t := after (.lnWrite ⟨0, 0, 7, true, 0, [0x2004, 0x540BE400, 2, 0x01312D00, 0, 0, 0x10000046, 0]⟩) { up with tick := 982716, sub := 683450 }
    (t.launch 4).state = 2 ∧ (t.launch 4).k = 1000 ∧ (t.launch 4).skipped = 1000 := by decide +kernel

/-- Spec 18: the log words of a channel that degrades nine more times. -/
theorem test_log_words : LogEntry.words ⟨12005666600 / 1048576, selOf 1 5, 0x10, 9, 0, true⟩ = [0x00002CB9, 0x01051009] := by decide +kernel

/-- Spec 19: the addresses of SSP7_TIMING and TM_CTL37 and their reset values. -/
theorem test_register_map :
    Reg.addr .sspTiming 7 = 0x40067008 ∧ Reg.addr .tmCtl 37 = 0x400324A0 ∧ State.reset.reg .sspTiming 7 = 0x0A0A0A0A#32 ∧ State.reset.reg .tmCtl 37 = 0#32 := by
  decide +kernel

/-! ### Ill-formed commands -/

/-- A call that is well formed. -/
def good : Call := ⟨0, 0, 0, false, 0, []⟩

/-- A call of a host that there is not. -/
def bad : Call := { good with host := 4 }

theorem test_wellFormed_call :
    wfCall { good with host := 3, port := 1, tag := 255, f := 122071, params := List.replicate 63 0 } = true ∧
    [{ good with host := 4 }, { good with port := 2 }, { good with tag := 256 }, { good with f := 122072 }, { good with params := List.replicate 64 0 }].any wfCall = false := by
  decide

theorem test_wellFormed_refuses_1 :
    ([
     .pktWrite 2 0 0 [], .pktWrite 0 4 0 [], .pktWrite 0 0 256 [], .pktWrite 0 0 0 [256], .pktRead 2 0 0, .pktRead 0 4 0, .queueStatus 4, 
     .memRead 4 0 0 0, .memRead 0 0 0 122072, .memWrite 4 0 [] 0, .memWrite 0 0 [256] 0, .memWrite 0 0 [] 122072, .salterTakePacket 122072, 
     .chainTimeout 4, .sysNop bad, .sysIdent bad, .sysSessionOpen bad, .sysSessionClose bad, .regRead bad, .regWrite bad, .setHostSleep bad, 
     .sysFloor bad, .sysShutdown bad, .sysReset bad, .cfgCommit bad, .snapshot bad, .sysStatus bad, .chanRead bad, .chanWrite bad, .chanCommit bad, 
     .chanStart bad, .chanStop bad, .chanStatus bad, .descriptorApply 192, .streamedBoundaryTimeout 192, .scriptWrite bad, .scriptRead bad, 
     .portStatus bad, .tableWindowWrite 4 0 [], .tableWindowWrite 0 0 [256]] : List Instr).any Instr.wellFormed = false := by
  decide

theorem test_wellFormed_refuses_2 :
    ([
     .scriptWindowWrite 4 0 [], .scriptWindowWrite 0 0 [256], .seedWindowWrite 4 0 [], .seedWindowWrite 0 0 [256], .acquisitionStart 192 false false, 
     .transactionStart 18 0 0, .transactionStart 0 122072 0, .attemptEnd 18 0 [] 0, .attemptEnd 0 12 [] 0, .attemptEnd 0 0 [256] 0, .retryGap 18, 
     .postDelay 18, .busWaitTimeout 18, .foreignSelectAssert 12, .foreignSelectRelease 12, .busFree 12, .targetFrame 12 0 0 [] 0, 
     .targetFrame 0 4 0 [] 0, .targetFrame 0 0 122072 [] 0, .targetFrame 0 0 0 [256] 0, .targetFrame 0 0 0 [] 8, .busInitialisation 18 [], 
     .ibi 18 0 0 [], .ibi 0 128 0 [], .ibi 0 0 122072 [], .ibi 0 0 0 [256], .hotJoin 18 [], .stretch 18, .streamWatchdog 192, .remotePeriodEnd 192, 
     .eventPinEdge 32 0 false, .eventPinEdge 0 122072 false, .composeStamp 81, .preStageOutput 24 0 [] 0, .preStageOutput 0 122072 [] 0, 
     .afeBlankEnd 24, .excLimit 4, .excSettled 5, .seedCrcCheck 64, .seedWrite bad] : List Instr).any Instr.wellFormed = false := by
  decide

theorem test_wellFormed_refuses_3 :
    ([
     .seedRead bad, .seedArm bad, .seedDisarm bad, .seedReset bad, .tplWrite bad, .svcConfig bad, .svcStatus bad, .trendPeriodEnd 192 false, 
     .wakeGapEnd 4, .wakeLimitHour 4, .panStreamCfg bad, .harvest bad, .panMark bad, .panRewind bad, .panFlush bad, .panStatus bad, .dropPacket 4, 
     .panRpWrite 4 0 0, .panRpWrite 0 32 0, .tbRead bad, .tbSet bad, .tbRestep bad, .tbAssign bad, .tbValRead 4 0 0, .tbValRead 0 4 0, 
     .tbValRead 0 0 122072, .capture 4 0, .capture 0 122072, .captureGroupRead 4 0, .captureGroupTimeout 66 0, .captureGroupTimeout 0 4, .sync 3 0 [], 
     .sync 0 122072 [], .pdelayReq 2 0 [], .pdelayReq 0 122072 [], .pdelayResp 2 0 [], .pdelayResp 0 122072 [], .pdelayTimeout 2, .delayReq 122072 [], 
     .syncSend 3 0] : List Instr).any Instr.wellFormed = false := by
  decide

theorem test_wellFormed_refuses_4 :
    ([
     .syncSend 0 122072, .pdelaySend 2 0, .pdelaySend 0 122072, .lossTimeout 4, .lnWrite bad, .lnCancel bad, .lnStart 128, .launchFiring 128, 
     .pinPulseEnd 32, .tmWrite bad, .timerStart 4 0 0, .timerStart 0 64 0, .timerStart 0 0 122072, .timerReset 4 0 0, .timerReset 0 64 0, 
     .timerReset 0 0 122072, .timerCapture 4 0 0, .timerCapture 0 64 0, .timerCapture 0 0 122072, .tmCntWrite 4 0 0 0, .tmCntWrite 0 64 0 0, 
     .tmCntWrite 0 0 0 122072, .timerMatch 64, .timerEnd 64, .calSet bad, .calAlarm bad, .plnMode bad, .plnBudget bad, .plnReport bad, .ldgRead bad, 
     .ldgStoreWrite 4 0 0, .stroke 12 0, .vbatMeasurement 65536, .railSlewDone 12, .hsleepEdge 4 false, .legusWake 2, .lifeRead bad, .nvsCfgSave bad, 
     .nvsCfgSelect bad, .fwBegin bad] : List Instr).any Instr.wellFormed = false := by
  decide

theorem test_wellFormed_refuses_5 :
    ([
     .fwData bad, .fwVerify bad, .provision bad, .keyLoad bad, .sltRole bad, .sltView bad, .sltExpect bad, .sltRejoin bad, .legStatus bad, 
     .legusFrame 2 0 [] [] false, .legusFrame 0 122072 [] [] false, .legusFrame 0 0 [256] [] false, .announce 3 (0, 0) [], .announce 0 (32, 0) [], .announce 0 (0, 65536) [], 
     .view 3 0 [], .view 0 32 [], .samples 3 0 [], .samples 0 32 [], .announceInterval 122072, .memberTimeout 32, .linkUp 2, .linkDown 2, 
     .rfConfig bad, .rfTx bad, .rfTxCompletion 5, .rfRx bad, .rfCal bad, .rfStatus bad, .radioFrame 122072 [] [] 0 0, .radioFrame 0 [256] [] 0 0, 
     .radioFrame 0 [] [] 256 0, .radioFrame 0 [] [] 0 256, .radioCalibration 4 none 0, .launchedTxSynth 128 false, .filterExpiry 64, 
     .slFire 4 0, .slFire 0 64, .icAckRead 4 0, .icAckRead 0 4, .icEoiWrite 4 0 0] : List Instr).any Instr.wellFormed = false := by
  decide

theorem test_wellFormed_refuses_6 :
    ([
     .icEoiWrite 0 4 0, .icEoiWrite 0 0 1024, .doorbell 4 0 0, .doorbell 0 4 0, .wakePulseEnd 4, .logRead bad, .logClear bad, .fence bad, .unfence bad, 
     .fenceStatus bad, .snap 4, .registerWrite 4 0 0, .excLimitEnd 4] : List Instr).any Instr.wellFormed = false := by
  decide

end Sys2Proof.Machine
end

section
/-! Proofs of the family 03_avzel_commands: the packet CRC (R63), the limits of ACCEPTED commands (R78), and SYS_SESSION_CLOSE and SYS_FLOOR (R86, R90). -/

namespace Sys2Proof.Machine

/-! ### The CRC of R63 -/

theorem crc16_append_byte (l : List Byte) (b : Byte) : crc16 (l ++ [b]) = (List.range 8).foldl (crcStep b) (crc16 l) := by
  unfold crc16
  rw [List.foldl_append, List.foldl_cons, List.foldl_nil, crc16Byte_bits]

theorem pktCrcOk_iff (l : List Byte) :
    pktCrcOk l = true ↔ (crc16 (l.take 6 ++ l.drop 8)).toNat = (l.getD 6 0).toNat + 256 * (l.getD 7 0).toNat :=
  beq_iff_eq

/-- The two bytes that `Reply.bytes` lays a CRC out in spell it, least significant byte first. -/
theorem toNat_eq_crcBytes (c : BitVec 16) : c.toNat = (BitVec.ofNat 8 c.toNat).toNat + 256 * (BitVec.ofNat 8 (c.toNat / 256)).toNat := by
  have := c.isLt
  simp only [BitVec.toNat_ofNat]
  omega

theorem reply_crc (r : Reply) :
    (crc16 (r.bytes.take 6 ++ r.bytes.drop 8)).toNat = (r.bytes.getD 6 0).toNat + 256 * (r.bytes.getD 7 0).toNat :=
  toNat_eq_crcBytes _

set_option maxRecDepth 10000 in
/-- The check value that R63 states. -/
theorem crc16_digits : crc16 [0x31, 0x32, 0x33, 0x34, 0x35, 0x36, 0x37, 0x38, 0x39] = 0x29B1#16 := by decide

/-- Settles O53: the check value is evaluated, and the rest are the laws of `crc16`, `pktCrcOk` and `Reply.bytes`. -/
theorem packetCrcIsCcittFalse : Obligations.PacketCrcIsCcittFalse :=
  ⟨crc16_digits, rfl, crc16_append_byte, pktCrcOk_iff, reply_crc⟩

/-! ### The limits of ACCEPTED commands (R78) -/

/-- Settles O55: the model's row lemma for each outcome of R78, chosen by the number and the tags of the host's outstanding commands. -/
theorem acceptedCommandsAreLimited : Obligations.AcceptedCommandsAreLimited := by
  intro i code c d s hi hd ha ⟨hruns, hver, hsess⟩ hmay out run
  rw [opcode_run hi]
  refine ⟨fun hchecks hacc => ⟨fun h8 => ?_, fun h8 ⟨p, hp, htag⟩ => ?_, fun h8 htags => ?_⟩, fun hfail => ?_⟩
  · exact runCall_over hd ha hruns hsess hver hmay hchecks hacc h8
  · have hany : out.any (fun p => p.1 == c.tag) = true := List.any_eq_true.mpr ⟨p, hp, beq_iff_eq.mpr htag⟩
    exact runCall_sameTag hd ha hruns hsess hver hmay hchecks hacc h8 hany
  · have hnone : out.any (fun p => p.1 == c.tag) = false := List.any_eq_false.mpr fun p hp => by simpa using htags p hp
    exact runCall_accepted hd ha hruns hsess hver hmay hchecks ⟨h8, hnone⟩ hacc
  · exact runCall_refused hd hruns hsess hver hmay hfail

/-! ### What the checks and the reply leave alone -/

theorem admitted_pwr (s : State) (code : Nat) (c : Call) : (admitted s code c).pwr = s.pwr := by
  unfold admitted; split <;> rfl

theorem started_pwr (s : State) (code : Nat) (c : Call) : (started s code c).pwr = s.pwr := admitted_pwr s code c

/-- The checks move only the host's flag of SET_HOST_SLEEP (R54). -/
theorem admitted_host (s : State) (code : Nat) (c : Call) :
    ((admitted s code c).host c.host).session = (s.host c.host).session ∧ ((admitted s code c).host c.host).asyncOut = (s.host c.host).asyncOut := by
  unfold admitted
  split <;> simp

theorem enqueueReply_session (s : State) (h : Nat) (r : Reply) : ((s.enqueueReply h r).host h).session = (s.host h).session := by
  unfold State.enqueueReply State.raisePriv
  dsimp only
  split <;> simp [State.host, State.modTarget, State.setTarget, State.setHost]

theorem refusedWith_session (s : State) (code : Nat) (c : Call) (u : State) (st : Nat) (lg : Bool) :
    ((refusedWith s code c u st lg).host c.host).session = (u.host c.host).session := by
  change ((State.enqueueReply _ c.host _).host c.host).session = _
  rw [enqueueReply_session]
  simp

theorem refusedWith_pwr (s : State) (code : Nat) (c : Call) (u : State) (st : Nat) (lg : Bool) :
    (refusedWith s code c u st lg).pwr = u.pwr := enqueueReply_pwr' _ _ _

/-! ### SYS_SESSION_CLOSE (R86) -/

theorem opOf_sysSessionClose : opOf 0x03 = some opSysSessionClose := rfl

theorem run_sysSessionClose (s : State) (c : Call) :
    opSysSessionClose.run s c = (s.modHost c.host (fun x => { x with session := none, closing := false }), 0, []) := rfl

theorem mayUse_sysSessionClose (s : State) (c : Call) : s.mayUse c.host opSysSessionClose = true := mayUse_of (Nat.zero_le _) rfl

/-- Checks 12 to 14 of SYS_SESSION_CLOSE turn on the host's outstanding commands alone. -/
theorem lastChecks_sysSessionClose {s : State} {c : Call} (hp : c.params = []) :
    (admitted s 0x03 c).lastChecks opSysSessionClose c = if (s.host c.host).asyncOut = [] then 0 else stBusy := by
  rw [← (admitted_host s 0x03 c).2]
  by_cases hout : ((admitted s 0x03 c).host c.host).asyncOut = [] <;>
    simp [State.lastChecks, opSysSessionClose, plainOp, firstStatus, hp, hout, stBusy]

theorem sysSessionClose_closes {s : State} {c : Call} (hr : Ready s 0x03 0 c) (hp : c.params = []) (hout : (s.host c.host).asyncOut = []) :
    exec (.sysSessionClose c) s =
      .next (answered s 0x03 c ((started s 0x03 c).modHost c.host (fun x => { x with session := none, closing := false })) 0 []) := by
  obtain ⟨hruns, hsess, hver, -⟩ := hr
  have hlast := lastChecks_sysSessionClose (s := s) hp
  rw [if_pos hout] at hlast
  have hrun := runCall_served opOf_sysSessionClose rfl hruns hsess hver (mayUse_sysSessionClose s c) hlast
  rw [run_sysSessionClose] at hrun
  exact hrun

theorem sysSessionClose_busy {s : State} {c : Call} (hr : Ready s 0x03 0 c) (hp : c.params = []) (hout : (s.host c.host).asyncOut ≠ []) :
    exec (.sysSessionClose c) s = .next (refusedWith s 0x03 c (admitted s 0x03 c) 0x15 false) := by
  obtain ⟨hruns, hsess, hver, -⟩ := hr
  have hlast := lastChecks_sysSessionClose (s := s) hp
  rw [if_neg hout] at hlast
  have hrun := runCall_refused opOf_sysSessionClose hruns hsess hver (mayUse_sysSessionClose s c) (by rw [hlast]; decide)
  rw [hlast] at hrun
  exact hrun

/-! ### SYS_FLOOR (R90) -/

theorem opOf_sysFloor : opOf 0x07 = some opSysFloor := rfl

theorem run_sysFloor (s : State) (c : Call) :
    opSysFloor.run s c = ({ s with pwr := { s.pwr with permit := (c.word 0).toNat } }, 0, []) := rfl

theorem mayUse_sysFloor {s : State} {c : Call} (hpriv : 1 ≤ s.privOf c.host) : s.mayUse c.host opSysFloor = true := mayUse_of hpriv rfl

/-- Checks 12 to 14 of SYS_FLOOR with its one word turn on the word's value alone. -/
theorem lastChecks_sysFloor {s : State} {c : Call} (hp : c.params.length = 1) :
    s.lastChecks opSysFloor c = if (c.word 0).toNat < 3 then 0 else stBadParam := by
  by_cases hw : (c.word 0).toNat < 3 <;> simp [State.lastChecks, opSysFloor, firstStatus, hp, hw]

/-- The values 0 to 2 are those of bits 1:0 other than 3, with no other bit set. -/
theorem lt_three_iff_bits (w : Word) : w.toNat < 3 ↔ bits w 31 2 = 0 ∧ bits w 1 0 ≠ 3 := by
  have := w.isLt
  simp only [bits]
  omega

theorem sysFloor_permits {s : State} {c : Call} (hr : Ready s 0x07 1 c) (hp : c.params.length = 1) (hw : (c.word 0).toNat < 3) :
    exec (.sysFloor c) s =
      .next (answered s 0x07 c { started s 0x07 c with pwr := { (started s 0x07 c).pwr with permit := (c.word 0).toNat } } 0 []) := by
  obtain ⟨hruns, hsess, hver, hpriv⟩ := hr
  have hlast := lastChecks_sysFloor (s := admitted s 0x07 c) hp
  rw [if_pos hw] at hlast
  have hrun := runCall_served opOf_sysFloor rfl hruns hsess hver (mayUse_sysFloor hpriv) hlast
  rw [run_sysFloor] at hrun
  exact hrun

theorem sysFloor_badParam {s : State} {c : Call} (hr : Ready s 0x07 1 c) (hp : c.params.length = 1) (hw : ¬ (c.word 0).toNat < 3) :
    exec (.sysFloor c) s = .next (refusedWith s 0x07 c (admitted s 0x07 c) 0x13 false) := by
  obtain ⟨hruns, hsess, hver, hpriv⟩ := hr
  have hlast := lastChecks_sysFloor (s := admitted s 0x07 c) hp
  rw [if_neg hw] at hlast
  have hrun := runCall_refused opOf_sysFloor hruns hsess hver (mayUse_sysFloor hpriv) (by rw [hlast]; decide)
  rw [hlast] at hrun
  exact hrun

/-- Settles O60: the two outcomes of each opcode, with what the reply of a refusal leaves of the session and of the floor permission. -/
theorem sessionCloseAndFloorFollowTheirRules : Obligations.SessionCloseAndFloorFollowTheirRules := by
  refine ⟨fun s c hr hp => ⟨fun hout => ⟨sysSessionClose_closes hr hp hout, by simp⟩, fun hout => ⟨_, sysSessionClose_busy hr hp hout, rfl, ?_⟩⟩,
    fun s c hr hp => ⟨fun hhigh hlow => ?_, fun hbad => ⟨sysFloor_badParam hr hp ?_, ?_⟩⟩⟩
  · obtain ⟨-, hsess, -, -⟩ := hr
    rw [refusedWith_session, (admitted_host s 0x03 c).1, hsess (by decide)]
  · have hw := (lt_three_iff_bits (c.word 0)).mpr ⟨hhigh, hlow⟩
    have hbits : bits (c.word 0) 1 0 = (c.word 0).toNat := bits_low (by omega)
    rw [hbits, ← started_pwr s 0x07 c]
    exact sysFloor_permits hr hp hw
  · rw [lt_three_iff_bits]
    tauto
  · rw [refusedWith_pwr, admitted_pwr]

end Sys2Proof.Machine
end

section
/-! Proofs about the host ports as they receive (R56 to R67): packets are read as they were laid out, and the outcomes of one transfer. -/

namespace Sys2Proof.Machine

/-! ### A packet and its bytes (R61, R63) -/

/-- The six header bytes that come before the CRC. -/
def Pkt.head (p : Pkt) : List Byte :=
  [0xA5#8, BitVec.ofNat 8 p.params.length, BitVec.ofNat 8 p.op, BitVec.ofNat 8 p.tag,
    BitVec.ofNat 8 ((if p.reply then 1 else 0) + (if p.chain then 2 else 0) + 16 * p.hostField), 0#8]

/-- The CRC that the packet carries. -/
def Pkt.crc (p : Pkt) : BitVec 16 := crc16 (p.head ++ wordsBytes p.params)

theorem Pkt.bytes_eq (p : Pkt) :
    p.bytes = p.head ++ [BitVec.ofNat 8 p.crc.toNat, BitVec.ofNat 8 (p.crc.toNat / 256)] ++ wordsBytes p.params := rfl

theorem Pkt.bytes_length (p : Pkt) : p.bytes.length = 8 + 4 * p.params.length := by
  simp [Pkt.bytes_eq, Pkt.head, wordsBytes_length]
  omega

theorem Pkt.bytes_drop (p : Pkt) : p.bytes.drop 8 = wordsBytes p.params := rfl

theorem Pkt.crcOk_bytes (p : Pkt) : pktCrcOk p.bytes = true :=
  (pktCrcOk_iff _).mpr (toNat_eq_crcBytes p.crc)

/-- LEN as the port reads it from the packet's second byte. -/
theorem Pkt.len_byte {p : Pkt} (hp : p.Ok) : (p.bytes.getD 1 0).toNat = p.params.length := by
  obtain ⟨hlen, -⟩ := hp
  change p.params.length % 256 = _
  omega

/-- The parameter words of a packet, read back from its bytes. -/
theorem Pkt.params_bytes (p : Pkt) :
    (List.range p.params.length).map (fun k => bytesWord ((p.bytes.drop (8 + 4 * k)).take 4)) = p.params := by
  have hwords := words_of_bytes p.params []
  rw [List.append_nil] at hwords
  conv => rhs; rw [← hwords]
  simp only [← Pkt.bytes_drop, List.drop_drop]

/-- The flag byte of a packet holds REPLY, CHAIN and HOST in bits of their own, and the reserved bits are 0. -/
theorem flags_fields (r c : Bool) {n : Nat} (hn : n < 4) :
    let b := (BitVec.ofNat 8 ((if r then 1 else 0) + (if c then 2 else 0) + 16 * n)).toNat
    (b % 2 == 1) = r ∧ (b / 2 % 2 == 1) = c ∧ b / 16 % 4 = n ∧ b / 4 % 4 = 0 ∧ b / 64 = 0 := by
  interval_cases n <;> revert r c <;> decide

/-- The port reads the packet that the host laid out. -/
theorem pktOf_bytes {p : Pkt} (hp : p.Ok) : pktOf p.port p.bytes = p := by
  obtain ⟨hlen, hop, htag, hhost, hrsvd⟩ := hp
  obtain ⟨hreply, hchain, hfield, hlow, hhigh⟩ := flags_fields p.reply p.chain hhost
  have hparams := p.params_bytes
  have h1 : (p.bytes.getD 1 0).toNat % 64 = p.params.length := by
    rw [Pkt.len_byte ⟨hlen, hop, htag, hhost, hrsvd⟩]; omega
  have h2 : (p.bytes.getD 2 0).toNat = p.op := Nat.mod_eq_of_lt hop
  have h3 : (p.bytes.getD 3 0).toNat = p.tag := Nat.mod_eq_of_lt htag
  have h4 : p.bytes.getD 4 0 = BitVec.ofNat 8 ((if p.reply then 1 else 0) + (if p.chain then 2 else 0) + 16 * p.hostField) := rfl
  have h5 : p.bytes.getD 5 0 = 0#8 := rfl
  obtain ⟨op, tag, reply, chain, hostField, rsvd, port, params⟩ := p
  subst hrsvd
  simp only [pktOf, h1, h2, h3, h4, h5, hparams, hreply, hchain, hfield, hlow, hhigh]
  rfl

/-! ### One transfer, packet after packet (R64 to R67) -/

/-- The front packet of a transfer is taken in, and the rest of the transfer follows. -/
theorem portRecv_packet {s : State} {h n : Nat} {p : Pkt} (hp : p.Ok) (rest : List Byte) :
    s.portRecv h p.port (n + 1) (p.bytes ++ rest) = if rest.isEmpty then s.takeIn h p.port p else (s.takeIn h p.port p).portRecv h p.port n rest := by
  have hbyte : ∀ k, k < 8 → (p.bytes ++ rest).getD k 0 = p.bytes.getD k 0 := fun k hk =>
    List.getD_append _ _ _ _ (by rw [Pkt.bytes_length]; omega)
  have hlen := p.bytes_length
  have hsmall : p.params.length < 64 := hp.1
  have htake : (p.bytes ++ rest).take (8 + 4 * (p.params.length % 64)) = p.bytes := by
    rw [Nat.mod_eq_of_lt hsmall, ← hlen, List.take_left]
  have hdrop : (p.bytes ++ rest).drop (8 + 4 * (p.params.length % 64)) = rest := by
    rw [Nat.mod_eq_of_lt hsmall, ← hlen, List.drop_left]
  have hsync : ((p.bytes ++ rest).getD 0 0).toNat = 0xA5 := rfl
  have hne : (p.bytes ++ rest).isEmpty = false := rfl
  have h8 : ¬ (p.bytes ++ rest).length < 8 := by rw [List.length_append]; omega
  have hfit : ¬ (p.bytes ++ rest).length < 8 + 4 * (p.params.length % 64) := by rw [List.length_append]; omega
  have hhi : p.params.length / 64 = 0 := Nat.div_eq_of_lt hsmall
  rw [State.portRecv]
  simp only [hbyte 1 (by omega), Pkt.len_byte hp, htake, hdrop, Pkt.crcOk_bytes, pktOf_bytes hp, hsync, hne, h8, hfit, hhi]
  simp

/-- A transfer of well-formed packets of one port takes in each of them in order. -/
theorem portRecv_packets (h port : Nat) (ps : List Pkt) : ∀ (s : State) (n : Nat), ps ≠ [] → ps.length < n → (∀ p ∈ ps, p.Ok ∧ p.port = port) →
    s.portRecv h port n (ps.flatMap Pkt.bytes) = ps.foldl (fun u p => u.takeIn h port p) s := by
  induction ps with
  | nil => intro s n hne; exact absurd rfl hne
  | cons p t ih =>
    intro s n _ hn hps
    obtain ⟨m, rfl⟩ : ∃ m, n = m + 1 := ⟨n - 1, by simp at hn; omega⟩
    obtain ⟨hp, rfl⟩ := hps p List.mem_cons_self
    have ht := fun q hq => hps q (List.mem_cons_of_mem _ hq)
    rw [List.flatMap_cons, portRecv_packet hp, List.foldl_cons]
    cases t with
    | nil => rfl
    | cons q r =>
      have hcut : ((q :: r).flatMap Pkt.bytes).isEmpty = false := rfl
      rw [hcut, if_neg Bool.false_ne_true]
      exact ih _ m (List.cons_ne_nil _ _) (by simpa using hn) ht

/-- Every packet has at least its header, so that a transfer has as many bytes as packets. -/
theorem length_le_flatMap_bytes (ps : List Pkt) : ps.length ≤ (ps.flatMap Pkt.bytes).length := by
  induction ps with
  | nil => exact Nat.le_refl 0
  | cons p t ih =>
    rw [List.flatMap_cons, List.length_append, List.length_cons, Pkt.bytes_length]
    omega

theorem transfer_packets (s : State) (h port : Nat) {ps : List Pkt} (hne : ps ≠ []) (hps : ∀ p ∈ ps, p.Ok ∧ p.port = port) :
    s.transfer h port (ps.flatMap Pkt.bytes) = ps.foldl (fun u p => u.takeIn h port p) s :=
  portRecv_packets h port ps s _ hne (Nat.lt_succ_of_le (length_le_flatMap_bytes ps)) hps

/-- A PKT_WRITE of the packet operation to HP0 in ACTIVE is the transfer of its bytes. -/
theorem exec_pktWrite_hp0 {s : State} {h : Nat} (hf : s.pwr.floor = 0) (hu : s.portsUp = true) (hh : h < 4) (l : List Byte) :
    exec (.pktWrite 0 h 1 (asOperand l)) s = .next (kept s (s.transfer h 0 l)) := by
  change execPktWrite 0 h 1 (asOperand l) s = _
  simp [execPktWrite, act_eq, onlyIf, hu, hh, State.pktWrite, hf, toBytes_asOperand]

/-- A PKT_WRITE to HP1 in ACTIVE goes to the host that HP1 serves. -/
theorem exec_pktWrite_hp1 {s : State} {h : Nat} (hf : s.pwr.floor = 0) (hu : s.portsUp = true) (hh : h < 4) (l : List Byte) :
    exec (.pktWrite 1 h 1 (asOperand l)) s = .next (kept s (s.transfer s.hp1Host 1 l)) := by
  change execPktWrite 1 h 1 (asOperand l) s = _
  simp [execPktWrite, act_eq, onlyIf, hu, hh, State.pktWrite, hf, toBytes_asOperand]

/-- Settles O21: reading a packet undoes laying it out (`pktOf_bytes`), and the rest is an induction over the packets of the transfer. -/
theorem packetsArriveAsTheyWereSent : Obligations.PacketsArriveAsTheyWereSent := by
  intro s h ps hf hu hh hne hok
  refine ⟨fun hport => ?_, fun hport => ?_⟩
  · rw [exec_pktWrite_hp0 hf hu hh, transfer_packets s h 0 hne (fun p hp => ⟨hok p hp, hport p hp⟩)]
  · rw [exec_pktWrite_hp1 hf hu hh, transfer_packets s s.hp1Host 1 hne (fun p hp => ⟨hok p hp, hport p hp⟩)]

/-! ### What a port refuses (R64 to R67) -/

/-- A transfer of one packet. -/
theorem transfer_packet (s : State) (h : Nat) {p : Pkt} (hp : p.Ok) : s.transfer h p.port p.bytes = s.takeIn h p.port p := by
  have := transfer_packets s h p.port (List.cons_ne_nil p []) (fun q hq => by rw [List.mem_singleton.mp hq]; exact ⟨hp, rfl⟩)
  simpa using this

theorem takeIn_free {s : State} {h port : Nat} {p : Pkt} (hq : (s.host h).queue.length < 15) :
    s.takeIn h port p = (s.modHost h (fun x => { x with queue := x.queue ++ [p] })).logEnd 9 port 0x0A := by
  have h1 : ¬ 16 ≤ (s.host h).queue.length := by omega
  have h2 : ¬ (s.host h).queue.length = 15 := by omega
  simp [State.takeIn, h1, h2]

theorem takeIn_full {s : State} {h port : Nat} {p : Pkt} (hq : 16 ≤ (s.host h).queue.length) :
    s.takeIn h port p = s.portReply h port p.op p.tag 0x1A := by simp [State.takeIn, hq]

/-- Packets that agree but for their CRC: only one of the two CRCs matches. -/
theorem crc_bytes_unique {l m : List Byte} (hlen : l.length = m.length) (h8 : 8 ≤ l.length) (heq : ∀ k, k ≠ 6 → k ≠ 7 → l.getD k 0 = m.getD k 0)
    (hl : pktCrcOk l = true) (hm : pktCrcOk m = true) : l = m := by
  have hget : ∀ k (h : k < l.length), k ≠ 6 → k ≠ 7 → l[k] = m[k]'(hlen ▸ h) := by
    intro k hk h6 h7
    have := heq k h6 h7
    rwa [List.getD_eq_getElem _ _ hk, List.getD_eq_getElem _ _ (hlen ▸ hk)] at this
  have htake : l.take 6 = m.take 6 := by
    refine List.ext_getElem (by simp [hlen]) (fun k h1 h2 => ?_)
    rw [List.length_take] at h1
    simpa using hget k (by omega) (by omega) (by omega)
  have hdrop : l.drop 8 = m.drop 8 := by
    refine List.ext_getElem (by simp [hlen]) (fun k h1 h2 => ?_)
    rw [List.length_drop] at h1
    simpa using hget (8 + k) (by omega) (by omega) (by omega)
  rw [pktCrcOk_iff] at hl hm
  rw [htake, hdrop] at hl
  have hsum := hl.symm.trans hm
  have b1 := (l.getD 6 0).isLt
  have b2 := (m.getD 6 0).isLt
  have e6 : l.getD 6 0 = m.getD 6 0 := BitVec.eq_of_toNat_eq (by omega)
  have e7 : l.getD 7 0 = m.getD 7 0 := BitVec.eq_of_toNat_eq (by omega)
  refine List.ext_getElem hlen (fun k h1 h2 => ?_)
  have hk : l.getD k 0 = m.getD k 0 := by
    by_cases h6 : k = 6
    · rw [h6, e6]
    · by_cases h7 : k = 7
      · rw [h7, e7]
      · exact heq k h6 h7
  rwa [List.getD_eq_getElem _ _ h1, List.getD_eq_getElem _ _ h2] at hk

/-- The first byte is not 0xA5: a violation (R66). -/
theorem transfer_noSync {s : State} {h port : Nat} {l : List Byte} (h0 : l.getD 0 0 ≠ 0xA5#8) : s.transfer h port l = s.violation port 31 24 := by
  have hb : (l.getD 0 0).toNat ≠ 0xA5 := fun e => h0 (BitVec.eq_of_toNat_eq e)
  rw [State.transfer, State.portRecv, if_pos (by simp only [decide_eq_true hb, Bool.true_or])]

/-- Fewer bytes than a header (R66). -/
theorem transfer_short {s : State} {h port : Nat} {l : List Byte} (h0 : l.getD 0 0 = 0xA5#8) (hne : l ≠ []) (hl : l.length < 8) :
    s.transfer h port l = s.violation port 23 16 := by
  rw [State.transfer, State.portRecv]
  simp only [h0, hl]
  simp [hne]

/-- LEN with a reserved bit, or beyond the transfer's end: BAD_LENGTH (R64). -/
theorem transfer_badLength {s : State} {h port : Nat} {l : List Byte} (h0 : l.getD 0 0 = 0xA5#8) (h8 : 8 ≤ l.length)
    (hlen : 64 ≤ (l.getD 1 0).toNat ∨ l.length < 8 + 4 * (l.getD 1 0).toNat) :
    s.transfer h port l = s.portReply h port (l.getD 2 0).toNat (l.getD 3 0).toNat stBadLength := by
  have hne : l ≠ [] := by rintro rfl; simp at h8
  have h8' : ¬ l.length < 8 := by omega
  have hbad : (l.getD 1 0).toNat / 64 ≠ 0 ∨ l.length < 8 + 4 * ((l.getD 1 0).toNat % 64) := by omega
  rw [State.transfer, State.portRecv]
  simp only [h0, h8', if_false, Bool.or_eq_true, decide_eq_true_eq, hbad, if_true]
  simp [hne]

/-- A whole packet whose CRC does not match: BAD_CRC (R64). -/
theorem transfer_badCrc {s : State} {h port : Nat} {l : List Byte} (h0 : l.getD 0 0 = 0xA5#8) (hsmall : (l.getD 1 0).toNat < 64)
    (hlen : l.length = 8 + 4 * (l.getD 1 0).toNat) (hcrc : pktCrcOk l = false) :
    s.transfer h port l = s.portReply h port (l.getD 2 0).toNat (l.getD 3 0).toNat 0x10 := by
  have hne : l ≠ [] := by rintro rfl; simp at hlen
  have h8 : ¬ l.length < 8 := by omega
  have hmod : (l.getD 1 0).toNat % 64 = (l.getD 1 0).toNat := Nat.mod_eq_of_lt hsmall
  have hgood : ¬ ((l.getD 1 0).toNat / 64 ≠ 0 ∨ l.length < 8 + 4 * (l.getD 1 0).toNat) := by omega
  have htake : l.take (8 + 4 * (l.getD 1 0).toNat) = l := by rw [← hlen, List.take_length]
  have hdrop : l.drop (8 + 4 * (l.getD 1 0).toNat) = [] := by rw [← hlen, List.drop_length]
  rw [State.transfer, State.portRecv]
  simp only [h0, h8, if_false, hmod, Bool.or_eq_true, decide_eq_true_eq, hgood, htake, hdrop, hcrc]
  simp [hne]

/-- Settles O22: each clause is one outcome of `portRecv` on a single packet. -/
theorem packetWriteTakesOrRefuses : Obligations.PacketWriteTakesOrRefuses := by
  intro s h hf hu hh
  simp only [exec_pktWrite_hp0 hf hu hh]
  refine ⟨fun p hp hport => ?_, fun p l hp hlen heq hne => ?_, fun l h8 h0 hlen => ?_, fun l hl h0 hne => ?_, fun l h0 => ?_⟩
  · have ht := transfer_packet s h hp
    rw [hport] at ht
    rw [ht]
    exact ⟨fun hq => by rw [takeIn_free hq]; rfl, fun hq => by rw [takeIn_full hq]⟩
  · have hp' := hp
    obtain ⟨hsmall, hop, htag, -, -⟩ := hp'
    have h1 : (l.getD 1 0).toNat = p.params.length := by rw [heq 1 (by omega) (by omega), Pkt.len_byte hp]
    have h2 : (l.getD 2 0).toNat = p.op := by rw [heq 2 (by omega) (by omega)]; exact Nat.mod_eq_of_lt hop
    have h3 : (l.getD 3 0).toNat = p.tag := by rw [heq 3 (by omega) (by omega)]; exact Nat.mod_eq_of_lt htag
    have hlong := p.bytes_length
    have hcrc : pktCrcOk l = false := Bool.eq_false_iff.mpr fun hl =>
      hne (crc_bytes_unique hlen (by omega) heq hl p.crcOk_bytes)
    rw [transfer_badCrc (heq 0 (by omega) (by omega)) (by omega) (by omega) hcrc, h2, h3]
  · rw [transfer_badLength h0 h8 hlen]; rfl
  · rw [transfer_short h0 hne hl]; rfl
  · rw [transfer_noSync h0]; rfl

end Sys2Proof.Machine
end

section
/-! Proofs about the hub as a whole: the step, TB0's count, the memory, the reset state, the bittern log, refused reads, and the packet checks in their order. -/

namespace Sys2Proof.Machine

/-! ### The step -/

theorem step_front {s : State} {i : Instr} {rest : List Instr} (h : s.pending = i :: rest) : step s = exec i { s with pending := rest } := by
  simp only [step, h]

theorem step_idle {s : State} (h : s.pending = []) : step s = .next s := by simp only [step, h]

/-- Settles O50: `step` by the shape of the queue. -/
theorem stepRunsTheFrontCommand : Obligations.StepRunsTheFrontCommand := ⟨fun _ _ _ => step_front, fun _ => step_idle⟩

/-- Settles O51: an empty queue idles, and what every command keeps (`exec_keeps`) is kept by the step that runs it. -/
theorem everyStepAnswersAndKeepsTheLifecycle : Obligations.EveryStepAnswersAndKeepsTheLifecycle := by
  intro s
  cases h : s.pending with
  | nil => exact ⟨s, step_idle h, by rw [h]; rfl, id⟩
  | cons i rest =>
    obtain ⟨t, ht⟩ := exec_next i { s with pending := rest }
    obtain ⟨hpending, hprov⟩ := exec_keeps ht
    exact ⟨t, (step_front h).trans ht, hpending, hprov⟩

/-! ### TB0's count (R337, R338) -/

theorem tick_of_actClock {f : State → State} {s t : State} (h : actClock f s = .next t) : t.tick = (f s).tick := by cases h; rfl

theorem resetTo_tick (s : State) (cause fault : Nat) (b pd0 ok : Bool) : (s.resetTo cause fault b pd0 ok).tick = 0 := rfl

theorem crystalTick_tick (s : State) (a b : Int) : (s.crystalTick a b).tick = s.tick + 1 := congrArg Prod.fst (crystalTick_clock s a b)

theorem crystalTick_sub (s : State) (a b : Int) : (s.crystalTick a b).sub = 0 := congrArg Prod.snd (crystalTick_clock s a b)

theorem exec_crystalTick_up {s : State} (a b : Int) (h : s.pwr.phase ≠ 3) : exec (.crystalTick a b) s = .next (keptClock s (s.crystalTick a b)) := by
  change execCrystalTick a b s = _
  simp [execCrystalTick, actClock_eq, onlyIf, h]

theorem exec_crystalTick_shut {s : State} (a b : Int) (h : s.pwr.phase = 3) : exec (.crystalTick a b) s = .next (keptClock s s) := by
  change execCrystalTick a b s = _
  simp [execCrystalTick, actClock_eq, onlyIf, h]

/-! ### The resets, each with the condition under which it happens (R481, R482, R572) -/

theorem exec_powerOn (s : State) (b : Bool) : exec (.powerOn b) s = .next (keptClock s (s.resetTo 1 0 b false false)) := rfl

theorem exec_brownout (s : State) (b : Bool) : exec (.brownout b) s = .next (keptClock s (s.resetTo 2 0 b false false)) := rfl

theorem exec_pin_up {s : State} (b : Bool) (h : s.pwr.phase ≠ 3) : exec (.pin b) s = .next (keptClock s (s.resetTo 3 0 b true true)) := by
  change execPin b s = _
  simp [execPin, actClock_eq, h]

theorem exec_pin_shut {s : State} (b : Bool) (h : s.pwr.phase = 3) : exec (.pin b) s = .next (keptClock s (s.resetTo 5 0 b false false)) := by
  change execPin b s = _
  simp [execPin, actClock_eq, h]

theorem exec_hostReset {s : State} (b : Bool) (h : s.pwr.phase = 2) (ha : s.pwr.resetArm = true) :
    exec (.hostReset b) s = .next (keptClock s (s.resetTo 4 0 b true true)) := by
  change execHostReset b s = _
  simp [execHostReset, actClock_eq, onlyIf, h, ha]

theorem exec_watchdog {s : State} {core : Nat} (b : Bool) (hc : core < 2) (h : s.pwr.phase ≠ 3) :
    exec (.watchdog core b) s = .next (keptClock s (s.resetTo 7 core b true true)) := by
  change execWatchdog core b s = _
  simp [execWatchdog, actClock_eq, onlyIf, h, hc]

theorem exec_pd0Fault {s : State} {code : Nat} (ok b : Bool) (h1 : 1 ≤ code) (h5 : code ≤ 5) (h : s.pwr.phase ≠ 3) :
    exec (.pd0Fault code ok b) s = .next (keptClock s (s.resetTo 6 code b true (ok && decide (code ≠ 1)))) := by
  change execPd0Fault code ok b s = _
  simp [execPd0Fault, actClock_eq, onlyIf, h, h1, h5, State.pd0Fault]

theorem exec_shutdownWake {s : State} {level : Bool} (b : Bool) (h : s.pwr.phase = 3) (hw : s.pwr.shutWake = some (!level)) :
    exec (.shutdownWake level b) s = .next (keptClock s ((s.resetTo 5 0 b false false).modPin 0 (fun x => { x with level := level }))) := by
  change execShutdownWake level b s = _
  simp only [execShutdownWake, actClock_eq, h, hw]
  simp

/-- A command for which the outcome is known has no other next state. -/
theorem tick_of_exec {i : Instr} {s t u : State} (h : exec i s = .next t) (hu : exec i s = .next u) : t.tick = u.tick := by
  rw [hu] at h
  cases h
  rfl

/-- Settles O52: each reset starts TB0 at 0, a tick counts one, and the commands outside `movesClock` leave the count (`exec_tick`). -/
theorem tb0CountsOnlyCrystalTicks : Obligations.Tb0CountsOnlyCrystalTicks := by
  intro s t b
  refine ⟨fun h => tick_of_exec h (exec_powerOn s b), fun h => tick_of_exec h (exec_brownout s b), fun h => ?_,
    fun hp ha h => tick_of_exec h (exec_hostReset b hp ha), fun core hc hp h => tick_of_exec h (exec_watchdog b hc hp),
    fun k ok h1 h5 hp h => tick_of_exec h (exec_pd0Fault ok b h1 h5 hp), fun level hp hw h => tick_of_exec h (exec_shutdownWake b hp hw),
    fun x y hp h => ?_, fun x y hp h => tick_of_exec (u := keptClock s s) h (exec_crystalTick_shut x y hp), fun i hi h => ?_⟩
  · by_cases hp : s.pwr.phase = 3
    · exact tick_of_exec h (exec_pin_shut b hp)
    · exact tick_of_exec h (exec_pin_up b hp)
  · rw [exec_crystalTick_up x y hp] at h
    cases h
    refine ⟨crystalTick_tick s x y, ?_⟩
    change (s.crystalTick x y).tick * 1953125 + (s.crystalTick x y).sub = _
    rw [crystalTick_tick, crystalTick_sub, Nat.add_zero]
  · refine exec_tick ?_ h
    unfold movesClock
    split
    all_goals simp_all

/-! ### The memory (R97) -/

/-- Settles O57: the laws of `rdByte` over `wrBytes` and `clearMem`. -/
theorem memoryReadsWhatWasWritten : Obligations.MemoryReadsWhatWasWritten := by
  refine fun s => ⟨fun a l => ⟨fun k hk => ?_, fun b hb => ?_, wrBytes_mem s a l, fun h => wf_wrBytes h a l⟩,
    fun lo hi => ⟨fun b h1 h2 => ?_, fun b hb => ?_, rfl, fun h => wf_clearMem h lo hi⟩⟩
  · rw [rdByte_wrBytes, if_pos (by omega), Nat.add_sub_cancel_left]
  · rw [rdByte_wrBytes, if_neg (by omega)]
  · rw [rdByte_clearMem, if_neg (by omega)]; rfl
  · rw [rdByte_clearMem, if_pos hb]

/-! ### The reset state (R80, R98, R338, R482, R567) -/

theorem rdByte_reset (a : Nat) : State.reset.rdByte a = memDefault a := rfl

/-- A byte of W0 to W14 of a descriptor that nothing has written. -/
theorem memDefault_zero {c j : Nat} (hj : j < 60) : memDefault (0x20000000 + 64 * c + j) = 0 := by
  have h60 : ¬ (0x20000000 + 64 * c + j) % 64 = 60 := by omega
  have h61 : ¬ (0x20000000 + 64 * c + j) % 64 = 61 := by omega
  simp only [memDefault, h60, h61]
  simp

/-- The four bytes of W15 of a descriptor that nothing has written. -/
theorem memDefault_w15 {c : Nat} (hc : c < 192) :
    memDefault (0x20000000 + 64 * c + 60) = 0x45#8 ∧ memDefault (0x20000000 + 64 * c + 61) = 0xA4#8 ∧
    memDefault (0x20000000 + 64 * c + 62) = 0 ∧ memDefault (0x20000000 + 64 * c + 63) = 0 := by
  have e0 : (0x20000000 + 64 * c + 60) % 64 = 60 := by omega
  have e1 : (0x20000000 + 64 * c + 61) % 64 = 61 := by omega
  have e2 : (0x20000000 + 64 * c + 62) % 64 = 62 := by omega
  have e3 : (0x20000000 + 64 * c + 63) % 64 = 63 := by omega
  have h : ∀ j < 64, 0x20000000 ≤ 0x20000000 + 64 * c + j ∧ 0x20000000 + 64 * c + j < 0x20003000 := by omega
  simp only [memDefault, zeroDescCrc_eq, e0, e1, e2, e3, h 60 (by omega), h 61 (by omega)]
  simp

theorem rdWord_reset_zero {c k : Nat} (hk : k < 15) : State.reset.rdWord (0x20000000 + 64 * c + 4 * k) = 0 := by
  have h : ∀ j < 4, State.reset.rdByte (0x20000000 + 64 * c + 4 * k + j) = 0 := by
    intro j hj
    rw [rdByte_reset, Nat.add_assoc _ (4 * k) j, memDefault_zero (by omega)]
  have h0 := h 0 (by omega)
  rw [Nat.add_zero] at h0
  simp only [State.rdWord, h0, h 1 (by omega), h 2 (by omega), h 3 (by omega)]
  rfl

theorem rdWord_reset_w15 {c : Nat} (hc : c < 192) : State.reset.rdWord (0x20000000 + 64 * c + 60) = (crc16 (List.replicate 60 0)).setWidth 32 := by
  obtain ⟨h0, h1, h2, h3⟩ := memDefault_w15 hc
  simp only [State.rdWord, rdByte_reset, h0, h1, h2, h3, crc16_sixtyZeros]
  rfl

/-- Settles O56: all but the descriptors is read off `State.reset`; those read as `memDefault` gives. -/
theorem resetHoldsWhatTheSpecGives : Obligations.ResetHoldsWhatTheSpecGives :=
  ⟨rfl, rfl, rfl, rfl, rfl, rfl, rfl, fun _ => ⟨rfl, rfl, rfl, rfl⟩, fun _ => rfl, fun _ _ _ hk => rdWord_reset_zero hk, fun _ hc => rdWord_reset_w15 hc,
    wf_reset⟩

/-! ### The checks of a packet in their order (R64) -/

theorem mayUse_iff {s : State} {d : OpDef} {h code : Nat} (hd : opOf code = some d) :
    s.mayUse h d = true ↔ s.needPriv d ≤ s.privOf h ∧ s.lifecycleOk code = true := by
  have hcode : d.code = code := by simpa using List.find?_some hd
  simp [State.mayUse, hcode]

/-- Checks 9 and 10 pass for an admissible packet. -/
theorem firstChecks_admissible {s : State} {code : Nat} {d : OpDef} {c : Call} (hd : opOf code = some d) (h : Admissible s code c) :
    (admitted s code c).firstChecks c.host (callPkt code c) = 0 := by
  obtain ⟨-, hver, hsess⟩ := h
  rw [firstChecks_eq hd, if_neg (by omega), if_neg]
  rintro ⟨hcode, hno⟩
  exact hno (hsess hcode)

theorem lastChecks_length {s : State} {d : OpDef} {c : Call} (h : d.lenOk c.params.length c = false) : s.lastChecks d c = 0x11 := by
  simp [State.lastChecks, firstStatus, h, stBadLength]

theorem lastChecks_param {s : State} {d : OpDef} {c : Call} (hl : d.lenOk c.params.length c = true) (hv : d.valid s c = false) :
    s.lastChecks d c = 0x13 := by
  simp [State.lastChecks, firstStatus, hl, hv, stBadParam]

/-- Check 14 decides where checks 12 and 13 pass. -/
theorem lastChecks_allow {s : State} {d : OpDef} {c : Call} (hl : d.lenOk c.params.length c = true) (hv : d.valid s c = true) :
    s.lastChecks d c = d.allow s c := by
  by_cases h : d.allow s c = 0 <;> simp [State.lastChecks, firstStatus, hl, hv, h]

/-- Settles O54: `checkPkt_eq` gives the first check that fails, and `runCall_stop` what comes of a packet that fails one. -/
theorem packetsAreRefusedByTheFirstFailingCheck : Obligations.PacketsAreRefusedByTheFirstFailingCheck := by
  intro i code c d s hi hd hruns u session permitted
  rw [opcode_run hi]
  have hcheck := checkPkt_eq (s := s) (c := c) hd
  have hperm : permitted ↔ s.mayUse c.host d = true := (mayUse_iff hd).symm
  refine ⟨fun hver => ?_, fun hver hsess => ?_, fun hadm => ?_⟩
  · have hfirst := firstChecks_eq (s := s) (c := c) hd
    rw [if_pos hver] at hfirst
    rw [hfirst, if_pos (by decide)] at hcheck
    exact runCall_stop hruns hcheck (by decide)
  · have hfirst := firstChecks_eq (s := s) (c := c) hd
    rw [if_neg (by omega), if_pos (Classical.not_imp.mp hsess)] at hfirst
    rw [hfirst, if_pos (by decide)] at hcheck
    exact runCall_stop hruns hcheck (by decide)
  · rw [firstChecks_admissible hd hadm, if_neg (by decide)] at hcheck
    have hlast : ∀ st, permitted → u.lastChecks d c = st → 1 < st → runCall code c s = .next (refusedWith s code c u st false) := by
      intro st hyes hst hne
      rw [if_neg (by rw [hperm.mp hyes]; decide), hst] at hcheck
      exact runCall_stop hruns hcheck hne
    refine ⟨fun hno => ?_, fun hyes hlen => hlast _ hyes (lastChecks_length hlen) (by decide),
      fun hyes hlen hval => hlast _ hyes (lastChecks_param hlen hval) (by decide), fun hyes hlen hval hst => hlast _ hyes (lastChecks_allow hlen hval) hst⟩
    rw [if_pos (Bool.eq_false_iff.mpr (mt hperm.mpr hno))] at hcheck
    exact runCall_stop hruns hcheck (by decide)

/-! ### Direct reads in ACTIVE (R541 to R548) -/

theorem directRead_active {s : State} (hf : s.pwr.floor = 0) (h a len : Nat) :
    s.directRead h a len = { (s.memRead h a len).1 with out := (s.memRead h a len).2 } := by
  simp only [State.directRead, wakeBy_zero hf, wakeAll_zero hf]

theorem exec_memRead_active {s : State} {h : Nat} (hp : s.pwr.phase = 2) (hf : s.pwr.floor = 0) (hh : h < 4) (a len f : Nat) :
    exec (.memRead h a len f) s = .next (shown s ((s.atF f).memRead h a len).1 ((s.atF f).memRead h a len).2) := by
  have hd := directRead_active (s := s.atF f) hf h a len
  change execMemRead h a len f s = _
  simp only [execMemRead, act_eq, onlyIf, State.directUp, hp, hh, decide_true, Bool.and_self, if_true, hd]
  rfl

theorem accesses_word {a : Nat} (ha : a % 4 = 0) : accesses a 4 = [(a, 4)] := by
  simp [accesses, ha, wordAccesses]

theorem accesses_unaligned {a : Nat} (ha : a % 4 ≠ 0) : accesses a 4 = [(a, 3)] := by
  simp [accesses, ha]

/-- A read whose first access is a bus error sends the status alone. -/
theorem memRead_bus {s : State} {h a len n st : Nat} {t : List (Nat × Nat)} (hacc : accesses a len = (a, n) :: t) (hj : s.judge h a n none = .bus st) :
    s.memRead h a len = (s.noteAccess h a (.bus st), [0xE1#8]) := by
  simp [State.memRead, hacc, State.accessRead, hj]

/-- A read of one word that privilege refuses sends zeros. -/
theorem memRead_barred {s : State} {h a why : Nat} (ha : a % 4 = 0) (hj : s.judge h a 4 none = .barred why) (hrail : a ≠ Reg.plnRail.addr 0) :
    s.memRead h a 4 = (s.noteAccess h a (.barred why), [0, 0, 0, 0, 0]) := by
  simp [State.memRead, accesses_word ha, State.accessRead, hj, State.readRest, hp0Value, hrail, bytesOf, List.range_succ]

/-- Three bytes, which stand for an unaligned access, are no access of a register or an array. -/
theorem shapeOk_three (a : Nat) : shapeOk a 3 false = false := by
  simp [shapeOk]

theorem shapeOk_none {a n : Nat} (w : Bool) (hs : spotOf a = .none) : shapeOk a n w = false := by
  simp [shapeOk, hs]

/-- Of a word that is unaligned, nowhere, or in a fenced domain, the read is a bus error. -/
theorem judge_read_bus {s : State} {h a n : Nat} (hb : shapeOk a n false = false ∨ s.isFenced 8 (spotDomain a) = true) :
    ∃ st, s.judge h a n none = .bus st := by
  cases hshape : shapeOk a n false with
  | false => exact ⟨stBadParam, by simp [State.judge, hshape]⟩
  | true =>
    have hfence : s.isFenced 8 (spotDomain a) = true := hb.resolve_left (by simp [hshape])
    exact ⟨stDomainOff, by simp [State.judge, hshape, hfence]⟩

/-- The read of a marked register by a host without privilege is refused for it. -/
theorem judge_read_barred {s : State} {h a : Nat} {ref : RegRef} (ha : a % 4 = 0) (hs : spotOf a = .reg ref) (hpriv : ref.reg.row.priv = true)
    (hhost : s.privOf h = 0) (hf : s.isFenced 8 (spotDomain a) = false) : s.judge h a 4 none = .barred 0 := by
  have hshape : shapeOk a 4 false = true := by simp [shapeOk, ha, hs]
  simp [State.judge, hshape, hf, State.privJudge, hs, hpriv, hhost]

theorem plnRail_unmarked {ref : RegRef} (hs : spotOf (Reg.plnRail.addr 0) = .reg ref) : ref.reg.row.priv = false := by
  have h : spotOf (Reg.plnRail.addr 0) = .reg ⟨.plnRail, 0, false⟩ := by decide
  rw [h] at hs
  cases hs
  rfl

/-- Settles O58: the verdict of each refused read, and what `noteAccess` records of it (`note_bus`, `note_barred`). -/
theorem refusedReadsAreRecorded : Obligations.RefusedReadsAreRecorded := by
  intro s h a f hh hp hf
  refine ⟨fun hbad => ?_, fun ref ha hs hpriv hhost hfence => ?_⟩
  · obtain ⟨n, t, hacc, hb⟩ : ∃ n t, accesses a 4 = (a, n) :: t ∧ (shapeOk a n false = false ∨ (s.atF f).isFenced 8 (spotDomain a) = true) := by
      by_cases ha : a % 4 = 0
      · exact ⟨4, [], accesses_word ha, (hbad.resolve_left (by omega)).imp (shapeOk_none false) id⟩
      · exact ⟨3, [], accesses_unaligned ha, .inl (shapeOk_three a)⟩
    obtain ⟨st, hj⟩ := judge_read_bus hb (h := h)
    have hread := memRead_bus hacc hj
    obtain ⟨haddr, hcount, hevt, hmem, hhosts⟩ := note_bus (s.atF f) h a st hh
    refine ⟨_, exec_memRead_active hp hf hh a 4 f, ?_⟩
    rw [hread]
    exact ⟨rfl, haddr, hcount, hevt, hmem, hhosts⟩
  · have hrail : a ≠ Reg.plnRail.addr 0 := by
      rintro rfl
      rw [plnRail_unmarked hs] at hpriv
      cases hpriv
    have hread := memRead_barred ha (judge_read_barred (s := s.atF f) ha hs hpriv hhost hfence) hrail
    obtain ⟨hevt, haddr, hmem, hhosts⟩ := note_barred (s.atF f) h a
    refine ⟨_, exec_memRead_active hp hf hh a 4 f, ?_⟩
    rw [hread]
    exact ⟨rfl, hevt, haddr, hmem, hhosts⟩

/-! ### The bittern log (R567 to R569) -/

/-- The open entry that an error without a run of its own repeats. -/
def repeats (kind idx code : Nat) (e : LogEntry) : Bool := e.isOpen && e.source == selOf kind idx && e.code == code && e.run == 0

theorem repeats_iff {kind idx code : Nat} {e : LogEntry} :
    repeats kind idx code e = true ↔ e.isOpen = true ∧ e.source = selOf kind idx ∧ e.code = code ∧ e.run = 0 := by
  simp [repeats, and_assoc]

theorem logErr_repeat {s : State} {kind idx code : Nat} (h : s.log.any (repeats kind idx code) = true) :
    s.logErr kind idx code = { s with log := bumpLog (repeats kind idx code) s.log } := by
  unfold State.logErr State.logRun
  exact if_pos h

theorem logErr_new {s : State} {kind idx code : Nat} (h : s.log.any (repeats kind idx code) = false) :
    s.logErr kind idx code = s.logWrite ⟨s.logTime, selOf kind idx, code, 0, 0, !logNeverOpen code⟩ := by
  unfold State.logErr State.logRun
  exact if_neg (Bool.eq_false_iff.mp h)

/-- A log that is full of fault entries takes no entry; it counts the error in the field of its kind. -/
theorem logWrite_full {s : State} {e : LogEntry} (hfull : 256 ≤ s.log.length) (hfaults : ∀ x ∈ s.log, 0x80 ≤ x.code) :
    s.logWrite e = if e.code < 0x80 then s.addCnt .logLost 0 15 0 1 else s.addCnt .logLost 0 31 16 1 := by
  unfold State.logWrite
  extract_lets full faults l s1 s2 s3
  have hfaults' : (decide full && faults) = true := by simpa [full, faults, hfull] using hfaults
  rw [if_pos hfaults']

theorem fld_addCnt_logLost_low (s : State) :
    (s.addCnt .logLost 0 15 0 1).fld .logLost 0 15 0 = min 65535 (s.fld .logLost 0 15 0 + 1) ∧
    (s.addCnt .logLost 0 15 0 1).fld .logLost 0 31 16 = s.fld .logLost 0 31 16 := by
  have hbound : min (2 ^ (15 + 1 - 0) - 1) (s.fld .logLost 0 15 0 + 1) < 65536 := by omega
  obtain ⟨hhigh, hlow⟩ := bits_setLow (s.reg .logLost 0) _ hbound
  simp only [State.addCnt, State.fld, reg_setReg_self] at hhigh hlow ⊢
  exact ⟨hlow, hhigh⟩

theorem fld_addCnt_logLost_high (s : State) :
    (s.addCnt .logLost 0 31 16 1).fld .logLost 0 31 16 = min 65535 (s.fld .logLost 0 31 16 + 1) ∧
    (s.addCnt .logLost 0 31 16 1).fld .logLost 0 15 0 = s.fld .logLost 0 15 0 := by
  have hbound : min (2 ^ (31 + 1 - 16) - 1) (s.fld .logLost 0 31 16 + 1) < 65536 := by omega
  obtain ⟨hhigh, hlow⟩ := bits_setHigh (s.reg .logLost 0) _ hbound
  simp only [State.addCnt, State.fld, reg_setReg_self] at hhigh hlow ⊢
  exact ⟨hhigh, hlow⟩

/-- Settles O59: an error repeats an open entry (`logErr_repeat`) or is written (`logErr_new`), and what a write does turns on whether the log is full, and of what. -/
theorem logEntriesRunAndRepeat : Obligations.LogEntriesRunAndRepeat := by
  intro s kind idx code src t new hit saturates
  refine ⟨fun ⟨e, he, hhit⟩ => ?_, fun hno => ?_⟩
  · have hany : s.log.any (repeats kind idx code) = true := List.any_eq_true.mpr ⟨e, he, repeats_iff.mpr hhit⟩
    have ht : t.log = bumpLog (repeats kind idx code) s.log ∧ t.logSat = s.logSat := by
      simp only [t, logErr_repeat hany, and_self]
    refine ⟨by rw [ht.1, bumpLog, List.length_map], ht.2, fun k e hk => ?_⟩
    have hget : t.log[k]? = some (if repeats kind idx code e then { e with rep := min 255 (e.rep + 1) } else e) := by
      rw [ht.1, bumpLog, List.getElem?_map, hk]
      rfl
    exact ⟨fun h => by rw [hget, if_pos (repeats_iff.mpr h)], fun h => by rw [hget, if_neg (mt repeats_iff.mp h)]⟩
  · have hnone : s.log.any (repeats kind idx code) = false := List.any_eq_false.mpr fun e he => mt repeats_iff.mp (hno e he)
    have ht : t = s.logWrite new := logErr_new hnone
    rw [ht]
    refine ⟨fun hroom => ?_, fun l1 l2 x hfull hsplit hl1 hx => ?_, fun hfull hfaults => ?_⟩
    · have hfits := logWrite_fits s new (fun h => by omega)
      rw [if_neg (by omega)] at hfits
      obtain ⟨hlog, hsat⟩ := hfits
      rw [hlog]
      exact ⟨rfl, hsat⟩
    · have hfits := logWrite_fits s new (fun h => by have := h.2 x (by rw [hsplit]; simp); omega)
      rw [if_pos hfull, hsplit, dropInfo_split l1 l2 x hl1 hx] at hfits
      obtain ⟨hlog, hsat⟩ := hfits
      rw [hlog]
      exact ⟨rfl, hsat⟩
    · rw [logWrite_full hfull hfaults]
      refine ⟨by split <;> rfl, by split <;> rfl, fun hc => ?_, fun hc => ?_⟩
      · rw [if_pos hc]; exact fld_addCnt_logLost_low s
      · rw [if_neg (Nat.not_lt.mpr hc)]; exact fld_addCnt_logLost_high s

end Sys2Proof.Machine
end

section
/-! Proofs about the host interrupt controller (R528 to R539). -/

namespace Sys2Proof.Machine

theorem w32_toNat {v : Nat} (hv : v < 2 ^ 32) : (w32 v).toNat = v := by
  rw [w32, BitVec.toNat_ofNat, Nat.mod_eq_of_lt hv]

theorem bits_w32 {v hi : Nat} (hv : v < 2 ^ (hi + 1)) (h32 : v < 2 ^ 32) : bits (w32 v) hi 0 = v := by
  rw [bits_low (by rw [w32_toNat h32]; exact hv), w32_toNat h32]

/-! ### The acknowledge read (R530, R532, R535) -/

theorem icAck_aligned : ∀ t < 4, Reg.addr .icAck t % 4 = 0 := by decide

theorem icAck_notRail : ∀ t < 4, Reg.addr .icAck t ≠ Reg.plnRail.addr 0 := by decide

theorem readUnit_icAck (s : State) (h : Nat) {t : Nat} (ht : t < 4) :
    s.readUnit h (Reg.addr .icAck t) 4 = ((s.ackRead t).1, (s.ackRead t).2.toNat) := by
  have hlt := (s.ackRead t).2.isLt
  have hread : s.readReg h (Reg.addr .icAck t) 4 ⟨.icAck, t, false⟩ = s.ackRead t := rfl
  simp only [State.readUnit, spotOf_icAck t ht, icAck_aligned t ht, hread]
  simp [State.noteGroup, groupOf, Nat.mod_eq_of_lt hlt]

/-- A served acknowledge read shows the word of `ackRead`. -/
theorem exec_icAckRead {s : State} {h t : Nat} (hp : s.pwr.phase = 2) (hf : s.pwr.floor = 0) (hh : h < 4) (ht : t < 4)
    (hj : s.judge h (Reg.addr .icAck t) 4 none = .pass) :
    exec (.icAckRead h t) s =
      .next (shown s ((s.ackRead t).1.noteAccess h (Reg.addr .icAck t) .pass) (0 :: bytesOf 4 (s.ackRead t).2.toNat)) := by
  have hread := memRead_single (accesses_word (icAck_aligned t ht)) hj
  rw [readUnit_icAck s h ht, hp0Value, if_neg (icAck_notRail t ht)] at hread
  change execIcAckRead h t s = _
  simp only [execIcAckRead, act_eq, onlyIf, State.directUp, hp, hh, ht, decide_true, Bool.and_self, if_true, directRead_active hf, hread]
  rfl

theorem ackRead_stackFault {s : State} {t : Nat} (h : (s.target t).stackFault = true) :
    s.ackRead t = (s.modTarget t (fun x => { x with stackFault := false }), ackWord 0x3FD 15) := by
  have hv : s.faultVector t = some 0x3FD := by simp [State.faultVector, h]
  simp only [State.ackRead, hv]

theorem ackRead_logFault {s : State} {t : Nat} (h : (s.target t).stackFault = false) (hl : (s.target t).logSat = true) (hb : s.bankFenced t = false) :
    s.ackRead t = (s.modTarget t (fun x => { x with logSat := false }), ackWord 0x3FE 15) := by
  have hv : s.faultVector t = some 0x3FE := by simp [State.faultVector, h, hl, hb]
  simp only [State.ackRead, hv]

theorem ackRead_none {s : State} {t : Nat} (hv : s.faultVector t = none) (hd : s.deliverable t = []) : s.ackRead t = (s, 0x3FF#32) := by
  simp only [State.ackRead, hv, hd, pickSource]

theorem ackRead_picked {s : State} {t vec prio : Nat} (hv : s.faultVector t = none) (hp : pickSource (s.deliverable t) = some (vec, prio)) :
    s.ackRead t = ((s.takePending t vec).modTarget t (fun x => { x with stack := (vec, prio) :: x.stack }), ackWord vec prio) := by
  simp only [State.ackRead, hv, hp]

/-- Settles O14: `pickSource` takes the highest priority and the lowest vector of a list in vector order, and each case of `ackRead` is shown as it stands. -/
theorem ackReadGivesTheVectorThatIsDue : Obligations.AckReadGivesTheVectorThatIsDue := by
  refine ⟨fun s h t hp hf hh ht hj hv hd => ?_, fun s h t hp hf hh ht hj => ⟨fun hsf => ?_, fun hsf hls hb => ?_, fun hv hd => ?_⟩⟩ <;>
    rw [exec_icAckRead hp hf hh ht hj]
  · obtain ⟨⟨vec, prio⟩, hpick⟩ := pick_some hd
    refine ⟨vec, prio, pick_mem hpick, pick_max (deliverable_sorted s t) hpick, ?_⟩
    rw [ackRead_picked hv hpick]
    rfl
  · rw [ackRead_stackFault hsf]; rfl
  · rw [ackRead_logFault hsf hls hb]; rfl
  · rw [ackRead_none hv hd]; rfl

/-! ### The end-of-interrupt write (R533, R534) -/

theorem icEoi_aligned : ∀ t < 4, Reg.addr .icEoi t % 4 = 0 := by decide

theorem exec_icEoiWrite {s : State} {h t v : Nat} (hu : s.writeUp h = true) (ht : t < 4) (hv : v < 1024)
    (hj : (s.atF 0).judge h (Reg.addr .icEoi t) 4 (some v) = .pass) :
    exec (.icEoiWrite h t v) s = .next (accessed s h (Reg.addr .icEoi t) ((s.atF 0).eoiWrite t v)) := by
  have hwrite := writeUnit_reg (s := s.atF 0) (h := h) (v := v) (spotOf_icEoi t ht) rfl (icEoi_aligned t ht)
  have hbits : bits (w32 v) 9 0 = v := bits_w32 (by omega) (by omega)
  rw [show (s.atF 0).writeReg h .icEoi t (w32 v) (byteMask (Reg.addr .icEoi t) 4) = (s.atF 0).eoiWrite t (bits (w32 v) 9 0) from rfl, hbits] at hwrite
  exact (writeRow_pass hu ht hj).trans (by rw [hwrite])

theorem eoiWrite_reserved {s : State} {t v : Nat} (hv : 0x3FD ≤ v) (hlt : v < 1024) : s.eoiWrite t v = s := by
  have : v = 0x3FF ∨ v = 0x3FD ∨ v = 0x3FE := by omega
  simp only [State.eoiWrite, Bool.or_eq_true, decide_eq_true_eq]
  rw [if_pos (by tauto)]

theorem eoiWrite_top {s : State} {t v prio : Nat} {rest : List (Nat × Nat)} (hv : v < 0x3FD) (hs : (s.target t).stack = (v, prio) :: rest) :
    s.eoiWrite t v = s.modTarget t (fun x => { x with stack := rest }) := by
  have h1 : v ≠ 0x3FF := by omega
  have h2 : v ≠ 0x3FD := by omega
  have h3 : v ≠ 0x3FE := by omega
  simp [State.eoiWrite, h1, h2, h3, hs]

/-- A vector that is not the top one, or none where the stack is empty: the bank is fenced (R534). -/
theorem eoiWrite_wrong {s : State} {t v : Nat} (hv : v < 0x3FD) (hs : ((s.target t).stack.head?).map (·.1) ≠ some v) :
    s.eoiWrite t v = ((((s.modTarget t (fun x => { x with stack := [] })).fenceMark 7 t 0x84).evt .icEvt 0 t).modTarget t
      (fun x => { x with stackFault := true })) := by
  have h1 : v ≠ 0x3FF := by omega
  have h2 : v ≠ 0x3FD := by omega
  have h3 : v ≠ 0x3FE := by omega
  cases hstack : (s.target t).stack with
  | nil => simp [State.eoiWrite, h1, h2, h3, hstack, State.fenceBank]
  | cons a rest =>
    have htop : a.1 ≠ v := by simpa [hstack] using hs
    simp [State.eoiWrite, h1, h2, h3, hstack, htop, State.fenceBank]

/-- Settles O15: the three outcomes of `eoiWrite`. -/
theorem eoiWriteEndsTheTopVector : Obligations.EoiWriteEndsTheTopVector := by
  intro s h t v hu ht hv hj u
  rw [exec_icEoiWrite hu ht hv hj]
  exact ⟨fun hres => by rw [eoiWrite_reserved hres hv], fun hres prio rest hs => by rw [eoiWrite_top (s := u) hres hs],
    fun hres hs => by rw [eoiWrite_wrong (s := u) hres hs]⟩

/-! ### Doorbells, the in-band interrupt and wake pulses (R529, R531, R537, R538) -/

theorem icDbell_aligned : ∀ t < 4, Reg.addr .icDbell t % 4 = 0 := by decide

theorem exec_doorbell {s : State} {h t v : Nat} (hu : s.writeUp h = true) (ht : t < 4)
    (hj : (s.atF 0).judge h (Reg.addr .icDbell t) 4 (some v) = .pass) :
    exec (.doorbell h t v) s = .next (accessed s h (Reg.addr .icDbell t) (if bitAt (w32 v) 0 then (s.atF 0).raisePriv t 1 else s.atF 0)) := by
  have hwrite := writeUnit_reg (s := s.atF 0) (h := h) (v := v) (spotOf_icDbell t ht) rfl (icDbell_aligned t ht)
  exact (writeRow_pass hu ht hj).trans (by rw [hwrite]; rfl)

/-- The bit that a doorbell's value holds: the value is 0 or 1. -/
theorem bitAt_w32_zero {v : Nat} (hv : v < 2) : bitAt (w32 v) 0 = decide (v = 1) := by interval_cases v <;> rfl

/-- Where a change itself leaves the queue, the tick and PROVISIONED, the command answers what the change makes. -/
theorem act_same {f : State → State} {s : State} (h1 : (f s).pending = s.pending) (h2 : (f s).tick = s.tick) (h3 : (f s).provisioned = s.provisioned) :
    act f s = .next (f s) := by rw [act_eq, kept_of_same h1 h2 h3]

theorem exec_ibiRepeat {s : State} (hout : bitAt (s.reg .icTgtcfg s.hp1Host) 31 = true) (hdel : s.hasDelivery s.hp1Host = true)
    (hawake : s.asleep s.hp1Host = false) : exec .ibiRepeat s = .next { s with hp1Ibi := 2 } := by
  have hrun : s.ibiRepeat = { s with hp1Ibi := 2 } := by simp [State.ibiRepeat, hout, hdel, hawake]
  change act State.ibiRepeat s = _
  rw [act_same, hrun] <;> rw [hrun]

/-- The pending bit moves to FB_TGT, whose host is asked to wake where it sleeps. -/
theorem fallback_moves {s : State} {k t : Nat} (hsent : (s.src k).wakeSent = some t) (hpend : (s.src k).pending = true) (hmoved : (s.src k).moved = none)
    (hasleep : s.asleep t = true) (hfb : bitAt (s.reg .icTgtcfg t) 30 = true) (hbank : s.bankFenced (bits (s.reg .icTgtcfg t) 29 28) = false) :
    s.fallback k =
      let fb := bits (s.reg .icTgtcfg t) 29 28
      let u := (s.setSrc k { s.src k with moved := some fb, wakeSent := none }).evt .icEvt 0 (4 + t)
      if s.asleep fb then u.wakeRequest fb (0x010 + k) (s.fld .icSrc k 27 24) else u := by
  simp [State.fallback, hsent, hpend, hmoved, hasleep, hfb, hbank]

theorem exec_wakePulseEnd (s : State) (t : Nat) : exec (.wakePulseEnd t) s = .next (s.modTarget t (fun x => { x with pulse := false })) :=
  act_same (f := fun u => u.modTarget t (fun x => { x with pulse := false })) rfl rfl rfl

/-- Settles O16: each command's meaning under the conditions that its clause names. -/
theorem interruptCommandsComplete : Obligations.InterruptCommandsComplete := by
  refine fun s => ⟨fun h t v hu ht hv hj => ?_, exec_ibiRepeat, ?_, exec_wakePulseEnd s⟩
  · rw [exec_doorbell hu ht hj, bitAt_w32_zero hv]
    simp only [decide_eq_true_eq]
    rfl
  · intro k t hk hsent hpend hmoved hasleep cfg fb hfb hbank
    have hrun := fallback_moves hsent hpend hmoved hasleep hfb hbank
    change act (onlyIf (k < 240) (fun u => u.fallback k)) s = _
    rw [act_eq, onlyIf, if_pos (decide_eq_true hk), hrun]

end Sys2Proof.Machine
end

section
/-! How an opcode that passes its checks is answered, and CHAN_WRITE (R97, R115 to R117, R132, R602). -/

namespace Sys2Proof.Machine

/-! ### Opcodes whose checks pass (R64, R70, R78) -/

/-- Checks 12 to 14 pass. -/
theorem lastChecks_pass {s : State} {d : OpDef} {c : Call} (hl : d.lenOk c.params.length c = true) (hv : d.valid s c = true) (ha : d.allow s c = 0) :
    s.lastChecks d c = 0 := (lastChecks_allow hl hv).trans ha

section
variable {s : State} {code priv : Nat} {d : OpDef} {c : Call}

theorem Ready.mayUse (hr : Ready s code priv c) (hd : opOf code = some d) (hp : s.needPriv d ≤ priv) (hl : s.lifecycleOk code = true) :
    s.mayUse c.host d = true := by
  obtain ⟨-, -, -, hpriv⟩ := hr
  exact (mayUse_iff hd).mpr ⟨le_trans hp hpriv, hl⟩

/-- An opcode that passes its checks and is answered at once with what its run gives. -/
theorem Ready.served (hr : Ready s code priv c) (hd : opOf code = some d) (ha : d.async = false) (hp : s.needPriv d ≤ priv)
    (hl : s.lifecycleOk code = true) (hchecks : (admitted s code c).lastChecks d c = 0) {u : State} {st : Nat} {ws : List Word}
    (hrun : d.run (started s code c) c = (u, st, ws)) : runCall code c s = .next (answered s code c u st ws) := by
  have hmay := hr.mayUse hd hp hl
  obtain ⟨hruns, hsess, hver, -⟩ := hr
  rw [runCall_served hd ha hruns hsess hver hmay hchecks, hrun]

/-- An opcode that passes its checks, ACCEPTED and outstanding. -/
theorem Ready.accepted (hr : Ready s code priv c) (hs : AsyncReady s c) (hd : opOf code = some d) (ha : d.async = true) (hp : s.needPriv d ≤ priv)
    (hl : s.lifecycleOk code = true) (hchecks : (admitted s code c).lastChecks d c = 0) {u : State} {ws : List Word}
    (hrun : d.run (startedAsync s code c) c = (u, stAccepted, ws)) : runCall code c s = .next (answered s code c u 1 ws) := by
  have hmay := hr.mayUse hd hp hl
  obtain ⟨hruns, hsess, hver, -⟩ := hr
  rw [runCall_accepted hd ha hruns hsess hver hmay hchecks hs (by rw [hrun]), hrun]
  rfl

/-- An opcode of those that may be ACCEPTED, which its run answers with another status: it is not outstanding any more. -/
theorem Ready.declined (hr : Ready s code priv c) (hd : opOf code = some d) (ha : d.async = true) (hp : s.needPriv d ≤ priv)
    (hl : s.lifecycleOk code = true) (hchecks : (admitted s code c).lastChecks d c = 0) {u : State} {st : Nat} {ws : List Word}
    (hrun : d.run (startedAsync s code c) c = (u, st, ws)) (hst : st ≠ stAccepted) :
    runCall code c s = .next (answered s code c (u.modHost c.host (fun x => { x with asyncOut := x.asyncOut.erase (c.tag, code) })) st ws) := by
  have hmay := hr.mayUse hd hp hl
  obtain ⟨hruns, hsess, hver, -⟩ := hr
  rw [runCall_failed hd ha hruns hsess hver hmay hchecks (by rw [hrun]; exact hst), hrun]

/-- A packet that check 12, 13 or 14 stops. -/
theorem Ready.refused (hr : Ready s code priv c) (hd : opOf code = some d) (hp : s.needPriv d ≤ priv) (hl : s.lifecycleOk code = true) {st : Nat}
    (hchecks : (admitted s code c).lastChecks d c = st) (hst : 1 < st) :
    runCall code c s = .next (refusedWith s code c (admitted s code c) st false) := by
  have hmay := hr.mayUse hd hp hl
  obtain ⟨hruns, hsess, hver, -⟩ := hr
  rw [runCall_refused hd hruns hsess hver hmay (by rw [hchecks]; exact hst), hchecks]

end

/-! ### CHAN_WRITE -/

/-- One word of a CHAN_WRITE of descriptor `a` from word `first` up: GEN in W15 stays (R115). -/
def chanWriteWord (a first : Nat) (c : Call) (u : State) (k : Nat) : State :=
  u.wrWord (a + 4 * (first + k)) (if first + k = 15 then setBits (c.word (2 + k)) 31 16 (bits (u.rdWord (a + 60)) 31 16) else c.word (2 + k))

/-- What `n` words of a CHAN_WRITE have made of `s`. -/
structure ChanWritten (s t : State) (a first : Nat) (c : Call) (n : Nat) : Prop where
  frame : t = { s with mem := t.mem }
  words : ∀ k < 15, t.rdWord (a + 4 * k) = if first ≤ k ∧ k < first + n then c.word (2 + (k - first)) else s.rdWord (a + 4 * k)
  gen : bits (t.rdWord (a + 60)) 31 16 = bits (s.rdWord (a + 60)) 31 16
  crc : bits (t.rdWord (a + 60)) 15 0 = if first + n = 16 then bits (c.word (1 + n)) 15 0 else bits (s.rdWord (a + 60)) 15 0
  outside : ∀ b, b < a ∨ a + 64 ≤ b → t.rdByte b = s.rdByte b

theorem bits_lt (w : Word) (hi lo : Nat) : bits w hi lo < 2 ^ (hi + 1 - lo) := Nat.mod_lt _ (Nat.two_pow_pos _)

theorem wrWord_frame {s t : State} (h : t = { s with mem := t.mem }) (a : Nat) (w : Word) : t.wrWord a w = { s with mem := (t.wrWord a w).mem } :=
  (wrWord_mem t a w).trans (congrArg (fun u : State => { u with mem := (t.wrWord a w).mem }) h)

theorem ChanWritten.step {s t : State} {a first n : Nat} {c : Call} (h : ChanWritten s t a first c n) (hn : first + n < 16) :
    ChanWritten s (chanWriteWord a first c t n) a first c (n + 1) := by
  obtain ⟨hframe, hwords, hgen, hcrc, hout⟩ := h
  refine ⟨wrWord_frame hframe _ _, fun k hk => ?_, ?_, ?_, fun b hb => ?_⟩
  · by_cases hkn : k = first + n
    · rw [chanWriteWord, if_neg (by omega), hkn, rdWord_wrWord_self, if_pos (by omega), Nat.add_sub_cancel_left]
    · rw [chanWriteWord, rdWord_wrWord_ne _ _ _ _ (by omega), hwords k hk]
      exact if_congr (by omega) rfl rfl
  · by_cases h15 : first + n = 15
    · rw [chanWriteWord, h15, if_pos rfl, rdWord_wrWord_self, (bits_setHigh _ _ (bits_lt _ 31 16)).1, hgen]
    · rw [chanWriteWord, rdWord_wrWord_ne _ _ _ _ (by omega), hgen]
  · by_cases h15 : first + n = 15
    · rw [chanWriteWord, h15, if_pos rfl, rdWord_wrWord_self, (bits_setHigh _ _ (bits_lt _ 31 16)).2, if_pos (by omega), Nat.add_comm 1, Nat.add_comm 2]
    · rw [chanWriteWord, rdWord_wrWord_ne _ _ _ _ (by omega), hcrc, if_neg (by omega), if_neg (by omega)]
  · rw [chanWriteWord, rdByte_wrWord_ne _ _ _ _ (by omega), hout b hb]

/-- All the words of a CHAN_WRITE. -/
theorem chanWritten_fold (s : State) (a : Nat) {first : Nat} (c : Call) (hf : first < 16) : ∀ n, first + n ≤ 16 →
    ChanWritten s ((List.range n).foldl (chanWriteWord a first c) s) a first c n := by
  intro n
  induction n with
  | zero =>
    intro h
    exact ⟨rfl, fun k _ => by rw [if_neg (by omega)]; rfl, rfl, by rw [if_neg (by omega)]; rfl, fun _ _ => rfl⟩
  | succ n ih =>
    intro h
    rw [List.range_succ, List.foldl_append]
    exact (ih (by omega)).step (by omega)

/-- AUTO_CRC writes W15's CRC, and nothing else. -/
theorem ChanWritten.crcWord {s t : State} {a first n : Nat} {c : Call} (h : ChanWritten s t a first c n) {x : Nat} (hx : x < 65536) :
    let u := t.wrWord (a + 60) (setBits (t.rdWord (a + 60)) 15 0 x)
    u = { s with mem := u.mem } ∧ (∀ k < 15, u.rdWord (a + 4 * k) = t.rdWord (a + 4 * k)) ∧ bits (u.rdWord (a + 60)) 31 16 = bits (t.rdWord (a + 60)) 31 16 ∧
      bits (u.rdWord (a + 60)) 15 0 = x ∧ ∀ b, b < a ∨ a + 64 ≤ b → u.rdByte b = t.rdByte b := by
  obtain ⟨hgen, hcrc⟩ := bits_setLow (t.rdWord (a + 60)) x hx
  refine ⟨wrWord_frame h.frame _ _, fun k hk => rdWord_wrWord_ne _ _ _ _ (by omega), ?_, ?_, fun b hb => rdByte_wrWord_ne _ _ _ _ (by omega)⟩ <;>
    rw [rdWord_wrWord_self]
  · exact hgen
  · exact hcrc

theorem opOf_chanWrite : opOf 0x11 = some opChanWrite := rfl

/-- What the run of CHAN_WRITE leaves once its target may be written. -/
theorem run_chanWrite {s : State} {c : Call} (h4 : (s.chan (c.fld 0 7 0)).state ≠ 4) (hr : s.tableRefused (c.fld 0 7 0) = false) :
    opChanWrite.run s c =
      let n := c.fld 0 7 0
      let a := 0x20000000 + 64 * n
      let t := (List.range (c.fld 1 8 4)).foldl (chanWriteWord a (c.fld 1 3 0) c) (s.touchDesc n)
      (if bitAt (c.word 0) 8 then t.wrWord (a + 60) (setBits (t.rdWord (a + 60)) 15 0 (descCrc (t.tdesc n))) else t, 0, []) := by
  simp only [opChanWrite, h4, hr]
  rfl

/-- Settles O13: the words are an induction over their number (`chanWritten_fold`), with AUTO_CRC on top; the refusals are those of checks and run. -/
theorem chanWriteStoresDescriptorWords : Obligations.ChanWriteStoresDescriptorWords := by
  intro s c hr hlen h0 h192 h1 hcount hfit n first count a x
  have hl : opChanWrite.lenOk c.params.length c = true := by
    simp only [opChanWrite, hlen]
    simp
    omega
  have hv : ∀ u, opChanWrite.valid u c = true := fun u => by
    simp only [opChanWrite, h0, h192, h1, hcount, hfit]
    simp
    omega
  have hallow : opChanWrite.allow (admitted s 0x11 c) c = if x.state ≠ 4 && s.tableRefused n then stBusy else 0 := rfl
  refine ⟨fun h4 => ?_, fun h4 href => ?_, fun h4 href => ?_⟩
  · have ha : opChanWrite.allow (admitted s 0x11 c) c = 0 := by rw [hallow]; simp [x, h4]
    have hrun : opChanWrite.run (started s 0x11 c) c = (started s 0x11 c, stFenced, []) := if_pos h4
    exact hr.served opOf_chanWrite rfl (Nat.le_refl 1) rfl (lastChecks_pass hl (hv _) ha) hrun
  · have ha : opChanWrite.allow (admitted s 0x11 c) c = 0x15 := by rw [hallow]; simp [x, h4, href, stBusy]
    exact hr.refused opOf_chanWrite (Nat.le_refl 1) rfl ((lastChecks_allow hl (hv _)).trans ha) (by decide)
  · have ha : opChanWrite.allow (admitted s 0x11 c) c = 0 := by rw [hallow]; simp [href]
    have hrun := run_chanWrite (s := started s 0x11 c) h4 href
    have hexec := hr.served opOf_chanWrite rfl (Nat.le_refl 1) rfl (lastChecks_pass hl (hv _) ha) hrun
    have hw := chanWritten_fold ((started s 0x11 c).touchDesc n) a c (show first < 16 by omega) count hfit
    intro pin
    generalize (List.range count).foldl (chanWriteWord a first c) ((started s 0x11 c).touchDesc n) = t at hw hexec
    cases hauto : bitAt (c.word 0) 8 with
    | false =>
      rw [hauto, if_neg Bool.false_ne_true] at hexec
      refine ⟨t.mem, ?_⟩
      intro u
      have hu : u = t := hw.frame.symm
      rw [hu]
      exact ⟨hexec, hw.words, hw.gen, hw.crc, hw.outside⟩
    | true =>
      rw [hauto, if_pos rfl] at hexec
      obtain ⟨hframe, hwords, hgen, hcrc, hout⟩ := hw.crcWord (x := descCrc (t.tdesc n)) (BitVec.isLt _)
      refine ⟨(t.wrWord (a + 60) (setBits (t.rdWord (a + 60)) 15 0 (descCrc (t.tdesc n)))).mem, ?_⟩
      intro u
      have hu : u = t.wrWord (a + 60) (setBits (t.rdWord (a + 60)) 15 0 (descCrc (t.tdesc n))) := hframe.symm
      rw [hu]
      refine ⟨hexec, fun k hk => (hwords k hk).trans (hw.words k hk), hgen.trans hw.gen, ?_, fun b hb => (hout b hb).trans (hw.outside b hb)⟩
      rw [if_pos rfl, List.map_congr_left (fun k hk => hwords k (List.mem_range.mp hk)), hcrc]
      rfl

end Sys2Proof.Machine
end

section
/-! The identity, session and control opcodes (R54, R84 to R95). -/

namespace Sys2Proof.Machine

/-! ### Identity and sessions (R84 to R86, R95) -/

/-- Settles O1: each opcode takes no words; its run is read off its row. -/
theorem identityAndSessionOpcodesComplete : Obligations.IdentityAndSessionOpcodesComplete := by
  intro s c hp
  have hlen : (c.params.length == 0) = true := by rw [hp]; rfl
  refine ⟨fun hr => ?_, fun hr => ?_, fun hr hout => ?_, fun hr hout => sysSessionClose_closes hr hp hout, fun hr => ?_⟩
  · exact hr.served (d := opSysNop) rfl rfl (Nat.le_refl 0) rfl (lastChecks_pass hlen rfl rfl) rfl
  · exact hr.served (d := opSysIdent) rfl rfl (Nat.le_refl 0) rfl (lastChecks_pass hlen rfl rfl) rfl
  · have hallow : opSysSessionOpen.allow (admitted s 0x02 c) c = 0 := by
      have he := (admitted_host s 0x02 c).2.trans hout
      simp [opSysSessionOpen, he]
    exact hr.served (d := opSysSessionOpen) rfl rfl (Nat.le_refl 0) rfl (lastChecks_pass hlen rfl hallow) rfl
  · exact hr.served (d := opSysStatus) rfl rfl (Nat.le_refl 0) rfl (lastChecks_pass hlen rfl rfl) rfl

/-! ### Register access, sleep, floors, reset, commit and snapshot (R54, R87 to R94, R558) -/

/-- A parameter word below a power of two is its own low bits, and its other bits are 0. -/
theorem fld_split {c : Call} {i : Nat} (hi lo : Nat) (e : lo = hi + 1) (h : (c.word i).toNat < 2 ^ lo) :
    c.fld i 31 lo = 0 ∧ c.fld i hi 0 = (c.word i).toNat := ⟨bits_top h, bits_low (e ▸ h)⟩

/-- Settles O2: the parameter checks of each row, and its run. -/
theorem controlOpcodesComplete : Obligations.ControlOpcodesComplete := by
  intro s c
  refine ⟨fun hr hp h1 h62 => ?_, fun hr h3 h63 hp => ?_, fun hr hp => ?_, fun hr hp hw => ?_, fun hr hp hw => ?_, fun hr hp => ?_,
    fun hr hs hp hfree => ?_, fun hr hp => ?_⟩
  · obtain ⟨hhigh, hlow⟩ := fld_split (c := c) (i := 1) 5 6 rfl (by omega)
    have hlen : opRegRead.lenOk c.params.length c = true := by rw [hp]; rfl
    have hvalid : opRegRead.valid (admitted s 0x04 c) c = true := by simp [opRegRead, hhigh, hlow, h1, h62]
    have hrun : opRegRead.run (started s 0x04 c) c = (started s 0x04 c).regRead c.host (c.word 0).toNat (c.word 1).toNat := by
      rw [← hlow]; rfl
    exact hr.served (d := opRegRead) rfl rfl (Nat.le_refl 0) rfl (lastChecks_pass hlen hvalid rfl) hrun
  · obtain ⟨hhigh, hlow⟩ := fld_split (c := c) (i := 1) 5 6 rfl (by omega)
    have hlen : opRegWrite.lenOk c.params.length c = true := by
      simp [opRegWrite, hlow, ← hp]
      omega
    have hvalid : opRegWrite.valid (admitted s 0x05 c) c = true := by simp [opRegWrite, hhigh]
    exact hr.served (d := opRegWrite) rfl rfl (Nat.le_refl 0) rfl (lastChecks_pass hlen hvalid rfl) rfl
  · have hlen : opSetHostSleep.lenOk c.params.length c = true := by rw [hp]; rfl
    exact hr.served (d := opSetHostSleep) rfl rfl (Nat.le_refl 0) rfl (lastChecks_pass hlen rfl rfl) rfl
  · exact sysFloor_permits hr hp (by omega)
  · have hlen : opSysShutdown.lenOk c.params.length c = true := by rw [hp]; rfl
    have hvalid : opSysShutdown.valid (admitted s 0x08 c) c = true := beq_iff_eq.mpr (bits_top hw)
    exact hr.served (d := opSysShutdown) rfl rfl (Nat.le_refl 1) rfl (lastChecks_pass hlen hvalid rfl) rfl
  · have hlen : opSysReset.lenOk c.params.length c = true := by rw [hp]; rfl
    exact hr.served (d := opSysReset) rfl rfl (Nat.le_refl 1) rfl (lastChecks_pass hlen rfl rfl) rfl
  · have hlen : opCfgCommit.lenOk c.params.length c = true := by rw [hp]; rfl
    have hnone : s.check.commit.isSome = false := by rw [hfree]; rfl
    have hallow : opCfgCommit.allow (admitted s 0x0A c) c = 0 := if_neg (Bool.eq_false_iff.mp hnone)
    exact hr.accepted hs (d := opCfgCommit) rfl rfl (Nat.le_refl 1) rfl (lastChecks_pass hlen rfl hallow) (if_neg (Bool.eq_false_iff.mp hnone))
  · have hlen : opSnapshot.lenOk c.params.length c = true := by rw [hp]; rfl
    exact hr.served (d := opSnapshot) rfl rfl (Nat.le_refl 0) rfl (lastChecks_pass hlen rfl rfl) rfl

end Sys2Proof.Machine
end

section
/-! The channel, script and port opcodes (R102, R119, R126, R131 to R135, R159, R177 to R179, R465). -/

namespace Sys2Proof.Machine

/-! ### Commit and start (R119, R126, R134, R465) -/

theorem any_false {α : Type} {l : List α} {p : α → Bool} (h : ∀ x ∈ l, p x = false) : l.any p = false :=
  List.any_eq_false.mpr fun x hx => Bool.eq_false_iff.mp (h x hx)

/-- A mask that names a channel passes check 13. -/
theorem maskChans_valid {c : Call} (h : maskChans c ≠ []) : (!(maskChans c).isEmpty) = true := by
  simpa using h

/-- Check 14 of CHAN_COMMIT and CHAN_START passes where no named channel is locked. -/
theorem lockedMask_pass {s : State} {c : Call} (h : ∀ n ∈ maskChans c, s.locked n = false) : s.lockedMask c = 0 := by
  simp [State.lockedMask, any_false h]

/-- The channels whose descriptor a commit or start checks: a start checks those that do not run. -/
def State.toCheck (s : State) (c : Call) (start : Bool) : List Nat :=
  if start then (maskChans c).filter (fun n => !s.running n) else maskChans c

/-- The channels that a commit or start brings under the budget: a commit those that it takes out of OFF. -/
def State.toAdmit (s : State) (c : Call) (start : Bool) : List Nat :=
  if start then maskChans c else (maskChans c).filter (fun n => (s.tdesc n).enable && (s.chan n).state == 0)

/-- The descriptor of a channel that the budget is asked for. -/
def State.askedDesc (s : State) (n : Nat) : Desc := if s.running n then s.ad n else s.tdesc n

/-- What admission makes of a channel: held at OFF, or in ENFORCE a running one keeps its tier. -/
def State.admitAt (s u : State) (n : Nat) : State :=
  if s.admission n (s.askedDesc n) = 2 then u.modChan n (fun x => { x with tierNext := some (0, true) })
  else if s.running n && s.plnModeInForce = 2 then u.modChan n (fun x => { x with tierNext := none }) else u

/-- LAST_CHECK of the channels that passed. -/
def State.markPassed (u : State) (n : Nat) : State := u.modChan n (fun x => { x with lastCheck := 0 })

/-- A commit or start that finds every channel free, every check passed and the budget kept is ACCEPTED. -/
theorem commitChans_accepted {s : State} {c : Call} {op : Nat} {start : Bool}
    (hstate : ∀ n ∈ maskChans c, (s.chan n).state ≠ 4) (hlock : ∀ n ∈ maskChans c, s.locked n = false)
    (hcode : ∀ n ∈ s.toCheck c start, s.checkCode n (s.toCheck c start) start (s.poolTooFull (s.toCheck c start)) = 0)
    (hadm : ∀ n ∈ s.toAdmit c start, s.admission n (s.askedDesc n) ≠ 0) :
    s.commitChans c op start =
      let v := (s.toAdmit c start).foldl s.admitAt ((s.toCheck c start).foldl State.markPassed s)
      ({ v with jobs := v.jobs ++ [⟨c.host, op, c.tag, c.reply, maskChans c, false, (maskChans c).filter (fun n => start && s.running n), false⟩] }, stAccepted, []) := by
  unfold State.commitChans
  extract_lets l chk full named code s1 admitted adm s2
  have hnamed : named = chk := by simp only [named, chk]; cases start <;> rfl
  have hpass : ∀ n ∈ chk, code n = 0 := fun n hn => by simp only [code, hnamed]; exact hcode n hn
  have h4 : l.any (fun n => (s.chan n).state == 4) = false := any_false fun n hn => by simpa using hstate n hn
  have hl : l.any (fun n => s.locked n) = false := any_false hlock
  have hc : chk.any (fun n => decide (code n ≠ 0)) = false := any_false fun n hn => by simpa using hpass n hn
  have ha : admitted.any (fun n => adm n == 0) = false := any_false fun n hn => beq_eq_false_iff_ne.mpr (hadm n hn)
  have hs1 : s1 = (s.toCheck c start).foldl State.markPassed s := foldl_mem (fun u n hn => by rw [hpass n hn]; rfl) s
  rw [if_neg (Bool.eq_false_iff.mp h4), if_neg (Bool.eq_false_iff.mp hl), if_neg (Bool.eq_false_iff.mp hc), if_neg (Bool.eq_false_iff.mp ha)]
  simp only [s2, hs1]
  rfl

/-- A channel passes when its descriptor does, and it starts or commits nothing that the state pool cannot hold. -/
theorem checkCode_pass {s : State} {n : Nat} {named : List Nat} {start : Bool} (hd : s.checkDesc n named = 0) (he : start = true → (s.tdesc n).enable = true) :
    s.checkCode n named start false = 0 := by
  cases h : (s.tdesc n).enable with
  | true => simp [State.checkCode, hd, h]
  | false =>
    have hs : start = false := by
      cases start with
      | false => rfl
      | true => exact absurd (he rfl) (by simp [h])
    simp [State.checkCode, hd, h, hs]

theorem not_running_of_off {s : State} {n : Nat} (h : (s.chan n).state = 0) : s.running n = false := by simp [State.running, h]

/-- An OFF channel is asked for by its table descriptor, and only held or left. -/
theorem admitAt_off {s : State} {n : Nat} (h : (s.chan n).state = 0) (u : State) :
    s.admitAt u n = if s.admission n (s.tdesc n) = 2 then u.modChan n (fun x => { x with tierNext := some (0, true) }) else u := by
  simp [State.admitAt, State.askedDesc, not_running_of_off h]

theorem toCheck_commit (s : State) (c : Call) : s.toCheck c false = maskChans c := rfl

/-- Of a commit only the OFF channels that it enables ask for the budget. -/
theorem mem_toAdmit_commit {s : State} {c : Call} {n : Nat} (h : n ∈ s.toAdmit c false) :
    n ∈ maskChans c ∧ (s.tdesc n).enable = true ∧ (s.chan n).state = 0 := by
  obtain ⟨hmem, hcond⟩ := List.mem_filter.mp h
  obtain ⟨hen, hoff⟩ := (Bool.and_eq_true _ _).mp hcond
  exact ⟨hmem, hen, beq_iff_eq.mp hoff⟩

section
variable {s u : State} {c : Call} (hstate : ∀ n ∈ maskChans c, (u.chan n).state ≠ 4) (hlock : ∀ n ∈ maskChans c, u.locked n = false)
include hstate hlock

theorem run_chanCommit (hcheck : ∀ n ∈ maskChans c, u.checkDesc n (maskChans c) = 0) (hfull : u.poolTooFull (maskChans c) = false)
    (hadm : ∀ n ∈ maskChans c, (u.tdesc n).enable = true → (u.chan n).state = 0 → u.admission n (u.tdesc n) ≠ 0) :
    opChanCommit.run u c =
      let p := (maskChans c).foldl (fun w n => w.modChan n (fun x => { x with lastCheck := 0 })) u
      let v := ((maskChans c).filter (fun n => (u.tdesc n).enable && (u.chan n).state == 0)).foldl
        (fun w n => if u.admission n (u.tdesc n) = 2 then w.modChan n (fun x => { x with tierNext := some (0, true) }) else w) p
      ({ v with jobs := v.jobs ++ [⟨c.host, 0x12, c.tag, c.reply, maskChans c, false, [], false⟩] }, stAccepted, []) := by
  have hrun := commitChans_accepted (op := 0x12) (start := false) hstate hlock
    (fun n hn => by
      rw [toCheck_commit] at hn ⊢
      rw [hfull]
      exact checkCode_pass (hcheck n hn) (fun h => absurd h Bool.false_ne_true))
    (fun n hn => by
      obtain ⟨hmem, hen, hoff⟩ := mem_toAdmit_commit hn
      rw [State.askedDesc, not_running_of_off hoff, if_neg Bool.false_ne_true]
      exact hadm n hmem hen hoff)
  have hnone : (maskChans c).filter (fun n => false && u.running n) = [] := List.filter_false _
  rw [hnone, foldl_mem (l := u.toAdmit c false) (fun w n hn => admitAt_off (mem_toAdmit_commit hn).2.2 w)] at hrun
  exact hrun

theorem run_chanStart (hcheck : ∀ n ∈ (maskChans c).filter (fun n => !u.running n),
      u.checkDesc n ((maskChans c).filter (fun n => !u.running n)) = 0 ∧ (u.tdesc n).enable = true)
    (hadm : ∀ n ∈ maskChans c, u.admission n (if u.running n then u.ad n else u.tdesc n) ≠ 0)
    (hfull : u.poolTooFull ((maskChans c).filter (fun n => !u.running n)) = false) :
    opChanStart.run u c =
      let p := ((maskChans c).filter (fun n => !u.running n)).foldl (fun w n => w.modChan n (fun x => { x with lastCheck := 0 })) u
      let v := (maskChans c).foldl (fun w n => if u.admission n (if u.running n then u.ad n else u.tdesc n) = 2 then
          w.modChan n (fun x => { x with tierNext := some (0, true) })
        else if u.running n && u.plnModeInForce = 2 then w.modChan n (fun x => { x with tierNext := none }) else w) p
      ({ v with jobs := v.jobs ++ [⟨c.host, 0x13, c.tag, c.reply, maskChans c, false, (maskChans c).filter (fun n => u.running n), false⟩] }, stAccepted, []) :=
  commitChans_accepted (op := 0x13) (start := true) hstate hlock
    (fun n hn => by
      obtain ⟨hd, hen⟩ := hcheck n hn
      exact (congrArg _ hfull).trans (checkCode_pass hd (fun _ => hen)))
    hadm

end

/-! ### Stop (R126, R135) -/

theorem run_chanStop {u : State} {c : Call} (hstate : ∀ n ∈ maskChans c, (u.chan n).state ≠ 4) :
    opChanStop.run u c =
      let wait := (maskChans c).filter (fun n => u.running n && u.undelivered n)
      let v := ((maskChans c).filter (fun n => !wait.contains n)).foldl (fun w n => w.stopChan n) u
      ({ v with jobs := v.jobs ++ [⟨c.host, 0x14, c.tag, c.reply, wait, false, [], false⟩] }, stAccepted, []) := by
  have h4 : (maskChans c).any (fun n => (u.chan n).state == 4) = false := any_false fun n hn => by simpa using hstate n hn
  exact if_neg (Bool.eq_false_iff.mp h4)

/-- Settles O3: the reads and writes are their rows' runs; commit and start are `commitChans_accepted`. -/
theorem channelOpcodesComplete : Obligations.ChannelOpcodesComplete := by
  intro s c
  refine ⟨fun hr hp h0 h192 h1 hcount hfit => ?_, ?_, ?_, ?_, ?_, fun hr h2 h63 hfit => ?_, fun hr hp h1 h64 hfit => ?_, ?_⟩
  · have hlen : opChanRead.lenOk c.params.length c = true := by rw [hp]; rfl
    have hvalid : opChanRead.valid (admitted s 0x10 c) c = true := by
      simp [opChanRead, h0, h192, h1, hcount, hfit]
      omega
    have hrun : opChanRead.run (started s 0x10 c) c = (started s 0x10 c, 0, (List.range (c.fld 1 8 4)).map (fun k =>
        if bitAt (c.word 0) 8 then s.desc (c.fld 0 7 0) (c.fld 1 3 0 + k)
        else s.rdWord (0x20000000 + 64 * c.fld 0 7 0 + 4 * (c.fld 1 3 0 + k)))) := by
      simp only [opChanRead]
      cases bitAt (c.word 0) 8 <;> rfl
    exact hr.served (d := opChanRead) rfl rfl (Nat.le_refl 0) rfl (lastChecks_pass hlen hvalid rfl) hrun
  · intro hr hs hp u l hne hfree hfull hadm
    have hlen : opChanCommit.lenOk c.params.length c = true := by rw [hp]; rfl
    have hlock : ∀ n ∈ l, u.locked n = false := fun n hn => (hfree n hn).2.1
    have hallow : opChanCommit.allow (admitted s 0x12 c) c = 0 := lockedMask_pass (s := admitted s 0x12 c) hlock
    exact hr.accepted hs (d := opChanCommit) rfl rfl (Nat.le_refl 1) rfl (lastChecks_pass hlen (maskChans_valid hne) hallow)
      (run_chanCommit (fun n hn => (hfree n hn).1) hlock (fun n hn => (hfree n hn).2.2) hfull hadm)
  · intro hr hs hp u l new hne hfree fit hcheck hadm hfull
    have hlen : opChanStart.lenOk c.params.length c = true := by rw [hp]; rfl
    have hlock : ∀ n ∈ l, u.locked n = false := fun n hn => (hfree n hn).2
    have hallow : opChanStart.allow (admitted s 0x13 c) c = 0 := lockedMask_pass (s := admitted s 0x13 c) hlock
    exact hr.accepted hs (d := opChanStart) rfl rfl (Nat.le_refl 1) rfl (lastChecks_pass hlen (maskChans_valid hne) hallow)
      (run_chanStart (fun n hn => (hfree n hn).1) hlock hcheck hadm hfull)
  · intro hr hs hp u l wait hne hstate
    have hlen : opChanStop.lenOk c.params.length c = true := by rw [hp]; rfl
    exact hr.accepted hs (d := opChanStop) rfl rfl (Nat.le_refl 1) rfl (lastChecks_pass hlen (maskChans_valid hne) rfl) (run_chanStop hstate)
  · intro hr hp hw n x
    obtain ⟨hhigh, hlow⟩ := fld_split (c := c) (i := 0) 7 8 rfl (by omega)
    have hlen : opChanStatus.lenOk c.params.length c = true := by rw [hp]; rfl
    have hvalid : opChanStatus.valid (admitted s 0x15 c) c = true := by simp [opChanStatus, hhigh, hlow, hw]
    have hexec := hr.served (d := opChanStatus) rfl rfl (Nat.le_refl 0) rfl (lastChecks_pass hlen hvalid rfl) rfl
    simp only [hlow] at hexec
    exact hexec
  · obtain ⟨hhigh, hlow⟩ := fld_split (c := c) (i := 0) 11 12 rfl (by omega)
    have hlen : opScriptWrite.lenOk c.params.length c = true := by simp [opScriptWrite, h2, h63]
    have hvalid : opScriptWrite.valid (admitted s 0x16 c) c = true := by
      simp [opScriptWrite, hhigh, hlow]
      omega
    have hrun : opScriptWrite.run (started s 0x16 c) c = ((started s 0x16 c).wrWords (0x20010000 + 4 * (c.word 0).toNat) (c.params.drop 1), 0, []) := by
      rw [← hlow]; rfl
    exact hr.served (d := opScriptWrite) rfl rfl (Nat.le_refl 1) rfl (lastChecks_pass hlen hvalid rfl) hrun
  · obtain ⟨hhigh0, hlow0⟩ := fld_split (c := c) (i := 0) 11 12 rfl (by omega)
    obtain ⟨hhigh1, hlow1⟩ := fld_split (c := c) (i := 1) 5 6 rfl (by omega)
    have hlen : opScriptRead.lenOk c.params.length c = true := by rw [hp]; rfl
    have hvalid : opScriptRead.valid (admitted s 0x17 c) c = true := by simp [opScriptRead, hhigh0, hlow0, hhigh1, hlow1, h1, hfit]
    have hrun : opScriptRead.run (started s 0x17 c) c = (started s 0x17 c, 0,
        (List.range (c.word 1).toNat).map (fun k => s.rdWord (0x20010000 + 4 * (c.word 0).toNat + 4 * k))) := by
      rw [← hlow0, ← hlow1]; rfl
    exact hr.served (d := opScriptRead) rfl rfl (Nat.le_refl 0) rfl (lastChecks_pass hlen hvalid rfl) hrun
  · intro hr hp hw hf p x
    obtain ⟨hhigh, hlow⟩ := fld_split (c := c) (i := 0) 4 5 rfl (by omega)
    have hlen : opPortStatus.lenOk c.params.length c = true := by rw [hp]; rfl
    have hvalid : opPortStatus.valid (admitted s 0x18 c) c = true := by simp [opPortStatus, hhigh, hlow, hw]
    have hallow : opPortStatus.allow (admitted s 0x18 c) c = 0 := by
      simp only [opPortStatus, hlow]
      exact if_neg (Bool.eq_false_iff.mp hf)
    have hrun : opPortStatus.run (started s 0x18 c) c = (started s 0x18 c, 0,
        [w32 (s.portState p * 2 ^ 29 + (if s.portTarget p then 1 else 0) * 2 ^ 28 + x.lastFail * 2 ^ 24 + x.skipped), w32 x.transactions, w32 x.failed,
        w32 (if p < 12 then x.frames else x.recoveries * 2 ^ 16)]) := by
      simp only [opPortStatus, hlow, isSsp, decide_eq_true_eq]
      rfl
    exact hr.served (d := opPortStatus) rfl rfl (Nat.le_refl 0) rfl (lastChecks_pass hlen hvalid hallow) hrun

end Sys2Proof.Machine
end

section
/-! The opcodes of the Crystalliser and of Salter's services. -/
namespace Sys2Proof.Machine

theorem seedArm_len {c : Call} (hp : c.params.length = 3) : opSeedArm.lenOk c.params.length c = true := by rw [hp]; rfl

theorem seedArm_allow {s : State} {c : Call} (hoff : s.isFenced 8 7 = false) (hfree : ∀ n ∈ maskSeeds c, s.isFenced 2 n = false) :
    opSeedArm.allow (admitted s 0x52 c) c = 0 := by
  have hany : (maskSeeds c).any (fun n => (admitted s 0x52 c).isFenced 2 n) = false := any_false hfree
  have hcry : (admitted s 0x52 c).cryOff = false := hoff
  simp only [opSeedArm, hany, hcry]
  rfl

/-- Seeds that all pass their check are armed in turn. -/
theorem armSeeds_pass {s : State} {l : List Nat} (h : ∀ n ∈ l, s.seedCheck n l = 0) : s.armSeeds l = (l.foldl State.armSeed s, 0, []) := by
  have hbad : l.filter (fun n => s.seedCheck n l ≠ 0) = [] := List.filter_eq_nil_iff.mpr fun n hn => by simp [h n hn]
  simp only [State.armSeeds, hbad]
  rfl

theorem fld_seedCall (c : Call) (op hi lo : Nat) : (seedCall op c).fld 2 hi lo = bits (w32 op) hi lo := rfl

theorem fld_word_zero {c : Call} {i : Nat} (h : c.word i = 0) (hi lo : Nat) : c.fld i hi lo = 0 := by
  simp [Call.fld, bits, h]

theorem seedArm_valid {s : State} {c : Call} (hne : maskSeeds c ≠ []) (hhigh : c.fld 2 31 2 = 0) (hlow : c.fld 2 1 0 ≠ 3) :
    opSeedArm.valid s c = true := by
  simp [opSeedArm, hne, hhigh, hlow]

/-- Settles O4: each opcode by its row; an arm or reset by `armSeeds_pass`. -/
theorem seedAndServiceOpcodesComplete : Obligations.SeedAndServiceOpcodesComplete := by
  intro s c
  refine ⟨?_, fun hr hp h0 h1 hmin hmax hfit hoff => ?_, ?_, ?_, ?_, ?_, ?_, ?_⟩
  · intro hr h0 h0' h1 hmin hmax hfit hp n a hoff hfence harmed
    have hlen : opSeedWrite.lenOk c.params.length c = true := by simp [opSeedWrite, hp]; omega
    have hvalid : opSeedWrite.valid (admitted s 0x50 c) c = true := by simp [opSeedWrite, h0, h0', h1, hmin, hmax, hfit]
    have hallow : opSeedWrite.allow (admitted s 0x50 c) c = 0 := by
      have hcry : (admitted s 0x50 c).cryOff = false := hoff
      have hf : (admitted s 0x50 c).isFenced 2 (c.fld 0 5 0) = false := hfence
      have ha : ((admitted s 0x50 c).seed (c.fld 0 5 0)).armed = false := harmed
      simp only [opSeedWrite, hcry, hf, ha]
      rfl
    exact hr.served (d := opSeedWrite) rfl rfl (Nat.le_refl 1) rfl (lastChecks_pass hlen hvalid hallow) rfl
  · have hlen : opSeedRead.lenOk c.params.length c = true := by rw [hp]; rfl
    have hvalid : opSeedRead.valid (admitted s 0x51 c) c = true := by simp [opSeedRead, h0, h1, hmin, hmax, hfit]
    have hallow : opSeedRead.allow (admitted s 0x51 c) c = 0 := by
      have hcry : (admitted s 0x51 c).cryOff = false := hoff
      simp only [opSeedRead, hcry]
      rfl
    exact hr.served (d := opSeedRead) rfl rfl (Nat.le_refl 0) rfl (lastChecks_pass hlen hvalid hallow) rfl
  · intro hr hp h2 u hne hoff hfree
    have hop := fld_word_zero h2
    have hrun : opSeedArm.run u c = ((maskSeeds c).foldl State.armSeed u, 0, []) := by
      simp only [opSeedArm, hop]
      exact armSeeds_pass fun n hn => (hfree n hn).2
    exact hr.served (d := opSeedArm) rfl rfl (Nat.le_refl 1) rfl (lastChecks_pass (seedArm_len hp)
      (seedArm_valid hne (hop 31 2) (by rw [hop]; decide)) (seedArm_allow hoff fun n hn => (hfree n hn).1)) hrun
  · intro d hr hne hoff hfree u
    have hhigh : (seedCall 1 c).fld 2 31 2 = 0 := (fld_seedCall c 1 31 2).trans (by decide)
    have hlow : (seedCall 1 c).fld 2 1 0 = 1 := (fld_seedCall c 1 1 0).trans (by decide)
    have hrun : opSeedArm.run u d = (((maskSeeds d).filter (fun n => (u.seed n).armed)).foldl State.disarmSeed u, 0, []) := by
      simp only [opSeedArm, d, hlow]
      rfl
    exact hr.served (d := opSeedArm) rfl rfl (Nat.le_refl 1) rfl (lastChecks_pass (seedArm_len rfl)
      (seedArm_valid hne hhigh (by rw [hlow]; decide)) (seedArm_allow hoff hfree)) hrun
  · intro d hr hne hoff hfree u l hcheck
    have hhigh : (seedCall 2 c).fld 2 31 2 = 0 := (fld_seedCall c 2 31 2).trans (by decide)
    have hlow : (seedCall 2 c).fld 2 1 0 = 2 := (fld_seedCall c 2 1 0).trans (by decide)
    have hrun : opSeedArm.run u d = (l.foldl State.armSeed u, 0, []) := by
      simp only [opSeedArm, d, hlow]
      exact armSeeds_pass hcheck
    exact hr.served (d := opSeedArm) rfl rfl (Nat.le_refl 1) rfl (lastChecks_pass (seedArm_len rfl)
      (seedArm_valid hne hhigh (by rw [hlow]; decide)) (seedArm_allow hoff hfree)) hrun
  · intro hr h0 h1 hmin hmax hfit hp hoff u a hfree
    have hlen : opTplWrite.lenOk c.params.length c = true := by simp [opTplWrite, hp]; omega
    have hvalid : opTplWrite.valid (admitted s 0x53 c) c = true := by simp [opTplWrite, h0, h1, hmin, hmax, hfit]
    have hallow : opTplWrite.allow (admitted s 0x53 c) c = 0 := by
      have hcry : (admitted s 0x53 c).cryOff = false := hoff
      have hany : (List.range (4 * c.fld 1 5 0)).any (fun k => (admitted s 0x53 c).seedByteRefused (0x21000000 + 4 * c.fld 0 13 0 + k)) = false :=
        any_false fun k hk => hfree k (List.mem_range.mp hk)
      simp only [opTplWrite, hcry, hany]
      rfl
    exact hr.served (d := opTplWrite) rfl rfl (Nat.le_refl 1) rfl (lastChecks_pass hlen hvalid hallow) rfl
  · intro hr hp hvalid hoff hfence
    have hlen : opSvcConfig.lenOk c.params.length c = true := decide_eq_true hp
    have hallow : opSvcConfig.allow (admitted s 0x54 c) c = 0 := by
      have hcore : (admitted s 0x54 c).isFenced 8 2 = false := hoff
      have hf : (admitted s 0x54 c).svcFenced c.svcIdx = false := hfence
      simp only [opSvcConfig, hcore, hf]
      rfl
    exact hr.served (d := opSvcConfig) rfl rfl (Nat.le_refl 1) rfl (lastChecks_pass hlen hvalid hallow) rfl
  · intro hr hp h0 h0' hnamed hoff i x
    have hlen : opSvcStatus.lenOk c.params.length c = true := by rw [hp]; rfl
    have hvalid : opSvcStatus.valid (admitted s 0x55 c) c = true := by simp [opSvcStatus, h0, h0', hnamed]
    have hallow : opSvcStatus.allow (admitted s 0x55 c) c = 0 := by
      have hcore : (admitted s 0x55 c).isFenced 8 2 = false := hoff
      simp only [opSvcStatus, hcore]
      rfl
    have hexec := hr.served (d := opSvcStatus) rfl rfl (Nat.le_refl 0) rfl (lastChecks_pass hlen hvalid hallow) rfl
    have hon : b2n (i = 27 || bitAt (s.svcWord i 0) 31) = if i = 27 ∨ bitAt (s.svcWord i 0) 31 = true then 1 else 0 := by
      simp only [b2n, Bool.or_eq_true, decide_eq_true_eq]
    rw [← hon]
    exact hexec

end Sys2Proof.Machine
end

section
/-! The Pan opcodes. -/
namespace Sys2Proof.Machine

/-- The mark's state after PAN_MARK; ending the run of a log entry leaves the streams. -/
theorem stream_panMark (u : State) (n : Nat) (f : Stream → Stream) : ((u.modStream n f).logEnd 4 n 0x28).stream n = f (u.stream n) :=
  setStream_stream_self (s := u) (i := n) (f (u.stream n))

/-- A rewind puts RP at the mark; the watermark leaves RP alone. -/
theorem rp_panRewind (u : State) (n : Nat) (x : Stream) : (((u.setStream n x).wmCheck n).stream n).rp = x.rp := by
  rw [wmCheck_rp, setStream_stream_self]

theorem run_panMark_set {u : State} {c : Call} (h : bitAt (c.word 0) 8 = false) :
    opPanMark.run u c =
      ((u.modStream (c.fld 0 4 0) (fun x => { x with markValid := true, mark := x.rp, markLost := false })).logEnd 4 (c.fld 0 4 0) 0x28, 0,
        [w32 (2 ^ 31 + (u.stream (c.fld 0 4 0)).rp), w32 (u.stream (c.fld 0 4 0)).wp]) := by
  simp only [opPanMark, stream_panMark, h, b2n, Bool.not_false, Bool.false_eq_true, if_true, if_false, Nat.one_mul]

theorem run_panMark_clear {u : State} {c : Call} (h : bitAt (c.word 0) 8 = true) :
    opPanMark.run u c =
      ((u.modStream (c.fld 0 4 0) (fun x => { x with markValid := false, markLost := false })).logEnd 4 (c.fld 0 4 0) 0x28, 0,
        [w32 (u.stream (c.fld 0 4 0)).mark, w32 (u.stream (c.fld 0 4 0)).wp]) := by
  simp only [opPanMark, stream_panMark, h, b2n, Bool.not_true, Bool.false_eq_true, if_true, if_false, Nat.zero_mul, Nat.zero_add]

theorem run_harvest {u : State} {c : Call} {got : List Word × Nat}
    (h : u.harvest (u.app .panCfg (c.fld 0 4 0)) (u.stream (c.fld 0 4 0)).wp 62 (c.fld 2 5 0) (u.harvestStart c) = got) :
    opHarvest.run u c =
      let n := c.fld 0 4 0
      let x := u.stream n
      let r := ringSize (u.app .panCfg n)
      (if bitAt (c.word 0) 8 && decide (ringDist r x.keep x.rp < ringDist r x.keep got.2) then u.advanceRp n got.2 else u, 0,
        w32 (got.1.length * 2 ^ 26 + got.2) :: got.1) := by
  simp only [opHarvest, h]

theorem run_panRewind_set {u : State} {c : Call} (h : (u.stream (c.fld 0 4 0)).markValid = true) :
    opPanRewind.run u c = ((u.setStream (c.fld 0 4 0) { u.stream (c.fld 0 4 0) with rp := (u.stream (c.fld 0 4 0)).mark }).wmCheck (c.fld 0 4 0), 0,
      [w32 (u.stream (c.fld 0 4 0)).mark]) := by
  simp only [opPanRewind, h, if_true, rp_panRewind]
  simp [b2n]

theorem run_panRewind_clear {u : State} {c : Call} (h : (u.stream (c.fld 0 4 0)).markValid = false) :
    opPanRewind.run u c = (u, 0, [w32 (2 ^ 31 + (u.stream (c.fld 0 4 0)).rp)]) := by
  simp [opPanRewind, h, b2n]

theorem run_panFlush_stream {u : State} {c : Call} {n : Nat} (hlow : c.fld 0 5 0 = n) (hn : n < 32) :
    opPanFlush.run u c =
      let v := (u.flushItems (fun i => i.stream == n)).1
      let w := if v.streamOn n then (v.discardAll n).advanceRp n (v.stream n).wp else v
      (w.modStream n (fun x => { x with markValid := false }), 0, [w32 (u.flushItems (fun i => i.stream == n)).2]) := by
  have hne : n ≠ 32 := Nat.ne_of_lt hn
  simp only [opPanFlush, hlow, if_neg hne]

/-- Settles O5: each opcode by its row, its stream's number being the low field of word 0. -/
theorem panOpcodesComplete : Obligations.PanOpcodesComplete := by
  intro s c hoff
  refine ⟨?_, ?_, ?_, ?_, ?_, ?_⟩
  · intro hr hp hn hmid hwm h3 n u hfence hcfg
    obtain ⟨hhigh, hlow⟩ := fld_split (c := c) (i := 0) 4 5 rfl (by omega)
    obtain ⟨hwhigh, hwlow⟩ := fld_split (c := c) (i := 2) 9 10 rfl (by omega)
    have hlen : opPanStreamCfg.lenOk c.params.length c = true := by rw [hp]; rfl
    have hok : (admitted s 0x20 c).panCfgOk (c.fld 0 4 0) (c.word 1) = true := by rw [hlow]; exact hcfg
    have hvalid : opPanStreamCfg.valid (admitted s 0x20 c) c = true := by simp [opPanStreamCfg, hhigh, hmid, hwhigh, hwlow, hwm, h3, hok]
    have hallow : opPanStreamCfg.allow (admitted s 0x20 c) c = 0 := by
      simp only [opPanStreamCfg, hlow]
      exact panAllow_ok hoff hfence (fun h => absurd h Bool.false_ne_true)
    have hexec := hr.served (d := opPanStreamCfg) rfl rfl (Nat.le_refl 1) rfl (lastChecks_pass hlen hvalid hallow) rfl
    simp only [hlow] at hexec
    exact hexec
  · intro hr hp h0 h0' h1 h1' hmin hmax n u x cfg r start hfence hon hstart
    obtain ⟨hhigh, hlow⟩ := fld_split (c := c) (i := 2) 5 6 rfl (by omega)
    have hlen : opHarvest.lenOk c.params.length c = true := by rw [hp]; rfl
    have hvalid : opHarvest.valid (admitted s 0x21 c) c = true := by
      simp only [opHarvest, h0, h0', h1, hhigh, hlow]
      cases hb : bitAt (c.word 1) 31 <;> simp [hmin, hmax, h1' , hb]
    have hallow : opHarvest.allow (admitted s 0x21 c) c = 0 := by
      have hpan : (admitted s 0x21 c).panAllow (c.fld 0 4 0) true = 0 := panAllow_ok hoff hfence (fun _ => hon)
      simp only [opHarvest, hpan, ne_eq, not_true_eq_false, if_false]
      rw [recStarts_mem (s := admitted s 0x21 c) (t := u) rfl]
      exact if_pos hstart
    exact hr.served (d := opHarvest) rfl rfl (Nat.le_refl 0) rfl (lastChecks_pass hlen hvalid hallow) (run_harvest (by rw [hlow]; rfl))
  · intro hr hp h0 h0' n x hfence hon
    have hlen : opPanMark.lenOk c.params.length c = true := by rw [hp]; rfl
    have hvalid : opPanMark.valid (admitted s 0x22 c) c = true := by simp [opPanMark, h0, h0']
    have hallow : opPanMark.allow (admitted s 0x22 c) c = 0 := panAllow_ok (s := admitted s 0x22 c) hoff hfence (fun _ => hon)
    have hexec {v st ws} := hr.served (u := v) (st := st) (ws := ws) (d := opPanMark) rfl rfl (Nat.le_refl 0) rfl (lastChecks_pass hlen hvalid hallow)
    exact ⟨fun h => hexec (run_panMark_set h), fun h => hexec (run_panMark_clear h)⟩
  · intro hr hp hw n x hfence hon
    obtain ⟨hhigh, hlow⟩ := fld_split (c := c) (i := 0) 4 5 rfl (by omega)
    have hlen : opPanRewind.lenOk c.params.length c = true := by rw [hp]; rfl
    have hvalid : opPanRewind.valid (admitted s 0x23 c) c = true := by simp [opPanRewind, hhigh]
    have hallow : opPanRewind.allow (admitted s 0x23 c) c = 0 := by
      simp only [opPanRewind, hlow]
      exact panAllow_ok hoff hfence (fun _ => hon)
    have hexec {v st ws} := hr.served (u := v) (st := st) (ws := ws) (d := opPanRewind) rfl rfl (Nat.le_refl 0) rfl (lastChecks_pass hlen hvalid hallow)
    refine ⟨fun hm => ?_, fun hm => ?_⟩
    · have hrun := hexec (run_panRewind_set (by rw [hlow]; exact hm))
      simp only [hlow] at hrun
      exact hrun
    · have hrun := hexec (run_panRewind_clear (by rw [hlow]; exact hm))
      simp only [hlow] at hrun
      exact hrun
  · intro hr hp n u
    have hlen : opPanFlush.lenOk c.params.length c = true := by rw [hp]; rfl
    refine ⟨fun hn => ?_, fun hn hfence => ?_⟩
    · obtain ⟨hhigh, hlow⟩ := fld_split (c := c) (i := 0) 5 6 rfl (by omega)
      have hn' : (c.word 0).toNat = 32 := hn
      have hvalid : opPanFlush.valid (admitted s 0x24 c) c = true := by simp [opPanFlush, hhigh, hlow, hn']
      have hallow : opPanFlush.allow (admitted s 0x24 c) c = 0 := by
        have hcore : (admitted s 0x24 c).isFenced 8 8 = false := hoff
        simp only [opPanFlush, hlow, hn', hcore]
        rfl
      have hrun : opPanFlush.run u c = ((u.flushItems (fun _ => true)).1, 0, [w32 (u.flushItems (fun _ => true)).2]) := by
        simp only [opPanFlush, hlow, hn', if_true]
      have hall : (u.flushItems (fun _ => true)).2 = (s.pan.fifo.map PanItem.size).sum := by
        simp only [State.flushItems, List.filter_true]
        rfl
      rw [hall] at hrun
      exact hr.served (d := opPanFlush) rfl rfl (Nat.le_refl 1) rfl (lastChecks_pass hlen hvalid hallow) hrun
    · obtain ⟨hhigh, hlow⟩ := fld_split (c := c) (i := 0) 5 6 rfl (by omega)
      have hvalid : opPanFlush.valid (admitted s 0x24 c) c = true := by simp [opPanFlush, hhigh, hlow]; omega
      have hallow : opPanFlush.allow (admitted s 0x24 c) c = 0 := by
        have hcore : (admitted s 0x24 c).isFenced 8 8 = false := hoff
        have hf : (admitted s 0x24 c).isFenced 4 (c.word 0).toNat = false := hfence
        simp [opPanFlush, hlow, hcore, hf, firstStatus]
      exact hr.served (d := opPanFlush) rfl rfl (Nat.le_refl 1) rfl (lastChecks_pass hlen hvalid hallow) (run_panFlush_stream hlow hn)
  · intro hr hp hw n x cfg hfence
    obtain ⟨hhigh, hlow⟩ := fld_split (c := c) (i := 0) 4 5 rfl (by omega)
    have hlen : opPanStatus.lenOk c.params.length c = true := by rw [hp]; rfl
    have hvalid : opPanStatus.valid (admitted s 0x25 c) c = true := by simp [opPanStatus, hhigh]
    have hallow : opPanStatus.allow (admitted s 0x25 c) c = 0 := by
      simp only [opPanStatus, hlow]
      exact panAllow_ok hoff hfence (fun h => absurd h Bool.false_ne_true)
    have hexec := hr.served (d := opPanStatus) rfl rfl (Nat.le_refl 0) rfl (lastChecks_pass hlen hvalid hallow) rfl
    simp only [hlow] at hexec
    exact hexec

end Sys2Proof.Machine
end

section
/-! The timebase opcodes. -/
namespace Sys2Proof.Machine

/-! ### Reading a timebase (R366, R369) -/

theorem pairOf_words (lo hi : Word) : pairOf (lo.toNat + 2 ^ 32 * hi.toNat) = [lo, hi] := by
  have hlo : w32 (lo.toNat + 2 ^ 32 * hi.toNat) = lo := by rw [w32]; bv_omega
  have hhi : w32 ((lo.toNat + 2 ^ 32 * hi.toNat) / 2 ^ 32) = hi := by rw [w32]; bv_omega
  rw [pairOf, hlo, hhi]

theorem tbRead_latched {u : State} (k : Nat) (h : (u.edgePush 80).2 = true) : u.tbRead k = ((u.edgePush 80).1, u.tbNow k) := by
  rw [State.tbRead]
  exact if_pos h

/-- A read whose grant the latch discards uses two free values. -/
theorem tbRead_free {u : State} (k : Nat) (h : (u.edgePush 80).2 = false) :
    u.tbRead k = ({ (u.edgePush 80).1 with free := (u.edgePush 80).1.free + 2 },
      (Config.freeValue (u.edgePush 80).1.free).toNat + 2 ^ 32 * (Config.freeValue ((u.edgePush 80).1.free + 1)).toNat) := by
  rw [State.tbRead]
  exact if_neg (Bool.eq_false_iff.mp h)

theorem run_tbRead {u v : State} {c : Call} {k n : Nat} (hk : c.fld 0 1 0 = k) (h : u.tbRead k = (v, n)) :
    opTbRead.run u c = (v, 0, pairOf n ++ [if k = 0 then w32 (2 ^ 21) else
      w32 ((u.tb k).epoch * 2 ^ 24 + (u.tb k).state * 2 ^ 21 + b2n (u.tb k).locked * 2 ^ 20)]) := by
  simp only [opTbRead, hk, h]

/-! ### Setting and stepping (R354, R367, R368) -/

theorem run_tbSet_value {u : State} {c : Call} (h : bitAt (c.word 0) 8 = false) :
    opTbSet.run u c = (u.tbFirst (c.fld 0 1 0) (c.pair 1 * 2 ^ 32 : Nat), 0, []) := by
  simp only [opTbSet, h, Bool.false_eq_true, if_false]

theorem run_tbSet_offset {u : State} {c : Call} (h : bitAt (c.word 0) 8 = true) :
    opTbSet.run u c = (u.applyTimeCfg.measure (c.fld 0 1 0) (signedOf 64 (c.pair 1) * 2 ^ 32) false, 0, []) := by
  simp only [opTbSet, h, if_true]

/-- The state after a RESTEP by `d` units. -/
def State.restepped (u : State) (k : Nat) (d : Int) : State :=
  (((u.lockOff k).modTb k (fun t => { t with freq := ⟨t.r, 0⟩ })).tbEnter k 3).tbStep k d

theorem run_tbRestep {u : State} {c : Call} {d : Int}
    (hd : (if bitAt (c.word 0) 8 then (c.pair 1 * 2 ^ 32 : Nat) - u.tbFine (c.fld 0 1 0) else -(u.tb (c.fld 0 1 0)).offs) = d) :
    opTbRestep.run u c = (u.restepped (c.fld 0 1 0) d, 0, [w32 ((u.restepped (c.fld 0 1 0) d).tb (c.fld 0 1 0)).epoch]) := by
  simp only [opTbRestep, hd]
  rfl

theorem allow_tbRestep_value {u : State} {c : Call} (hb : bitAt (c.word 0) 8 = true) (hst : (u.tb (c.fld 0 1 0)).state ≠ 0) : opTbRestep.allow u c = 0 := by
  simp [opTbRestep, firstStatus, hb, hst]

theorem allow_tbRestep_offset {u : State} {c : Call} {a : Nat} (hst : (u.tb (c.fld 0 1 0)).state ≠ 0) (hf : u.svcFenced 26 = false)
    (hm : (u.tb (c.fld 0 1 0)).measAt = some a) (ha : u.tb0u - a < u.lossUnits (c.fld 0 1 0)) : opTbRestep.allow u c = 0 := by
  simp [opTbRestep, firstStatus, hst, hf, hm, ha]

/-! ### Assigning a source (R351, R365, R371) -/

/-- SOURCE as TB_ASSIGN's word gives it. -/
theorem source_assignWord (c : Call) : bits (assignWord c) 31 30 = c.fld 0 9 8 := by
  have hsrc : c.fld 0 9 8 < 4 := bits_lt _ 9 8
  have hrest : c.fld 1 29 0 < 2 ^ 30 := bits_lt _ 29 0
  rw [assignWord, bits, w32_toNat (by omega)]
  omega

theorem afld_setApp_same (u : State) (r : Reg) (n : Nat) (w : Word) (hi lo : Nat) : (u.setApp r n w).afld r n hi lo = bits w hi lo :=
  congrArg (fun v => bits v hi lo) (Tab.get_set_self _ _ _)

theorem tbSource_assigned (u : State) (c : Call) (n : Nat) : (u.setApp .tbCtl n (assignWord c)).tbSource n = c.fld 0 9 8 :=
  (afld_setApp_same u .tbCtl n (assignWord c) 31 30).trans (source_assignWord c)

theorem run_tbAssign (u : State) (c : Call) :
    opTbAssign.run u c =
      let n := c.fld 0 1 0
      let v := ((u.setReg .tbCtl n (assignWord c)).modUnit 244 (fun x => { x with dirty := true })).setApp .tbCtl n (assignWord c)
      (if (u.tb n).state = 0 then v else if c.fld 0 9 8 = 0 then v.tbEnter n 1
        else if (u.tb n).state = 1 ∧ c.fld 0 9 8 ≠ u.tbSource n then v.tbEnter n 4 else v, 0, []) := by
  simp only [opTbAssign, State.tbAssigned, tbSource_assigned, Bool.and_eq_true, decide_eq_true_eq]
  rfl

/-- Settles O6: the four rows by their runs. -/
theorem timebaseOpcodesComplete : Obligations.TimebaseOpcodesComplete := by
  intro s c
  refine ⟨?_, ?_, ?_, ?_⟩
  · intro hr hp hw k u t last
    obtain ⟨hhigh, hlow⟩ := fld_split (c := c) (i := 0) 1 2 rfl (by omega)
    have hlen : opTbRead.lenOk c.params.length c = true := by rw [hp]; rfl
    have hvalid : opTbRead.valid (admitted s 0x30 c) c = true := by simp [opTbRead, hhigh]
    have hexec {v st ws} := hr.served (u := v) (st := st) (ws := ws) (d := opTbRead) rfl rfl (Nat.le_refl 0) rfl (lastChecks_pass hlen hvalid rfl)
    refine ⟨fun h => hexec (run_tbRead hlow (tbRead_latched k h)), fun h => ?_⟩
    have hrun := hexec (run_tbRead hlow (tbRead_free k h))
    rw [pairOf_words] at hrun
    exact hrun
  · intro hr hp h0 h0' k u hk
    have hlen : opTbSet.lenOk c.params.length c = true := by rw [hp]; rfl
    have hvalid : opTbSet.valid (admitted s 0x31 c) c = true := by
      have hk' : c.fld 0 1 0 ≠ 0 := hk
      simp [opTbSet, h0, h0', hk']
    have hexec {v st ws} (ha) := hr.served (u := v) (st := st) (ws := ws) (d := opTbSet) rfl rfl (Nat.le_refl 1) rfl (lastChecks_pass hlen hvalid ha)
    refine ⟨fun hb hst => hexec ?_ (run_tbSet_value hb), fun hb hf hsrc => hexec ?_ (run_tbSet_offset hb)⟩
    · have hst' : ((admitted s 0x31 c).tb (c.fld 0 1 0)).state = 0 := hst
      simp [opTbSet, hb, hst']
    · have hf' : (admitted s 0x31 c).svcFenced 26 = false := hf
      have hsrc' : (admitted s 0x31 c).tbSource (c.fld 0 1 0) = 3 ∨ (admitted s 0x31 c).isGm (c.fld 0 1 0) = true := hsrc
      obtain h | h := hsrc' <;> simp [opTbSet, hb, hf', firstStatus, h]
  · intro hr hp h0 h0' k u stepped hk hst
    have hlen : opTbRestep.lenOk c.params.length c = true := by rw [hp]; rfl
    have hexec {v st ws} (hv) (ha) := hr.served (u := v) (st := st) (ws := ws) (d := opTbRestep) rfl rfl (Nat.le_refl 1) rfl (lastChecks_pass hlen hv ha)
    have hk' : c.fld 0 1 0 ≠ 0 := hk
    refine ⟨fun hb => hexec ?_ ?_ (run_tbRestep (by rw [if_pos hb])), fun hb hzero hf ⟨a, hm, ha⟩ => hexec ?_ ?_ (run_tbRestep (by rw [if_neg (Bool.eq_false_iff.mp hb)]; rfl))⟩
    · simp [opTbRestep, h0, h0', hk', hb]
    · exact allow_tbRestep_value hb hst
    · simp [opTbRestep, h0, h0', hk', hzero]
    · exact allow_tbRestep_offset hst hf hm ha
  · intro hr hp h0 h0' h1 n w hn hctl v
    have hlen : opTbAssign.lenOk c.params.length c = true := by rw [hp]; rfl
    have hvalid : opTbAssign.valid (admitted s 0x33 c) c = true := by
      have hn' : c.fld 0 1 0 ≠ 0 := hn
      have hctl' : (admitted s 0x33 c).tbCtlOk (c.fld 0 1 0) (assignWord c) = true := hctl
      simp [opTbAssign, h0, h0', h1, hn', hctl']
    exact hr.served (d := opTbAssign) rfl rfl (Nat.le_refl 1) rfl (lastChecks_pass hlen hvalid rfl) (run_tbAssign _ c)

end Sys2Proof.Machine
end

section
/-! The launch, timer and calendar opcodes. -/
namespace Sys2Proof.Machine

/-! ### Launches (R372, R375, R376, R390) -/

theorem run_lnWrite {u : State} {c : Call} (h : u.launchLate (launchOf c) = false ∨ (launchOf c).late ≠ 3) :
    opLnWrite.run u c = ((u.setLaunch (c.fld 0 6 0) (launchOf c)).lateHandle (c.fld 0 6 0), 0, []) := by
  have hlate : ¬((u.launchLate (launchOf c) && (launchOf c).late = 3) = true) := by
    obtain h | h := h <;> simp [h]
  exact if_neg hlate

theorem allow_lnWrite {u : State} {c : Call} (hoff : u.isFenced 8 11 = false) (hold : u.pwr.reserveHold = false) (hset : u.tbSet (c.fld 0 9 8) = true)
    (hstale : u.slt.stale = false ∨ u.saltTb ≠ some (c.fld 0 9 8)) (h : u.launchLate (launchOf c) = false ∨ (launchOf c).late ≠ 3) :
    opLnWrite.allow u c = 0 := by
  have hstale' : (u.slt.stale && u.saltTb == some (c.fld 0 9 8)) = false := by
    obtain h | h := hstale <;> simp [h]
  have hlate : (u.launchLate (launchOf c) && (launchOf c).late == 3) = false := by
    obtain h | h := h <;> simp [h]
  simp only [opLnWrite, hoff, hold, hset, hstale', hlate]
  rfl

/-! ### The calendar (R501 to R506) -/

theorem run_calSet_keep {u : State} {c : Call} (h : bitAt (c.word 1) 25 = true) :
    opCalSet.run u c =
      let v := u.modCal (fun x => { x with offset := signedOf 8 (c.fld 1 15 8), shift := c.fld 1 7 0, dstStart := c.word 2, dstEnd := c.word 3 })
      (if u.cal.valid then v.calDst else v, 0, []) := by
  simp only [opCalSet, h, if_true]
  rfl

theorem run_calSet_date {u : State} {c : Call} (h : bitAt (c.word 1) 25 = false) :
    opCalSet.run u c =
      let t := secondsOf (c.word 0) (c.fld 1 31 26)
      let v := (u.modCal (fun x => { x with offset := signedOf 8 (c.fld 1 15 8), shift := c.fld 1 7 0, dstStart := c.word 2, dstEnd := c.word 3 })).modCal
        (fun x => { x with valid := true, utc := t, inLeap := false, mark := u.tick })
      (if u.cal.valid then v.calMoved u.cal.utc else { v with cal := { v.cal with dst := v.cal.summer t } }, 0, []) := by
  simp only [opCalSet, h, Bool.false_eq_true, if_false]

/-- Settles O7: the five rows by their runs. -/
theorem launchTimerAndCalendarOpcodesComplete : Obligations.LaunchTimerAndCalendarOpcodesComplete := by
  refine ⟨fun s c hoff => ⟨?_, ?_, ?_⟩, fun s c hp hoff => ⟨?_, ?_⟩⟩
  · intro hr hp hwords hold hset hstale u period policy l hlate
    have hlen : opLnWrite.lenOk c.params.length c = true := by rw [hp]; rfl
    have hallow : opLnWrite.allow (admitted s 0x34 c) c = 0 := allow_lnWrite hoff hold hset hstale hlate
    exact hr.served (d := opLnWrite) rfl rfl (Nat.le_refl 1) rfl (lastChecks_pass hlen hwords hallow) (run_lnWrite hlate)
  · intro hr hp hw n
    obtain ⟨hhigh, hlow⟩ := fld_split (c := c) (i := 0) 6 7 rfl (by omega)
    have hlen : opLnCancel.lenOk c.params.length c = true := by rw [hp]; rfl
    have hvalid : opLnCancel.valid (admitted s 0x35 c) c = true := by simp [opLnCancel, hhigh]
    have hallow : opLnCancel.allow (admitted s 0x35 c) c = 0 := if_neg (Bool.eq_false_iff.mp hoff)
    have hexec := hr.served (d := opLnCancel) rfl rfl (Nat.le_refl 1) rfl (lastChecks_pass hlen hvalid hallow) rfl
    simp only [hlow] at hexec
    exact hexec
  · intro hr hp h0 h0' h1 h1' h1'' h2 hmatch n u
    have hlen : opTmWrite.lenOk c.params.length c = true := by rw [hp]; rfl
    have hvalid : opTmWrite.valid (admitted s 0x36 c) c = true := by
      have hm : (!bitAt (c.word 1) 17 || decide ((c.word 3).toNat < (c.word 2).toNat)) = true := by
        cases hb : bitAt (c.word 1) 17 with
        | false => rfl
        | true => exact decide_eq_true (hmatch hb)
      simp only [opTmWrite, h0, h0', h1, h1', h1'', hm, decide_eq_true h2]
      rfl
    have hallow : opTmWrite.allow (admitted s 0x36 c) c = 0 := if_neg (Bool.eq_false_iff.mp hoff)
    exact hr.served (d := opTmWrite) rfl rfl (Nat.le_refl 1) rfl (lastChecks_pass hlen hvalid hallow) rfl
  · intro hr h1 hlo hhi hshift hstart hend u
    have hlen : opCalSet.lenOk c.params.length c = true := by rw [hp]; rfl
    have hvalid (hd : (bitAt (c.word 1) 25 || dateOk (c.word 0) (c.fld 1 31 26)) = true) : opCalSet.valid (admitted s 0x37 c) c = true := by
      simp only [opCalSet, h1, hd, decide_eq_true hlo, decide_eq_true hhi, decide_eq_true hshift, hstart, hend]
      rfl
    have hallow (hd : ((admitted s 0x37 c).calSource ≠ 0 && !bitAt (c.word 1) 25) = false) : opCalSet.allow (admitted s 0x37 c) c = 0 := by
      have hcore : (admitted s 0x37 c).isFenced 8 2 = false := hoff
      simp only [opCalSet, hcore, hd]
      rfl
    refine ⟨fun hkeep => ?_, fun hkeep hdate hsrc => ?_⟩
    · exact hr.served (d := opCalSet) rfl rfl (Nat.le_refl 1) rfl
        (lastChecks_pass hlen (hvalid (by rw [hkeep, Bool.true_or])) (hallow (by rw [hkeep, Bool.not_true, Bool.and_false]))) (run_calSet_keep hkeep)
    · have hsrc' : (admitted s 0x37 c).calSource = 0 := hsrc
      exact hr.served (d := opCalSet) rfl rfl (Nat.le_refl 1) rfl
        (lastChecks_pass hlen (hvalid (by rw [hdate, Bool.or_true])) (hallow (by simp [hsrc']))) (run_calSet_date hkeep)
  · intro hr hvalid
    have hlen : opCalAlarm.lenOk c.params.length c = true := by rw [hp]; rfl
    have hallow : opCalAlarm.allow (admitted s 0x38 c) c = 0 := if_neg (Bool.eq_false_iff.mp hoff)
    exact hr.served (d := opCalAlarm) rfl rfl (Nat.le_refl 1) rfl (lastChecks_pass hlen hvalid hallow) rfl

end Sys2Proof.Machine
end

section
/-! The planner and ledger opcodes. -/
namespace Sys2Proof.Machine

theorem run_plnBudget {u : State} {c : Call} (h : c.pair 2 < 2 ^ 48) :
    opPlnBudget.run u c = (((((u.setReg64 .plnBudget 0 (c.pair 0)).setReg64 .plnReserve 0 (c.pair 2)).reserveWatch).afterPlanWrite), 0, []) := by
  simp only [opPlnBudget, State.plnReserveWrite, Nat.mod_eq_of_lt h]

/-- The report's first part: the state of the planner and its sums. -/
theorem run_plnReport_sums {u : State} {c : Call} (h : c.fld 0 15 14 = 0) :
    opPlnReport.run u c =
      let p := u.pln
      let spent := u.spent.floor.toNat % 2 ^ 48
      (u, 0, [w32 (u.plnModeInForce * 2 ^ 30 + b2n u.pwr.reserveHold * 2 ^ 29 + b2n p.isOver * 2 ^ 28 + b2n p.emergency * 2 ^ 27 +
          b2n p.overload * 2 ^ 26 + p.seq % 65536), w32 (satRat 32 p.pa), w32 (satRat 32 p.p), w32 (satRat 32 p.perSec), w32 spent, w32 (spent / 2 ^ 32),
        w32 (u.windowRest * 1000).floor.toNat, w32 p.rails, w32 p.util]) := by
  simp only [opPlnReport, h, if_true, pairOf, List.cons_append, List.nil_append]

/-- The report's second part: the plan of each channel. -/
theorem run_plnReport_chans {u : State} {c : Call} (h : c.fld 0 15 14 = 1) :
    opPlnReport.run u c = (u, 0, (List.range (c.fld 0 13 8)).map (fun k =>
      let n := c.fld 0 7 0 + k
      let use := if u.enabledChan n then u.planCode n (u.tierInUse n) else 7
      let plan := if u.enabledChan n then (if u.pln.planned.any (fun q => q.1 == n) then u.pln.planned.get (fun _ => 7) n else use) else 7
      w32 (plan * 2 ^ 29 + use * 2 ^ 26 + b2n (u.pln.emerg.contains n) * 2 ^ 25 + u.pln.power.get (fun _ => 0) n))) := by
  simp only [opPlnReport, h, Nat.one_ne_zero, if_false]

theorem run_ldgRead_domains {u : State} {c : Call} (h : c.fld 0 15 14 = 0) :
    opLdgRead.run u c = (u, 0, (List.range 12).flatMap (fun d => [w32 ((u.meter d).en / 10 ^ 9), w32 ((u.meter d).en / 10 ^ 9 / 2 ^ 32)])) := by
  simp only [opLdgRead, h, pairOf]

theorem run_ldgRead_sums {u : State} {c : Call} (h : c.fld 0 15 14 = 1) :
    opLdgRead.run u c = (u, 0, pairOf u.ldg.common.floor.toNat ++ pairOf u.ldg.income.floor.toNat ++ pairOf u.ldg.draw.floor.toNat ++ pairOf u.storeWord64) := by
  simp only [opLdgRead, h]

theorem run_ldgRead_chans {u : State} {c : Call} (h : c.fld 0 15 14 = 2) :
    opLdgRead.run u c = (u, 0, w32 (u.pln.seq % 65536) :: (List.range (c.fld 0 12 8)).map (fun k => w32 (u.ldg.ch.get (fun _ => 0) (c.fld 0 7 0 + k)))) := by
  simp only [opLdgRead, h]

theorem fld_word {c : Call} {i : Nat} {w : Word} (h : c.word i = w) (hi lo : Nat) : c.fld i hi lo = bits w hi lo := congrArg (bits · hi lo) h

/-- Settles O8: the words each opcode writes or reports, by its run. -/
theorem energyOpcodesComplete : Obligations.EnergyOpcodesComplete := by
  intro s c
  refine ⟨fun hr hp hcfg h0 hbudget => ?_, fun hr hp hne hb hres => ?_, ?_, ?_, ?_⟩
  · have hlen : opPlnMode.lenOk c.params.length c = true := by rw [hp]; rfl
    have hvalid : opPlnMode.valid (admitted s 0x40 c) c = true := by
      have hb : (c.fld 0 1 0 == 2 && (admitted s 0x40 c).reg64 .plnBudget 0 == 0) = false := by
        rw [Bool.and_eq_false_imp]
        exact fun h => beq_eq_false_iff_ne.mpr (hbudget (beq_iff_eq.mp h))
      simp only [opPlnMode, hcfg, hb, h0]
      rfl
    exact hr.served (d := opPlnMode) rfl rfl (Nat.le_refl 1) rfl (lastChecks_pass hlen hvalid rfl) rfl
  · have hlen : opPlnBudget.lenOk c.params.length c = true := by rw [hp]; rfl
    have hvalid : opPlnBudget.valid (admitted s 0x41 c) c = true := by
      simp only [opPlnBudget, decide_eq_true hne, decide_eq_true hb, decide_eq_true hres]
      rfl
    exact hr.served (d := opPlnBudget) rfl rfl (Nat.le_refl 1) rfl (lastChecks_pass hlen hvalid rfl) (run_plnBudget hres)
  · intro hr hp h0 u p spent
    have hlen : opPlnReport.lenOk c.params.length c = true := by rw [hp]; rfl
    have hfld := fld_word_zero h0
    have hvalid : opPlnReport.valid (admitted s 0x42 c) c = true := by
      simp only [opPlnReport, hfld]
      rfl
    exact hr.served (d := opPlnReport) rfl rfl (Nat.le_refl 0) rfl (lastChecks_pass hlen hvalid rfl) (run_plnReport_sums (hfld 15 14))
  · intro hr hp h0 hpart hmin hmax hfit u
    have hlen : opPlnReport.lenOk c.params.length c = true := by rw [hp]; rfl
    have hvalid : opPlnReport.valid (admitted s 0x42 c) c = true := by simp [opPlnReport, h0, hpart, hmin, hmax, hfit]
    exact hr.served (d := opPlnReport) rfl rfl (Nat.le_refl 0) rfl (lastChecks_pass hlen hvalid rfl) (run_plnReport_chans hpart)
  · intro hr hp u
    have hlen : opLdgRead.lenOk c.params.length c = true := by rw [hp]; rfl
    have hexec {v st ws} (hv) := hr.served (u := v) (st := st) (ws := ws) (d := opLdgRead) rfl rfl (Nat.le_refl 0) rfl (lastChecks_pass hlen hv rfl)
    refine ⟨fun h0 => ?_, fun h0 => ?_, fun h0 h0' hpart hmin hmax hfit => ?_⟩
    · have hfld := fld_word h0
      exact hexec (by simp only [opLdgRead, hfld]; decide) (run_ldgRead_domains (hfld 15 14))
    · have hfld := fld_word h0
      exact hexec (by simp only [opLdgRead, hfld]; decide) (run_ldgRead_sums (hfld 15 14))
    · exact hexec (by simp [opLdgRead, h0, h0', hpart, hmin, hmax, hfit]) (run_ldgRead_chans hpart)

end Sys2Proof.Machine
end

section
/-! The opcodes of the non-volatile store and of the lifecycle. -/
namespace Sys2Proof.Machine

theorem store_free {u : State} (hoff : u.storeOff = false) {b : Bool} (hb : b = false) : firstStatus [(u.storeOff, stDomainOff), (b, stBusy)] = 0 := by
  rw [hoff, hb]
  rfl

/-! ### Lifetime records (R507) -/

theorem bitAt_31_of_lt {w : Word} (h : w.toNat < 2 ^ 31) : bitAt w 31 = false := Nat.testBit_lt_two_pow h

theorem bitAt_31_of_ge {w : Word} (h : 2 ^ 31 ≤ w.toNat) : bitAt w 31 = true := Nat.testBit_of_two_pow_le_and_two_pow_add_one_gt h w.isLt

theorem bits_eq_of_add {w : Word} {n : Nat} (h : w.toNat = 2 ^ 31 + n) (hn : n < 2 ^ 14) : bits w 30 14 = 0 := by
  rw [bits]
  omega

theorem run_lifeRead_now {u : State} {c : Call} {o n : Nat} (hb : bitAt (c.word 0) 31 = false) (ho : c.fld 0 13 0 = o) (hn : c.fld 1 5 0 = n) :
    opLifeRead.run u c = (u, 0, (List.range n).map (fun k => lifeAt (fun w => u.lifeWord u.life.seq u.life.cause w) (o + k))) := by
  simp only [opLifeRead, hb, ho, hn, Bool.false_eq_true, if_false]

theorem run_lifeRead_stored {u : State} {c : Call} {x : LifeCopy} {n : Nat} (hb : bitAt (c.word 0) 31 = true) (hn : c.fld 1 5 0 = n)
    (hx : u.newestCopy = some x) :
    opLifeRead.run u c = (u, 0, (List.range n).map (fun k => lifeAt (fun w => x.words.get (fun _ => 0) w) (c.fld 0 13 0 + k))) := by
  simp only [opLifeRead, hb, hn, if_true, hx]

theorem run_lifeRead_free {u : State} {c : Call} {n : Nat} (hb : bitAt (c.word 0) 31 = true) (hn : c.fld 1 5 0 = n) (hx : u.newestCopy = none) :
    opLifeRead.run u c = ({ u with free := u.free + n }, 0, (List.range n).map (fun k => Config.freeValue (u.free + k))) := by
  simp only [opLifeRead, hb, hn, if_true, hx, State.freeWords]

/-! ### Images (R493, R494) -/

theorem save_free {u : State} (hbusy : u.storeBusy = false) (hcommit : u.check.commit = none) : (u.storeBusy || u.check.commit.isSome) = false := by
  rw [hbusy, hcommit]
  rfl

theorem run_nvsCfgSave {u : State} (c : Call) (hbusy : u.storeBusy = false) (hcommit : u.check.commit = none) :
    opNvsCfgSave.run u c =
      let size := (Config.freeValue u.free).toNat % 2 ^ 17
      let v : State := { u with free := u.free + 1 }
      if 98304 < size then (v, stBadParam, [])
      else (v.modStore (fun x => { x with save := some (c.fld 0 0 0, v.image (c.fld 0 31 16) size, c.host, c.tag, c.reply) }), stAccepted, []) := by
  simp only [opNvsCfgSave, save_free hbusy hcommit, Bool.false_eq_true, if_false]
  rfl

/-! ### Patches (R488, R489) -/

theorem fw_free {u : State} (hver : u.verifying = false) (hbusy : u.storeBusy = false) : (u.verifying || u.storeBusy) = false := by
  rw [hver, hbusy]
  rfl

theorem valid_fwData {u : State} {c : Call} {x : FwXfer} (hx : u.store.xfer = some x)
    (ho : (c.word 0).toNat = 4 * x.words.length ∨ x.lastOff = some (c.word 0).toNat) (hfit : (c.word 0).toNat + 4 * (c.params.length - 1) ≤ x.length) :
    opFwData.valid u c = true := by
  simp [opFwData, hx, ho, hfit]

theorem run_fwData {u : State} {c : Call} {x : FwXfer} (hx : u.store.xfer = some x) :
    opFwData.run u c = (u.modStore (fun y =>
      { y with xfer := some { x with words := x.words.take ((c.word 0).toNat / 4) ++ c.params.drop 1, lastOff := some (c.word 0).toNat } }), 0, []) := by
  simp only [opFwData, State.modStore, hx, Option.map_some]

theorem run_fwVerify {u : State} {c : Call} {x : FwXfer} (hx : u.store.xfer = some x) (hver : u.verifying = false) (hbusy : u.storeBusy = false) :
    opFwVerify.run u c = (u.modStore (fun y => { y with xfer := some { x with verify := some (c.host, c.tag, c.reply) } }), stAccepted, []) := by
  simp only [opFwVerify, fw_free hver hbusy, Bool.false_eq_true, if_false, State.modStore, hx, Option.map_some]

/-! ### Keys (R492) -/

theorem valid_keyLoad {u : State} {c : Call} (h0 : c.fld 0 31 9 = 0) (h0' : c.fld 0 7 2 = 0)
    (hkey : (if bitAt (c.word 0) 8 then (c.params.drop 1).all (fun w => w == 0) else crc32c (wordsBytes ((c.params.drop 1).take 4)) == c.word 5) = true) :
    opKeyLoad.valid u c = true := by
  simp only [opKeyLoad, h0, h0', hkey]
  rfl

theorem run_keyLoad {u : State} {c : Call} {key : Option (List Byte)}
    (h : (if bitAt (c.word 0) 8 then none else some (wordsBytes ((c.params.drop 1).take 4))) = key) :
    opKeyLoad.run u c = (((u.secureWrite (fun x => { x with keys := x.keys.set (fun _ => none) (c.fld 0 1 0) key })).modRf (fun r =>
      { r with ctr := r.ctr.set (fun _ => 0) (c.fld 0 1 0) 0, seen := r.seen.filter (fun e => e.2.1 ≠ c.fld 0 1 0) })).logEnd 5 0 0x87, 0, []) := by
  simp only [opKeyLoad, h]

/-- Settles O9: the rows by their runs, with the store free. -/
theorem storeOpcodesComplete : Obligations.StoreOpcodesComplete := by
  intro s c hoff
  refine ⟨?_, ?_, ?_, ?_, fun hprov hver hbusy => ⟨?_, fun x hx => ⟨?_, ?_⟩⟩, ?_, ?_⟩
  · intro hr hp hw hmin hmax hfit u
    obtain ⟨-, hlow0⟩ := fld_split (c := c) (i := 0) 13 14 rfl (by omega)
    obtain ⟨hhigh1, hlow1⟩ := fld_split (c := c) (i := 1) 5 6 rfl (by omega)
    have hhigh0 : c.fld 0 30 14 = 0 := by
      rw [Call.fld, bits]
      omega
    have hlen : opLifeRead.lenOk c.params.length c = true := by rw [hp]; rfl
    have hvalid : opLifeRead.valid (admitted s 0x80 c) c = true := by simp [opLifeRead, hhigh0, hhigh1, hlow0, hlow1, hmin, hfit]
    exact hr.served (d := opLifeRead) rfl rfl (Nat.le_refl 0) rfl (lastChecks_pass hlen hvalid (if_neg (Bool.eq_false_iff.mp hoff)))
      (run_lifeRead_now (bitAt_31_of_lt (by omega)) hlow0 hlow1)
  · intro hr hp hw hmin hmax hfit n u
    obtain ⟨hhigh1, hlow1⟩ := fld_split (c := c) (i := 1) 5 6 rfl (by omega)
    have hhigh0 : c.fld 0 30 14 = 0 := bits_eq_of_add hw (bits_lt _ 13 0)
    have hb : bitAt (c.word 0) 31 = true := bitAt_31_of_ge (by omega)
    have hlen : opLifeRead.lenOk c.params.length c = true := by rw [hp]; rfl
    have hvalid : opLifeRead.valid (admitted s 0x80 c) c = true := by simp [opLifeRead, hhigh0, hhigh1, hlow1, hmin, hfit]
    have hexec {v st ws} := hr.served (u := v) (st := st) (ws := ws) (d := opLifeRead) rfl rfl (Nat.le_refl 0) rfl
      (lastChecks_pass hlen hvalid (if_neg (Bool.eq_false_iff.mp hoff)))
    exact ⟨fun x hx => hexec (run_lifeRead_stored hb hlow1 hx), fun hx => hexec (run_lifeRead_free hb hlow1 hx)⟩
  · intro hr hs hp h0 hbusy hcommit size u
    have hlen : opNvsCfgSave.lenOk c.params.length c = true := by rw [hp]; rfl
    have hvalid : opNvsCfgSave.valid (admitted s 0x81 c) c = true := by simp [opNvsCfgSave, h0]
    have hallow : opNvsCfgSave.allow (admitted s 0x81 c) c = 0 := store_free hoff (save_free (u := s) hbusy hcommit)
    have hrun := run_nvsCfgSave (u := startedAsync s 0x81 c) c hbusy hcommit
    by_cases hsize : 98304 < size
    · rw [if_pos hsize]
      rw [if_pos (show 98304 < (Config.freeValue (startedAsync s 0x81 c).free).toNat % 2 ^ 17 from hsize)] at hrun
      exact hr.declined (d := opNvsCfgSave) rfl rfl (Nat.le_refl _) rfl (lastChecks_pass hlen hvalid hallow) hrun (by decide)
    · rw [if_neg hsize]
      rw [if_neg (show ¬98304 < (Config.freeValue (startedAsync s 0x81 c).free).toNat % 2 ^ 17 from hsize)] at hrun
      exact hr.accepted hs (d := opNvsCfgSave) rfl rfl (Nat.le_refl _) rfl (lastChecks_pass hlen hvalid hallow) hrun
  · intro hr hp hw hbusy
    obtain ⟨hhigh, hlow⟩ := fld_split (c := c) (i := 0) 1 2 rfl (by omega)
    have hlen : opNvsCfgSelect.lenOk c.params.length c = true := by rw [hp]; rfl
    have hvalid : opNvsCfgSelect.valid (admitted s 0x82 c) c = true := by simp [opNvsCfgSelect, hhigh, hlow]; omega
    have hexec := hr.served (d := opNvsCfgSelect) rfl rfl (Nat.le_refl _) rfl (lastChecks_pass hlen hvalid (store_free hoff hbusy)) rfl
    simp only [hlow] at hexec
    exact hexec
  · intro hr hp hmin hmax hmod
    have hlen : opFwBegin.lenOk c.params.length c = true := by rw [hp]; rfl
    have hvalid : opFwBegin.valid (admitted s 0x83 c) c = true := by simp [opFwBegin, hmin, hmax, hmod]
    exact hr.served (d := opFwBegin) rfl rfl (Nat.le_refl 2) hprov (lastChecks_pass hlen hvalid (store_free hoff (fw_free (u := s) hver hbusy))) rfl
  · intro hr hp ho hfit
    have hlen : opFwData.lenOk c.params.length c = true := decide_eq_true hp
    exact hr.served (d := opFwData) rfl rfl (Nat.le_refl 2) hprov
      (lastChecks_pass hlen (valid_fwData hx ho hfit) (store_free hoff (fw_free (u := s) hver hbusy))) (run_fwData hx)
  · intro hr hs hp
    have hlen : opFwVerify.lenOk c.params.length c = true := by rw [hp]; rfl
    have hvalid : opFwVerify.valid (admitted s 0x85 c) c = true := congrArg Option.isSome hx
    exact hr.accepted hs (d := opFwVerify) rfl rfl (Nat.le_refl 2) hprov
      (lastChecks_pass hlen hvalid (store_free hoff (fw_free (u := s) hver hbusy))) (run_fwVerify hx hver hbusy)
  · intro hr hprov hbusy hp hok
    have hlen : opProvision.lenOk c.params.length c = true := by rw [hp]; rfl
    have hlife : s.lifecycleOk 0x86 = true := congrArg not hprov
    exact hr.served (d := opProvision) rfl rfl (Nat.le_refl 1) hlife (lastChecks_pass hlen hok (store_free hoff hbusy)) rfl
  · intro hr hprov hbusy hp h0 h0' words loaded
    have hlen : opKeyLoad.lenOk c.params.length c = true := by rw [hp]; rfl
    have hexec {v st ws} (hv) := hr.served (u := v) (st := st) (ws := ws) (d := opKeyLoad) rfl rfl (Nat.le_refl 2) hprov
      (lastChecks_pass hlen hv (store_free hoff hbusy))
    refine ⟨fun hb hcrc => hexec (valid_keyLoad h0 h0' ?_) (run_keyLoad ?_), fun hb hzero => hexec (valid_keyLoad h0 h0' ?_) (run_keyLoad (if_pos hb))⟩
    · rw [if_neg (Bool.eq_false_iff.mp hb), beq_iff_eq]
      exact hcrc
    · exact if_neg (Bool.eq_false_iff.mp hb)
    · rw [if_pos hb, hzero]
      rfl

end Sys2Proof.Machine
end

section
/-! The saltern opcodes. -/
namespace Sys2Proof.Machine

theorem run_sltRole_now {u : State} {c : Call} (h : u.slt.state = 0) :
    opSltRole.run u c = (u.clearSent.applyRole ⟨c.fld 0 1 0, c.fld 0 12 8, c.fld 1 7 0, bitAt (c.word 0) 16⟩, 0, []) := by
  simp only [opSltRole, h, if_true]
  rfl

theorem run_sltRole_waiting {u : State} {c : Call} (h : u.slt.state ≠ 0) :
    opSltRole.run u c =
      ({ u with slt := { u.slt with waiting := some ⟨c.fld 0 1 0, c.fld 0 12 8, c.fld 1 7 0, bitAt (c.word 0) 16⟩ } }, 0, []) := by
  simp only [opSltRole, h, if_false]
  rfl

theorem allow_sltRole {u : State} {c : Call} (hoff : u.isFenced 8 10 = false) (h : u.slt.state = 0 ∨ c.fld 0 12 8 = u.ownIndex) : opSltRole.allow u c = 0 := by
  have hview : (u.slt.state ≠ 0 && c.fld 0 12 8 ≠ u.ownIndex) = false := by
    obtain h | h := h <;> simp [h]
  have hleg : u.legOff = false := hoff
  simp only [opSltRole, hleg, hview]
  rfl

/-- Settles O10: the five rows by their runs. -/
theorem salternOpcodesComplete : Obligations.SalternOpcodesComplete := by
  intro s c hoff
  refine ⟨?_, fun hr hp => ?_, ?_, fun hr hs hp hst => ?_, ?_⟩
  · intro hr hp h0 h0' h0'' hrole h1 r u
    have hlen : opSltRole.lenOk c.params.length c = true := by rw [hp]; rfl
    have hindex : c.fld 0 12 8 < 32 := bits_lt _ 12 8
    have hvalid : opSltRole.valid (admitted s 0x60 c) c = true := by simp [opSltRole, h0, h0', h0'', hrole, h1, hindex]
    have hexec {v st ws} (ha) := hr.served (u := v) (st := st) (ws := ws) (d := opSltRole) rfl rfl (Nat.le_refl 1) rfl (lastChecks_pass hlen hvalid ha)
    exact ⟨fun hst => hexec (allow_sltRole hoff (.inl hst)) (run_sltRole_now hst),
      fun hst hown => hexec (allow_sltRole hoff (.inr hown)) (run_sltRole_waiting hst)⟩
  · have hlen : opSltView.lenOk c.params.length c = true := by rw [hp]; rfl
    have hallow : opSltView.allow (admitted s 0x61 c) c = 0 := by
      have hleg : (admitted s 0x61 c).legOff = false := hoff
      simp only [opSltView, hleg]
      rfl
    exact hr.served (d := opSltView) rfl rfl (Nat.le_refl 0) rfl (lastChecks_pass hlen rfl hallow) rfl
  · intro hr hp h0 hstale u i on u1 u2 cfg
    have hlen : opSltExpect.lenOk c.params.length c = true := by rw [hp]; rfl
    have hvalid : opSltExpect.valid (admitted s 0x62 c) c = true := by simp [opSltExpect, h0]
    have hallow : opSltExpect.allow (admitted s 0x62 c) c = 0 := by
      have hleg : (admitted s 0x62 c).legOff = false := hoff
      have hst : (admitted s 0x62 c).slt.stale = false := hstale
      simp only [opSltExpect, hleg, hst]
      rfl
    exact hr.served (d := opSltExpect) rfl rfl (Nat.le_refl 1) rfl (lastChecks_pass hlen hvalid hallow) rfl
  · have hlen : opSltRejoin.lenOk c.params.length c = true := by rw [hp]; rfl
    have hallow : opSltRejoin.allow (admitted s 0x63 c) c = 0 := by
      have hleg : (admitted s 0x63 c).legOff = false := hoff
      have hst' : ((admitted s 0x63 c).slt.state == 0) = false := beq_eq_false_iff_ne.mpr hst
      simp only [opSltRejoin, hleg, hst']
      rfl
    exact hr.accepted hs (d := opSltRejoin) rfl rfl (Nat.le_refl 1) rfl (lastChecks_pass hlen rfl hallow) rfl
  · intro hr hp hw hf n
    obtain ⟨hhigh, hlow⟩ := fld_split (c := c) (i := 0) 0 1 rfl (by omega)
    have hlen : opLegStatus.lenOk c.params.length c = true := by rw [hp]; rfl
    have hvalid : opLegStatus.valid (admitted s 0x64 c) c = true := by simp [opLegStatus, hhigh]
    have hallow : opLegStatus.allow (admitted s 0x64 c) c = 0 := by
      have hleg : (admitted s 0x64 c).legOff = false := hoff
      have hf' : (admitted s 0x64 c).isFenced 6 (c.word 0).toNat = false := hf
      simp only [opLegStatus, hlow, hleg, hf']
      rfl
    have hexec := hr.served (d := opLegStatus) rfl rfl (Nat.le_refl 0) rfl (lastChecks_pass hlen hvalid hallow) rfl
    simp only [hlow] at hexec
    exact hexec

end Sys2Proof.Machine
end

section
/-! The radio opcodes. -/
namespace Sys2Proof.Machine

theorem rfAllow_free {u : State} (hoff : u.isFenced 8 9 = false) (hf : u.isFenced 5 0 = false) (l : List (Bool × Nat)) : u.rfAllow l = firstStatus l := by
  simp only [State.rfAllow, hoff, hf]
  rfl

theorem run_rfTx_send {u : State} {c : Call} (h : bitAt (c.word 0) 8 = true) :
    opRfTx.run u c =
      let v := u.modRf (fun r => { r with bufs := r.bufs.set (fun _ => RfBuf.reset) (c.fld 0 1 0) (u.rfTxBuf c) })
      (v.rfRequest (v.bufFrame (c.fld 0 1 0) (some (c.host, c.tag, c.reply)) false), stAccepted, [0]) := by
  simp only [opRfTx, h, if_true]

theorem run_rfTx_fill {u : State} {c : Call} (h : bitAt (c.word 0) 8 = false) :
    opRfTx.run u c = (u.modRf (fun r => { r with bufs := r.bufs.set (fun _ => RfBuf.reset) (c.fld 0 1 0) (u.rfTxBuf c) }), 0, [0]) := by
  simp only [opRfTx, h, Bool.false_eq_true, if_false]

theorem run_rfRx {u : State} {c : Call} {l g : Nat} (hl : c.fld 0 1 0 = l) (hg : c.fld 1 15 0 = g) :
    opRfRx.run u c = ((u.modRf (fun r => { r with listen := l, guardTime := g, window := r.window && l = 0 })).endReceive, 0, []) := by
  simp only [opRfRx, hl, hg]

theorem endReceive_eq (u : State) :
    u.endReceive = if u.rfReceives = false ∧ (u.rf.state = 5 ∨ (u.rf.state = 3 ∧ u.rf.tx = none ∧ u.rf.launch = none)) then u.rfIdle else u.rfKick := by
  simp [State.endReceive, and_assoc]

/-- Settles O11: the five rows by their runs, with the radio free. -/
theorem radioOpcodesComplete : Obligations.RadioOpcodesComplete := by
  intro s c hoff hf
  refine ⟨fun hr hp hcfg h0 hsync hmac h3 hauth => ?_, ?_, ?_, fun hr hs hp hw hcal => ?_, fun hr hp => ?_⟩
  · have hlen : opRfConfig.lenOk c.params.length c = true := by rw [hp]; rfl
    have hvalid : opRfConfig.valid (admitted s 0x70 c) c = true := by simp [opRfConfig, hcfg, h0, hsync, hmac, h3]
    have hallow : opRfConfig.allow (admitted s 0x70 c) c = 0 := by
      have hauth' : (admitted s 0x70 c).provisioned = true ∨ c.fld 3 30 29 = 0 := hauth
      refine (rfAllow_free (u := admitted s 0x70 c) hoff hf _).trans ?_
      obtain h | h := hauth' <;> simp [firstStatus, h]
    exact hr.served (d := opRfConfig) rfl rfl (Nat.le_refl 1) rfl (lastChecks_pass hlen hvalid hallow) rfl
  · intro hr hs hp hok hauth b buf u
    have hlen : opRfTx.lenOk c.params.length c = true := decide_eq_true hp
    have hallow : opRfTx.allow (admitted s 0x71 c) c = 0 := by
      have hkey : (bitAt (c.word 0) 6 && (!(admitted s 0x71 c).provisioned || !(admitted s 0x71 c).keySet (c.fld 0 5 4))) = false := by
        rw [Bool.and_eq_false_imp]
        intro hb
        obtain ⟨hprov, hset⟩ := hauth hb
        have hprov' : (admitted s 0x71 c).provisioned = true := hprov
        have hset' : (admitted s 0x71 c).keySet (c.fld 0 5 4) = true := hset
        rw [hprov', hset']
        rfl
      refine (rfAllow_free (u := admitted s 0x71 c) hoff hf _).trans ?_
      rw [hkey]
      rfl
    refine ⟨fun hb => ?_, fun hb => ?_⟩
    · exact hr.accepted hs (d := opRfTx) rfl rfl (Nat.le_refl 0) rfl (lastChecks_pass hlen hok hallow) (run_rfTx_send hb)
    · exact hr.declined (d := opRfTx) rfl rfl (Nat.le_refl 0) rfl (lastChecks_pass hlen hok hallow) (run_rfTx_fill hb) (by decide)
  · intro hr hp hw hmin hmax l u
    obtain ⟨hhigh0, hlow0⟩ := fld_split (c := c) (i := 0) 1 2 rfl (by omega)
    obtain ⟨hhigh1, hlow1⟩ := fld_split (c := c) (i := 1) 15 16 rfl (by omega)
    have hlen : opRfRx.lenOk c.params.length c = true := by rw [hp]; rfl
    have hvalid : opRfRx.valid (admitted s 0x72 c) c = true := by simp [opRfRx, hhigh0, hlow0, hhigh1, hlow1, hmin, hmax]; omega
    have hallow : opRfRx.allow (admitted s 0x72 c) c = 0 := rfAllow_free (u := admitted s 0x72 c) hoff hf []
    have hexec := hr.served (d := opRfRx) rfl rfl (Nat.le_refl 0) rfl (lastChecks_pass hlen hvalid hallow) (run_rfRx hlow0 hlow1)
    rw [endReceive_eq] at hexec
    exact hexec
  · obtain ⟨hhigh, hlow⟩ := fld_split (c := c) (i := 0) 3 4 rfl (by omega)
    have hlen : opRfCal.lenOk c.params.length c = true := by rw [hp]; rfl
    have hvalid : opRfCal.valid (admitted s 0x73 c) c = true := by simp [opRfCal, hhigh]
    have hcal' : (admitted s 0x73 c).rf.cal = none := hcal
    have hallow : opRfCal.allow (admitted s 0x73 c) c = 0 := by
      refine (rfAllow_free (u := admitted s 0x73 c) hoff hf _).trans ?_
      rw [hcal']
      rfl
    have hcal'' : (startedAsync s 0x73 c).rf.cal = none := hcal
    have hrun : opRfCal.run (startedAsync s 0x73 c) c =
        (((startedAsync s 0x73 c).modRf (fun r => { r with cal := some (c.host, c.tag, c.reply, (c.word 0).toNat, 0, 0) })).rfKick, stAccepted, []) := by
      simp only [opRfCal, hcal'', hlow]
      rfl
    exact hr.accepted hs (d := opRfCal) rfl rfl (Nat.le_refl 1) rfl (lastChecks_pass hlen hvalid hallow) hrun
  · have hlen : opRfStatus.lenOk c.params.length c = true := by rw [hp]; rfl
    have hallow : opRfStatus.allow (admitted s 0x74 c) c = 0 := rfAllow_free (u := admitted s 0x74 c) hoff hf []
    exact hr.served (d := opRfStatus) rfl rfl (Nat.le_refl 0) rfl (lastChecks_pass hlen rfl hallow) rfl

end Sys2Proof.Machine
end

section
/-! The fence and log opcodes. -/
namespace Sys2Proof.Machine

/-- The entries that a LOG_READ names, when the log holds them. -/
theorem run_logRead {u : State} {c : Call} {o n : Nat} (ho : c.fld 0 7 0 = o) (hn : c.fld 1 4 0 = n) (hfit : o + n ≤ u.log.length) :
    opLogRead.run u c = (u, 0, w32 (u.log.length * 2 ^ 23 + n * 2 ^ 18 + b2n u.logSat * 2 ^ 17) :: ((u.log.drop o).take n).flatMap LogEntry.words) := by
  have hlen : ((u.log.drop o).take n).length = n := by
    rw [List.length_take, List.length_drop]
    omega
  simp only [opLogRead, ho, hn, hlen]

/-- The fields of a selector of twelve bits. -/
theorem selector_fields {c : Call} (h : (c.word 0).toNat < 4096) :
    c.fld 0 31 12 = 0 ∧ c.fld 0 11 8 = (c.word 0).toNat / 256 ∧ c.fld 0 7 0 = (c.word 0).toNat % 256 := by
  simp only [Call.fld, bits]
  omega

/-- Settles O12: the six rows by their runs. -/
theorem fenceAndLogOpcodesComplete : Obligations.FenceAndLogOpcodesComplete := by
  intro s c
  refine ⟨fun hr hp hw hmin hmax hfit => ?_, fun hr hp => ?_, ?_, fun hr hp => ?_⟩
  · obtain ⟨hhigh0, hlow0⟩ := fld_split (c := c) (i := 0) 7 8 rfl (by omega)
    obtain ⟨hhigh1, hlow1⟩ := fld_split (c := c) (i := 1) 4 5 rfl (by omega)
    have hfit' : (c.word 0).toNat + (c.word 1).toNat ≤ (admitted s 0x90 c).log.length := hfit
    have hlen : opLogRead.lenOk c.params.length c = true := by rw [hp]; rfl
    have hvalid : opLogRead.valid (admitted s 0x90 c) c = true := by simp [opLogRead, hhigh0, hlow0, hhigh1, hlow1, hmin, hfit']
    exact hr.served (d := opLogRead) rfl rfl (Nat.le_refl 0) rfl (lastChecks_pass hlen hvalid rfl) (run_logRead hlow0 hlow1 hfit)
  · have hlen : opLogClear.lenOk c.params.length c = true := by rw [hp]; rfl
    exact hr.served (d := opLogClear) rfl rfl (Nat.le_refl 1) rfl (lastChecks_pass hlen rfl rfl) rfl
  · intro hp hw kind index hsel
    obtain ⟨hhigh, hkind, hindex⟩ := selector_fields hw
    have hvalid : (c.fld 0 31 12 == 0 && selectorOk (c.fld 0 11 8) (c.fld 0 7 0)) = true := by
      rw [hhigh, hkind, hindex]
      exact hsel
    refine ⟨fun hr => ?_, fun hr hdom => ?_⟩
    · have hlen : opFence.lenOk c.params.length c = true := by rw [hp]; rfl
      have hrun : opFence.run (started s 0x92 c) c = ((started s 0x92 c).fence kind index 0x80, 0, []) := by simp only [opFence, hkind, hindex, kind, index]
      exact hr.served (d := opFence) rfl rfl (Nat.le_refl 1) rfl (lastChecks_pass hlen hvalid rfl) hrun
    · have hlen : opUnfence.lenOk c.params.length c = true := by rw [hp]; rfl
      have hallow : opUnfence.allow (admitted s 0x93 c) c = 0 := by
        have hdom' : (c.word 0).toNat / 256 = 8 ∨ (admitted s 0x93 c).isFenced 8 (funcDomain ((c.word 0).toNat / 256) ((c.word 0).toNat % 256)) = false := hdom
        obtain h | h := hdom' <;> simp [opUnfence, hkind, hindex, h]
      have hrun : opUnfence.run (started s 0x93 c) c = ((started s 0x93 c).unfence kind index, 0, []) := by simp only [opUnfence, hkind, hindex, kind, index]
      exact hr.served (d := opUnfence) rfl rfl (Nat.le_refl 1) rfl (lastChecks_pass hlen hvalid hallow) hrun
  · have hlen : opFenceStatus.lenOk c.params.length c = true := by rw [hp]; rfl
    exact hr.served (d := opFenceStatus) rfl rfl (Nat.le_refl 0) rfl (lastChecks_pass hlen rfl rfl) rfl

end Sys2Proof.Machine
end

section
/-! The sluices' commands. -/
namespace Sys2Proof.Machine

/-- A direct write whose access is served, and the boundaries that follow at once. -/
theorem hostWrite_pass {s : State} {h : Nat} {r : Reg} {n v : Nat} (hj : s.judge h (r.addr n) 4 (some v) = .pass) :
    s.hostWrite h r n v = ((s.writeUnit h (r.addr n) 4 v).noteAccess h (r.addr n) .pass).settle := by
  simp only [State.hostWrite, State.accessWrite, hj]

/-! ### Firing by software (R518, R524) -/

theorem exec_slFire {s : State} {h n : Nat} (hu : s.writeUp h = true) (hn : n < 64) (hj : s.judge h (Reg.addr .slFire 0) 4 (some n) = .pass) :
    exec (.slFire h n) s = .next (accessed s h (Reg.addr .slFire 0) (s.fireSluice n h false)) := by
  have hbits : bits (w32 n) 5 0 = n := bits_w32 (by omega) (by omega)
  have hwrite : s.writeUnit h (Reg.addr .slFire 0) 4 n = s.fireSluice (bits (w32 n) 5 0) h false := writeUnit_reg spotOf_slFire rfl rfl
  change act (onlyIf (s.writeUp h && decide (n < 64)) (fun u => u.hostWrite h .slFire 0 n)) s = _
  rw [act_eq, hu, decide_eq_true hn, onlyIf, Bool.and_self, if_pos rfl, hostWrite_pass hj, hwrite, hbits]
  rfl

theorem fireSluice_owner {s : State} {n o : Nat} (hoff : s.fabricOff = false) (hon : s.slOn n = true) (hown : s.fld .slOwn n 2 0 = o) :
    s.fireSluice n o false =
      State.slWaves 9 { (s.logEnd 12 n 0x26) with wave := (s.wave + 1) % 65536 } [⟨n, 1, (s.wave + 1) % 65536, n, false⟩] := by
  have hstop : (s.fabricOff || !s.slOn n) = false := by rw [hoff, hon]; rfl
  have hstop' : ((s.logEnd 12 n 0x26).fabricOff || !(s.logEnd 12 n 0x26).slOn n) = false := hstop
  simp only [State.fireSluice, hstop, hown, State.fireDirect, hstop', Bool.false_eq_true, if_false, if_true]
  rfl

theorem fireSluice_other {s : State} {n o : Nat} (hoff : s.fabricOff = false) (hon : s.slOn n = true) (hown : s.fld .slOwn n 2 0 ≠ o) :
    s.fireSluice n o false = (s.evt .slEvt 0 1).logErr 12 n 0x26 := by
  simp [State.fireSluice, hoff, hon, hown]

/-! ### Events (R515 to R523) -/

theorem sluiceEvent_unfed {s : State} {e : Evt} {t : List Evt} (hoff : s.fabricOff = false) (hq : s.evq = e :: t)
    (hfed : (({ s with evq := t } : State).countEvents e.output).slFed e.output = []) : s.sluiceEvent = ({ s with evq := t } : State).countEvents e.output := by
  simp [State.sluiceEvent, hoff, hq, hfed]

theorem sluiceEvent_fed {s : State} {e : Evt} {t : List Evt} (hoff : s.fabricOff = false) (hq : s.evq = e :: t)
    (hfed : (({ s with evq := t } : State).countEvents e.output).slFed e.output ≠ []) :
    s.sluiceEvent =
      let u := ({ s with evq := t } : State).countEvents e.output
      let w := (u.wave + 1) % 65536
      let r := (u.slFed e.output).foldl (fun (a : State × List SlOut) p => ((a.1.slEvent p.1 p.2 e.kind w).1, a.2 ++ (a.1.slEvent p.1 p.2 e.kind w).2))
        ({ u with wave := w }, [])
      State.slWaves 9 r.1 r.2 := by
  simp [State.sluiceEvent, hoff, hq, hfed, State.newWave]

/-! ### Filters (R516, R523) -/

theorem filterExpiry_eq {s : State} {n w : Nat} (hoff : s.fabricOff = false) (hf : (s.sluice n).filtering = some w) :
    s.filterExpiry n =
      let r := (s.modSluice n (fun x => { x with filtering := none })).slFlip n true true w
      State.slWaves 9 r.1 r.2 := by
  simp only [State.filterExpiry, hf, hoff, Bool.false_eq_true, if_false]

theorem slFlip_direct {s : State} {n w : Nat} (h : s.slFf n = 0) : s.slFlip n true true w = (s, [⟨n, 1, w, n, false⟩]) := by
  simp [State.slFlip, h]

/-- A counted rise at a flip-flop: a D flip-flop is set, a T flip-flop toggles; a rise of its output is a new wave. -/
theorem slFlip_counted {s : State} {n w : Nat} (h : s.slFf n ≠ 0) :
    s.slFlip n true true w =
      let was := (s.sluice n).q
      let v := s.modSluice n (fun x => { x with q := s.slFf n == 1 || !was })
      if was then (v, []) else ({ v with wave := (s.wave + 1) % 65536 }, [⟨n, 0, (s.wave + 1) % 65536, n, false⟩]) := by
  have hq : (if s.slFf n = 1 then true else !(s.sluice n).q) = (s.slFf n == 1 || !(s.sluice n).q) := by
    by_cases h1 : s.slFf n = 1 <;> simp [h1]
  simp only [State.slFlip, h, if_false, if_true, hq]
  cases hwas : (s.sluice n).q <;> simp [State.newWave]

theorem slWaves_nil (k : Nat) (s : State) : State.slWaves k s [] = s := by cases k <;> rfl

/-- Settles O17: each command by what the fabric does with it. -/
theorem sluiceCommandsComplete : Obligations.SluiceCommandsComplete := by
  intro s hoff
  refine ⟨fun h n hu hn hj hon => ⟨fun hown => ?_, fun hown => ?_⟩, ?_, ?_⟩
  · rw [exec_slFire hu hn hj, fireSluice_owner hoff hon hown]
  · rw [exec_slFire hu hn hj, fireSluice_other hoff hon hown]
  · intro e t hq u
    refine ⟨fun hfed => ?_, fun hfed => ?_⟩
    · change act State.sluiceEvent s = _
      rw [act_eq, sluiceEvent_unfed hoff hq hfed]
    · change act State.sluiceEvent s = _
      rw [act_eq, sluiceEvent_fed hoff hq hfed]
  · intro n w hn hf u
    have hexec : exec (.filterExpiry n) s = .next (kept s (s.filterExpiry n)) := by
      change act (onlyIf (n < 64) (fun u => u.filterExpiry n)) s = _
      rw [act_eq, onlyIf, if_pos (decide_eq_true hn)]
    rw [hexec, filterExpiry_eq hoff hf]
    refine ⟨fun hff => ?_, fun hff => ?_⟩
    · rw [slFlip_direct (s := u) hff]
    · have hq : (u.sluice n).q = (s.sluice n).q := by simp [u]
      intro was v
      rw [slFlip_counted (s := u) hff, hq]
      cases hwas : (s.sluice n).q <;> simp [slWaves_nil, was, v, hwas] <;> rfl

end Sys2Proof.Machine
end

section
/-! The launches' commands. -/
namespace Sys2Proof.Machine

/-! ### What a command answers -/

theorem next_kept {s t u : State} (h : t = u) : (Host.Outcome.next (kept s t) : Host.Outcome State Fault Refusal) = .next (kept s u) := by rw [h]

theorem act_kept {f : State → State} {s t : State} (h : f s = t) : act f s = .next (kept s t) := (act_eq f s).trans (next_kept h)

theorem act_onlyIf {c : Bool} {f : State → State} {s t : State} (hc : c = true) (h : f s = t) : act (onlyIf c f) s = .next (kept s t) :=
  act_kept (by rw [onlyIf, if_pos hc, h])

/-! ### Starts (R373, R377) -/

theorem exec_lnStart {s : State} {n : Nat} (hn : n < 128) (hstop : s.pd11Stopped = false) :
    exec (.lnStart n) s = .next (kept s (s.launchStart n).1) := by
  exact act_onlyIf (f := fun u => (u.launchStart n).1) (by rw [hstop, decide_eq_true hn]; rfl) rfl

theorem launchStart_waiting {s : State} {n : Nat} (hon : (s.launch n).onStart = true) (hst : (s.launch n).state = 1) :
    (s.launchStart n).1 = (s.logEnd 11 n 0x22).setLaunch n { s.launch n with state := 2, t0 := s.tbNow (s.launch n).tb + (s.launch n).time, k := 0 } := by
  simp [State.launchStart, hon, hst]

theorem launchStart_armed {s : State} {n : Nat} (hon : (s.launch n).onStart = true) (hst : (s.launch n).state = 2) :
    (s.launchStart n).1 = (s.logEnd 11 n 0x22).evt .lnEvt 0 3 := by
  simp [State.launchStart, hon, hst]

theorem launchStart_fails {s : State} {n : Nat} (h : (s.launch n).onStart = false ∨ (s.launch n).state = 0 ∨ (s.launch n).state = 3) :
    (s.launchStart n).1 = (s.evt .lnEvt 0 4).logErr 11 n 0x22 := by
  have hcond : (!(s.launch n).onStart || (s.launch n).state = 0 || (s.launch n).state = 3) = true := by
    obtain h | h | h := h <;> simp [h]
  simp only [State.launchStart, hcond, if_true]

/-! ### Firings (R374, R378) -/

theorem exec_launchFiring {s u : State} {n : Nat} (hn : n < 128) (hstop : s.pd11Stopped = false) (hst : (s.launch n).state = 2)
    (hset : s.tbSet (s.launch n).tb = true) (hreach : s.toTb (s.launch n).tb ((s.launch n).instant (s.launch n).k * 2 ^ 32) = some u) :
    exec (.launchFiring n) s =
      .next (kept s ((u.setLaunch n ((s.launch n).goTo ((s.launch n).k + 1))).fireLaunch n (s.launch n).k false)) := by
  have hcond : ((s.launch n).state ≠ 2 || s.pd11Stopped || !s.tbSet (s.launch n).tb) = false := by simp [hst, hstop, hset]
  exact act_onlyIf (f := fun u => u.launchFiring n) (decide_eq_true hn) (by simp only [State.launchFiring, hcond, hreach, Bool.false_eq_true, if_false])

/-- An entry that goes on with its next period, or is over. -/
theorem goTo_eq (l : Launch) (k : Nat) :
    l.goTo k = { l with k := k, state := if (l.period = 0 && k ≠ 0) || (l.rept ≠ 0 && decide (l.rept ≤ k)) then (if l.onStart then 1 else 3) else l.state } := by
  unfold Launch.goTo Launch.over1
  split <;> rfl

theorem fireLaunch_outlier {v : State} {n k : Nat} (h : (v.slt.outlier && v.saltTb == some (v.launch n).tb) = true) :
    v.fireLaunch n k false = (v.skipPeriods n 1).logErr 11 n 0x23 := by
  simp only [State.fireLaunch, h, if_true]

theorem fireLaunch_acts {v : State} {n k : Nat} (h : (v.slt.outlier && v.saltTb == some (v.launch n).tb) = false) :
    v.fireLaunch n k false =
      let w := v.setLaunch n { (v.launch n) with fired := ((v.launch n).fired + 1) % 65536, firings := min (2 ^ 29 - 1) ((v.launch n).firings + 1) }
      if (w.launchAction n k false).2 then (w.launchAction n k false).1.logEnd 11 n 0x21
      else ((w.launchAction n k false).1.evt .lnEvt 0 2).logErr 11 n 0x21 := by
  simp only [State.fireLaunch, h, Bool.false_eq_true, if_false]

/-! ### Pulses (R380) -/

theorem exec_pinPulseEnd {s : State} {n : Nat} (hn : n < 32) : exec (.pinPulseEnd n) s = .next (kept s (s.pinPulseEnd n)) := by
  exact act_onlyIf (f := fun u => u.pinPulseEnd n) (decide_eq_true hn) rfl

theorem pinPulseEnd_more {s : State} {n : Nat} {a b : Bool} {t : List Bool} (h : (s.pin n).pulses = a :: b :: t) :
    s.pinPulseEnd n = s.modPin n (fun p => { p with pulses := b :: t }) := by
  simp [State.pinPulseEnd, h]

theorem pinPulseEnd_last {s : State} {n : Nat} {a : Bool} (h : (s.pin n).pulses = [a]) :
    s.pinPulseEnd n = s.modPin n (fun _ => ⟨(s.pin n).after.getD (s.pin n).drive, (s.pin n).after.getD (s.pin n).drive, [], none⟩) := by
  simp [State.pinPulseEnd, h]

/-- Settles O18: each command by what its entry or pin does. -/
theorem launchCommandsComplete : Obligations.LaunchCommandsComplete := by
  refine fun s => ⟨fun n hn hstop => ⟨fun hon hst => ?_, fun hon hst => ?_, fun h => ?_⟩, ?_, fun n hn => ⟨fun a b t h => ?_, fun a h => ?_⟩⟩
  · rw [exec_lnStart hn hstop, launchStart_waiting hon hst]
  · rw [exec_lnStart hn hstop, launchStart_armed hon hst]
  · rw [exec_lnStart hn hstop, launchStart_fails h]
  · intro n u hn hstop l hst hset hreach ended v outlier
    rw [exec_launchFiring hn hstop hst hset hreach, goTo_eq]
    refine ⟨fun hout => ?_, fun hin => ⟨fun hok => ?_, fun hok => ?_⟩⟩
    · exact next_kept (fireLaunch_outlier (v := v) hout)
    · exact next_kept ((fireLaunch_acts (v := v) hin).trans (if_pos hok))
    · exact next_kept ((fireLaunch_acts (v := v) hin).trans (if_neg (Bool.eq_false_iff.mp hok)))
  · rw [exec_pinPulseEnd hn, pinPulseEnd_more h]
  · rw [exec_pinPulseEnd hn, pinPulseEnd_last h]
    cases hafter : (s.pin n).after <;> rfl

end Sys2Proof.Machine
end

section
/-! Words as a write of a register composes them, and the timers' commands. -/
namespace Sys2Proof.Machine

/-! ### Writes of whole registers (R10, R11, R550) -/

theorem byteMask_word {a : Nat} (ha : a % 4 = 0) : byteMask a 4 = BitVec.allOnes 32 := by
  rw [byteMask, ha]
  rfl

theorem masked_write (r v m : Word) : ((r &&& ~~~m) ||| (v &&& m)) &&& m = v &&& m := by
  ext i hi
  simp only [BitVec.getElem_and, BitVec.getElem_or, BitVec.getElem_not]
  cases r[i] <;> cases v[i] <;> cases m[i] <;> rfl

/-- A write of all of a register that takes effect at once keeps the writable bits of what is written. -/
theorem writeReg_word {s : State} {h : Nat} {r : Reg} {n a : Nat} {v : Word} (hr : r.row.access = .rwi) (ha : a % 4 = 0) :
    s.writeReg h r n v (byteMask a 4) = s.writeNow h r n (v &&& w32 (bitsMask r.row.wbits)) v := by
  simp only [State.writeReg, hr, byteMask_word ha, BitVec.allOnes_and, masked_write]

theorem setBits_clear {w : Word} {hi lo : Nat} (h : bits w hi lo = 0) : setBits w hi lo 0 = w := by
  rw [setBits, h, Nat.zero_mod, Nat.zero_mul, Nat.sub_zero, Nat.add_zero, BitVec.ofNat_toNat, BitVec.setWidth_eq]

theorem bitAt_eq (w : Word) (i : Nat) : bitAt w i = decide (w.toNat / 2 ^ i % 2 = 1) := Nat.testBit_eq_decide_div_mod_eq

/-! ### TM_CTLn beside its configuration (R384, R385, R388) -/

/-- The configuration bits of TM_CTLn hold nothing in the command bits and in the bits that hardware writes. -/
structure TimerCfg (w : Word) : Prop where
  command : w.toNat < 2 ^ 29
  state : bits w 27 24 = 0
  capture : bits w 10 9 = 0

section
variable {w : Word} {b : Nat} (hw : TimerCfg w) (hb : 29 ≤ b) (hb' : b < 32)
include hw hb hb'

theorem timerWord_toNat : (w32 (w.toNat + 2 ^ b)).toNat = w.toNat + 2 ^ b := by
  have hpow : 2 ^ b ≤ 2 ^ 31 := Nat.pow_le_pow_right (by decide) (by omega)
  have hlt := hw.command
  exact w32_toNat (by omega)

theorem bitAt_timerWord {i : Nat} (hi : 29 ≤ i) (hi' : i < 32) : bitAt (w32 (w.toNat + 2 ^ b)) i = decide (i = b) := by
  have hlt := hw.command
  rw [bitAt_eq, timerWord_toNat hw hb hb', decide_eq_decide]
  interval_cases b <;> interval_cases i <;> omega

theorem bitAt_timerWord_mode : bitAt (w32 (w.toNat + 2 ^ b)) 28 = bitAt w 28 := by
  rw [bitAt_eq, bitAt_eq, timerWord_toNat hw hb hb']
  interval_cases b <;> simp only [decide_eq_decide] <;> omega

/-- Every bit that is set is one that a host writes. -/
theorem timerWord_mask : w32 (w.toNat + 2 ^ b) &&& w32 (bitsMask (Reg.row .tmCtl).wbits) = w32 (w.toNat + 2 ^ b) := by
  obtain ⟨hlt, hst, hcap⟩ := hw
  have hnat : (w32 (w.toNat + 2 ^ b)).toNat = w.toNat + 2 ^ b := timerWord_toNat ⟨hlt, hst, hcap⟩ hb hb'
  rw [bits] at hst hcap
  have hclear : ∀ i ∈ [9, 10, 24, 25, 26, 27], (w32 (w.toNat + 2 ^ b)).getLsbD i = false := by
    intro i hi
    refine (bitAt_eq _ i).trans (decide_eq_false ?_)
    rw [hnat]
    simp only [List.mem_cons, List.not_mem_nil, or_false] at hi
    obtain rfl | rfl | rfl | rfl | rfl | rfl := hi <;> interval_cases b <;> omega
  have hmask : ∀ i < 32, (w32 (bitsMask (Reg.row .tmCtl).wbits)).getLsbD i = true ∨ i ∈ [9, 10, 24, 25, 26, 27] := by decide
  refine BitVec.eq_of_getLsbD_eq fun i hi => ?_
  rw [BitVec.getLsbD_and]
  obtain hm | hm := hmask i hi
  · rw [hm, Bool.and_true]
  · rw [hclear i hm, Bool.false_and]

theorem timerWord_config : setBits (setBits (setBits (w32 (w.toNat + 2 ^ b)) 31 29 0) 27 24 0) 10 9 0 = w := by
  have hlt := hw.command
  have htop : setBits (w32 (w.toNat + 2 ^ b)) 31 29 0 = w := by
    rw [setBits, bits, timerWord_toNat hw hb hb']
    apply BitVec.eq_of_toNat_eq
    rw [BitVec.toNat_ofNat]
    interval_cases b <;> omega
  rw [htop, setBits_clear hw.state, setBits_clear hw.capture]

end

/-- A command bit of TM_CTLn beside the configuration it has: the configuration, then the command. -/
theorem writeTmCtl_command {u : State} {n b : Nat} (hw : TimerCfg (u.reg .tmCtl n)) (hb : 29 ≤ b) (hb' : b < 32) :
    u.writeTmCtl n (w32 ((u.reg .tmCtl n).toNat + 2 ^ b)) =
      let v := u.setReg .tmCtl n (u.reg .tmCtl n)
      if b = 29 then v.timerCapture n else if b = 30 then v.timerReset n u.tb0u else (v.timerStart n u.tb0u).1 := by
  have hmode : (if bitAt (w32 ((u.reg .tmCtl n).toNat + 2 ^ b)) 28 = u.tmEvents n then u
      else u.modTimer n (fun t => { t with count := u.timerCount n, start := u.tb0u })) = u := if_pos (bitAt_timerWord_mode hw hb hb')
  simp only [State.writeTmCtl, hmode, timerWord_config hw hb hb', bitAt_timerWord hw hb hb' (Nat.le_refl 29) (by decide),
    bitAt_timerWord hw hb hb' (show 29 ≤ 30 by decide) (by decide), bitAt_timerWord hw hb hb' (show 29 ≤ 31 by decide) (by decide), decide_eq_true_eq]
  interval_cases b <;> rfl

theorem tmCtl_aligned : ∀ n < 64, Reg.addr .tmCtl n % 4 = 0 := by decide

theorem tmCnt_aligned : ∀ n < 64, Reg.addr .tmCnt n % 4 = 0 := by decide

theorem timerRow_pass {s : State} {h n f b : Nat} (hn : n < 64) (hu : s.writeUp h = true) (hw : TimerCfg (s.reg .tmCtl n)) (hb : 29 ≤ b) (hb' : b < 32)
    (hj : (s.atF f).judge h (Reg.addr .tmCtl n) 4 (some ((s.reg .tmCtl n).toNat + 2 ^ b)) = .pass) :
    timerRow h n b f s = .next (accessed s h (Reg.addr .tmCtl n)
      (let u := (s.atF f).setReg .tmCtl n (s.reg .tmCtl n)
        if b = 29 then u.timerCapture n else if b = 30 then u.timerReset n u.tb0u else (u.timerStart n u.tb0u).1)) := by
  have hwrite := writeUnit_reg (s := s.atF f) (h := h) (v := (s.reg .tmCtl n).toNat + 2 ^ b) (spotOf_tmCtl n hn) rfl (tmCtl_aligned n hn)
  rw [writeReg_word rfl (tmCtl_aligned n hn), timerWord_mask hw hb hb'] at hwrite
  rw [timerRow, writeRow_pass hu hn hj, hwrite]
  exact congrArg (fun x => Host.Outcome.next (accessed s h (Reg.addr .tmCtl n) x)) (writeTmCtl_command (u := s.atF f) hw hb hb')

/-! ### TM_CNTn (R387) -/

theorem exec_tmCntWrite {s : State} {h n f : Nat} {v : Word} (hn : n < 64) (hu : s.writeUp h = true)
    (hj : (s.atF f).judge h (Reg.addr .tmCnt n) 4 (some v.toNat) = .pass) :
    exec (.tmCntWrite h n v f) s = .next (accessed s h (Reg.addr .tmCnt n) ((s.atF f).timerSetCount n v.toNat)) := by
  have hmask : w32 v.toNat &&& w32 (bitsMask (Reg.row .tmCnt).wbits) = v := by
    have hv : w32 v.toNat = v := BitVec.ofNat_toNat 32 v
    have hall : w32 (bitsMask (Reg.row .tmCnt).wbits) = BitVec.allOnes 32 := by decide
    rw [hv, hall, BitVec.and_allOnes]
  have hwrite := writeUnit_reg (s := s.atF f) (h := h) (v := v.toNat) (spotOf_tmCnt n hn) rfl (tmCnt_aligned n hn)
  rw [writeReg_word rfl (tmCnt_aligned n hn), hmask] at hwrite
  exact (writeRow_pass hu hn hj).trans (by rw [hwrite]; rfl)

/-! ### Match and end (R384 to R386) -/

/-- Waiting for a count moves nothing but the instant. -/
theorem toCount_eq (s : State) (n k : Nat) : ∃ x, s.toCount n k = { s with sub := x } := by
  unfold State.toCount State.toTb
  split
  · exact ⟨s.sub, rfl⟩
  · dsimp only
    split
    · exact ⟨s.sub, rfl⟩
    · split
      · exact ⟨_, rfl⟩
      · exact ⟨s.sub, rfl⟩

/-- Settles O19: TM_CTL and TM_CNT by their rows, the points by `toCount_eq`. -/
theorem timerCommandsComplete : Obligations.TimerCommandsComplete := by
  intro s n hn
  refine ⟨?_, fun h f v hu hj => exec_tmCntWrite hn hu hj, ?_, ?_⟩
  · intro h f hu hlt hst hcap a w u
    have hw : TimerCfg (s.reg .tmCtl n) := ⟨hlt, hst, hcap⟩
    exact ⟨fun hj => timerRow_pass hn hu hw (by decide) (by decide) hj, fun hj => timerRow_pass hn hu hw (by decide) (by decide) hj,
      fun hj => timerRow_pass hn hu hw (by decide) (by decide) hj⟩
  · intro u hstop hdue i a link s1 s2 s3
    refine act_onlyIf (f := fun u => u.matchPoint n) (by rw [hstop, decide_eq_true hn]; rfl) ((if_pos hdue).trans ?_)
    obtain ⟨x, hx⟩ := toCount_eq s n (s.reg .tmMatch n).toNat
    simp only [s3, s2, s1, a, link, i, u, hx, State.timerMatch]
    rfl
  · intro u hstop hend hmatch i a link t s1 s2 s3 s4
    refine act_onlyIf (f := fun u => u.endPoint n) (by rw [hstop, decide_eq_true hn]; rfl) ((if_pos (by rw [Bool.and_eq_true]; exact ⟨hend, by rw [Bool.not_eq_true']; exact hmatch⟩)).trans ?_)
    obtain ⟨x, hx⟩ := toCount_eq s n (s.reg .tmEnd n).toNat
    simp only [s4, s3, s2, s1, a, link, i, t, u, State.tmEndVal, hx, State.timerEnd]
    rfl

end Sys2Proof.Machine
end

section
/-! The capture commands. -/
namespace Sys2Proof.Machine

/-! ### CAPTURE and SNAP (R369, R555, R561) -/

/-- An edge that the latch takes changes the latch alone. -/
theorem edgePush_taken {s : State} {l : Nat} (h : (s.edgePush l).2 = true) : ∃ t, (s.edgePush l).1 = { s with time := { s.time with latches := t } } := by
  simp only [State.edgePush, State.latchPush] at h ⊢
  split at h
  · exact absurd h Bool.false_ne_true
  · rename_i hq
    rw [if_neg hq]
    exact ⟨_, rfl⟩

section
variable {u : State}

/-- The values that a capture takes. -/
def State.capture (u : State) : TbCap := ⟨[u.tbNow 0, u.tbNow 1, u.tbNow 2, u.tbNow 3], [u.tbEpoch 1, u.tbEpoch 2, u.tbEpoch 3]⟩

theorem tbCapture_lost (hok : (u.edgePush 80).2 = false) : u.tbCapture = (u.edgePush 80).1 := by
  simp only [State.tbCapture, hok]
  rfl

theorem tbCapture_first (hok : (u.edgePush 80).2 = true) (hg : u.groupOpen 0 = false) :
    u.tbCapture = { (u.edgePush 80).1 with time := { (u.edgePush 80).1.time with cap := u.capture, capOvr := false } } := by
  obtain ⟨t, ht⟩ := edgePush_taken hok
  have hg' : (u.edgePush 80).1.groupOpen 0 = false := by rw [ht]; exact hg
  simp only [State.tbCapture, hok, hg']
  rfl

theorem tbCapture_second (hok : (u.edgePush 80).2 = true) (hg : u.groupOpen 0 = true) (hc : u.time.cap2 = none) :
    u.tbCapture = { (u.edgePush 80).1 with time := { (u.edgePush 80).1.time with cap2 := some u.capture } } := by
  obtain ⟨t, ht⟩ := edgePush_taken hok
  have hg' : (u.edgePush 80).1.groupOpen 0 = true := by rw [ht]; exact hg
  have hc' : (u.edgePush 80).1.time.cap2 = none := by rw [ht]; exact hc
  simp only [State.tbCapture, hok, hg', hc']
  rfl

theorem tbCapture_over (hok : (u.edgePush 80).2 = true) (hg : u.groupOpen 0 = true) (hc : u.time.cap2 ≠ none) :
    u.tbCapture = { (u.edgePush 80).1 with time := { (u.edgePush 80).1.time with capOvr := true } } := by
  obtain ⟨t, ht⟩ := edgePush_taken hok
  have hg' : (u.edgePush 80).1.groupOpen 0 = true := by rw [ht]; exact hg
  have hc' : (u.edgePush 80).1.time.cap2.isNone = false := by
    rw [ht]
    exact Option.isNone_eq_false_iff.mpr (Option.isSome_iff_ne_none.mpr hc)
  simp only [State.tbCapture, hok, hg', hc']
  rfl

end

theorem exec_capture {s : State} {h f : Nat} (hu : s.writeUp h = true) (hj : (s.atF f).judge h (Reg.addr .tbCapcmd 0) 4 (some 1) = .pass) :
    exec (.capture h f) s = .next (accessed s h (Reg.addr .tbCapcmd 0) (s.atF f).tbCapture) := by
  have hwrite := writeUnit_reg (s := s.atF f) (h := h) (v := 1) spotOf_tbCapcmd rfl rfl
  exact (writeRow_pass hu (by decide) hj).trans (by rw [hwrite]; rfl)

theorem exec_snap {s : State} {h : Nat} (hu : s.writeUp h = true) (hj : (s.atF 0).judge h (Reg.addr .chkCmd 0) 4 (some 1) = .pass) :
    exec (.snap h) s = .next (accessed s h (Reg.addr .chkCmd 0) (s.atF 0).snapshot) := by
  have hwrite := writeUnit_reg (s := s.atF 0) (h := h) (v := 1) spotOf_chkCmd rfl rfl
  exact (writeRow_pass hu (by decide) hj).trans (by rw [hwrite]; rfl)

/-! ### Reading a group's words (R555) -/

/-- The registers of the groups: none is cleared by a read, acknowledges a vector, or is the rail register. -/
theorem groupOf_reg {r : Reg} {n : Nat} {x : Nat × Nat} (h : groupOf r n = some x) : r.row.access ≠ .rc ∧ r ≠ .icAck ∧ r ≠ .plnRail ∧ r ≠ .tbVal := by
  unfold groupOf at h
  split at h
  case h_8 => exact absurd h (by simp)
  all_goals exact ⟨by decide, by decide, by decide, by decide⟩

theorem readReg_plain {s : State} {h a n : Nat} {ref : RegRef} (hacc : ref.reg.row.access ≠ .rc) (hack : ref.reg ≠ .icAck) :
    s.readReg h a n ref = if ref.reg.row.pair then s.readHalf h a ref else (s, s.regWord ref.reg ref.inst) := by
  unfold State.readReg
  split
  · rfl
  · split
    · exact absurd ‹_› hack
    · exact if_neg hacc

theorem noteGroup_word {u : State} {h a g total : Nat} {ref : RegRef} (hg : groupOf ref.reg ref.inst = some (g, total)) :
    u.noteGroup h ref [a] =
      let old := ((u.groups.find? (fun p => p.1 == 4 * g + h)).map (·.2)).getD []
      let new := if old.contains a then old else a :: old
      if total ≤ new.length then u.groupClose g h else { u with groups := (4 * g + h, new) :: u.groups.filter (fun p => p.1 ≠ 4 * g + h) } := by
  simp only [State.noteGroup, hg, List.foldl_cons, List.foldl_nil]
  rfl

/-- A read of a whole aligned word of a register. -/
theorem readUnit_word {s : State} {h a : Nat} {ref : RegRef} (ha : a % 4 = 0) (hs : spotOf a = .reg ref) :
    s.readUnit h a 4 = ((s.readReg h a 4 ref).1.noteGroup h ref [a], (s.readReg h a 4 ref).2.toNat) := by
  have hlt := (s.readReg h a 4 ref).2.isLt
  simpa [State.readUnit, hs, ha] using hlt

/-- The address of the rail register is that register's alone. -/
theorem spotOf_plnRail : spotOf (Reg.addr .plnRail 0) = .reg ⟨.plnRail, 0, false⟩ := by decide

theorem hp0Value_other {a x : Nat} (h : a ≠ Reg.addr .plnRail 0) : hp0Value a x = x := if_neg h

/-- A direct read, in ACTIVE, of one access that is served. -/
theorem directRead_single {s : State} {h a len : Nat} (hf : s.pwr.floor = 0) (hacc : accesses a len = [(a, len)]) (hj : s.judge h a len none = .pass)
    (hrail : a ≠ Reg.addr .plnRail 0) :
    s.directRead h a len = { ((s.readUnit h a len).1.noteAccess h a .pass) with out := 0 :: bytesOf len (s.readUnit h a len).2 } := by
  rw [directRead_active hf, memRead_single hacc hj, hp0Value_other hrail]
  rfl

theorem exec_captureGroupRead {s : State} {h a : Nat} {ref : RegRef} {g total : Nat} (hp : s.pwr.phase = 2) (hf : s.pwr.floor = 0) (hh : h < 4)
    (ha : a % 4 = 0) (hs : spotOf a = .reg ref) (hg : groupOf ref.reg ref.inst = some (g, total)) (hj : s.judge h a 4 none = .pass) :
    exec (.captureGroupRead h a) s = .next (shown s
      (((s.readReg h a 4 ref).1.noteGroup h ref [a]).noteAccess h a .pass) (0 :: bytesOf 4 (s.readReg h a 4 ref).2.toNat)) := by
  obtain ⟨-, -, hrail, -⟩ := groupOf_reg hg
  have hne : a ≠ Reg.addr .plnRail 0 := fun h => by
    rw [h, spotOf_plnRail] at hs
    exact hrail (congrArg RegRef.reg (Spot.reg.inj hs)).symm
  have hread := directRead_single hf (accesses_word ha) hj hne
  rw [readUnit_word ha hs] at hread
  refine act_onlyIf (f := fun u => u.directRead h a 4) ?_ hread
  simp [State.directUp, hp, hh, hs, hg]

/-! ### TB_VAL (R369) -/

theorem accesses_tbVal : ∀ k < 4, accesses (Reg.addr .tbVal k) 8 = [(Reg.addr .tbVal k, 8)] := by decide

theorem tbVal_not_rail : ∀ k < 4, Reg.addr .tbVal k ≠ Reg.addr .plnRail 0 := by decide

theorem readUnit_tbVal {s : State} {h k : Nat} (hk : k < 4) : s.readUnit h (Reg.addr .tbVal k) 8 = s.tbRead k := by
  simp only [State.readUnit, spotOf_tbVal k hk, if_true, State.pairRead, State.noteGroup, groupOf]

theorem exec_tbValRead {s : State} {h k f : Nat} (hp : s.pwr.phase = 2) (hf : s.pwr.floor = 0) (hh : h < 4) (hk : k < 4)
    (hj : (s.atF f).judge h (Reg.addr .tbVal k) 8 none = .pass) :
    exec (.tbValRead h k f) s = .next (shown s (((s.atF f).tbRead k).1.noteAccess h (Reg.addr .tbVal k) .pass) (0 :: bytesOf 8 ((s.atF f).tbRead k).2)) := by
  have hread := directRead_single (s := s.atF f) hf (accesses_tbVal k hk) hj (tbVal_not_rail k hk)
  rw [readUnit_tbVal hk] at hread
  refine act_onlyIf (f := fun u => (u.atF f).directRead h (Reg.addr .tbVal k) 8) ?_ hread
  simp [State.directUp, hp, hh, hk]

/-- Settles O20: the stages of a capture, the words of a group, and the timebase read. -/
theorem captureCommandsComplete : Obligations.CaptureCommandsComplete := by
  intro s
  refine ⟨?_, fun h hu hj => exec_snap hu hj, fun g h hg hh => ?_, ?_, ?_⟩
  · intro h f hu hj u c e
    rw [exec_capture hu hj]
    exact ⟨fun hok => by rw [tbCapture_lost hok], fun hok hg => by rw [tbCapture_first hok hg]; rfl,
      fun hok hg hc => by rw [tbCapture_second hok hg hc]; rfl, fun hok hg hc => by rw [tbCapture_over hok hg hc]⟩
  · exact act_onlyIf (f := fun u => u.groupClose g h) (by rw [decide_eq_true hg, decide_eq_true hh]; rfl) rfl
  · intro h a ref g total hp hf hh ha hs hg hj r u old new
    obtain ⟨hacc, hack, -, -⟩ := groupOf_reg hg
    rw [exec_captureGroupRead hp hf hh ha hs hg hj, readReg_plain hacc hack, noteGroup_word hg]
  · intro h k f hp hf hh hk hj u e
    rw [exec_tbValRead hp hf hh hk hj]
    exact ⟨fun hok => by rw [tbRead_latched k hok], fun hok => by rw [tbRead_free k hok]⟩

end Sys2Proof.Machine
end

section
/-! The transfers of the host ports. -/
namespace Sys2Proof.Machine

/-- A later step keeps what an earlier one has kept. -/
theorem kept_out_kept {s d x : State} (h : d.provisioned = s.provisioned) (o : List Byte) :
    kept s { kept d x with out := o } = kept s { x with out := o } := by
  have hp : (s.provisioned || (d.provisioned || x.provisioned)) = (s.provisioned || x.provisioned) := by rw [h, ← Bool.or_assoc, Bool.or_self]
  simp only [kept, hp]

/-! ### Replies (R57, R58, R60) -/

section
variable {s : State} {h : Nat} (hup : s.portsUp = true) (hh : h < 4)
include hup hh

theorem exec_pktRead {p n : Nat} (hp : p < 2) : exec (.pktRead p h n) s = .next (kept s (s.pktRead p h n)) :=
  act_onlyIf (f := fun u => u.pktRead p h n) (by rw [hup, decide_eq_true hp, decide_eq_true hh]; rfl) rfl

theorem exec_queueStatus (hf : s.pwr.floor = 0) : exec (.queueStatus h) s = .next (kept s { s with out := bytesOf 4 (s.qstatWord h).toNat }) :=
  act_onlyIf (f := fun u => if u.pwr.floor = 0 then { u with out := bytesOf 4 (u.qstatWord h).toNat } else { u.wakeBy 2 with out := [0, 0, 0, 0] })
    (by rw [hup, decide_eq_true hh]; rfl) (if_pos hf)

theorem exec_pktWrite_floor {l : List Byte} (hf : s.pwr.floor ≠ 0) :
    exec (.pktWrite 0 h 1 (asOperand l)) s = .next (kept s (s.bufferWrite ⟨h, 1, 0, l⟩)) := by
  refine act_onlyIf (f := fun u => u.pktWrite 0 h 1 (toBytes (asOperand l))) (by rw [hup, decide_eq_true hh]; rfl) ?_
  rw [toBytes_asOperand]
  exact if_neg hf

end

/-- What is left of the waiting reply. -/
def State.replyRest (s : State) (h : Nat) : List Byte := (((s.host h).replies.head?.map Reply.bytes).getD []).drop (s.host h).readPos

theorem pktRead_hp0 {s : State} {h n : Nat} (hf : s.pwr.floor = 0) :
    s.pktRead 0 h n = { (s.readReplies h (n + 1) n).1 with
      out := (s.readReplies h (n + 1) n).2 ++ List.replicate (n - (s.readReplies h (n + 1) n).2.length) 0 } := by
  simp [State.pktRead, hf]

theorem pktRead_hp1 {s : State} {h n : Nat} (hf : s.pwr.floor = 0) (h1 : s.hp1Host = h) :
    s.pktRead 1 h n =
      let r := s.readReplies h (n + 1) n
      { (if (r.1.host h).replies = [] then { r.1 with hp1Ibi := 0 } else r.1) with out := r.2 } := by
  simp [State.pktRead, hf, h1]

theorem readReplies_part {s : State} {h k n : Nat} (hr : (s.host h).replies ≠ []) (h0 : 0 < n) (hn : n < (s.replyRest h).length) :
    s.readReplies h (k + 1) n = (s.modHost h (fun x => { x with readPos := x.readPos + n }), (s.replyRest h).take n) := by
  obtain ⟨r, t, hrt⟩ := List.exists_cons_of_ne_nil hr
  have hrest : s.replyRest h = r.bytes.drop (s.host h).readPos := by simp [State.replyRest, hrt]
  rw [hrest] at hn ⊢
  exact read_in hrt h0 hn

theorem readReplies_over {s : State} {h k n : Nat} (hr : (s.host h).replies ≠ []) (h0 : 0 < n) (hn : (s.replyRest h).length ≤ n) :
    s.readReplies h (k + 1) n = (((s.dropReply h).readReplies h k (n - (s.replyRest h).length)).1,
      s.replyRest h ++ ((s.dropReply h).readReplies h k (n - (s.replyRest h).length)).2) := by
  obtain ⟨r, t, hrt⟩ := List.exists_cons_of_ne_nil hr
  have hrest : s.replyRest h = r.bytes.drop (s.host h).readPos := by simp [State.replyRest, hrt]
  rw [hrest] at hn ⊢
  exact read_over hrt h0 hn

theorem readReplies_whole {s : State} {h k : Nat} (hr : (s.host h).replies ≠ []) (h0 : 0 < (s.replyRest h).length) :
    s.readReplies h (k + 1) (s.replyRest h).length = (s.dropReply h, s.replyRest h) := by
  rw [readReplies_over hr h0 (Nat.le_refl _), Nat.sub_self, read_zero, List.append_nil]

/-- A read that goes on past the waiting reply reads the rest as a read of its own would. -/
theorem pktRead_over {s : State} {h n : Nat} (hf : s.pwr.floor = 0) (hr : (s.host h).replies ≠ []) (h0 : 0 < (s.replyRest h).length)
    (hn : (s.replyRest h).length < n) :
    s.pktRead 0 h n = { (s.dropReply h).pktRead 0 h (n - (s.replyRest h).length) with
      out := s.replyRest h ++ ((s.dropReply h).pktRead 0 h (n - (s.replyRest h).length)).out } := by
  obtain ⟨hpwr, -⟩ := drop_frame s h
  have hfd : (s.dropReply h).pwr.floor = 0 := by rw [hpwr, hf]
  rw [pktRead_hp0 hf, pktRead_hp0 hfd, readReplies_over hr (by omega) (by omega),
    read_fuel h (n - (s.replyRest h).length) n (n - (s.replyRest h).length + 1) (s.dropReply h) (drop_pos s h hr) (by omega) (by omega)]
  simp only [List.append_assoc, List.length_append, Nat.sub_sub]

/-! ### Direct accesses (R541 to R546) -/

theorem accesses_pair {a : Nat} (ha : a % 4 = 0) (hp : pairLow a = true) : accesses a 8 = [(a, 8)] := by
  simp [accesses, ha, wordAccesses, hp]

theorem accesses_first {a len : Nat} (ha : a % 4 = 0) (hlen : 4 ≤ len) (hp : pairLow a = false) : ∃ t, accesses a len = (a, 4) :: t := by
  obtain ⟨k, rfl⟩ : ∃ k, len = k + 1 := ⟨len - 1, by omega⟩
  have hmin : min 4 (k + 1) = 4 := by omega
  exact ⟨_, by simp only [accesses, ha, wordAccesses, hp, hmin, if_true, Bool.false_and, Bool.false_eq_true, if_false]; rfl⟩

theorem numOf_wordBytes (v : Word) : numOf (wordBytes v) = v.toNat := by
  simp only [wordBytes, numOf, BitVec.extractLsb'_toNat, Nat.shiftRight_eq_div_pow]
  have := v.isLt
  omega

/-- A write of one word is one access. -/
theorem memWrite_word {s : State} {h a : Nat} {v : Word} (ha : a % 4 = 0) :
    s.memWrite h a (wordBytes v) = (s.accessWrite h a 4 v.toNat).1.settle := by
  have hacc : accesses a (wordBytes v).length = [(a, 4)] := accesses_word ha
  have hnum : numOf ((wordBytes v).take 4) = v.toNat := numOf_wordBytes v
  simp only [State.memWrite, hacc, State.writeEach, hnum]
  split <;> rfl

theorem exec_memWrite_word {s : State} {h a f : Nat} {v : Word} (hp : s.pwr.phase = 2) (hf : s.pwr.floor = 0) (hh : h < 4) (ha : a % 4 = 0) :
    exec (.memWrite h a (asOperand (wordBytes v)) f) s = .next (kept s ((s.atF f).accessWrite h a 4 v.toNat).1.settle) := by
  refine act_onlyIf (f := fun u => if u.pwr.floor = 0 then (u.atF f).memWrite h a (toBytes (asOperand (wordBytes v)))
    else (u.atF f).bufferWrite ⟨h, 5, a, toBytes (asOperand (wordBytes v))⟩) (by simp [State.directUp, hp, hh]) ?_
  rw [toBytes_asOperand]
  exact (if_pos hf).trans (memWrite_word ha)

theorem accessWrite_pass {s : State} {h a n v : Nat} (hj : s.judge h a n (some v) = .pass) :
    (s.accessWrite h a n v).1 = (s.writeUnit h a n v).noteAccess h a .pass := by
  simp only [State.accessWrite, hj]

theorem accessWrite_bus {s : State} {h a n v st : Nat} (hj : s.judge h a n (some v) = .bus st) : (s.accessWrite h a n v).1 = s.noteAccess h a (.bus st) := by
  simp only [State.accessWrite, hj]

/-! ### Transfers in a floor (R479, R480) -/

theorem wakeBy_floor {s : State} (hf : s.pwr.floor ≠ 0) (b : Nat) :
    s.wakeBy b = { s.setReg .sysWakesrc 0 (s.reg .sysWakesrc 0 ||| (1#32 <<< b)) with pwr := { s.pwr with wakeReq := true } } := if_neg hf

theorem bufferWrite_taken {s : State} {b : WakeBuf} (hlen : b.bytes.length ≤ 64) (hbuf : (s.wakeBy 2).pwr.wakeBuf = none) :
    s.bufferWrite b = { s.wakeBy 2 with pwr := { (s.wakeBy 2).pwr with wakeBuf := some b } } := by
  simp only [State.bufferWrite, hbuf, decide_eq_true hlen]
  rfl

theorem bufferWrite_dropped {s : State} {b : WakeBuf} (h : 64 < b.bytes.length ∨ (s.wakeBy 2).pwr.wakeBuf ≠ none) :
    s.bufferWrite b = (s.wakeBy 2).addCnt .sysWakesrc 0 31 24 1 := by
  refine if_neg ?_
  rw [Bool.and_eq_true, Option.isNone_iff_eq_none, decide_eq_true_eq]
  rintro ⟨hbuf, hlen⟩
  obtain h | h := h
  · omega
  · exact h hbuf

/-- Settles O23: reads of replies by `readReplies`, direct accesses by their one access, writes in a floor by the wake buffer. -/
theorem hostTransfersComplete : Obligations.HostTransfersComplete := by
  intro s h hup hh
  refine ⟨?_, exec_queueStatus hup hh, ?_, ?_⟩
  · intro n hf rest
    have hrest : rest = s.replyRest h := rfl
    rw [hrest]
    have hread {p} (hp : p < 2) := exec_pktRead (n := n) hup hh hp
    refine ⟨fun hr => ?_, fun hr h0 hn => ?_, fun hr h0 hn => ?_, fun hne hn => ?_, fun h1 hr => ?_, fun h1 hr h0 hn => ?_, fun h1 hr h0 hn => ?_⟩
    · rw [hread (by decide), pktRead_hp0 hf, read_nil _ _ hr]
      rfl
    · have htake : n - ((s.replyRest h).take n).length = 0 := by rw [List.length_take]; omega
      rw [hread (by decide), pktRead_hp0 hf, readReplies_part hr h0 hn, htake, List.replicate_zero, List.append_nil]
    · subst hn
      rw [hread (by decide), pktRead_hp0 hf, readReplies_whole hr h0, Nat.sub_self, List.replicate_zero, List.append_nil]
    · have h0 : 0 < (s.replyRest h).length := List.length_pos_iff.mpr hne
      have hr : (s.host h).replies ≠ [] := fun hnil => hne (by simp [State.replyRest, hnil])
      obtain ⟨hpwr, hprov, -⟩ := drop_frame s h
      have hupd : (s.dropReply h).portsUp = true := by rw [State.portsUp, hpwr]; exact hup
      refine ⟨_, exec_pktRead hupd hh (by decide), ?_⟩
      rw [hread (by decide), pktRead_over hf hr h0 hn, kept_out_kept hprov]
      rfl
    · rw [hread (by decide), pktRead_hp1 hf h1, read_nil _ _ hr]
      exact next_kept (by simp only [hr, if_true])
    · rw [hread (by decide), pktRead_hp1 hf h1, readReplies_part hr h0 hn]
      have hr' : ((s.modHost h (fun x => { x with readPos := x.readPos + n })).host h).replies ≠ [] := by simpa using hr
      exact next_kept (by simp only [if_neg hr'])
    · subst hn
      rw [hread (by decide), pktRead_hp1 hf h1, readReplies_whole hr h0]
  · intro a f hp hf ha u
    have hmem (len : Nat) := exec_memRead_active hp hf hh a len f
    refine ⟨fun hj => ?_, fun st len hlen hlow hj => ?_, fun hlow hj => ?_, fun v hj => ?_, fun v st hj => ?_⟩
    · rw [hmem, memRead_single (accesses_word ha) hj]
      rfl
    · obtain ⟨t, ht⟩ := accesses_first ha hlen hlow
      rw [hmem, memRead_bus ht hj]
    · rw [hmem, memRead_single (accesses_pair ha hlow) hj]
      rfl
    · rw [exec_memWrite_word hp hf hh ha, accessWrite_pass hj]
      rfl
    · rw [exec_memWrite_word hp hf hh ha, accessWrite_bus hj]
  · intro l hf u
    have hu : s.wakeBy 2 = u := wakeBy_floor hf 2
    refine ⟨fun hlen hbuf => ?_, fun hdrop => ?_⟩
    · rw [exec_pktWrite_floor hup hh hf, bufferWrite_taken hlen (by rw [hu]; exact hbuf), hu]
    · rw [exec_pktWrite_floor hup hh hf, bufferWrite_dropped (by rw [hu]; exact hdrop), hu]

end Sys2Proof.Machine
end

section
/-! How Salter serves packets and chains. -/
namespace Sys2Proof.Machine

theorem act_id {f : State → State} {s : State} (h : f s = s) : act f s = .next s := by
  rw [act_same, h] <;> rw [h]

theorem modHost_congr {s : State} {h : Nat} {f g : HostSt → HostSt} (hfg : f (s.host h) = g (s.host h)) : s.modHost h f = s.modHost h g := by
  rw [modHost_eq, modHost_eq, hfg]

/-! ### Whose turn it is, and what the turn takes (R71, R75, R600) -/

theorem takeUnit_chain {chained : List Pkt} {last : Pkt} (rest : List Pkt) (hc : ∀ p ∈ chained, p.chain = true) (hl : last.chain = false) :
    takeUnit (chained ++ last :: rest) = some (chained ++ [last]) := by
  induction chained with
  | nil => simp [takeUnit, hl]
  | cons p t ih =>
    have hp : p.chain = true := hc p List.mem_cons_self
    have ht := ih fun q hq => hc q (List.mem_cons_of_mem p hq)
    simp [takeUnit, hp, ht]

theorem unitOf_chain {s : State} {h : Nat} {chained rest : List Pkt} {last : Pkt} (hq : (s.host h).queue = chained ++ last :: rest)
    (hc : ∀ p ∈ chained, p.chain = true) (hl : last.chain = false) (hheld : (s.host h).held = []) (hfree : chained.length + 1 ≤ (s.host h).freeSlots) :
    s.unitOf h = some (chained ++ [last]) := by
  simp [State.unitOf, hq, takeUnit_chain rest hc hl, hheld, hfree]

/-- The first of a counted list that a test accepts. -/
theorem find_first {α : Type} {g : Nat → α} {p : α → Bool} {i n : Nat} (hi : i < n) (hno : ∀ j < i, p (g j) = false) (hp : p (g i) = true) :
    ((List.range n).map g).find? p = some (g i) := by
  have hfind : (List.range n).find? (p ∘ g) = some i :=
    List.find?_range_eq_some.mpr ⟨hp, List.mem_range.mpr hi, fun j hj => by simp [hno j hj]⟩
  rw [List.find?_map, hfind, Option.map_some]

/-- The state in which the packets of a turn are served. -/
def State.turnTaken (s : State) (h : Nat) (rest : List Pkt) : State := { s with turn := (h + 1) % 4 }.modHost h (fun x => { x with queue := rest })

theorem takePacket_serves {s : State} {f i : Nat} {chained rest : List Pkt} {last : Pkt} (hi : i < 4) (hno : ∀ j < i, s.unitOf ((s.turn + j) % 4) = none)
    (hq : (s.host ((s.turn + i) % 4)).queue = chained ++ last :: rest) (hunit : s.unitOf ((s.turn + i) % 4) = some (chained ++ [last])) :
    s.takePacket f = ((s.turnTaken ((s.turn + i) % 4) rest).atF f).serve ((s.turn + i) % 4) f (chained ++ [last]) := by
  have hfind := find_first (g := fun i => (s.turn + i) % 4) (p := fun h => (s.unitOf h).isSome) hi (fun j hj => by rw [hno j hj]; rfl) (by rw [hunit]; rfl)
  have hdrop : ((s.host ((s.turn + i) % 4)).queue).drop (chained ++ [last]).length = rest := by
    rw [hq, List.append_cons chained last rest, List.drop_left]
  simp only [State.takePacket, hfind, hunit, Option.getD_some]
  exact congrArg (fun u => (State.atF u f).serve ((s.turn + i) % 4) f (chained ++ [last]))
    (modHost_congr (s := { s with turn := ((s.turn + i) % 4 + 1) % 4 }) (congrArg (fun l => { s.host ((s.turn + i) % 4) with queue := l }) hdrop))

theorem takePacket_idle {s : State} {f : Nat} (hno : ∀ h < 4, s.unitOf h = none) : s.takePacket f = s := by
  have hfind : ((List.range 4).map (fun i => (s.turn + i) % 4)).find? (fun h => (s.unitOf h).isSome) = none := by
    rw [List.find?_eq_none]
    intro h hmem
    obtain ⟨i, -, rfl⟩ := List.mem_map.mp hmem
    rw [hno _ (Nat.mod_lt _ (by decide))]
    exact Bool.false_ne_true
  simp only [State.takePacket, hfind]

/-! ### Checks before execution (R75, R76) -/

theorem serve_all {s : State} {h f : Nat} {l : List Pkt} (hok : ∀ r ∈ (s.checkChain h f l).2, r.1 = 0) :
    s.serve h f l = l.foldl (fun v p => v.execPkt h f p) ((s.checkChain h f l).1.modHost h (fun x => { x with due := l.length })) := by
  have hfind : (s.checkChain h f l).2.find? (fun r => r.1 ≠ 0) = none := List.find?_eq_none.mpr fun r hr => by simp [hok r hr]
  simp only [State.serve, hfind]

theorem serve_none {s : State} {h f st : Nat} {lg : Bool} {l : List Pkt} {pre post : List (Nat × Bool)}
    (hres : (s.checkChain h f l).2 = pre ++ (st, lg) :: post) (hpre : ∀ r ∈ pre, r.1 = 0) (hst : st ≠ 0) :
    s.serve h f l = (l.zip (s.checkChain h f l).2).foldl (fun v x =>
        if x.2.1 ≠ 0 then v.answer h x.1 x.2.1 false x.2.2 [] else v.answer h x.1 st true false [])
      ((s.checkChain h f l).1.modHost h (fun x => { x with due := l.length })) := by
  have hfind : (s.checkChain h f l).2.find? (fun r => r.1 ≠ 0) = some (st, lg) := by
    rw [List.find?_eq_some_iff_append]
    exact ⟨decide_eq_true hst, pre, post, hres, fun r hr => by simp [hpre r hr]⟩
  simp only [State.serve, hfind]

/-! ### Open chains (R77) -/

/-- The open chain at the end of a queue. -/
theorem openChain_eq {q run : List Pkt} (hrun : ∀ p ∈ run, p.chain = true) (hlast : ∀ p ∈ q.getLast?, p.chain = false) :
    (((q ++ run).reverse.takeWhile (fun p => p.chain)).reverse) = run := by
  have hq : q.reverse.takeWhile (fun p => p.chain) = [] := by
    rw [List.getLast?_eq_head?_reverse] at hlast
    cases hrev : q.reverse with
    | nil => rfl
    | cons p t =>
      rw [hrev] at hlast
      exact List.takeWhile_cons_of_neg (by rw [hlast p rfl]; exact Bool.false_ne_true)
  rw [List.reverse_append, List.takeWhile_append_of_pos (fun p hp => hrun p (List.mem_reverse.mp hp)), hq, List.append_nil, List.reverse_reverse]

theorem abortChain_eq {s : State} {h : Nat} {q run : List Pkt} (hq : (s.host h).queue = q ++ run) (hrun : ∀ p ∈ run, p.chain = true)
    (hlast : ∀ p ∈ q.getLast?, p.chain = false) :
    s.abortChain h = run.foldl (fun u p =>
      let r : Reply := ⟨p.op, p.tag, 0x11, false, true, h, false, false, []⟩
      if (u.host h).held = [] ∧ 0 < (u.host h).freeSlots then u.enqueueReply h r else u.modHost h (fun y => { y with held := y.held ++ [r] }))
      (s.modHost h (fun x => { x with queue := q })) := by
  have htake : (q ++ run).take ((q ++ run).length - run.length) = q := by
    rw [List.length_append, Nat.add_sub_cancel, List.take_left]
  simp only [State.abortChain, hq, openChain_eq hrun hlast, htake, Bool.and_eq_true, List.isEmpty_iff, decide_eq_true_eq]
  rfl

theorem salterRuns_of {s : State} (hp : s.pwr.phase = 2) (hf : s.pwr.floor = 0) : s.salterRuns = true := by simp [State.salterRuns, hp, hf]

/-- Settles O24: whose turn it is by `find_first`, the chain's outcome by `serve_all` and `serve_none`. -/
theorem packetServingCompletes : Obligations.PacketServingCompletes := by
  intro s hp hf
  have hup := salterRuns_of hp hf
  refine ⟨?_, fun f hturn hno => ?_, fun h q run hh hq hrun hlast => ?_⟩
  · intro f i chained last rest hi hturn h hno hq hc hl hheld hfree l checked u
    have hexec : exec (.salterTakePacket f) s = .next (kept s (((s.turnTaken h rest).atF f).serve h f l)) :=
      act_onlyIf (f := fun u => u.takePacket f) hup (takePacket_serves hi hno hq (unitOf_chain hq hc hl hheld hfree))
    rw [hexec]
    exact ⟨fun hok => next_kept (serve_all hok), fun pre post st lg hres hpre hst => next_kept (serve_none hres hpre hst)⟩
  · exact act_id (f := onlyIf s.salterRuns (fun u => u.takePacket f)) (by rw [onlyIf, if_pos hup, takePacket_idle hno])
  · exact act_onlyIf (f := fun u => u.abortChain h) (by rw [hup, decide_eq_true hh]; rfl) (abortChain_eq hq hrun hlast)

end Sys2Proof.Machine
end

section
/-! The channels' boundaries and the stamps. -/
namespace Sys2Proof.Machine

/-! ### Boundaries (R112, R119 to R126, R195, R601) -/

theorem boundaryAfe_eq (s : State) (c : Nat) (i : Option Nat) (p : Prop) [Decidable p] :
    s.boundaryAfe c i (decide p) = match i with
      | none => s
      | some i => s.applyAfe i (if p ∧ s.running c = true then some c else none) := by
  cases i with
  | none => rfl
  | some i => simp [State.boundaryAfe]

/-- What a boundary does, step by step. -/
theorem boundary_eq (u : State) (c : Nat) :
    u.boundary c =
      let r := u.loadAhead c
      let v := if r.2 then (r.1.applyJobs c).applyTier c else r.1
      let w := if (v.chan c).restartOwed && v.running c then
          (v.modChan c (fun x => { x with restartOwed := false, gapOwed := x.gapOwed || x.stepGap, stepGap := false })).restartChan c true
        else v
      let x := match u.afeOf c with
        | none => w
        | some i => w.applyAfe i (if (w.twrCh c).restarts ≠ (u.twrCh c).restarts ∧ w.running c = true then some c else none)
      x.finishJobs := by
  simp only [State.boundary, boundaryAfe_eq]

/-- Where the channel is when DESCRIPTOR_APPLY comes: a POLLED channel moves on to its grid instant. -/
def State.applyPlace (s : State) (c : Nat) : State := if (s.ad c).acq = 0 ∧ s.running c = true then s.toGrid c else s

/-- The channel is at its boundary. -/
def State.AtBoundary (s u : State) (c : Nat) : Prop :=
  u.atOnce c = true ∨ (u.fifoBound c = true ∧ (u.chan c).overdue = true) ∨ ((s.ad c).acq = 0 ∧ u.onGrid c = true)

theorem ad_toGrid (s : State) (c : Nat) : (s.toGrid c).ad c = s.ad c := by
  unfold State.toGrid State.toTb
  dsimp only
  split
  · rfl
  · split
    · rfl
    · split
      · rfl
      · split <;> rfl

theorem ad_applyPlace (s : State) (c : Nat) : (s.applyPlace c).ad c = s.ad c := by
  unfold State.applyPlace
  split
  · exact ad_toGrid s c
  · rfl

theorem atBoundary_iff (s : State) (c : Nat) :
    ((s.applyPlace c).atBoundary c || (((s.applyPlace c).ad c).acq == 0 && (s.applyPlace c).onGrid c)) = true ↔ s.AtBoundary (s.applyPlace c) c := by
  rw [ad_applyPlace]
  simp only [State.atBoundary, State.AtBoundary, Bool.or_eq_true, Bool.and_eq_true, beq_iff_eq, or_assoc]

theorem applyPlace_eq (s : State) (c : Nat) : (if ((s.ad c).acq = 0 && s.running c) = true then s.toGrid c else s) = s.applyPlace c := by
  simp only [State.applyPlace, Bool.and_eq_true, decide_eq_true_eq]

section
variable {s : State} {c : Nat} (hc : c < 192) (hdue : s.isDue c = true)
include hc hdue

theorem exec_descriptorApply_here (h : s.AtBoundary (s.applyPlace c) c) :
    exec (.descriptorApply c) s = .next (kept s ((s.applyPlace c).boundary c)) := by
  refine act_onlyIf (f := fun u =>
    let v := if (u.ad c).acq = 0 && u.running c then u.toGrid c else u
    if v.atBoundary c || ((v.ad c).acq == 0 && v.onGrid c) then v.boundary c else u) (by rw [hdue, decide_eq_true hc]; rfl) ?_
  simp only [applyPlace_eq]
  exact if_pos ((atBoundary_iff s c).mpr h)

theorem exec_descriptorApply_elsewhere (h : ¬s.AtBoundary (s.applyPlace c) c) : exec (.descriptorApply c) s = .next s := by
  refine act_id (f := onlyIf (c < 192 && s.isDue c) (fun u =>
    let v := if (u.ad c).acq = 0 && u.running c then u.toGrid c else u
    if v.atBoundary c || ((v.ad c).acq == 0 && v.onGrid c) then v.boundary c else u)) ?_
  rw [onlyIf, hdue, decide_eq_true hc]
  simp only [applyPlace_eq]
  exact if_neg (mt (atBoundary_iff s c).mp h)

theorem exec_streamedBoundaryTimeout (hfifo : s.fifoBound c = true) :
    exec (.streamedBoundaryTimeout c) s = .next (kept s ((s.modChan c (fun x => { x with overdue := true })).boundary c)) :=
  act_onlyIf (f := fun u => (u.modChan c (fun x => { x with overdue := true })).boundary c) (by rw [hdue, decide_eq_true hc, hfifo]; rfl) rfl

end

/-- Settles O25: the boundary by `boundary_eq`, the stamps by the oldest capture of the latch. -/
theorem channelCommandsComplete : Obligations.ChannelCommandsComplete := by
  refine fun s => ⟨?_, ?_⟩
  · intro c hc hdue boundary u here
    refine ⟨fun h => ?_, fun h => exec_descriptorApply_elsewhere hc hdue h, fun hfifo => ?_⟩
    · exact (exec_descriptorApply_here hc hdue h).trans (next_kept (boundary_eq _ c))
    · exact (exec_streamedBoundaryTimeout hc hdue hfifo).trans (next_kept (boundary_eq _ c))
  · intro l n f rest hl hn stamp out
    have hrun : s.composeStamp l = { s with
        time := { s.time with latches := s.time.latches.set (fun _ => []) l rest },
        ports := s.ports.map (fun p => (p.1, { p.2 with acqs := p.2.acqs.map (fun a => { a with stamp := stamp a.chan a.stamp }) })),
        chans := s.chans.map (fun p => (p.1, { p.2 with edge := p.2.edge.map (stamp p.1) })),
        twr := { s.twr with
          entry := s.twr.entry.map (fun x => { x with stamp := stamp x.chan x.stamp }),
          held := s.twr.held.map out,
          ch := s.twr.ch.map (fun p => (p.1, { p.2 with stamps := p.2.stamps.map (stamp p.1), last := p.2.last.map out })) } } := by
      simp only [State.composeStamp, hl, if_neg (Nat.not_lt.mpr hn)]
      rfl
    refine (act_same (f := fun u => u.composeStamp l) ?_ ?_ ?_).trans (congrArg Host.Outcome.next hrun) <;> rw [hrun]

end Sys2Proof.Machine
end

section
/-! Writes of the memory windows and of the registers. -/
namespace Sys2Proof.Machine

/-! ### Windows (R97, R116, R159, R235) -/

/-- A write of one word within an array, whose access is served. -/
theorem arrayWrite_word {s u : State} {h a k : Nat} {arrays : List Nat} {v : Word} (hup : s.writeUp h = true) (ha : a % 4 = 0) (hk : arrays.contains k = true)
    (hfirst : spotOf a = .mem k) (hlast : spotOf (a + 3) = .mem k) (hj : s.judge h a 4 (some v.toNat) = .pass) (hu : s.writeUnit h a 4 v.toNat = u) :
    act (fun s => s.arrayWrite h arrays a (toBytes (asOperand (wordBytes v)))) s = .next (accessed s h a u) := by
  refine act_kept ?_
  have hend : a + (wordBytes v).length - 1 = a + 3 := rfl
  simp only [toBytes_asOperand, State.arrayWrite, hend, hfirst, hlast, hup, hk, Bool.and_self, if_true]
  rw [memWrite_word ha, accessWrite_pass hj, hu]

theorem writeUnit_table {s u : State} {h a : Nat} {v : Word} (hs : spotOf a = .mem 0) (ht : s.tableStore a (bytesOf 4 v.toNat) = some u) :
    s.writeUnit h a 4 v.toNat = u := by
  simp only [State.writeUnit, hs, ht, Option.getD_some]

theorem writeUnit_script {s : State} {h a : Nat} {v : Word} (hs : spotOf a = .mem 1) : s.writeUnit h a 4 v.toNat = s.wrBytes a (bytesOf 4 v.toNat) := by
  simp only [State.writeUnit, hs]

theorem writeUnit_seed {s u : State} {h a k : Nat} {v : Word} (hk : k = 2 ∨ k = 3) (hs : spotOf a = .mem k) (ht : s.seedStore a (bytesOf 4 v.toNat) = some u) :
    s.writeUnit h a 4 v.toNat = u := by
  obtain rfl | rfl := hk <;> simp only [State.writeUnit, hs, ht, Option.getD_some]

/-! ### Registers (R541, R550, R551) -/

theorem exec_registerWrite {s : State} {h a : Nat} (v : Word) (hup : s.writeUp h = true) :
    exec (.registerWrite h a v) s = .next (kept s ((s.accessWrite h a 4 v.toNat).1).settle) :=
  act_onlyIf (f := fun u => ((u.accessWrite h a 4 v.toNat).1).settle) hup rfl

theorem salterRuns_of_writeUp {s : State} {h : Nat} (hup : s.writeUp h = true) : s.salterRuns = true := by
  obtain ⟨hruns, -⟩ := (Bool.and_eq_true _ _).mp hup
  exact hruns

theorem exec_blockBoundaryApply {s : State} {a : Nat} {ref : RegRef} (hruns : s.salterRuns = true) (hf : s.isFenced 8 (spotDomain a) = false)
    (href : regAt (a - a % 4) = some ref) (hacc : ref.reg.row.access = .rwb) :
    exec (.blockBoundaryApply a) s = .next (kept s (s.blockBoundary ref.reg ref.inst).settle) := by
  refine act_onlyIf (f := fun u => match regAt (a - a % 4) with
    | some ref => if ref.reg.row.access = .rwb then (u.blockBoundary ref.reg ref.inst).settle else u
    | none => u) (by rw [hruns, hf]; rfl) ?_
  simp only [href, hacc, if_true]

/-- Settles O26: each window by what its array stores, a register by its access. -/
theorem windowAndRegisterWritesComplete : Obligations.WindowAndRegisterWritesComplete := by
  intro s h a v hup
  refine ⟨fun ha hj => ⟨fun u hfirst hlast ht => ?_, fun hfirst hlast => ?_, fun k u hk hfirst hlast ht => ?_⟩, fun hj => ?_, fun st hj => ?_,
    fun ref hf href hacc => exec_blockBoundaryApply (salterRuns_of_writeUp hup) hf href hacc⟩
  · exact arrayWrite_word (arrays := [0]) hup ha rfl hfirst hlast hj (writeUnit_table hfirst ht)
  · exact arrayWrite_word (arrays := [1]) hup ha rfl hfirst hlast hj (writeUnit_script hfirst)
  · have hmem : [2, 3].contains k = true := by obtain rfl | rfl := hk <;> rfl
    exact arrayWrite_word hup ha hmem hfirst hlast hj (writeUnit_seed hk hfirst ht)
  · rw [exec_registerWrite v hup, accessWrite_pass hj]
    rfl
  · rw [exec_registerWrite v hup, accessWrite_bus hj]

end Sys2Proof.Machine
end

section
/-! The acquisitions of the serial ports. -/
namespace Sys2Proof.Machine

/-! ### Starts (R101, R103, R158, R164) -/

theorem toGrid_other {s : State} {c : Nat} (h : (s.ad c).acq ≠ 0) : s.toGrid c = s := by
  simp [State.toGrid, h]

theorem exec_acquisitionStart_triggered {s : State} {c : Nat} {late gap : Bool} (hc : c < 192) (h2 : (s.ad c).acq = 2) :
    exec (.acquisitionStart c late gap) s = .next (kept s (s.startAcq c late gap none)) := by
  have h0 : (s.ad c).acq ≠ 0 := by omega
  refine act_onlyIf (f := fun w =>
    let u := w.toGrid c
    if !u.onGrid c then w
    else if (u.ad c).acq = 0 then
      let v := u.boundary c
      if (v.ad c).acq = 0 && v.onGrid c then v.startAcq c late gap (v.gridIndex c) else v
    else u.startAcq c late gap none) (by simp [hc, h2]) ?_
  simp [toGrid_other h0, State.onGrid, h0]

theorem exec_acquisitionStart_polled {s : State} {c : Nat} {late gap : Bool} (hc : c < 192) (h0 : (s.ad c).acq = 0) (hgrid : (s.toGrid c).onGrid c = true) :
    exec (.acquisitionStart c late gap) s = .next (kept s (
      let v := (s.toGrid c).boundary c
      if (v.ad c).acq = 0 ∧ v.onGrid c = true then v.startAcq c late gap (v.gridIndex c) else v)) := by
  have hu : ((s.toGrid c).ad c).acq = 0 := by rw [ad_toGrid, h0]
  refine act_onlyIf (f := fun w =>
    let u := w.toGrid c
    if !u.onGrid c then w
    else if (u.ad c).acq = 0 then
      let v := u.boundary c
      if (v.ad c).acq = 0 && v.onGrid c then v.startAcq c late gap (v.gridIndex c) else v
    else u.startAcq c late gap none) (by simp [hc, h0]) ?_
  simp only [hgrid, hu, Bool.not_true, Bool.false_eq_true, if_false, if_true, Bool.and_eq_true, decide_eq_true_eq]

theorem startAcq_serial {s : State} {c : Nat} {late gap : Bool} {g : Option Int} (hacq : s.acquiring c = true) (hcore : s.isFenced 8 2 = false)
    (h2 : (s.ad c).acq = 2) (hp : (s.ad c).kind < 18) : s.startAcq c late gap g = s.startSerial c late gap g [] none false := by
  simp [State.startAcq, hacq, hcore, h2, State.gridOk, Desc.isPort, hp]

theorem startAcq_pin {s : State} {c : Nat} {late gap : Bool} {g : Option Int} (hacq : s.acquiring c = true) (hcore : s.isFenced 8 2 = false)
    (h2 : (s.ad c).acq = 2) (hp : (s.ad c).kind = 20) : s.startAcq c late gap g = (s.countAcq c).instantSample c late gap g := by
  simp [State.startAcq, hacq, hcore, h2, State.gridOk, Desc.isPort, hp]

/-- A port that is on, free of fence, and in the controller's role serves an acquisition that is not STREAMED. -/
theorem refusal_none {s : State} {d : Desc} {p : Nat} (hacq : d.acq ≠ 1) (hf : s.isFenced 0 p = false) (hon : s.portOn p = true) (ht : s.portTarget p = false) :
    s.refusal d p = 0 := by
  simp [State.refusal, hf, hon, ht, hacq]

theorem startSerial_queued {s : State} {c : Nat} {late gap : Bool} {g : Option Int} (h2 : (s.ad c).acq = 2)
    (href : s.refusal (s.ad c) (s.ad c).kind = 0) (hok : s.scriptOk (s.ad c) (s.copyScript (s.ad c)) = true) :
    s.startSerial c late gap g [] none false = (s.countAcq c).modPort (s.ad c).kind (fun x => { x with acqs := x.acqs ++
      [{ chan := c, due := s.tb0u, prio := (s.ad c).prio, stamp := s.stampNow c, script := s.copyScript (s.ad c), idx := 0, tries := 0,
         phase := 0, bytes := [], g := g, late := late, gap := gap, lost := false }] }) := by
  simp [State.startSerial, h2, href, hok]

/-! ### Transactions (R160, R162, R175) -/

theorem not_isSsp {p : Nat} : (!isSsp p) = decide (12 ≤ p) := by
  rw [Bool.eq_iff_iff]
  simp [isSsp]

/-- What a transaction that starts leaves in its port: the slot's select, and the command codes of its transfer. -/
def Port.opened (p : Nat) (slot : List Word) (x : Port) : Port :=
  { x with curSel := if isSsp p then slotAddr slot % 4 else x.curSel, floating := false,
           cccs := if 12 ≤ p ∧ slotType slot = 3 then [⟨0x20, none, []⟩] else [] }

section
variable {s : State} {p sda : Nat} {a : Acq} {t : List Acq} (hhead : ((s.selectAcq p).port p).acqs = a :: t) (hphase : a.phase = 0)
  (hwait : s.busWait p = false) (hf : s.isFenced 0 p = false) (hon : s.portOn p = true) (ht : s.portTarget p = false) (hsda : p < 12 ∨ sda < 10)

/-- The port with the transaction counted, and the recovery that preceded it. -/
def State.transactionCounted (s : State) (p sda : Nat) : State :=
  let v := (s.selectAcq p).modPort p (fun x => { x with transactions := (x.transactions + 1) % 2 ^ 32 })
  if isSsp p || sda = 0 then v else v.modPort p (fun x => { x with recoveries := satAt 65535 (x.recoveries + 1) })

include hhead hphase hwait hf hon ht hsda

theorem transactionStart_eq :
    s.transactionStart p sda =
      let slot := a.script.getD a.idx []
      let first := a.idx = 0 && (s.ad a.chan).acq ≠ 1
      let r := if first then (s.transactionCounted p sda).latchFor (portLatch p) a.chan 0 else (s.transactionCounted p sda, none)
      r.1.modPort p (fun x => Port.opened p slot (x.mapHead (fun b =>
        { b with phase := 1, stamp := r.2.getD b.stamp, lost := if first then r.2.isNone else b.lost }))) := by
  have hstop : (a.phase ≠ 0 || s.busWait p || s.isFenced 0 p || !s.portOn p) = false := by simp [hphase, hwait, hf, hon]
  have hrec : (!isSsp p && 10 ≤ sda) = false := by
    rw [not_isSsp, Bool.and_eq_false_imp, decide_eq_true_eq, decide_eq_false_iff_not]
    omega
  simp only [State.transactionStart, hhead, hstop, ht, Bool.false_eq_true, if_false]
  rw [hrec, not_isSsp]
  simp only [Bool.and_eq_true, decide_eq_true_eq, Bool.false_eq_true, if_false]
  rfl

end

/-! ### Ends of attempts (R158, R160, R163, R165 to R167, R176) -/

theorem portBoundary_eq (s : State) (p : Nat) : s.portBoundary p = if p < 12 then s.applySsp p else s.applyI3c p := by
  simp [State.portBoundary, isSsp]

theorem endCause_eq (slot : List Word) (cause : Nat) (bytes : List Nat) :
    endCause slot cause bytes = if cause = 0 ∧ bitAt (slot.getD 1 0) 21 = true ∧ uniform bytes = true then 3 else cause := by
  simp [endCause, and_assoc]

theorem attemptFits {p cause n m : Nat}
    (h : if cause = 0 then n = m else 12 ≤ p ∧ (cause = 1 ∨ cause = 5 ∨ cause = 7) ∧ n ≤ m) :
    (if cause = 0 then n == m else !isSsp p && [1, 5, 7].contains cause && decide (n ≤ m)) = true := by
  split at h
  · rename_i h0
    rw [if_pos h0, beq_iff_eq]
    exact h
  · rename_i h0
    rw [if_neg h0, not_isSsp]
    simpa [and_assoc] using h

section
variable {s : State} {p cause aux : Nat} {bytes : List Nat} {a : Acq} {t : List Acq} (hhead : (s.port p).acqs = a :: t) (hphase : a.phase = 1)
  (hfits : if cause = 0 then bytes.length = slotRead (a.script.getD a.idx [])
    else 12 ≤ p ∧ (cause = 1 ∨ cause = 5 ∨ cause = 7) ∧ bytes.length ≤ slotRead (a.script.getD a.idx []))
include hhead hphase hfits

theorem attemptEnd_eq :
    s.attemptEnd p cause bytes aux =
      let slot := a.script.getD a.idx []
      let k := endCause slot cause bytes
      let u := s.tallyAttempt p a.chan (slotSent p slot + bytes.length)
      let b : Acq := { a with bytes := a.bytes ++ bytes.map (BitVec.ofNat 8), tries := 0 }
      let v := u.portGood p (slotAddr slot)
      if k ≠ 0 then ((u.recordCause p k (slotAddr slot) aux).attemptFail p k).portBoundary p
      else if a.idx + 1 < a.script.length then
        (v.modPort p (fun x => x.mapHead (fun _ => { b with idx := a.idx + 1, phase := if slotPost slot = 0 then 0 else 3 }))).portBoundary p
      else (v.acqDone p b).portBoundary p := by
  have hstop : (a.phase ≠ 1 || !(if cause = 0 then bytes.length == slotRead (a.script.getD a.idx [])
      else !isSsp p && [1, 5, 7].contains cause && decide (bytes.length ≤ slotRead (a.script.getD a.idx [])))) = false := by
    rw [attemptFits hfits, hphase]
    rfl
  simp only [State.attemptEnd, hhead, hstop, Bool.false_eq_true, if_false]

end

theorem busWaitTimeout_eq {s : State} {p : Nat} {a : Acq} {t : List Acq} (hhead : ((s.selectAcq p).port p).acqs = a :: t) (h1 : a.phase ≠ 1) (h3 : a.phase ≠ 3)
    (hwait : s.busWait p = true) :
    s.busWaitTimeout p =
      ((((s.selectAcq p).modPort p (fun x => { x with transactions := (x.transactions + 1) % 2 ^ 32 })).tallyAttempt p a.chan 0).attemptFail p 2) := by
  simp [State.busWaitTimeout, hhead, h1, h3, hwait]

/-- Settles O27: starts by `startAcq`, transactions by `transactionStart_eq`, the ends of attempts by `attemptEnd_eq`. -/
theorem acquisitionCommandsComplete : Obligations.AcquisitionCommandsComplete := by
  refine fun s => ⟨?_, ?_⟩
  · intro c late gap hc hacq hcore d p
    refine ⟨fun h2 hp hf hon ht hok => ?_, fun h2 hp => ?_, fun h0 => exec_acquisitionStart_polled hc h0⟩
    · have href : s.refusal (s.ad c) (s.ad c).kind = 0 := refusal_none (by rw [h2]; decide) hf hon ht
      rw [exec_acquisitionStart_triggered hc h2, startAcq_serial hacq hcore h2 hp, startSerial_queued h2 href hok]
      rfl
    · rw [exec_acquisitionStart_triggered hc h2, startAcq_pin hacq hcore h2 hp]
  · intro p hp slot
    refine ⟨?_, ?_, act_onlyIf (f := fun u => u.phaseEnd p 2) (decide_eq_true hp) rfl, act_onlyIf (f := fun u => u.phaseEnd p 3) (decide_eq_true hp) rfl, ?_⟩
    · intro f sda a t hcore u hhead hphase hwait hf hon ht hsda v w rest
      have hexec : exec (.transactionStart p f sda) s = .next (kept s ((s.atF f).transactionStart p sda)) :=
        act_onlyIf (f := fun u => (u.atF f).transactionStart p sda) (by rw [hcore, decide_eq_true hp]; rfl) rfl
      have hw : w = (s.atF f).transactionCounted p sda := by
        simp only [w, v, u, State.transactionCounted, Bool.or_eq_true, decide_eq_true_eq]
      rw [hexec, transactionStart_eq (s := s.atF f) hhead hphase hwait hf hon ht hsda, ← hw]
      refine ⟨fun hlater => ?_, fun h0 h1 => ?_⟩
      · have hfirst : (a.idx = 0 && ((s.atF f).ad a.chan).acq ≠ 1) = false := by
          have hlater' : a.idx ≠ 0 ∨ ((s.atF f).ad a.chan).acq = 1 := hlater
          obtain h | h := hlater' <;> simp [h]
        simp only [hfirst]
        rfl
      · have hfirst : (a.idx = 0 && ((s.atF f).ad a.chan).acq ≠ 1) = true := by
          have h1' : ((s.atF f).ad a.chan).acq ≠ 1 := h1
          simp [h0, h1']
        simp only [hfirst]
        rfl
    · intro cause aux bytes a t hhead hphase hfits k u bound b v
      have hbound : ∀ x, bound x = x.portBoundary p := fun x => (portBoundary_eq x p).symm
      have hk : k = endCause (slot a) cause bytes := (endCause_eq (slot a) cause bytes).symm
      have hexec : exec (.attemptEnd p cause bytes aux) s = .next (kept s (s.attemptEnd p cause bytes aux)) :=
        act_onlyIf (f := fun u => u.attemptEnd p cause bytes aux) (decide_eq_true hp) rfl
      rw [hexec, attemptEnd_eq hhead hphase hfits, hk]
      simp only [hbound]
      refine ⟨fun hbad => next_kept (if_pos hbad), fun hgood hmore => next_kept ?_, fun hgood hlast => next_kept ?_⟩
      · exact (if_neg (not_not_intro hgood)).trans (if_pos hmore)
      · exact (if_neg (not_not_intro hgood)).trans (if_neg (by omega))
    · intro a t u hhead h1 h3 hwait
      exact act_onlyIf (f := fun u => u.busWaitTimeout p) (decide_eq_true hp) (busWaitTimeout_eq hhead h1 h3 hwait)

end Sys2Proof.Machine
end

section
/-! The commands of the SSP ports. -/
namespace Sys2Proof.Machine

/-! ### Foreign selects (R144 to R147) -/

theorem foreignAssert_fault {s : State} {p : Nat} {a : Acq} {t : List Acq} (hq : (s.port p).acqs = a :: t) (h1 : a.phase = 1) (hf : (s.port p).foreign = false) :
    s.foreignAssert p = (s.modPort p (fun x => { x with foreign := true, busFree := false })).modeFault p a := by
  simp [State.foreignAssert, hq, h1, hf]

theorem foreignAssert_kept {s : State} {p : Nat} (h : (∀ a ∈ (s.port p).acqs.head?, a.phase ≠ 1) ∨ (s.port p).foreign = true) :
    s.foreignAssert p = s.modPort p (fun x => { x with foreign := true, busFree := false }) := by
  cases hq : (s.port p).acqs with
  | nil => simp [State.foreignAssert, hq]
  | cons a t =>
    have hno : ¬(a.phase = 1 ∧ (s.port p).foreign = false) := by
      rintro ⟨h1, hf⟩
      obtain h | h := h
      · exact h a (by rw [hq]; rfl) h1
      · rw [hf] at h
        exact Bool.false_ne_true h
    simp only [State.foreignAssert, hq, Bool.and_eq_true, decide_eq_true_eq, Bool.not_eq_true', if_neg hno]

/-! ### Target frames (R148 to R150) -/

/-- How a frame of `n` bits on a select line is classed: by what the channel of the line needs. -/
def State.frameKind (s : State) (p line n : Nat) : Nat :=
  frameClass (s.portCfg p) (match s.frameChan p line with
    | some c => bits (s.desc c 2) 23 16 + (s.ad c).ncomp * (s.ad c).cwidth
    | none => 0) n

/-- The port after an accepted frame: counted, and the runs of refused frames on its line ended. -/
def State.frameTaken (s : State) (p line : Nat) : State := (s.modPort p (fun x => { x with frames := (x.frames + 1) % 65536 })).logEndRun 0 p 0x12 line

section
variable {s : State} {p line extra : Nat} {bytes : List Nat}

theorem targetFrame_short (h : s.frameKind p line (8 * bytes.length + extra) = 1) :
    s.targetFrame p line bytes extra = ((s.portEvt p 1).portCnt p 0).logRun 0 p 0x12 line := by
  cases hch : s.frameChan p line <;> simp only [State.frameKind, hch] at h <;> simp only [State.targetFrame, hch, h]

theorem targetFrame_long (h : s.frameKind p line (8 * bytes.length + extra) = 2) :
    s.targetFrame p line bytes extra = ((s.portEvt p 2).portCnt p 1).logRun 0 p 0x12 line := by
  cases hch : s.frameChan p line <;> simp only [State.frameKind, hch] at h <;> simp only [State.targetFrame, hch, h]

variable (h : s.frameKind p line (8 * bytes.length + extra) = 0)
include h

theorem targetFrame_unused (hch : s.frameChan p line = none) : s.targetFrame p line bytes extra = s.frameTaken p line := by
  simp only [State.frameKind, hch] at h
  simp only [State.targetFrame, hch, h]
  rfl

theorem targetFrame_idle {c : Nat} (hch : s.frameChan p line = some c) (hacq : (s.frameTaken p line).acquiring c = false) :
    s.targetFrame p line bytes extra = s.frameTaken p line := by
  simp only [State.frameKind, hch] at h
  simp only [State.targetFrame, hch, h]
  exact if_pos (congrArg not hacq)

theorem targetFrame_lost {c : Nat} (hch : s.frameChan p line = some c) (hacq : (s.frameTaken p line).acquiring c = true)
    (hcap : ((s.frameTaken p line).latchFor (portLatch p) c 0).2 = none) :
    s.targetFrame p line bytes extra = ((s.frameTaken p line).latchFor (portLatch p) c 0).1.countAcq c := by
  rw [State.frameTaken] at hacq hcap ⊢
  simp only [State.frameKind, hch] at h
  simp only [State.targetFrame, hch, h, hacq, hcap, Bool.not_true, Bool.false_eq_true, if_false]

theorem targetFrame_sample {c : Nat} {st : Stamp} (hch : s.frameChan p line = some c) (hacq : (s.frameTaken p line).acquiring c = true)
    (hcap : ((s.frameTaken p line).latchFor (portLatch p) c 0).2 = some st) :
    s.targetFrame p line bytes extra =
      let r := (s.frameTaken p line).latchFor (portLatch p) c 0
      let x := r.1.unpack (r.1.ad c) (bytes.map (BitVec.ofNat 8))
      (x.1.countAcq c).goodAcq
        { chan := c, comps := x.2.1, gap := false, stale := false, degraded := false, sat := x.2.2, late := false, stamp := st, g := none } (x.1.stampVal c st) := by
  rw [State.frameTaken] at hacq hcap ⊢
  simp only [State.frameKind, hch] at h
  simp only [State.targetFrame, hch, h, hacq, hcap, Bool.not_true, Bool.false_eq_true, if_false]

end

/-- Settles O28: foreign selects, the outcomes of a frame by its class, and the watchdog. -/
theorem sspCommandsComplete : Obligations.SspCommandsComplete := by
  intro s p hp
  refine ⟨fun hon hmulti ht hf => ?_, act_onlyIf (f := fun u => u.modPort p (fun x => { x with foreign := false })) (decide_eq_true hp) rfl,
    fun hfor => act_onlyIf (f := fun u => u.modPort p (fun x => { x with busFree := true })) (by rw [decide_eq_true hp, hfor]; rfl) rfl, ?_, ?_⟩
  · have hcond : (p < 12 && s.portOn p && bitAt (s.portCfg p) 29 && !s.portTarget p && !s.isFenced 0 p) = true := by simp [hp, hon, hmulti, ht, hf]
    exact ⟨fun a t hq h1 hfor => act_onlyIf (f := fun u => u.foreignAssert p) hcond (foreignAssert_fault hq h1 hfor),
      fun h => act_onlyIf (f := fun u => u.foreignAssert p) hcond (foreignAssert_kept h)⟩
  · intro line f extra bytes hline hon ht hf u need kind v next
    have hcond : (p < 12 && line < 4 && s.portOn p && s.portTarget p && !s.isFenced 0 p) = true := by simp [hp, hline, hon, ht, hf]
    have hnext : ∀ w, u.targetFrame p line bytes extra = w → next w := fun w hw =>
      act_onlyIf (f := fun u => ((u.atF f).targetFrame p line bytes extra).applySsp p) hcond (congrArg (fun x => State.applySsp x p) hw)
    have hkind : ∀ k, kind = k → u.frameKind p line (8 * bytes.length + extra) = k := fun k hk => hk
    refine ⟨fun hk hch => hnext _ (targetFrame_unused (hkind 0 hk) hch), fun c hk hch hacq => hnext _ (targetFrame_idle (hkind 0 hk) hch hacq),
      fun c hk hch hacq => ⟨fun hcap => hnext _ (targetFrame_lost (hkind 0 hk) hch hacq hcap), fun st hcap => hnext _ (targetFrame_sample (hkind 0 hk) hch hacq hcap)⟩,
      fun hk => hnext _ (targetFrame_short (hkind 1 hk)), fun hk => hnext _ (targetFrame_long (hkind 2 hk))⟩
  · intro c hc hacq h1 h21 hwd d cause
    exact act_onlyIf (f := fun u => u.watchdog c) (by simpa [hc, hacq, h1, h21] using hwd) rfl

end Sys2Proof.Machine
end

section
/-! The commands of the I3C ports. -/
namespace Sys2Proof.Machine

section
variable {s : State} {p : Nat} (hp : 12 ≤ p) (hp' : p < 18)
include hp hp'

theorem exec_busInitialisation {found : List Nat} (hinit : (s.port p).init = true) (hf : s.isFenced 0 p = false) :
    exec (.busInitialisation p found) s = .next (kept s (s.busInit p found)) :=
  act_onlyIf (f := fun u => u.busInit p found) (by simp [hp, hp', hinit, hf]) rfl

theorem exec_hotJoin {found : List Nat} (hon : s.portOn p = true) (hf : s.isFenced 0 p = false) :
    exec (.hotJoin p found) s = .next (kept s (s.hotJoin p found)) :=
  act_onlyIf (f := fun u => u.hotJoin p found) (by simp [hp, hp', hon, hf]) rfl

theorem exec_ibi {addr f : Nat} {bytes : List Nat} (hon : s.portOn p = true) (hf : s.isFenced 0 p = false) (ht : s.inTransaction p = false) :
    exec (.ibi p addr f bytes) s = .next (kept s ((s.atF f).ibi p addr bytes)) :=
  act_onlyIf (f := fun u => (u.atF f).ibi p addr bytes) (by simp [hp, hp', hon, hf, ht]) rfl

theorem exec_stretch : exec (.stretch p) s = .next (kept s (s.stretch p)) :=
  act_onlyIf (f := fun u => u.stretch p) (by simp [hp, hp']) rfl

end

/-! ### Hot-joins (R171, R172) -/

/-- The port's answer to a hot-join, with the command code that it sends. -/
def State.joinAnswered (s : State) (p : Nat) (ack : Bool) (x : Ccc) : State := (s.portEvt p 3).modPort p (fun y => { y with joinAck := ack, cccs := [x] })

/-- The open entries of the target table. -/
def State.openTargets (s : State) (p : Nat) : List Nat := (s.tgtList p false).filter (fun k => !bitAt (s.tgtEntry p k) 25)

/-- The open entries take the joining targets in turn. -/
def State.joined (s : State) (p : Nat) (found : List Nat) : State :=
  ((s.openTargets p).zip found).foldl (fun w q => w.setTgt p q.1 (some q.2)) (s.joinAnswered p true ⟨0x07, none, []⟩)

theorem hotJoin_nacked {s : State} {p : Nat} {found : List Nat} (hoff : bitAt (s.portCfg p) 30 = false) :
    s.hotJoin p found = s.joinAnswered p false ⟨0x01, none, [8]⟩ := by
  simp only [State.hotJoin, hoff, Bool.not_false, if_true]
  rfl

theorem hotJoin_taken {s : State} {p : Nat} {found : List Nat} (hon : bitAt (s.portCfg p) 30 = true) :
    s.hotJoin p found = if (s.openTargets p).length < max 1 found.length then ((s.joined p found).portEvt p 4).logErr 0 p 0x16
      else (s.joined p found).logEnd 0 p 0x16 := by
  simp only [State.hotJoin, hon, Bool.not_true, Bool.false_eq_true, if_false]
  rfl

/-! ### In-band interrupts (R173) -/

/-- The entry of the target table that an interrupt's address names. -/
def State.ibiEntry (s : State) (p addr : Nat) : Option Nat :=
  (List.range 8).find? (fun k => bitAt (s.tgtEntry p k) 31 && bits (s.tgtEntry p k) 22 16 == addr && bitAt (s.tgtEntry p k) 28)

/-- The channels of the target. -/
def State.ibiChans (s : State) (p addr : Nat) : List Nat :=
  (List.range 192).filter (fun c => s.acquiring c && (s.ad c).kind == p && (s.ad c).acq == 1 && (s.ad c).unit == addr)

theorem ibi_unknown {s : State} {p addr : Nat} {bytes : List Nat} (h : s.ibiEntry p addr = none) :
    s.ibi p addr bytes = ((s.portEvt p 1).portCnt p 1).logRun 0 p 0x14 addr := by
  rw [State.ibiEntry] at h
  simp only [State.ibi, h]

section
variable {s : State} {p addr k : Nat} {bytes : List Nat} (h : s.ibiEntry p addr = some k)
include h

theorem ibi_idle (hc : (s.logEndRun 0 p 0x14 addr).ibiChans p addr = []) : s.ibi p addr bytes = s.logEndRun 0 p 0x14 addr := by
  rw [State.ibiEntry] at h
  rw [State.ibiChans] at hc
  simp only [State.ibi, h, hc]
  rfl

theorem ibi_stamped (hc : (s.logEndRun 0 p 0x14 addr).ibiChans p addr ≠ []) (hok : ((s.logEndRun 0 p 0x14 addr).latchPush (portLatch p)).2 = true) :
    s.ibi p addr bytes =
      let v := s.logEndRun 0 p 0x14 addr
      (v.ibiChans p addr).foldl (fun w c => w.startSerial c false false none ((bytes.take (bits (s.tgtEntry p k) 27 26 + 1)).map (BitVec.ofNat 8))
        (some (v.waiting (portLatch p) 0)) false) (v.latchPush (portLatch p)).1 := by
  rw [State.ibiEntry] at h
  simp only [State.ibi, h, hok]
  exact if_neg (mt List.isEmpty_iff.mp hc)

theorem ibi_lost (hc : (s.logEndRun 0 p 0x14 addr).ibiChans p addr ≠ []) (hok : ((s.logEndRun 0 p 0x14 addr).latchPush (portLatch p)).2 = false) :
    s.ibi p addr bytes =
      let v := s.logEndRun 0 p 0x14 addr
      (v.ibiChans p addr).foldl (fun w c => (w.modChan c (fun x => { x with gapOwed := true })).startSerial c false false none
        ((bytes.take (bits (s.tgtEntry p k) 27 26 + 1)).map (BitVec.ofNat 8)) none true) (v.latchPush (portLatch p)).1 := by
  rw [State.ibiEntry] at h
  simp only [State.ibi, h, hok]
  exact if_neg (mt List.isEmpty_iff.mp hc)

end

/-! ### Stretches (R174) -/

theorem tallyCut_eq {s : State} {p : Nat} {a : Acq} :
    ∃ n, n ≤ slotSent p (a.script.getD a.idx []) + slotRead (a.script.getD a.idx []) ∧
      s.tallyCut p a = { s with free := s.free + 1 }.tallyAttempt p a.chan n :=
  ⟨(Config.freeValue s.free).toNat % (slotSent p (a.script.getD a.idx []) + slotRead (a.script.getD a.idx []) + 1),
    Nat.le_of_lt_succ (Nat.mod_lt _ (Nat.succ_pos _)), rfl⟩

theorem stretch_fails {s : State} {p : Nat} {a : Acq} {t : List Acq} (hp : 12 ≤ p) (hq : (s.port p).acqs = a :: t) (h1 : a.phase = 1)
    (hlim : bitAt ((a.script.getD a.idx []).getD 0 0) 19 = true) :
    s.stretch p = ((((s.tallyCut p a).recordCause p 6 (slotAddr (a.script.getD a.idx [])) 0).attemptFail p 6).applyI3c p) := by
  have hcond : (a.phase ≠ 1 || !bitAt ((a.script.getD a.idx []).getD 0 0) 19) = false := by rw [hlim, h1]; rfl
  have hi3c : ¬p < 12 := by omega
  simp only [State.stretch, hq, hcond, Bool.false_eq_true, if_false]
  rw [portBoundary_eq, if_neg hi3c]

/-- Settles O29: the four commands by what the port does. -/
theorem i3cCommandsComplete : Obligations.I3cCommandsComplete := by
  intro s p hp hp'
  refine ⟨?_, ?_, ?_, ?_⟩
  · intro found hinit hf s1 s2 s3
    exact exec_busInitialisation hp hp' hinit hf
  · intro found hon hf u openOnes v
    rw [exec_hotJoin hp hp' hon hf]
    refine ⟨fun hoff => next_kept (hotJoin_nacked hoff), fun hack hlt => next_kept ?_, fun hack hle => next_kept ?_⟩
    · exact (hotJoin_taken hack).trans (if_pos hlt)
    · exact (hotJoin_taken hack).trans (if_neg (by exact Nat.not_lt.mpr hle))
  · intro addr f bytes hon hf ht entry u
    rw [exec_ibi hp hp' hon hf ht]
    refine ⟨fun hnone => next_kept (ibi_unknown (s := u) hnone), ?_⟩
    intro k hk v chans payload r
    exact ⟨fun hc => next_kept (ibi_idle (s := u) hk hc), fun hc hok => next_kept (ibi_stamped (s := u) hk hc hok),
      fun hc hok => next_kept (ibi_lost (s := u) hk hc hok)⟩
  · intro a t hq h1 slot hlim
    obtain ⟨n, hn, hcut⟩ := tallyCut_eq (s := s) (p := p) (a := a)
    refine ⟨n, hn, ?_⟩
    rw [exec_stretch hp hp', stretch_fails hp hq h1 hlim, hcut]

end Sys2Proof.Machine
end

section
/-! The commands of the analogue inputs, the excitation outputs and the event pins. -/
namespace Sys2Proof.Machine

/-- Where a change keeps the queue, the tick and PROVISIONED, the command answers what it makes. -/
theorem act_next {f : State → State} {s t : State} (h : f s = t) (h1 : t.pending = s.pending) (h2 : t.tick = s.tick) (h3 : t.provisioned = s.provisioned) :
    act f s = .next t := (act_kept h).trans (congrArg Host.Outcome.next (kept_of_same h1 h2 h3))

/-! ### What noting an overload leaves alone (R184) -/

/-- A part of the state that overloads, events and log entries leave alone. -/
theorem noteOver_keeps {γ : Type} (g : State → γ) (hafe : ∀ (s : State) a, g { s with afe := a } = g s) (hevt : ∀ (s : State) r n b, g (s.evt r n b) = g s)
    (hlog : ∀ (s : State) k i c, g (s.logErr k i c) = g s) (s : State) (i : Nat) (l : List Bool) : g (s.noteOver i l) = g s := by
  simp only [State.noteOver]
  rw [foldl_same g _ (fun u _ => hlog u 13 i 0x18)]
  split
  · rw [hevt, hafe]
  · rw [hafe]

section
variable (s : State) (i : Nat) (l : List Bool)

theorem noteOver_mem : (s.noteOver i l).mem = s.mem := noteOver_keeps State.mem (fun _ _ => rfl) (fun _ _ _ _ => evt_mem' ..) (fun _ _ _ _ => logErr_mem' ..) s i l
theorem noteOver_chans : (s.noteOver i l).chans = s.chans :=
  noteOver_keeps State.chans (fun _ _ => rfl) (fun _ _ _ _ => evt_chans' ..) (fun _ _ _ _ => logErr_chans' ..) s i l
theorem noteOver_applied : (s.noteOver i l).applied = s.applied :=
  noteOver_keeps State.applied (fun _ _ => rfl) (fun _ _ _ _ => evt_applied' ..) (fun _ _ _ _ => logErr_applied' ..) s i l
theorem noteOver_fenced : (s.noteOver i l).fenced = s.fenced :=
  noteOver_keeps State.fenced (fun _ _ => rfl) (fun _ _ _ _ => evt_fenced' ..) (fun _ _ _ _ => logErr_fenced' ..) s i l
theorem noteOver_twr : (s.noteOver i l).twr = s.twr := noteOver_keeps State.twr (fun _ _ => rfl) (fun _ _ _ _ => evt_twr' ..) (fun _ _ _ _ => logErr_twr' ..) s i l

end

/-- The applied descriptors are in memory and in the channels' pins. -/
theorem ad_congr {s t : State} (hm : s.mem = t.mem) (hc : s.chans = t.chans) (c : Nat) : s.ad c = t.ad c := by
  funext k
  simp only [State.ad, State.desc, State.chan, hc, rdWord_mem hm]

theorem preChan_noteOver (s : State) (i : Nat) (l : List Bool) (j : Nat) : (s.noteOver i l).preChan j = s.preChan j := by
  simp only [State.preChan, State.running, State.chan, noteOver_chans, ad_congr (noteOver_mem s i l) (noteOver_chans s i l)]
  rfl

theorem preDec_noteOver (s : State) (i : Nat) (l : List Bool) (j : Nat) : (s.noteOver i l).preDec j = s.preDec j := by
  simp only [State.preDec, State.afld, State.app, noteOver_applied]

theorem pre_noteOver (s : State) (i : Nat) (l : List Bool) (j : Nat) : (s.noteOver i l).pre j = s.pre j := by
  rw [State.pre, noteOver_twr]
  rfl

theorem isFenced_noteOver (s : State) (i : Nat) (l : List Bool) (k n : Nat) : (s.noteOver i l).isFenced k n = s.isFenced k n := by
  rw [State.isFenced, noteOver_fenced]
  rfl

/-! ### Outputs of a pre-stage (R192 to R194, R214) -/

/-- The state once the bits have filled the stages and are tallied. -/
def State.preFilled (s : State) (i c : Nat) (bs : List (Nat × Bool)) : State :=
  ((s.noteOver i (bs.map (·.2))).setPre i (preBits (s.preDec i) (s.pre i) bs).1).tallyAdd c 4 6 bs.length

section
variable {s : State} {i c : Nat} {bs : List (Nat × Bool)} (hc : s.preChan i = some c) (hlen : bs.length = 2 ^ s.preDec i)
include hc hlen

theorem preOutput_fenced (hf : s.isFenced 8 6 = true) :
    s.preOutput i bs = if (s.noteOver i (bs.map (·.2))).acquiring c then (s.noteOver i (bs.map (·.2))).entryDrop c else s.noteOver i (bs.map (·.2)) := by
  simp only [State.preOutput, preChan_noteOver, preDec_noteOver, isFenced_noteOver, hc, hf, if_true]
  exact if_neg (not_not_intro hlen)

variable (hf : s.isFenced 8 6 = false)
include hf

theorem preOutput_none (hx : (preBits (s.preDec i) (s.pre i) bs).2 = none) : s.preOutput i bs = s.preFilled i c bs := by
  simp only [State.preOutput, preChan_noteOver, preDec_noteOver, pre_noteOver, isFenced_noteOver, hc, hf, hx, Bool.false_eq_true, if_false]
  exact if_neg (not_not_intro hlen)

theorem preOutput_idle (hacq : (s.preFilled i c bs).acquiring c = false) : s.preOutput i bs = s.preFilled i c bs := by
  cases hx : (preBits (s.preDec i) (s.pre i) bs).2 with
  | none => exact preOutput_none hc hlen hf hx
  | some x =>
    rw [State.preFilled] at hacq ⊢
    simp only [State.preOutput, preChan_noteOver, preDec_noteOver, pre_noteOver, isFenced_noteOver, hc, hf, hx, hacq, Bool.not_false, Bool.false_eq_true,
      if_true, if_false]
    exact if_neg (not_not_intro hlen)

variable {x : PreVal} (hx : (preBits (s.preDec i) (s.pre i) bs).2 = some x) (hacq : (s.preFilled i c bs).acquiring c = true)
include hx hacq

theorem preOutput_lost {y : State} (hy : (s.preFilled i c bs).latchFor (50 + i) c ((s.preFilled i c bs).groupDelay i) = (y, none)) : s.preOutput i bs = y := by
  rw [State.preFilled] at hacq hy
  simp only [State.preOutput, preChan_noteOver, preDec_noteOver, pre_noteOver, isFenced_noteOver, hc, hf, hx, hacq, hy, Bool.not_true, Bool.false_eq_true, if_false]
  exact if_neg (not_not_intro hlen)

theorem preOutput_sample {y : State} {st : Stamp}
    (hy : (s.preFilled i c bs).latchFor (50 + i) c ((s.preFilled i c bs).groupDelay i) = (y, some st)) :
    s.preOutput i bs =
      let z := if x.ovl then y else y.logEnd 13 i 0x18
      z.goodAcq { chan := c, comps := [x.v], gap := false, stale := false, degraded := false, sat := x.ovl || x.sat, late := false, stamp := st, g := none }
        (z.stampVal c st) := by
  rw [State.preFilled] at hacq hy
  simp only [State.preOutput, preChan_noteOver, preDec_noteOver, pre_noteOver, isFenced_noteOver, hc, hf, hx, hacq, hy, Bool.not_true, Bool.false_eq_true, if_false]
  exact if_neg (not_not_intro hlen)

end

theorem exec_preStageOutput {s : State} {i f exc : Nat} {raw : List (Nat × Int)} (hi : i < 24) (hp : s.afePowered = true) (hon : bitAt (s.afeCfg i) 31 = true) :
    exec (.preStageOutput i f raw exc) s = .next (kept s (
      let bs := raw.map (fun b => (b.1, (s.atF f).ainOver i exc b.2))
      if (s.atF f).afeRun i then (s.atF f).preOutput i bs else (s.atF f).noteOver i (bs.map (·.2)))) := by
  have hcond : (i < 24 && s.afePowered && bitAt (s.afeCfg i) 31) = true := by rw [decide_eq_true hi, hp, hon]; rfl
  change act (onlyIf _ _) s = _
  rw [act_eq, onlyIf, if_pos hcond]

/-! ### Blanks and excitation (R187, R188, R196) -/

theorem exec_afeBlankEnd {s : State} {i : Nat} (hi : i < 24) (hb : (s.pre i).blank = true) :
    exec (.afeBlankEnd i) s = .next (kept s (if (s.pre i).noRestart then s.setPre i ⟨[], 0, false, false⟩ else (s.setPre i ⟨[], 0, false, false⟩).restartInput i)) :=
  act_onlyIf (f := fun u =>
    let v := u.clearPre i false false
    if (u.pre i).noRestart then v else v.restartInput i) (by simp [hi, hb]) rfl

theorem exec_excSettled_ref {s : State} (hp : s.afePowered = true) : exec (.excSettled 4) s = .next { s with afe := { s.afe with refReady := true } } := by
  have hrun : (fun s : State => onlyIf s.afePowered (fun u =>
      if 4 = 4 then { u with afe := { u.afe with refReady := true } }
      else if decide (4 < 4) && bitAt (u.reg .afeExc 4) 31 then
        let v := { u with afe := { u.afe with settled := u.afe.settled ||| (1#4 <<< 4) } }
        if u.afe.limiting.getLsbD 4 then v else v.logEnd 13 (16 + 4) 0x19
      else u) s) s = { s with afe := { s.afe with refReady := true } } := if_pos hp
  exact act_next hrun rfl rfl rfl

theorem exec_excSettled {s : State} {k : Nat} (hk : k < 4) (hp : s.afePowered = true) (hon : bitAt (s.reg .afeExc k) 31 = true) :
    exec (.excSettled k) s = .next (kept s (
      let u : State := { s with afe := { s.afe with settled := s.afe.settled ||| (1#4 <<< k) } }
      if s.afe.limiting.getLsbD k then u else u.logEnd 13 (16 + k) 0x19)) := by
  refine act_onlyIf (f := fun u =>
      if k = 4 then { u with afe := { u.afe with refReady := true } }
      else if k < 4 && bitAt (u.reg .afeExc k) 31 then
        let v := { u with afe := { u.afe with settled := u.afe.settled ||| (1#4 <<< k) } }
        if u.afe.limiting.getLsbD k then v else v.logEnd 13 (16 + k) 0x19
      else u) hp ?_
  have hne : k ≠ 4 := by omega
  have hcond : (k < 4 && bitAt (s.reg .afeExc k) 31) = true := by rw [hon, decide_eq_true hk]; rfl
  simp only [hne, if_false, hcond, if_true]

/-! ### Edges on event pins (R45, R103, R512) -/

theorem pinEdge_unseen {s : State} {n : Nat} {rise : Bool} (h : s.pinMode n = 2 ∨ (s.pin n).level = rise) : s.pinEdge n rise = s :=
  if_pos (by simpa using h)

theorem pinEdge_level {s : State} {n : Nat} {rise : Bool} (h2 : s.pinMode n ≠ 2) (hl : (s.pin n).level ≠ rise) (h : s.pinMode n ≠ 1 ∨ s.pwr.phase ≠ 2) :
    s.pinEdge n rise = s.modPin n (fun x => { x with level := rise }) := by
  have hseen : ¬((s.pinMode n = 2 || (s.pin n).level = rise) = true) := by simpa using ⟨h2, hl⟩
  have hidle : ((s.modPin n (fun x => { x with level := rise })).pinMode n ≠ 1 || (s.modPin n (fun x => { x with level := rise })).pwr.phase ≠ 2) = true := by
    rw [Bool.or_eq_true, decide_eq_true_eq, decide_eq_true_eq]
    exact h
  rw [State.pinEdge, if_neg hseen]
  exact if_pos hidle

theorem pinEdge_sampled {s : State} {n : Nat} {rise : Bool} (h1 : s.pinMode n = 1) (hl : (s.pin n).level ≠ rise) (hp : s.pwr.phase = 2) :
    s.pinEdge n rise =
      let v := s.modPin n (fun x => { x with level := rise })
      let l := v.pinChans n rise
      let r := if l = [] then (v, false) else v.latchPush n
      let w := (l.foldl (fun z c => z.pinSample c (if r.2 then some (v.waiting n 0) else none)) r.1).raiseEvent (448 + n) (if rise then 1 else 2)
      if s.pwr.floor ≠ 0 && v.pinWakes n rise then (w.setReg .sysWakesrc 0 (setBits (w.reg .sysWakesrc 0) 20 16 n)).wakeBy 1 else w := by
  have hseen : ¬((s.pinMode n = 2 || (s.pin n).level = rise) = true) := by simpa [h1] using hl
  have hidle : ¬(((s.modPin n (fun x => { x with level := rise })).pinMode n ≠ 1 || (s.modPin n (fun x => { x with level := rise })).pwr.phase ≠ 2) = true) := by
    rw [Bool.or_eq_true, decide_eq_true_eq, decide_eq_true_eq]
    exact fun h => h.elim (not_not_intro h1) (not_not_intro hp)
  rw [State.pinEdge, if_neg hseen]
  refine (if_neg hidle).trans ?_
  simp only [List.isEmpty_iff]
  rfl

/-- Settles O30: the outcomes of a pre-stage's output, of a blank, of an excitation output and of an edge on a pin. -/
theorem analogueCommandsComplete : Obligations.AnalogueCommandsComplete := by
  refine fun s => ⟨?_, fun i hi hb => ?_, exec_excSettled_ref, fun k hk => ⟨fun hp hon => exec_excSettled hk hp hon, fun hp hon => ?_, ?_⟩, ?_⟩
  · intro i f exc raw hi hp hon bs u next
    have hexec := exec_preStageOutput (f := f) (exc := exc) (raw := raw) hi hp hon
    refine ⟨fun hrun => hexec.trans (next_kept (if_neg (Bool.eq_false_iff.mp hrun))), fun c hrun hc hlen => ?_⟩
    have hout : ∀ w, (s.atF f).preOutput i bs = w → next w := fun w hw => hexec.trans (next_kept ((if_pos hrun).trans hw))
    refine ⟨fun hf hacq => hout _ ((preOutput_fenced (s := s.atF f) hc hlen hf).trans (if_pos hacq)),
      fun hf hacq => hout _ ((preOutput_fenced (s := s.atF f) hc hlen hf).trans (if_neg (Bool.eq_false_iff.mp hacq))), fun hf => ⟨fun hidle => ?_, ?_⟩⟩
    · obtain hx | hacq := hidle
      · exact hout _ (preOutput_none (s := s.atF f) hc hlen hf hx)
      · exact hout _ (preOutput_idle (s := s.atF f) hc hlen hf hacq)
    · exact fun x hx hacq => ⟨fun hy => hout _ (preOutput_lost (s := s.atF f) hc hlen hf hx hacq (Prod.ext rfl hy)),
        fun st hy => hout _ (preOutput_sample (s := s.atF f) hc hlen hf hx hacq (Prod.ext rfl hy))⟩
  · rw [exec_afeBlankEnd hi hb]
    exact ⟨fun hr => next_kept (if_neg (Bool.eq_false_iff.mp hr)), fun hr => next_kept (if_pos hr)⟩
  · exact act_onlyIf (f := fun u =>
      (({ u with afe := { u.afe with limiting := u.afe.limiting ||| (1#4 <<< k) } }).evt .afeEvt 0 (16 + k)).logErr 13 (16 + k) 0x19) (show (s.afePowered && k < 4 && bitAt (s.reg .afeExc k) 31) = true by rw [hp, decide_eq_true hk, hon]; rfl) rfl
  · exact act_onlyIf (f := fun u =>
      let u1 := { u with afe := { u.afe with limiting := u.afe.limiting &&& ~~~(1#4 <<< k) } }
      if u1.afe.settled.getLsbD k then u1.logEnd 13 (16 + k) 0x19 else u1) (decide_eq_true hk) rfl
  · intro n f rise hn u v
    have hexec {w} (hw : (s.atF f).pinEdge n rise = w) : exec (.eventPinEdge n f rise) s = .next (kept s w) :=
      act_onlyIf (f := fun u => (u.atF f).pinEdge n rise) (decide_eq_true hn) hw
    exact ⟨fun h => hexec (pinEdge_unseen h), fun h2 hl h => hexec (pinEdge_level h2 hl h), fun h1 hl hp => hexec (pinEdge_sampled h1 hl hp)⟩

end Sys2Proof.Machine
end

section
/-! The commands of the engine, the output port and the Crystalliser. -/
namespace Sys2Proof.Machine

/-! ### The engine (R21, R112, R199) -/

theorem engineUnit_runs {s : State} {c : Nat} {x : Sample} (hf : s.isFenced 8 6 = false) (hfl : s.pwr.floor = 0) (hc : s.pickChan = some c)
    (hx : s.twr.entry.find? (fun y => y.chan == c) = some x) :
    s.engineUnit = ({ s with twr := { s.twr with entry := s.twr.entry.erase x } } : State).runUnit x := by
  simp only [State.engineUnit, hf, hfl, hc, hx, ne_eq, not_true_eq_false, decide_false, Bool.or_self, Bool.false_eq_true, if_false]

theorem exec_engineUnit {s : State} {c : Nat} {x : Sample} (hf : s.isFenced 8 6 = false) (hfl : s.pwr.floor = 0) (hheld : s.fanoutHeld = false)
    (hc : s.pickChan = some c) (hx : s.twr.entry.find? (fun y => y.chan == c) = some x) :
    exec .engineUnit s = .next (kept s (
      let u := ({ s with twr := { s.twr with entry := s.twr.entry.erase x } } : State).runUnit x
      u.unitBoundary c (decide (s.twr.held.length < u.twr.held.length)))) := by
  refine act_onlyIf (f := State.engineStep) (by rw [hheld, hf, hfl]; rfl) ?_
  simp only [State.engineStep, hc, engineUnit_runs hf hfl hc hx]

/-! ### The output port (R17, R19) -/

theorem outputHandoff_next {s : State} {o : Output} (hf : s.isFenced 8 6 = false) (hfl : s.pwr.floor = 0) (ho : handoffNext [] s.twr.held = some o)
    (hr : s.destsReady o = true) : s.outputHandoff = ({ s with twr := { s.twr with held := s.twr.held.erase o } } : State).handOut o := by
  simp only [State.outputHandoff, hf, hfl, ho, hr, ne_eq, not_true_eq_false, decide_false, Bool.or_self, Bool.false_eq_true, if_false, if_true]

theorem handOut_marker {s : State} {o : Output} (h : o.sample = false) : s.handOut o = (s.panItems o).foldl (fun v it => v.panPush it) s := by
  simp only [State.handOut, h, Bool.not_false, if_true]

theorem handOut_sample {s : State} {o : Output} (h : o.sample = true) :
    s.handOut o =
      let u := (s.panItems o).foldl (fun v it => v.panPush it) s
      let v := if bitAt (s.desc o.chan 10) 1 && !u.cryOff then { u with cry := { u.cry with fifo := u.cry.fifo ++ [s.delivered o] } } else u
      let w := (v.svcTakers o.chan).foldl (fun z i => z.svcOffer (s.delivered o) i) v
      if bitAt (s.desc o.chan 10) 5 then w.offerSaltern (s.delivered o) else w := by
  simp only [State.handOut, h, Bool.not_true, Bool.false_eq_true, if_false]

/-! ### The Crystalliser (R236 to R248, R276) -/

theorem cryOutput_takes {s : State} {o : Delivered} {t : List Delivered} (hq : s.cry.fifo = o :: t) (hfl : s.pwr.floor = 0) (hf : s.isFenced 8 7 = false) :
    s.cryOutput =
      let u : State := { s with cry := { s.cry with fifo := t, flags := s.cry.flags.set (fun _ => OutFlags.none) o.chan o.flags } }
      let takers := u.armedSeeds.filter (fun n => !u.isFenced 2 n && (List.range 4).any (fun j => u.seedInOn n j && u.seedIn n j == o.chan))
      let r := takers.foldl (fun (p : State × List (Nat × Bool × Nat)) n => ((p.1.seedTake n o).1, p.2 ++ (p.1.seedTake n o).2)) (u, [])
      r.2.foldl State.seedDeferred r.1 := by
  simp only [State.cryOutput, hq, hfl, hf, ne_eq, not_true_eq_false, decide_false, Bool.or_self, Bool.false_eq_true, if_false]
  rfl

theorem exec_seedCrcCheck {s : State} {n : Nat} (hfl : s.pwr.floor = 0) : exec (.seedCrcCheck n) s = .next (kept s (s.seedRecheck n)) :=
  act_onlyIf (f := fun u => u.seedRecheck n) (decide_eq_true hfl) rfl

section
variable {s : State} {n : Nat} (hn : n < 64) (harmed : (s.seed n).armed = true) (hf : s.isFenced 2 n = false)
include hn harmed hf

theorem seedRecheck_fails (hcrc : s.seedCrc n ≠ bits (s.seedWord n 63) 15 0) : s.seedRecheck n = (s.evt .cryEvt 0 3).fenceMark 2 n 0x83 :=
  if_pos (by rw [decide_eq_true hn, harmed, hf, decide_eq_true hcrc]; rfl)

omit hn harmed hf in
theorem seedRecheck_passes (hcrc : s.seedCrc n = bits (s.seedWord n 63) 15 0) : s.seedRecheck n = s :=
  if_neg (by rw [decide_eq_false (not_not_intro hcrc), Bool.and_false]; exact Bool.false_ne_true)

end

/-- Settles O31: the unit, the hand-off by what the output is, the Crystalliser's input, and the seed's check. -/
theorem engineCommandsComplete : Obligations.EngineCommandsComplete := by
  refine fun s => ⟨fun hf hfl => ⟨fun c x hheld hc hx => exec_engineUnit hf hfl hheld hc hx, ?_⟩, ?_, ?_⟩
  · intro o ho hr d w10 u
    have hnext := outputHandoff_next hf hfl ho hr
    exact ⟨fun hs => act_kept (hnext.trans (handOut_marker hs)), fun hs => act_kept (hnext.trans (handOut_sample hs))⟩
  · exact fun o t hq hfl hf => act_kept (cryOutput_takes hq hfl hf)
  · intro n hn hfl harmed hf
    refine ⟨fun hcrc => (exec_seedCrcCheck hfl).trans (next_kept (seedRecheck_fails hn harmed hf hcrc)), fun hcrc => ?_⟩
    exact act_id (f := onlyIf (s.pwr.floor = 0) (fun u => u.seedRecheck n)) ((if_pos (decide_eq_true hfl)).trans (seedRecheck_passes hcrc))

end Sys2Proof.Machine
end

section
/-! The commands of the Pan writer. -/
namespace Sys2Proof.Machine

/-! ### An item at the front of the FIFO (R304, R311, R314 to R316, R335) -/

theorem exec_panCommit {s : State} {it : PanItem} {t : List PanItem} (hq : s.pan.fifo = it :: t) (hfl : s.pwr.floor = 0) :
    exec .panCommit s = .next (kept s (({ s with pan := { s.pan with fifo := t } } : State).putRecord it)) := by
  refine act_kept ?_
  simp only [State.panCommit, hq, hfl, ne_eq, not_true_eq_false, if_false]

section
variable {u : State} {it : PanItem}

theorem putRecord_noStream (h : u.streamOn it.stream = false) : u.putRecord it = u.noStream it := by
  simp only [State.putRecord, h, Bool.not_false, if_true]

theorem putRecord_fenced (h : u.streamOn it.stream = true) (hf : u.isFenced 4 it.stream = true) :
    u.putRecord it = u.dropRec it.stream (some it) false := by
  simp only [State.putRecord, h, hf, Bool.not_true, Bool.false_eq_true, if_false, if_true]

theorem putRecord_open (h : u.streamOn it.stream = true) (hf : u.isFenced 4 it.stream = false) : u.putRecord it = u.putItem it.stream it := by
  simp only [State.putRecord, h, hf, Bool.not_true, Bool.false_eq_true, if_false]

end

/-- The words that an item needs in its stream: its own, and those of a RESUME tide mark that is owed. -/
def State.itemNeed (s : State) (n : Nat) (it : PanItem) : Nat :=
  ((s.resumed n).recWords n it).length + (if (s.stream n).resumeOwed then 14 else 0)

section
variable {u : State} {n : Nat} {it : PanItem}

theorem putItem_fits (h : u.itemNeed n it ≤ (u.stream n).freeWords (ringSize (u.app .panCfg n))) :
    u.putItem n it =
      let v := if (u.stream n).resumeOwed then u.commitTide n 4 else u
      (v.commitRec n it.chan (v.recWords n it)).countRec n it := by
  rw [State.itemNeed] at h
  simp only [State.putItem, h, decide_true, Bool.not_true, Bool.and_false, Bool.false_eq_true, if_false, if_true, Bool.false_or]

variable (h : (u.stream n).freeWords (ringSize (u.app .panCfg n)) < u.itemNeed n it)
include h

theorem putItem_held (hold : bitAt (u.app .panCfg n) 30 = true) : u.putItem n it = u.dropRec n (some it) true := by
  have hno := Nat.not_le_of_lt h
  rw [State.itemNeed] at hno
  simp only [State.putItem, hold, hno, decide_false, Bool.not_false, Bool.and_self, if_true]

theorem putItem_overwrites (hover : bitAt (u.app .panCfg n) 30 = false) :
    u.putItem n it =
      let r := u.makeRoom n (u.itemNeed n it)
      let v := if r.2 || (r.1.stream n).resumeOwed then r.1.commitTide n 4 else r.1
      (v.commitRec n it.chan (v.recWords n it)).countRec n it := by
  have hno := Nat.not_le_of_lt h
  rw [State.itemNeed] at hno
  simp only [State.putItem, State.itemNeed, hover, hno, decide_false, Bool.false_and, Bool.false_eq_true, if_false]
  rfl

end

/-! ### Tide marks, dropped items and RP (R307, R313, R320) -/

theorem exec_tideInterval {s : State} (hfl : s.pwr.floor = 0) (h : s.tb0u % s.tideInterval ≤ 10000000 * 64) :
    exec .tideInterval s = .next (kept s (s.tideAll 0)) :=
  act_kept (f := State.tideTick) (by rw [State.tideTick, decide_eq_true hfl, decide_eq_true h, Bool.and_self, onlyIf, if_pos rfl])

theorem exec_dropPacket {s : State} {h : Nat} (hu : s.writeUp h = true) (hj : (s.atF 0).judge h (Reg.addr .panCmd 0) 4 (some 1) = .pass) :
    exec (.dropPacket h) s = .next (accessed s h (Reg.addr .panCmd 0) (s.atF 0).panDropPacket) := by
  have hwrite : (s.atF 0).writeUnit h (Reg.addr .panCmd 0) 4 1 = (s.atF 0).panDropPacket := (writeUnit_reg spotOf_panCmd rfl rfl).trans rfl
  exact (writeRow_pass hu (by decide) hj).trans (by rw [hwrite])

theorem panDropPacket_first {s : State} {it : PanItem} {t : List PanItem} (hq : s.pan.fifo = it :: t) :
    s.panDropPacket = ({ s with pan := { s.pan with fifo := t } } : State).countFault .panFifocnt 0 11 0 (it.payload.length + 2) := by
  simp only [State.panDropPacket, hq, PanItem.size]

theorem panDropPacket_none {s : State} (hq : s.pan.fifo = []) : s.panDropPacket = s := by
  simp only [State.panDropPacket, hq]

theorem panRp_aligned : ∀ n < 32, Reg.addr .panRp n % 4 = 0 := by decide

/-- An offset as a write of PAN_RPn keeps it: bits 18 to 0 of what is written. -/
theorem panRp_offset {v : Nat} (hv : v < 2 ^ 19) : bits (w32 v &&& w32 (bitsMask (Reg.row .panRp).wbits)) 18 0 = v := by
  have hmask : (w32 (bitsMask (Reg.row .panRp).wbits)).toNat = 2 ^ 19 - 1 := by decide
  rw [bits, BitVec.toNat_and, hmask, Nat.and_two_pow_sub_one_eq_mod, w32_toNat (by omega)]
  omega

theorem exec_panRpWrite {s : State} {h n v : Nat} (hu : s.writeUp h = true) (hn : n < 32) (hv : v < 2 ^ 19)
    (hj : (s.atF 0).judge h (Reg.addr .panRp n) 4 (some v) = .pass) :
    exec (.panRpWrite h n v) s = .next (accessed s h (Reg.addr .panRp n) ((s.atF 0).panRpWrite n v)) := by
  have hwrite := writeUnit_reg (s := s.atF 0) (h := h) (v := v) (spotOf_panRp n hn) rfl (panRp_aligned n hn)
  rw [writeReg_word rfl (panRp_aligned n hn)] at hwrite
  have hrp : (s.atF 0).writeUnit h (Reg.addr .panRp n) 4 v = (s.atF 0).panRpWrite n v :=
    hwrite.trans (congrArg ((s.atF 0).panRpWrite n) (panRp_offset hv))
  exact (writeRow_pass hu hn hj).trans (by rw [hrp])

section
variable {s : State} {n v : Nat}

theorem panRpWrite_moves (hon : s.streamOn n = true)
    (hrec : (s.recStarts (s.app .panCfg n) (s.stream n).wp ((s.stream n).fill (ringSize (s.app .panCfg n))) (s.stream n).rp).contains v = true) :
    s.panRpWrite n v = s.advanceRp n v := by
  simp only [State.panRpWrite, hon, hrec, Bool.and_self, if_true]

theorem panRpWrite_refused (hbad : s.streamOn n = false ∨
      (s.recStarts (s.app .panCfg n) (s.stream n).wp ((s.stream n).fill (ringSize (s.app .panCfg n))) (s.stream n).rp).contains v = false) :
    s.panRpWrite n v = s.evt .panEvt 0 3 := by
  obtain h | h := hbad <;> simp only [State.panRpWrite, h, Bool.false_and, Bool.and_false, Bool.false_eq_true, if_false]

end

/-- Settles O32: the item by what its stream can do with it, the tide marks, the dropped item, and RP. -/
theorem panCommandsComplete : Obligations.PanCommandsComplete := by
  intro s
  refine ⟨?_, fun hfl htb => exec_tideInterval hfl htb, ?_, ?_⟩
  · intro it t hq hfl u n x cfg behind need
    have hrun := exec_panCommit hq hfl
    refine ⟨fun hoff => hrun.trans (next_kept (putRecord_noStream hoff)), fun hon hf => hrun.trans (next_kept (putRecord_fenced hon hf)), fun hon hf => ?_⟩
    have hitem := hrun.trans (next_kept (putRecord_open hon hf))
    exact ⟨fun hold hfull => hitem.trans (next_kept (putItem_held hfull hold)), fun hfits => hitem.trans (next_kept (putItem_fits hfits)),
      fun hover hfull => hitem.trans (next_kept (putItem_overwrites hfull hover))⟩
  · intro h hu hj u
    have hrun := exec_dropPacket hu hj
    exact ⟨fun hq => hrun.trans (by rw [panDropPacket_none (s := s.atF 0) hq]), fun it t hq => hrun.trans (by rw [panDropPacket_first (s := s.atF 0) hq])⟩
  · intro h n v hu hn hv hj u x cfg
    have hrun := exec_panRpWrite hu hn hv hj
    exact ⟨fun hon hrec => hrun.trans (by rw [panRpWrite_moves (s := s.atF 0) hon hrec]), fun hbad => hrun.trans (by rw [panRpWrite_refused (s := s.atF 0) hbad])⟩

end Sys2Proof.Machine
end

section
/-! The commands of Salter's services. -/
namespace Sys2Proof.Machine

/-! ### SERVICE_INPUT (R273, R291) -/

theorem svcProcess_idle {s : State} {i : Nat} {o : Delivered} (h : (s.svcFenced i || !bitAt (s.svcWord i 0) 31) = true) : s.svcProcess i o = s := if_pos h

theorem serviceInput_takes {s : State} {i : Nat} {o : Delivered} {t : List (Nat × Delivered)} (hq : s.svc.queue = (i, o) :: t) (hfl : s.pwr.floor = 0)
    (hf : s.isFenced 8 2 = false) :
    s.serviceInput =
      let u := ({ s with svc := { s.svc with queue := t } } : State).svcApply i
      let v := if u.svcSound i then u.svcProcess i o else u.svcInternal i
      if v.svcIdle i then v.svcApply i else v := by
  simp only [State.serviceInput, hq, hfl, hf, ne_eq, not_true_eq_false, decide_false, Bool.or_self, Bool.false_eq_true, if_false]

/-! ### TREND's periods (R279 to R281) -/

theorem exec_trendPeriodEnd {s : State} {c : Nat} {day : Bool} (hc : c < 192) (h8 : s.svcFenced 8 = false) (hf : s.isFenced 8 2 = false)
    (hen : bitAt (s.svcStored 8 0) 31 = true) (htr : bitAt (s.desc c 13) 31 = true) :
    exec (.trendPeriodEnd c day) s = .next (kept s (s.trendPoint c day)) :=
  act_onlyIf (f := fun u => u.trendPoint c day) (by rw [State.trendRuns, decide_eq_true hc, h8, hf, hen, htr]; rfl) rfl

section
variable {s e : State} {c : Nat} {day : Bool}

theorem trendPoint_none (h : s.periodPoint day = none) : s.trendPoint c day = s := by simp only [State.trendPoint, h]

variable (h : s.periodPoint day = some e)
include h

theorem trendPoint_ended (hend : e.periodEnded c day = true) : s.trendPoint c day = s := by simp only [State.trendPoint, h, hend, if_true]

theorem trendPoint_floor (hend : e.periodEnded c day = false) (hfl : e.pwr.floor ≠ 0) :
    s.trendPoint c day = { e with svc := { e.svc with trendDue := e.svc.trendDue ++ [(c, day, e.periodNo day, e.cal.valid, e.tb0u)] } } := by
  simp only [State.trendPoint, h, hend, hfl, Bool.false_eq_true, if_false]

theorem trendPoint_up (hend : e.periodEnded c day = false) (hfl : e.pwr.floor = 0) :
    s.trendPoint c day = e.trendEnd c day (e.periodNo day) e.cal.valid e.tb0u := by
  simp only [State.trendPoint, h, hend, hfl, Bool.false_eq_true, if_false, if_true]

end

/-! ### WAKE (R288, R289, R293) -/

theorem exec_wakeRequest {s : State} (hfl : s.pwr.floor = 0) : exec .wakeRequest s = .next (kept s s.wakeTake) :=
  act_onlyIf (f := State.wakeTake) (decide_eq_true hfl) rfl

theorem wakeTake_fenced {s : State} {t vec prio : Nat} {rest : List (Nat × Nat × Nat)} (hq : s.svc.wakeReqs = (t, vec, prio) :: rest)
    (hf : s.svcFenced 27 = true) : s.wakeTake = ({ s with svc := { s.svc with wakeReqs := rest } } : State).wakePulse t [vec] 0 := by
  simp only [State.wakeTake, hq, hf, if_true]

/-- The state in which WAKE decides on the requests that it has taken for one host. -/
def State.wakeTaken (s : State) (t vec : Nat) (rest : List (Nat × Nat × Nat)) : State :=
  ({ s with svc := { s.svc with wakeReqs := rest.filter (fun r => r.1 ≠ t) } } : State).svcWork 27 (250 * (vec :: (rest.filter (fun r => r.1 == t)).map (fun r => r.2.1)).length)

theorem wakeTake_open {s : State} {t vec prio : Nat} {rest : List (Nat × Nat × Nat)} (hq : s.svc.wakeReqs = (t, vec, prio) :: rest)
    (hf : s.svcFenced 27 = false) :
    s.wakeTake =
      let same := rest.filter (fun r => r.1 == t)
      let vecs := vec :: same.map (fun r => r.2.1)
      let u := s.wakeTaken t vec rest
      let x := u.wakeHost t
      let merged := u.setWakeHost t { x with merged := x.merged ++ vecs }
      if !bitAt (u.svcWord 27 t) 31 || (prio :: same.map (fun r => r.2.2)).any (fun p => decide (bits (u.svcWord 27 t) 27 24 ≤ p)) then u.wakeDirect t vecs
      else if x.gapRun then merged else merged.wakeRelease t := by
  simp only [State.wakeTake, State.wakeTaken, hq, hf, Bool.false_eq_true, if_false]
  rfl

theorem exec_wakeGapEnd {s : State} {h : Nat} (hh : h < 4) (hfl : s.pwr.floor = 0) (hrun : (s.wakeHost h).gapRun = true) :
    exec (.wakeGapEnd h) s = .next (kept s ((s.modWakeHost h (fun x => { x with gapRun := false })).wakeRelease h)) :=
  act_onlyIf (f := fun u => (u.modWakeHost h (fun x => { x with gapRun := false })).wakeRelease h)
    (by rw [decide_eq_true hh, decide_eq_true hfl, hrun]; rfl) rfl

theorem wakeHost_after (s : State) (h : Nat) (f : WakeHost → WakeHost) : (s.modWakeHost h f).wakeHost h = f (s.wakeHost h) := Tab.get_set_self _ _ _

section
variable {s : State} {h : Nat} (hh : h < 4)
include hh

theorem exec_wakeLimitHour :
    exec (.wakeLimitHour h) s = .next (kept s (
      let u := s.modWakeHost h (fun x => { x with hourPulses := 0 })
      if (u.wakeHost h).gapRun then u else u.wakeRelease h)) :=
  act_onlyIf (f := fun u =>
    let u1 := u.modWakeHost h (fun x => { x with hourPulses := 0 })
    if (u1.wakeHost h).gapRun then u1 else u1.wakeRelease h) (decide_eq_true hh) rfl

theorem exec_wakeLimitHour_gap (hrun : (s.wakeHost h).gapRun = true) :
    exec (.wakeLimitHour h) s = .next (kept s (s.modWakeHost h (fun x => { x with hourPulses := 0 }))) :=
  (exec_wakeLimitHour hh).trans (next_kept (if_pos (by rw [wakeHost_after, hrun])))

theorem exec_wakeLimitHour_released (hrun : (s.wakeHost h).gapRun = false) :
    exec (.wakeLimitHour h) s = .next (kept s ((s.modWakeHost h (fun x => { x with hourPulses := 0 })).wakeRelease h)) :=
  (exec_wakeLimitHour hh).trans (next_kept (if_neg (by rw [wakeHost_after, hrun]; exact Bool.false_ne_true)))

end

/-- Settles O33: the second core's input, TREND's period end by where it falls, and WAKE by its limits. -/
theorem serviceCommandsComplete : Obligations.ServiceCommandsComplete := by
  intro s
  refine ⟨?_, ?_, ?_, fun h hh hfl hrun => exec_wakeGapEnd hh hfl hrun, fun h hh =>
    ⟨fun hrun => exec_wakeLimitHour_gap hh hrun, fun hrun => exec_wakeLimitHour_released hh hrun⟩⟩
  · intro i o t hq hfl hf u v
    refine act_kept ((serviceInput_takes hq hfl hf).trans ?_)
    have hv : (if u.svcSound i then u.svcProcess i o else u.svcInternal i) = v := by
      cases hsound : u.svcSound i with
      | true => simp only [v, hsound, Bool.not_true, Bool.false_eq_true, if_false, if_true]; rfl
      | false => simp only [v, hsound, Bool.not_false, Bool.false_eq_true, if_false, if_true]; rfl
    exact congrArg (fun z : State => if z.svcIdle i then z.svcApply i else z) hv
  · intro c day hc h8 hf hen htr
    have hrun := exec_trendPeriodEnd (day := day) hc h8 hf hen htr
    refine ⟨fun hnone => hrun.trans (next_kept (trendPoint_none hnone)), fun e he => ⟨fun hend => hrun.trans (next_kept (trendPoint_ended he hend)),
      fun hend hfl => hrun.trans (next_kept (trendPoint_floor he hend hfl)), fun hend hfl => hrun.trans (next_kept (trendPoint_up he hend hfl))⟩⟩
  · intro t vec prio rest hfl hf hq
    have hrun := exec_wakeRequest hfl
    refine ⟨fun hfen => hrun.trans (next_kept (wakeTake_fenced hq hfen)), fun hopen => ?_⟩
    intro same vecs u w x urgent merged
    have htake := hrun.trans (next_kept (wakeTake_open hq hopen))
    refine ⟨?_, ?_, ?_⟩
    · intro hnow late
      refine htake.trans (next_kept (if_pos ?_))
      obtain hoff | hurg := hnow
      · exact Bool.or_eq_true_iff.mpr (.inl (by rw [Bool.not_eq_true']; exact hoff))
      · exact Bool.or_eq_true_iff.mpr (.inr hurg)
    · intro hon hurg hgap
      have hlater : (!bitAt w 31 || urgent) = false := by rw [hon, hurg]; rfl
      exact htake.trans (next_kept ((if_neg (Bool.eq_false_iff.mp hlater)).trans (if_pos hgap)))
    · intro hon hurg hgap
      have hlater : (!bitAt w 31 || urgent) = false := by rw [hon, hurg]; rfl
      exact htake.trans (next_kept ((if_neg (Bool.eq_false_iff.mp hlater)).trans (if_neg (Bool.eq_false_iff.mp hgap))))

end Sys2Proof.Machine
end

section
namespace Sys2Proof.Machine

/-! ### What a change of the calendar leaves of the saltern's state (R504) -/

section
variable (s : State)

@[simp] theorem goodMark_slt (c : Nat) (comps : List Int) (last : Nat) : (s.goodMark c comps last).slt = s.slt := by
  simp only [State.goodMark]
  split
  · rfl
  · split <;> rfl

@[simp] theorem entryDrop_slt (c : Nat) : (s.entryDrop c).slt = s.slt := rfl

@[simp] theorem accept_slt (x : Sample) : (s.accept x).slt = s.slt := by
  simp only [State.accept]
  split
  · rfl
  · split
    · exact evt_slt' _ _ _ _
    · rfl

@[simp] theorem goodAcq_slt (x : Sample) (last : Nat) : (s.goodAcq x last).slt = s.slt := by
  simp only [State.goodAcq]
  split
  · rfl
  · rw [accept_slt, goodMark_slt]

@[simp] theorem svcEmit_slt (i : Nat) (comps : List Int) (fl : OutFlags) (st : Option SvcStamp) : (s.svcEmit i comps fl st).slt = s.slt := by
  simp only [State.svcEmit]
  split
  · rfl
  · split
    · rfl
    · split
      · rfl
      · exact goodAcq_slt _ _ _

@[simp] theorem svcWork_slt (i k : Nat) : (s.svcWork i k).slt = s.slt := tallyAdd_slt' _ _ _ _ _

@[simp] theorem timeEvent_slt (code : Nat) (arg : Int) (epoch : Nat) (offs : Int) : (s.timeEvent code arg epoch offs).slt = s.slt := by
  simp only [State.timeEvent]
  split
  · rfl
  · rw [svcEmit_slt, svcWork_slt]

@[simp] theorem calDst_slt : s.calDst.slt = s.slt := by
  simp only [State.calDst]
  split
  · rfl
  · exact timeEvent_slt _ _ _ _ _

@[simp] theorem alarmFire_slt (n : Nat) : (s.alarmFire n).slt = s.slt := by
  simp only [State.alarmFire, wakeBy_slt', raiseEvent_slt', timeEvent_slt, raise_slt']

@[simp] theorem calMoved_slt (old : Nat) : (s.calMoved old).slt = s.slt := by
  refine (foldl_same (fun u : State => u.slt) _ (fun u n => ?_) _ _).trans (calDst_slt s)
  split
  · exact alarmFire_slt u n
  · rfl

@[simp] theorem calResource_slt : s.calResource.slt = s.slt := by
  simp only [State.calResource]
  split
  · rfl
  · split
    · rfl
    · exact calMoved_slt _ _

@[simp] theorem applyTbUtc_slt : s.applyTbUtc.slt = s.slt := by
  simp only [State.applyTbUtc]
  split <;> split
  · rfl
  · exact timeEvent_slt _ _ _ _ _
  · rfl
  · exact timeEvent_slt _ _ _ _ _

@[simp] theorem applyTimeCfg_slt : s.applyTimeCfg.slt = s.slt := by
  have happ : ([0, 1, 2].foldl (fun (u : State) l => u.setApp .tbLink l (u.reg .tbLink l)) (s.applyTbUtc.setApp .tbSynccfg 0 (s.reg .tbSynccfg 0))).slt = s.slt :=
    (foldl_same (fun u : State => u.slt) (fun (u : State) l => u.setApp .tbLink l (u.reg .tbLink l)) (fun _ _ => rfl) _ _).trans (applyTbUtc_slt s)
  simp only [State.applyTimeCfg]
  split
  · exact happ
  · exact (calResource_slt _).trans happ

end

/-! ### A message and its stamp (R341, R344, R359) -/

section
variable {u : State} {l : Nat} {fr : LegFrame}

theorem recvTime_unstamped {m : TimeMsg} (hp : TimeMsg.parse fr.payload = some m) (h : (u.edgePush (rxLatch l)).2 = false) :
    u.recvTime l fr = (u.edgePush (rxLatch l)).1 := by
  unfold State.recvTime
  simp only [hp, h, Bool.false_eq_true, if_false]

theorem recvTime_stamped {m : TimeMsg} (hp : TimeMsg.parse fr.payload = some m) (h : (u.edgePush (rxLatch l)).2 = true) :
    u.recvTime l fr = (u.edgePush (rxLatch l)).1.takeTime l fr m := by
  unfold State.recvTime
  simp only [hp, h, if_true]

theorem recvTime_invalid (hp : TimeMsg.parse fr.payload = none) : u.recvTime l fr = u.badMsg := by
  unfold State.recvTime
  simp only [hp]

end

section
variable {s : State} {l type f : Nat} {words : List Word} {m : TimeMsg}

/-- A path takes messages: a link that runs, or the radio while it serves the saltern. -/
def State.pathServes (s : State) (l : Nat) : Prop := (l < 2 ∧ s.linkRuns l = true) ∨ (l = 2 ∧ s.rfServes = true)

/-- The receipt of a message: what its latch made of it. -/
def State.receipt (s : State) (l f : Nat) : State × Bool := (s.atF f).clearSent.edgePush (rxLatch l)

variable (hp : TimeMsg.parse words = some m) (ht : m.type = type) (hr : s.pathServes l)
include hp ht hr

theorem timeCmd_recv : s.timeCmd l type f words = (s.atF f).clearSent.recvTime l ((s.atF f).clearSent.bareFrame words) := by
  obtain ⟨hl, hrun⟩ | ⟨rfl, hrun⟩ := hr
  · exact timeCmd_link hl hrun hp ht
  · exact timeCmd_radio hrun hp ht

theorem timeCmd_unstamped (h : (s.receipt l f).2 = false) : s.timeCmd l type f words = (s.receipt l f).1 :=
  (timeCmd_recv hp ht hr).trans (recvTime_unstamped (u := (s.atF f).clearSent) hp h)

theorem timeCmd_stamped (h : (s.receipt l f).2 = true) :
    s.timeCmd l type f words = (s.receipt l f).1.takeTime l ((s.atF f).clearSent.bareFrame words) m :=
  (timeCmd_recv hp ht hr).trans (recvTime_stamped (u := (s.atF f).clearSent) hp h)

end

/-- What reads as no message is counted, whatever its type field says. -/
theorem timeCmd_invalid {s : State} {l type f : Nat} {words : List Word} (hl : l < 2) (hrun : s.linkRuns l = true) (hp : TimeMsg.parse words = none) :
    s.timeCmd l type f words = (s.atF f).clearSent.badMsg := by
  have hrun' : (s.atF f).clearSent.linkRuns l = true := hrun
  have hinv : (s.atF f).clearSent.recvTime l ((s.atF f).clearSent.bareFrame words) = (s.atF f).clearSent.badMsg := recvTime_invalid hp
  unfold State.timeCmd
  dsimp only
  rw [hrun', if_neg (by simp; omega), hinv, ite_self]

/-- A receipt with a stamp has changed the latches alone. -/
theorem receipt_stamped {s : State} {l f : Nat} (h : (s.receipt l f).2 = true) :
    ∃ t, (s.receipt l f).1 = { (s.atF f).clearSent with time := { (s.atF f).clearSent.time with latches := t } } := edgePush_taken h

/-! ### What each message does (R359 to R362) -/

section
variable {s : State} {m : TimeMsg}

theorem takeTime_sync {l : Nat} {fr : LegFrame} (ht : m.type = 1) : s.takeTime l fr m = s.recvSync l fr m := by simp only [State.takeTime, ht]

theorem takeTime_pdelayReq {l : Nat} {fr : LegFrame} (ht : m.type = 2) (hl : l < 2) : s.takeTime l fr m = s.recvPdelayReq l m := by
  simp only [State.takeTime, ht, hl, if_true]

theorem takeTime_pdelayResp {l : Nat} {fr : LegFrame} (ht : m.type = 3) (hl : l < 2) : s.takeTime l fr m = s.recvPdelayResp l m := by
  simp only [State.takeTime, ht, hl, if_true]

theorem takeTime_delayReq {fr : LegFrame} (ht : m.type = 4) : s.takeTime 2 fr m = s.recvDelayReq m := by simp only [State.takeTime, ht, if_true]

theorem takeTime_delayResp {fr : LegFrame} (ht : m.type = 5) : s.takeTime 2 fr m = s.recvDelayResp m := by simp only [State.takeTime, ht, if_true]

theorem takesSync_applied : s.applyTimeCfg.takesSync = s.takesSync := by rw [State.takesSync, applyTimeCfg_slt, State.takesSync]

/-- A SYNC as a hub forwards it: onto the other link, unless it is a duplicate. -/
def State.syncForwarded (s : State) (l : Nat) (fr : LegFrame) (m : TimeMsg) : State :=
  let v := s.applyTimeCfg
  if l < 2 && !v.syncDup l m then v.forwardSync l fr m else v

theorem recvSync_passed {l : Nat} {fr : LegFrame} (h : s.takesSync = false) : s.recvSync l fr m = s.syncForwarded l fr m := by
  simp only [State.recvSync, takesSync_applied, h, Bool.not_false, if_true]
  rfl

theorem recvSync_taken {l : Nat} {fr : LegFrame} (h : s.takesSync = true) :
    s.recvSync l fr m =
      let w := s.syncForwarded l fr m
      let x := match w.pathTb l with
        | some k => w.syncFor l k m
        | none => w
      if l = 2 && !s.applyTimeCfg.syncDup l m then x.radioSynced m else x := by
  simp only [State.recvSync, takesSync_applied, h, Bool.not_true, Bool.false_eq_true, if_false]
  rfl

section
variable {l q : Nat} {t1 : Int} (hreq : (s.link l).req = some (q, t1))
include hreq

theorem recvPdelayResp_other (hq : q ≠ m.seq) : s.recvPdelayResp l m = s := by
  simp only [State.recvPdelayResp, hreq, hq, ne_eq, not_false_eq_true, if_true]

theorem recvPdelayResp_done (hq : q = m.seq) :
    s.recvPdelayResp l m =
      let d := ((s.tb0u * 2 ^ 26 : Nat) - t1 - m.corr * 2 ^ 16) / 2
      let delay := match (s.link l).delay with
        | none => d
        | some p => p + (d - p) / 8
      s.setLink l { s.link l with delay := some delay, req := none } := by
  simp only [State.recvPdelayResp, hreq, hq, ne_eq, not_true_eq_false, if_false] <;> rfl

end

theorem recvPdelayResp_none {l : Nat} (hreq : (s.link l).req = none) : s.recvPdelayResp l m = s := by simp only [State.recvPdelayResp, hreq]

theorem recvDelayReq_leader {k : Nat} (hk : s.saltTb = some k) (hlead : s.isLeader = true) :
    s.recvDelayReq m = s.radioTime (s.ownMsg 5 m.seq (s.tbFine k) 0 2) (if s.rfMode = 2 then m.src else s.rfBroadcast) := by
  simp only [State.recvDelayReq, hk, hlead, Bool.not_true, Bool.false_eq_true, if_false]

theorem recvDelayReq_other (h : s.saltTb = none ∨ s.isLeader = false) : s.recvDelayReq m = s := by
  cases hk : s.saltTb with
  | none => simp only [State.recvDelayReq, hk]
  | some k =>
    have hlead : s.isLeader = false := h.resolve_left (by rw [hk]; exact Option.some_ne_none k)
    simp only [State.recvDelayReq, hk, hlead, Bool.not_false, if_true]

theorem recvDelayResp_done {q : Nat} {t3 t1 t2 : Int} (hreq : (s.link 2).req = some (q, t3)) (hsync : s.time.radioSync = some (t1, t2)) (hq : q = m.seq) :
    s.recvDelayResp m = s.setLink 2 { s.link 2 with delay := some (((t2 - t1) + (m.time * 2 ^ 16 - t3)) / 2 + s.asym 2), req := none } := by
  simp only [State.recvDelayResp, hreq, hsync, hq, ne_eq, not_true_eq_false, if_false]

theorem recvDelayResp_other (h : (s.link 2).req = none ∨ s.time.radioSync = none ∨ (s.link 2).req.map (·.1) ≠ some m.seq) : s.recvDelayResp m = s := by
  cases hreq : (s.link 2).req with
  | none => simp only [State.recvDelayResp, hreq]
  | some p =>
    cases hsync : s.time.radioSync with
    | none => simp only [State.recvDelayResp, hreq, hsync]
    | some r =>
      have hne : p.1 ≠ m.seq := by
        rw [hreq, hsync] at h
        simpa using h
      simp only [State.recvDelayResp, hreq, hsync, hne, ne_eq, not_false_eq_true, if_true]

end

/-! ### The commands -/

theorem exec_sync {s : State} {l f : Nat} {words : List Word} (hl : l < 3) : exec (.sync l f words) s = .next (kept s (s.timeCmd l 1 f words)) :=
  act_onlyIf (f := fun u => u.timeCmd l 1 f words) (decide_eq_true hl) rfl

theorem exec_pdelayReq {s : State} {l f : Nat} {words : List Word} (hl : l < 2) : exec (.pdelayReq l f words) s = .next (kept s (s.timeCmd l 2 f words)) :=
  act_onlyIf (f := fun u => u.timeCmd l 2 f words) (decide_eq_true hl) rfl

theorem exec_pdelayResp {s : State} {l f : Nat} {words : List Word} (hl : l < 2) : exec (.pdelayResp l f words) s = .next (kept s (s.timeCmd l 3 f words)) :=
  act_onlyIf (f := fun u => u.timeCmd l 3 f words) (decide_eq_true hl) rfl

theorem exec_delayReq {s : State} {f : Nat} {words : List Word} : exec (.delayReq f words) s = .next (kept s (s.timeCmd 2 4 f words)) :=
  act_kept (f := fun u => u.timeCmd 2 4 f words) rfl

theorem exec_delayResp {s : State} {words : List Word} : exec (.delayResp words) s = .next (kept s (s.timeCmd 2 5 122071 words)) :=
  act_kept (f := fun u => u.timeCmd 2 5 122071 words) rfl

/-- Settles O34: whether the receipt has a stamp, then what the message is. -/
theorem timeMessagesComplete : Obligations.TimeMessagesComplete := by
  intro s f words u
  refine ⟨?_, ?_, ?_, fun l hl hrun hp => (exec_sync (by omega)).trans (next_kept (timeCmd_invalid hl hrun hp))⟩
  · intro l m hp ht hr e
    have hrun := exec_sync (s := s) (l := l) (f := f) (words := words) (by omega)
    refine ⟨fun hno => hrun.trans (next_kept (timeCmd_unstamped hp ht hr hno)), fun hok => ?_⟩
    intro v dup w
    have htake := (timeCmd_stamped hp ht hr hok).trans (takeTime_sync (s := (s.receipt l f).1) ht)
    obtain ⟨t, hlatch⟩ := receipt_stamped hok
    have htakes : (s.receipt l f).1.takesSync = s.takesSync := by rw [hlatch]; rfl
    exact ⟨fun hno => hrun.trans (next_kept (htake.trans (recvSync_passed (htakes.trans hno)))),
      fun hyes => hrun.trans (next_kept (htake.trans (recvSync_taken (htakes.trans hyes))))⟩
  · intro l m hp hl hlink e y
    have hr : s.pathServes l := .inl ⟨hl, hlink⟩
    refine ⟨fun ht => ⟨fun hno => (exec_pdelayReq hl).trans (next_kept (timeCmd_unstamped hp ht hr hno)), fun hok =>
        (exec_pdelayReq hl).trans (next_kept ((timeCmd_stamped hp ht hr hok).trans (takeTime_pdelayReq ht hl)))⟩,
      fun ht => ⟨fun hno => (exec_pdelayResp hl).trans (next_kept (timeCmd_unstamped hp ht hr hno)), fun hok => ?_⟩⟩
    have hrun := (exec_pdelayResp (s := s) hl).trans (next_kept ((timeCmd_stamped hp ht hr hok).trans (takeTime_pdelayResp ht hl)))
    obtain ⟨t, hlatch⟩ := receipt_stamped hok
    have hsame : y.link l = s.link l := by
      have hy : y = (s.receipt l f).1 := rfl
      rw [hy, hlatch]
      rfl
    refine ⟨fun q t1 hreq => ⟨fun hq => hrun.trans (next_kept (recvPdelayResp_other ((congrArg TimeLink.req hsame).trans hreq) hq)), fun hq => ?_⟩,
      fun hreq => hrun.trans (next_kept (recvPdelayResp_none ((congrArg TimeLink.req hsame).trans hreq)))⟩
    intro d delay
    have hdone := recvPdelayResp_done ((congrArg TimeLink.req hsame).trans hreq) hq
    rw [hsame] at hdone
    exact hrun.trans (next_kept hdone)
  · intro m hp hrf
    have hr : s.pathServes 2 := .inr ⟨rfl, hrf⟩
    refine ⟨fun ht => ?_, fun ht => ?_⟩
    · intro e
      refine ⟨fun hno => exec_delayReq.trans (next_kept (timeCmd_unstamped hp ht hr hno)), fun k hok hk hlead => ?_, fun hok hno => ?_⟩
      all_goals
        have hrun := exec_delayReq.trans (next_kept ((timeCmd_stamped hp ht hr hok).trans (takeTime_delayReq ht)))
        obtain ⟨t, hlatch⟩ := receipt_stamped (s := s) (l := 2) (f := f) hok
        have hsalt : (s.receipt 2 f).1.saltTb = s.saltTb := by rw [hlatch]; rfl
        have hleads : (s.receipt 2 f).1.isLeader = s.isLeader := by rw [hlatch]; rfl
      · have hmode : (s.receipt 2 f).1.rfMode = s.rfMode := by rw [hlatch]; rfl
        have hlead := recvDelayReq_leader (m := m) (hsalt.trans hk) (hleads.trans hlead)
        rw [hmode] at hlead
        exact hrun.trans (next_kept hlead)
      · exact hrun.trans (next_kept (recvDelayReq_other (by rw [hsalt, hleads]; exact hno)))
    · intro e x
      refine ⟨fun hno => exec_delayResp.trans (next_kept (timeCmd_unstamped hp ht hr hno)), fun q t3 t1 t2 hok hreq hsync hq => ?_, fun hok hno => ?_⟩
      all_goals
        have hrun := exec_delayResp.trans (next_kept ((timeCmd_stamped hp ht hr hok).trans (takeTime_delayResp ht)))
        obtain ⟨t, hlatch⟩ := receipt_stamped (s := s) (l := 2) (f := 122071) hok
        have hlink : (s.receipt 2 122071).1.link 2 = s.link 2 := by rw [hlatch]; rfl
        have hradio : (s.receipt 2 122071).1.time.radioSync = s.time.radioSync := by rw [hlatch]; rfl
      · have hasym : (s.receipt 2 122071).1.asym 2 = s.asym 2 := by rw [hlatch]; rfl
        have hdone := recvDelayResp_done ((congrArg TimeLink.req hlink).trans hreq) (hradio.trans hsync) hq
        rw [hlink, hasym] at hdone
        exact hrun.trans (next_kept hdone)
      · exact hrun.trans (next_kept (recvDelayResp_other (by rw [hlink, hradio]; exact hno)))

end Sys2Proof.Machine
end

section
/-! The time messages that a hub sends, the timeouts, and what a measurement does. -/
namespace Sys2Proof.Machine

/-! ### Sending and timeouts (R349, R351, R359, R360, R362) -/

section
variable {s : State}

theorem pdelaySend_next {l : Nat} (hsolo : s.slt.state ≠ 0) (hrun : s.linkRuns l = true) :
    s.pdelaySend l =
      let q := ((s.link l).seq + 1) % 65536
      let v := s.modLink l (fun x => { x with seq := q, req := some (q, (s.tb0u * 2 ^ 26 : Nat)) })
      let r := v.ownFrame 1 (v.ownMsg 2 q 0 0 l).words
      r.1.putFrame l r.2 := by
  simp only [State.pdelaySend, hsolo, hrun, decide_false, Bool.not_true, Bool.or_self, Bool.false_eq_true, if_false]

section
variable {k q : Nat} {w : State} (hk : s.saltTb = some k) (hlead : s.isLeader = true) (hset : s.tbSet k = true)
  (hq : q = (s.applyTimeCfg.time.syncSeq + 1) % 65536) (hw : w = { s.applyTimeCfg with time := { s.applyTimeCfg.time with syncSeq := q } })
include hk hlead hset hq hw

/-- The LEADER sends with its settings applied, as `w`, and the next number in use, as `q`. -/
theorem syncSend_links {l : Nat} (hl : l < 2) :
    s.syncSend l =
      let m := w.ownMsg 1 q (w.tbFine k) 0 l
      let r := w.ownFrame 1 m.words
      (r.1.putFrame 0 { r.2 with payload := ({ m with srcPort := 0 } : TimeMsg).words }).putFrame 1
        { r.2 with payload := ({ m with srcPort := 1 } : TimeMsg).words } := by
  subst hq hw
  simp only [State.syncSend, hk, hlead, hset, hl, Bool.not_true, Bool.or_self, Bool.false_eq_true, if_false, if_true]

theorem syncSend_radio : s.syncSend 2 = w.radioTime (w.ownMsg 1 q (w.tbFine k) 0 2) w.rfBroadcast := by
  subst hq hw
  simp only [State.syncSend, hk, hlead, hset, Nat.lt_irrefl, Bool.not_true, Bool.or_self, Bool.false_eq_true, if_false]

end

theorem lossTimeout_due {k : Nat} (ht : (s.tb k).state = 3) (h : s.lossUnits k ≤ s.tb0u - (s.tb k).accAt.getD 0) : s.lossTimeout k = s.tbEnter k 4 := by
  simp only [State.lossTimeout, ht, h, decide_true, Bool.and_self, if_true]

theorem lossTimeout_early {k : Nat} (h : s.tb0u - (s.tb k).accAt.getD 0 < s.lossUnits k) : s.lossTimeout k = s := by
  simp only [State.lossTimeout, Nat.not_le_of_lt h, decide_false, Bool.and_false, Bool.false_eq_true, if_false]

end

theorem exec_pdelaySend {s : State} {l f : Nat} (hl : l < 2) : exec (.pdelaySend l f) s = .next (kept s ((s.atF f).clearSent.pdelaySend l)) :=
  act_onlyIf (f := fun u => (u.atF f).clearSent.pdelaySend l) (decide_eq_true hl) rfl

theorem exec_syncSend {s : State} {l f : Nat} (hl : l < 3) : exec (.syncSend l f) s = .next (kept s ((s.atF f).clearSent.syncSend l)) :=
  act_onlyIf (f := fun u => (u.atF f).clearSent.syncSend l) (decide_eq_true hl) rfl

/-- Settles O35: a request, a SYNC by links or by radio, the two exchanges' ends, and LOSS by the time since the last measurement. -/
theorem timeSendingAndTimeoutsComplete : Obligations.TimeSendingAndTimeoutsComplete := by
  intro s f u
  refine ⟨?_, ?_, fun l hl => act_onlyIf (f := fun u => u.modLink l (fun x => { x with req := none })) (decide_eq_true hl) rfl,
    act_kept (f := fun u => u.modLink 2 (fun x => { x with req := none })) rfl, ?_⟩
  · intro l hl hrun hsolo
    exact (exec_pdelaySend hl).trans (next_kept (pdelaySend_next (s := u) hsolo hrun))
  · intro k hk hlead hset v q w
    refine ⟨fun l hl => ?_, ?_⟩
    · exact (exec_syncSend (by omega)).trans (next_kept (syncSend_links (s := u) (w := w) hk hlead hset rfl rfl hl))
    · exact (exec_syncSend (by decide)).trans (next_kept (syncSend_radio (s := u) (w := w) hk hlead hset rfl rfl))
  · intro k h1 h3 ht
    have hk : (decide (1 ≤ k) && decide (k ≤ 3)) = true := by rw [decide_eq_true h1, decide_eq_true h3]; rfl
    exact ⟨fun hdue => act_onlyIf (f := fun u => u.lossTimeout k) hk (lossTimeout_due ht hdue),
      fun hearly => act_id (f := onlyIf _ (fun u => u.lossTimeout k)) ((if_pos hk).trans (lossTimeout_early hearly))⟩

/-! ### A measurement (R351, R352, R354) -/

/-- The state in which a timebase weighs a measurement: its offset and its instant are noted. -/
def State.withOffset (s : State) (k : Nat) (o : Int) : State := s.modTb k (fun t => { t with offs := o, measAt := some s.tb0u })

/-- WINDOW about the timebase. -/
def State.inWindow (s : State) (k : Nat) (o : Int) : Prop := o.natAbs ≤ 1000 * s.afld .tbCtl k 7 0 * 2 ^ 32

section
variable {s : State} {k : Nat} {o : Int} {backward : Bool}

theorem withOffset_tb : (s.withOffset k o).tb k = { s.tb k with offs := o, measAt := some s.tb0u } := setTb_tb_self s k _

theorem withOffset_state : ((s.withOffset k o).tb k).state = (s.tb k).state := by rw [withOffset_tb]

theorem withOffset_epoch : ((s.withOffset k o).tb k).epoch = (s.tb k).epoch := by rw [withOffset_tb]

theorem measure_unset (h : (s.tb k).state = 0) : s.measure k o backward = s := by
  simp only [State.measure, h, decide_true, Bool.or_true, if_true]

theorem window_in (hin : s.inWindow k o) : decide (o.natAbs ≤ 1000 * (s.withOffset k o).afld .tbCtl k 7 0 * 2 ^ 32) = true := decide_eq_true hin

theorem window_out (hout : ¬ s.inWindow k o) : decide (o.natAbs ≤ 1000 * (s.withOffset k o).afld .tbCtl k 7 0 * 2 ^ 32) = false := decide_eq_false hout

theorem steady_good (hin : s.inWindow k o) (hb : backward = false) :
    (decide (o.natAbs ≤ 1000 * (s.withOffset k o).afld .tbCtl k 7 0 * 2 ^ 32) && !backward) = true := by rw [window_in hin, hb]; rfl

theorem steady_bad (hbad : ¬ s.inWindow k o ∨ backward = true) :
    (decide (o.natAbs ≤ 1000 * (s.withOffset k o).afld .tbCtl k 7 0 * 2 ^ 32) && !backward) = false := by
  obtain hout | hb := hbad
  · rw [window_out hout, Bool.false_and]
  · rw [hb, Bool.not_true, Bool.and_false]

/-- In TRACK and HOLDOVER a measurement takes the third of the four ways. -/
theorem steady_branch {α : Type} {st : Nat} {a b c d : α} (h2 : st ≠ 2) (h1 : st ≠ 1) (h34 : (decide (st = 3) || decide (st = 4)) = true) :
    (if st = 2 then a else if st = 1 then b else if decide (st = 3) || decide (st = 4) then c else d) = c := by
  rw [if_neg h2, if_neg h1, if_pos h34]

section
variable (hsvc : s.svcFenced 26 = false) (hfl : s.pwr.floor = 0)
include hsvc hfl

/-- A measurement that arrives in a state that `h` names: the unfolding that each case begins with. -/
theorem measure_in {st : Nat} (h : (s.tb k).state = st) (h0 : st ≠ 0) :
    s.measure k o backward = State.outlierCheck (
      let u := s.withOffset k o
      let inWin := decide (o.natAbs ≤ 1000 * u.afld .tbCtl k 7 0 * 2 ^ 32)
      if st = 2 then
        if inWin then (u.servoUpdate k o).tbEnter k 3
        else ((u.modTb k (fun t => { t with accAt := some s.tb0u, freq := ⟨t.r, 0⟩ })).tbEnter k 3).tbStep k (-o)
      else if st = 1 then (if inWin then u.servoUpdate k o else u)
      else if st = 3 || st = 4 then
        if inWin && !backward then
          let v := (u.servoUpdate k o).tbEnter k 3
          if st = 3 then v.lockCount k o else v
        else (((u.tbEnter k 5).evt .tbEvt 0 (k - 1)).logErr 10 k 0x30).timeEvent 2 k (s.tb k).epoch (fineNs o)
      else u.logErr 10 k 0x30) k (some o) := by
  have hst : ((s.withOffset k o).tb k).state = st := withOffset_state.trans h
  have hep : ((s.withOffset k o).tb k).epoch = (s.tb k).epoch := withOffset_epoch
  rw [State.withOffset] at hst hep
  unfold State.measure
  rw [hsvc, hfl, h, decide_eq_false h0, if_neg (by decide)]
  dsimp only
  rw [hst, hep]
  rfl

theorem measure_acquire_inside (h : (s.tb k).state = 2) (hin : s.inWindow k o) :
    s.measure k o backward = (((s.withOffset k o).servoUpdate k o).tbEnter k 3).outlierCheck k (some o) :=
  (measure_in hsvc hfl h (by decide)).trans (congrArg (fun u => State.outlierCheck u k (some o)) ((if_pos rfl).trans (if_pos (window_in hin))))

theorem measure_acquire_outside (h : (s.tb k).state = 2) (hout : ¬ s.inWindow k o) :
    s.measure k o backward =
      ((((s.withOffset k o).modTb k (fun t => { t with accAt := some s.tb0u, freq := ⟨t.r, 0⟩ })).tbEnter k 3).tbStep k (-o)).outlierCheck k (some o) :=
  (measure_in hsvc hfl h (by decide)).trans
    (congrArg (fun u => State.outlierCheck u k (some o)) ((if_pos rfl).trans (if_neg (Bool.eq_false_iff.mp (window_out hout)))))

theorem measure_track_inside (h : (s.tb k).state = 3) (hin : s.inWindow k o) (hb : backward = false) :
    s.measure k o backward = ((((s.withOffset k o).servoUpdate k o).tbEnter k 3).lockCount k o).outlierCheck k (some o) := by
  have hgood := steady_good (k := k) hin hb
  exact (measure_in hsvc hfl h (by decide)).trans (congrArg (fun u => State.outlierCheck u k (some o)) ((steady_branch (by decide) (by decide) (by decide)).trans (if_pos hgood)))

theorem measure_holdover_inside (h : (s.tb k).state = 4) (hin : s.inWindow k o) (hb : backward = false) :
    s.measure k o backward = (((s.withOffset k o).servoUpdate k o).tbEnter k 3).outlierCheck k (some o) := by
  have hgood := steady_good (k := k) hin hb
  exact (measure_in hsvc hfl h (by decide)).trans (congrArg (fun u => State.outlierCheck u k (some o)) ((steady_branch (by decide) (by decide) (by decide)).trans (if_pos hgood)))

theorem measure_lost (h : (s.tb k).state = 3 ∨ (s.tb k).state = 4) (hbad : ¬ s.inWindow k o ∨ backward = true) :
    s.measure k o backward =
      (((((s.withOffset k o).tbEnter k 5).evt .tbEvt 0 (k - 1)).logErr 10 k 0x30).timeEvent 2 k (s.tb k).epoch (fineNs o)).outlierCheck k (some o) := by
  have hno := Bool.eq_false_iff.mp (steady_bad hbad)
  obtain h | h := h
  · exact (measure_in hsvc hfl h (by decide)).trans (congrArg (fun u => State.outlierCheck u k (some o)) ((steady_branch (by decide) (by decide) (by decide)).trans (if_neg hno)))
  · exact (measure_in hsvc hfl h (by decide)).trans (congrArg (fun u => State.outlierCheck u k (some o)) ((steady_branch (by decide) (by decide) (by decide)).trans (if_neg hno)))

theorem measure_discontinuity (h : (s.tb k).state = 5) :
    s.measure k o backward = ((s.withOffset k o).logErr 10 k 0x30).outlierCheck k (some o) := measure_in hsvc hfl h (by decide)

end

end

/-- Settles O36: by the timebase's state and by WINDOW. -/
theorem measurementFollowsTheTimebaseState : Obligations.MeasurementFollowsTheTimebaseState := by
  intro s k o backward hsvc hfl st inside u
  exact ⟨measure_unset, measure_acquire_inside hsvc hfl, measure_acquire_outside hsvc hfl, measure_track_inside hsvc hfl, measure_holdover_inside hsvc hfl,
    measure_lost hsvc hfl, measure_discontinuity hsvc hfl⟩

end Sys2Proof.Machine
end

section
/-! The metering of the Ledger. -/
namespace Sys2Proof.Machine

/-! ### What the integration step leaves in the Ledger (R451) -/

theorem carryEnergy_ldg (s : State) (k n : Nat) : (s.carryEnergy k n).ldg = s.ldg := by
  simp only [State.carryEnergy]
  split <;> rfl

theorem reserveWatch_ldg (s : State) : s.reserveWatch.ldg = s.ldg := by
  simp only [State.reserveWatch]
  split <;> rfl

/-- The Ledger after an integration step with this income and this measured draw. -/
theorem senseTick_ldg (s : State) (a b : Int) :
    (s.senseTick a b).ldg =
      let inc := if s.snsRun 0 then s.senseEnergy 0 a else 0
      let drw := if s.snsRun 1 then s.senseEnergy 1 b else 0
      { s.ldg with income := wrap48 (s.ldg.income + inc), draw := wrap48 (s.ldg.draw + drw), owed := 0,
                   store := storeAdd s.ldg.store (inc - s.stepDraw drw) } := by
  simp only [State.senseTick, reserveWatch_ldg, carryEnergy_ldg]
  split <;> simp only [evt_ldg']

/-! ### Recalibration (R445, R447) -/

section
variable {s : State} {d q : Nat}

theorem recalDomain_unpowered (h : (s.dom d).rail = 0) : s.recalDomain d q = s.setMeter d { s.meter d with calDue := decide ((s.dom d).rail = 0) } := if_pos h

theorem recalDomain_differs (h : (s.dom d).rail ≠ 0) (h0 : (s.meter d).q ≠ 0) (hfar : (s.meter d).q < 5 * ((q : Int) - (s.meter d).q).natAbs) :
    s.recalDomain d q = ((s.setMeter d { s.meter d with calDue := decide ((s.dom d).rail = 0) }).evt .ldgEvt 0 0).logErr 14 1 0x38 := by
  simp only [State.recalDomain, h, h0, hfar, if_false, ne_eq, not_false_eq_true, decide_true, Bool.and_self, if_true]

theorem recalDomain_taken (h : (s.dom d).rail ≠ 0) (hnear : (s.meter d).q = 0 ∨ 5 * ((q : Int) - (s.meter d).q).natAbs ≤ (s.meter d).q) :
    s.recalDomain d q = (s.setMeter d { s.meter d with calDue := decide ((s.dom d).rail = 0), q := q % 2 ^ 20, cal := true }).logEnd 14 1 0x38 := by
  have hok : (decide ((s.meter d).q ≠ 0) && decide ((s.meter d).q < 5 * ((q : Int) - (s.meter d).q).natAbs)) = false := by
    obtain h0 | hle := hnear
    · rw [decide_eq_false (not_not_intro h0), Bool.false_and]
    · rw [decide_eq_false (Nat.not_lt.mpr hle), Bool.and_false]
  exact (if_neg h).trans (if_neg (Bool.eq_false_iff.mp hok))

end

section
variable {s : State} {l : List Nat}

theorem exec_ledgerRecalibration (h : s.pwr.phase = 2) : exec (.ledgerRecalibration l) s = .next (kept s (s.recalibrate l)) :=
  act_onlyIf (f := fun u => u.recalibrate l) (decide_eq_true h) rfl

variable (hl : l.length ≤ 12)
include hl

theorem recalibrate_due (h : s.recalNow = true) :
    s.recalibrate l = (List.range l.length).foldl (fun v d => v.recalDomain d (l.getD d 0)) { s with ldg := { s.ldg with calAt := s.tb0u } } := by
  simp only [State.recalibrate, h, if_true, State.recalAll, Nat.min_eq_right hl]

theorem recalibrate_left (h : s.recalNow = false) :
    s.recalibrate l = (List.range l.length).foldl (fun v d => if (v.meter d).calDue && (v.dom d).rail ≠ 0 then v.recalDomain d (l.getD d 0) else v) s := by
  simp only [State.recalibrate, h, Bool.false_eq_true, if_false, Nat.min_eq_right hl]

end

/-! ### Strokes, VBAT and LDG_STORE (R443, R444, R470) -/

theorem exec_stroke {s : State} {d n : Nat} (hd : d < 12) (hr : (s.dom d).rail ≠ 0) : exec (.stroke d n) s = .next (kept s (s.strokes d n)) :=
  act_onlyIf (f := fun u => u.strokes d n) (by rw [decide_eq_true hd, decide_eq_true hr]; rfl) rfl

theorem exec_ldgStoreWrite {s : State} {h : Nat} {lo hi : Word} (hu : s.writeUp h = true)
    (hj : s.judge h (Reg.addr .ldgStore 0) 8 (some (lo.toNat + 2 ^ 32 * hi.toNat)) = .pass) :
    exec (.ldgStoreWrite h lo hi) s = .next (kept s ((s.ldgStoreWrite (lo.toNat + 2 ^ 32 * hi.toNat)).noteAccess h (Reg.addr .ldgStore 0) .pass)) := by
  have hwrite : s.writeUnit h (Reg.addr .ldgStore 0) 8 (lo.toNat + 2 ^ 32 * hi.toNat) = s.ldgStoreWrite (lo.toNat + 2 ^ 32 * hi.toNat) := by
    simp only [State.writeUnit, spotOf_ldgStore, if_true, State.writePair]
  exact act_onlyIf (f := fun u => (u.accessWrite h (Reg.addr .ldgStore 0) 8 (lo.toNat + 2 ^ 32 * hi.toNat)).1) hu ((accessWrite_pass hj).trans (by rw [hwrite]))

/-- Settles O37: the stroke, the measurement of VBAT, the integration step, the recalibration of the hub and of a domain, and LDG_STORE. -/
theorem meteringCommandsComplete : Obligations.MeteringCommandsComplete := by
  intro s
  refine ⟨fun d n hd hr => exec_stroke hd hr, fun mv => act_next (f := fun u => { u with ldg := { u.ldg with vbat := mv % 65536 } }) rfl rfl rfl rfl, ?_, ?_, ?_, fun h lo hi hu hj => exec_ldgStoreWrite hu hj⟩
  · intro a b inc drw t
    have hldg : t.ldg = _ := senseTick_ldg s a b
    exact ⟨by rw [hldg], by rw [hldg], by rw [hldg], by rw [hldg]⟩
  · exact fun l hl hphase => ⟨fun hdue => (exec_ledgerRecalibration hphase).trans (next_kept (recalibrate_due hl hdue)),
      fun hleft => (exec_ledgerRecalibration hphase).trans (next_kept (recalibrate_left hl hleft))⟩
  · exact fun d q _ => ⟨fun h => recalDomain_unpowered h, fun h h0 hfar => recalDomain_differs h h0 hfar, fun h hnear => recalDomain_taken h hnear⟩

end Sys2Proof.Machine
end

section
/-! The commands of the Planner, and the calendar's second. -/
namespace Sys2Proof.Machine

/-! ### EPOCH_BOUNDARY (R454, R456, R469) -/

section
variable {s : State}

theorem exec_epochBoundary (hphase : s.pwr.phase = 2) (hfl : s.pwr.floor = 0) (hdue : s.epochDue = true) :
    exec .epochBoundary s = .next (kept s (s.epochHold false).settle) :=
  act_onlyIf (f := fun u => (u.epochHold false).settle) (by rw [hphase, hfl, hdue]; rfl) rfl

theorem epochHold_kept (h : (s.epochBoundary false).pwr.reserveHold = false ∨ (s.epochBoundary false).plnModeInForce = 2) :
    s.epochHold false = s.epochBoundary false := by
  obtain h | h := h <;> simp only [State.epochHold, h, ne_eq, not_true_eq_false, decide_false, Bool.false_and, Bool.or_self, Bool.and_false,
    Bool.false_eq_true, if_false]

theorem epochHold_ended (hhold : (s.epochBoundary false).pwr.reserveHold = true) (hmode : (s.epochBoundary false).plnModeInForce ≠ 2) :
    s.epochHold false =
      ({ s.epochBoundary false with pwr := { (s.epochBoundary false).pwr with reserveHold := false } } : State).endHold true := by
  simp only [State.epochHold, hhold, hmode, ne_eq, not_false_eq_true, decide_true, Bool.true_or, Bool.and_self, if_true]

end

/-! ### OVERSPEND_TRIP (R466, R467) -/

section
variable {s : State} {l : Rat} (hphase : s.pwr.phase = 2) (hl : s.pln.limit = some l) (hover : l < s.sinceBoundary)
include hphase hl hover

theorem exec_overspendTrip (hup : s.plnModeInForce ≠ 2 ∨ s.pwr.floor = 0) : exec .overspendTrip s = .next (kept s s.overspendTrip.settle) := by
  have hstay : (if s.plnModeInForce = 2 && !s.onHold then s.wakeBy 7 else s) = s := by
    obtain hmode | hfl := hup
    · rw [decide_eq_false hmode, Bool.false_and, if_neg Bool.false_ne_true]
    · rw [State.wakeBy, if_pos hfl, ite_self]
  change execOverspendTrip s = _
  unfold execOverspendTrip
  rw [act_eq, onlyIf, if_pos (decide_eq_true hphase)]
  simp only [hl, if_neg (Rat.not_le.mpr hover), hstay]

theorem exec_overspendTrip_unloads (hmode : s.plnModeInForce ≠ 2) :
    exec .overspendTrip s = .next (kept s ({ s.evt .plnEvt 0 1 with pln := { (s.evt .plnEvt 0 1).pln with limit := none } } : State).settle) := by
  rw [exec_overspendTrip hphase hl hover (.inl hmode), overspend_over s l hl hover, if_neg hmode]

theorem exec_overspendTrip_emergency (hmode : s.plnModeInForce = 2) (hfl : s.pwr.floor = 0) :
    exec .overspendTrip s = .next (kept s s.emergencyPlan.settle) := by
  rw [exec_overspendTrip hphase hl hover (.inr hfl), overspend_over s l hl hover, if_pos hmode]

end

section
variable {s : State}

theorem emergencyPlan_loads (hleft : 0 < s.budgetLeft) (htrips : s.pln.trips = 0) :
    s.emergencyPlan =
      let raised := s.evt .plnEvt 0 1
      let x := s.planSet s.allowance s.tierInUse
      let plan := (s.capped x.1, x.2)
      let u := (((if plan.2.2 then raised.evt .plnEvt 0 3 else raised).storePlan s.allowance plan.2.1 plan.1 plan.2.2).applyPlan plan.1 true).evt .plnEvt 0 2
      { u with pln := { u.pln with emergency := true, trips := u.pln.trips + 1, limit := some (s.sinceBoundary + s.budgetLeft) } } := by
  have hlow : s.atLowest = false := by
    rw [State.atLowest, decide_eq_false (Rat.not_le.mpr hleft), htrips]
    rfl
  simp only [State.emergencyPlan, State.emergencySet, hlow, Bool.not_false, Bool.true_and, Bool.false_eq_true, if_false]

theorem emergencyPlan_lowest (h : s.budgetLeft ≤ 0 ∨ 1 ≤ s.pln.trips) :
    s.emergencyPlan =
      let raised := s.evt .plnEvt 0 1
      let lowest := s.enabledChans.map (fun c => (c, min (s.lowTier c) (s.tierInUse c)))
      let power := s.cost (s.enabledChans.map (fun c => (c, s.lowTier c)))
      let u := ((raised.storePlan s.allowance power lowest true).applyPlan lowest true).evt .plnEvt 0 2
      { u with pln := { u.pln with emergency := true, trips := u.pln.trips + 1, limit := none } } := by
  have hlow : s.atLowest = true := by
    rw [State.atLowest, Bool.or_eq_true, decide_eq_true_eq, decide_eq_true_eq]
    exact h
  have hcap : s.capped (s.enabledChans.map (fun c => (c, s.lowTier c))) = s.enabledChans.map (fun c => (c, min (s.lowTier c) (s.tierInUse c))) :=
    List.map_map
  simp only [State.emergencyPlan, State.emergencySet, hlow, hcap, Bool.not_true, Bool.false_and, Bool.false_eq_true, if_false, if_true]

end

/-! ### RESERVE_TRIP (R469) -/

section
variable {s : State} (hphase : s.pwr.phase = 2) (hvalid : s.ldg.storeValid = true) (hlow : s.ldg.store ≤ (s.reg64 .plnReserve 0 : Rat))
  (hready : s.pln.reserveReady = true)
include hphase hvalid hlow hready

theorem exec_reserveTrip :
    exec .reserveTrip s = .next (kept s (
      let u := ({ s with pln := { s.pln with reserveReady := false } } : State).evt .ldgEvt 0 1
      if s.plnModeInForce ≠ 2 || s.pwr.reserveHold then u else (u.wakeBy 7).enterHold)) := by
  refine act_onlyIf (f := State.reserveTrip) (decide_eq_true hphase) ?_
  have hreached : s.reserveReached = true := by rw [State.reserveReached, hvalid, decide_eq_true hlow]; rfl
  have hmode : (({ s with pln := { s.pln with reserveReady := false } } : State).evt .ldgEvt 0 1).plnModeInForce = s.plnModeInForce := evt_mode _ _ _ _
  have hpwr : (({ s with pln := { s.pln with reserveReady := false } } : State).evt .ldgEvt 0 1).pwr = s.pwr := evt_pwr' _ _ _ _
  simp only [State.reserveTrip, hreached, hready, hmode, hpwr, Bool.not_true, Bool.or_self, Bool.false_eq_true, if_false]

theorem exec_reserveTrip_noted (h : s.plnModeInForce ≠ 2 ∨ s.pwr.reserveHold = true) :
    exec .reserveTrip s = .next (kept s (({ s with pln := { s.pln with reserveReady := false } } : State).evt .ldgEvt 0 1)) :=
  (exec_reserveTrip hphase hvalid hlow hready).trans (next_kept (if_pos (by rw [Bool.or_eq_true, decide_eq_true_eq]; exact h)))

theorem exec_reserveTrip_holds (hmode : s.plnModeInForce = 2) (hhold : s.pwr.reserveHold = false) :
    exec .reserveTrip s = .next (kept s (((({ s with pln := { s.pln with reserveReady := false } } : State).evt .ldgEvt 0 1).wakeBy 7).enterHold)) :=
  (exec_reserveTrip hphase hvalid hlow hready).trans (next_kept (if_neg (by rw [hmode, hhold]; decide)))

end

/-- Settles O38: the boundary with its hold, the overspend comparator by the mode and by what the budget leaves, the reserve comparator. -/
theorem plannerCommandsComplete : Obligations.PlannerCommandsComplete := by
  intro s hphase
  refine ⟨?_, fun l hl hover hmode => exec_overspendTrip_unloads hphase hl hover hmode, ?_, ?_⟩
  · intro hfl hdue e
    have hrun := exec_epochBoundary hphase hfl hdue
    exact ⟨fun h => hrun.trans (by rw [epochHold_kept h]), fun hhold hmode => hrun.trans (by rw [epochHold_ended hhold hmode])⟩
  · intro l hl hover hmode hfl raised x plan lowest power after
    have hrun := exec_overspendTrip_emergency hphase hl hover hmode hfl
    exact ⟨fun hleft htrips => hrun.trans (by rw [emergencyPlan_loads hleft htrips]; rfl), fun h => hrun.trans (by rw [emergencyPlan_lowest h])⟩
  · exact fun hvalid hlow hready => ⟨fun h => exec_reserveTrip_noted hphase hvalid hlow hready h,
      fun hmode hhold => exec_reserveTrip_holds hphase hvalid hlow hready hmode hhold⟩

/-! ### CALENDAR_SECOND (R501, R503) -/

theorem exec_calendarSecond {s : State} (h : s.pwr.phase = 1 ∨ s.pwr.phase = 2) : exec .calendarSecond s = .next (kept s s.calSecond) :=
  act_onlyIf (f := State.calSecond) (by rw [Bool.or_eq_true, decide_eq_true_eq, decide_eq_true_eq]; exact h) rfl

section
variable {s : State}

theorem calSecond_counts (hsrc : s.calSource = 0) (hvalid : s.cal.valid = true) (hdue : s.cal.mark + 32768 ≤ (s.tick : Int)) :
    s.calSecond = (s.modCal (fun c => { c with mark := c.mark + 32768 })).calTick := by
  simp only [State.calSecond, hsrc, hvalid, Int.not_lt.mpr hdue, decide_false, Bool.not_true, Bool.or_self, Bool.false_eq_true, if_false, if_true]

/-- A second that neither inserts nor omits one. -/
theorem calTick_plain (hleap : s.cal.inLeap = false) (hadd : (decide (s.cal.utc % 86400 = 86399) && s.leapDue 30) = false)
    (hdel : (decide (s.cal.utc % 86400 = 86398) && s.leapDue 29) = false) :
    s.calTick = (s.modCal (fun c => { c with utc := min calendarEnd (s.cal.utc + 1) })).calBegin := by
  simp only [State.calTick, hleap, hadd, hdel, Bool.false_eq_true, if_false]

theorem calTick_inserts (hleap : s.cal.inLeap = false) (ht : s.cal.utc % 86400 = 86399) (hadd : s.leapDue 30 = true) :
    s.calTick = (s.leapDone 1).modCal (fun c => { c with inLeap := true }) := by
  simp only [State.calTick, hleap, ht, hadd, decide_true, Bool.and_self, Bool.false_eq_true, if_false, if_true]

theorem calTick_omits (hleap : s.cal.inLeap = false) (ht : s.cal.utc % 86400 = 86398) (hdel : s.leapDue 29 = true) :
    s.calTick = ((s.leapDone (-1)).modCal (fun c => { c with utc := min calendarEnd (s.cal.utc + 2) })).calBegin := by
  have hne : (86398 = 86399) = False := by decide
  simp only [State.calTick, hleap, ht, hdel, hne, decide_false, decide_true, Bool.false_and, Bool.and_self, Bool.false_eq_true, if_false, if_true]

theorem calTick_leapEnds (hleap : s.cal.inLeap = true) :
    s.calTick = (s.modCal (fun c => { c with utc := min calendarEnd (s.cal.utc + 1), inLeap := false })).calBegin := by
  simp only [State.calTick, hleap, if_true]

section
variable (hsrc : s.calSource ≠ 0)
include hsrc

theorem calSecond_sets (hvalid : s.cal.valid = false) :
    s.calSecond = ((s.modCal (fun c => { c with mark := s.tick })).modCal (fun c => { c with valid := true, utc := s.calByTb, inLeap := false })).calBegin := by
  simp only [State.calSecond, hsrc, hvalid, Bool.not_false, if_false, if_true]

variable (hvalid : s.cal.valid = true)
include hvalid

theorem calSecond_same (h : s.calByTb = s.cal.utc) : s.calSecond = s := by
  simp only [State.calSecond, hsrc, hvalid, h, Bool.not_true, Bool.false_eq_true, if_false, if_true]

theorem calSecond_follows (h : s.calByTb = s.cal.utc + 1) : s.calSecond = (s.modCal (fun c => { c with mark := s.tick })).calTick := by
  simp only [State.calSecond, hsrc, hvalid, h, Nat.succ_ne_self, Bool.not_true, Bool.false_eq_true, if_false, if_true]

theorem calSecond_jumps (hsame : s.calByTb ≠ s.cal.utc) (hnext : s.calByTb ≠ s.cal.utc + 1) :
    s.calSecond = ((s.modCal (fun c => { c with mark := s.tick })).modCal (fun c => { c with utc := s.calByTb, inLeap := false })).calMoved s.cal.utc := by
  simp only [State.calSecond, hsrc, hvalid, hsame, hnext, Bool.not_true, Bool.false_eq_true, if_false]

end

end

/-- Settles O39: by what the calendar follows, then by where the second falls. -/
theorem calendarSecondsComplete : Obligations.CalendarSecondsComplete := by
  intro s hphase
  have hrun := exec_calendarSecond hphase
  refine ⟨?_, ?_⟩
  · intro hsrc hvalid hdue u t
    have hcount := hrun.trans (next_kept (calSecond_counts hsrc hvalid hdue))
    refine ⟨fun hleap hadd hdel => ?_, fun hleap h99 h98 => ?_, fun hleap ht hadd => ?_, fun hleap ht hdel => ?_, fun hleap => ?_⟩
    · exact hcount.trans (next_kept (calTick_plain (s := u) hleap (Bool.and_eq_false_iff.mpr (.inr hadd)) (Bool.and_eq_false_iff.mpr (.inr hdel))))
    · exact hcount.trans (next_kept (calTick_plain (s := u) hleap (Bool.and_eq_false_iff.mpr (.inl (decide_eq_false h99)))
        (Bool.and_eq_false_iff.mpr (.inl (decide_eq_false h98)))))
    · exact hcount.trans (next_kept (calTick_inserts (s := u) hleap ht hadd))
    · exact hcount.trans (next_kept (calTick_omits (s := u) hleap ht hdel))
    · exact hcount.trans (next_kept (calTick_leapEnds (s := u) hleap))
  · intro hsrc t u
    refine ⟨fun hvalid => hrun.trans (next_kept (calSecond_sets hsrc hvalid)), fun hvalid h => hrun.trans (next_kept (calSecond_follows hsrc hvalid h)),
      fun hvalid h => ?_, fun hvalid hsame hnext => hrun.trans (next_kept (calSecond_jumps hsrc hvalid hsame hnext))⟩
    have hcond : (decide (s.pwr.phase = 1) || decide (s.pwr.phase = 2)) = true := by
      rw [Bool.or_eq_true, decide_eq_true_eq, decide_eq_true_eq]
      exact hphase
    exact act_id (f := onlyIf _ State.calSecond) ((if_pos hcond).trans (calSecond_same hsrc hvalid h))

end Sys2Proof.Machine
end

section
/-! The commands of the floors. -/
namespace Sys2Proof.Machine

/-! ### RAIL_SLEW_DONE (R29 to R31) -/

section
variable {s : State} {d r : Nat} (hd : d < 12) (hon : (s.dom d).rail ≠ 0) (hslew : (s.dom d).slew = some r)
include hd hon hslew

theorem exec_railSlewDone_reached (h : (s.dom d).rail ≤ r ∨ ∀ c < 192, (s.chan c).tierNext = none) :
    exec (.railSlewDone d) s = .next (kept s (s.setDom d ⟨r, none⟩).settle) := by
  have hgo : (decide (r < (s.dom d).rail) && (List.range 192).any (fun c => (s.chan c).tierNext.isSome)) = false := by
    obtain hle | hnone := h
    · rw [decide_eq_false (Nat.not_lt.mpr hle), Bool.false_and]
    · refine Bool.and_eq_false_iff.mpr (.inr (List.any_eq_false.mpr fun c hc => ?_))
      rw [hnone c (List.mem_range.mp hc)]
      exact Bool.false_ne_true
  refine act_onlyIf (f := fun u => u.slewDone d) (by rw [decide_eq_true hd, decide_eq_true hon]; rfl) ?_
  simp only [State.slewDone, hslew, hgo, Bool.false_eq_true, if_false]

theorem exec_railSlewDone_waits {c : Nat} (hc : c < 192) (hlow : r < (s.dom d).rail) (hwait : (s.chan c).tierNext ≠ none) :
    exec (.railSlewDone d) s = .next s := by
  have hstay : (decide (r < (s.dom d).rail) && (List.range 192).any (fun c => (s.chan c).tierNext.isSome)) = true := by
    rw [decide_eq_true hlow, Bool.true_and, List.any_eq_true]
    exact ⟨c, List.mem_range.mpr hc, Option.isSome_iff_ne_none.mpr hwait⟩
  have hrun : s.slewDone d = s := by simp only [State.slewDone, hslew, hstay, if_true]
  have hcond : (decide (d < 12) && decide ((s.dom d).rail ≠ 0)) = true := by rw [decide_eq_true hd, decide_eq_true hon]; rfl
  exact act_id (f := onlyIf _ (fun u => u.slewDone d)) ((if_pos hcond).trans hrun)

end

/-! ### DESCENT (R38) -/

section
variable {s : State} {f : Nat}

theorem exec_descent (h0 : f ≠ 0) (h : s.floorNow = f) : exec (.descent f) s = .next (kept s (s.descend f)) :=
  act_kept (f := fun u => if f ≠ 0 && u.floorNow = f then u.descend f else u) (if_pos (by rw [h, decide_eq_true h0, decide_eq_true rfl]; rfl))

theorem floorNow_up (hphase : s.pwr.phase = 2) (hfl : s.pwr.floor = 0) (hhold : s.onHold = false) (hwait : s.pwr.brownWait = false) :
    s.floorNow = if s.floorOk 2 then 2 else if s.floorOk 1 then 1 else 0 := by
  rw [State.onHold, Bool.or_eq_false_iff] at hhold
  obtain ⟨hres, hbrown⟩ := hhold
  simp only [State.floorNow, hphase, hfl, hwait, hres, hbrown, ne_eq, not_true_eq_false, decide_false, Bool.or_self, Bool.false_eq_true, if_false]

end

/-! ### The wakes (R41, R44, R479, R480) -/

section
variable {s : State} {t : Nat} (ht : s.pwr.wakeCmp = some t)
include ht

theorem exec_wakeComparator_due (h : t ≤ s.tb0u + tickUnits) :
    exec .wakeComparator s = .next (kept s (({ s with pwr := { s.pwr with wakeCmp := none } } : State).wakeBy 0)) := by
  change execWakeComparator s = _
  unfold execWakeComparator
  refine act_kept ?_
  simp only [ht, if_pos h]

theorem exec_wakeComparator_early (h : s.tb0u + tickUnits < t) : exec .wakeComparator s = .next s := by
  change execWakeComparator s = _
  unfold execWakeComparator
  refine act_id ?_
  simp only [ht, if_neg (Nat.not_le.mpr h)]

end

section
variable {s : State} {k : Nat}

theorem exec_floorWake (hphase : s.pwr.phase = 2) : exec (.floorWake k) s = .next (kept s (s.floorWake k)) :=
  act_onlyIf (f := fun u => u.floorWake k) (decide_eq_true hphase) rfl

/-- A source that wakes the hub by itself. -/
theorem floorWake_own (hfl : s.pwr.floor ≠ 0) (h : k = 2 ∨ k = 3 ∨ (k = 5 ∧ s.onHold = false)) : s.floorWake k = (s.wakeBy k).wakeAll := by
  have hown : (decide (k = 2) || decide (k = 3) || (decide (k = 5) && !s.onHold)) = true := by
    simpa [or_assoc] using h
  simp only [State.floorWake, hown, hfl, Bool.or_true, Bool.not_true, decide_false, Bool.or_self, Bool.false_eq_true, if_false, if_true]

section
variable (hfl : s.pwr.floor ≠ 0) (h2 : k ≠ 2) (h3 : k ≠ 3) (h5 : k ≠ 5)
include h2 h3 h5

include hfl in
theorem floorWake_recorded (hreq : s.pwr.wakeReq = true) : s.floorWake k = s.wakeAll := by
  simp only [State.floorWake, hreq, hfl, h2, h3, h5, Bool.true_or, Bool.not_true, decide_false, Bool.false_and, Bool.or_self, Bool.false_eq_true, if_false]

theorem floorWake_none (hreq : s.pwr.wakeReq = false) : s.floorWake k = s := by
  simp only [State.floorWake, hreq, h2, h3, h5, Bool.not_false, decide_false, Bool.false_and, Bool.or_self, Bool.or_true, if_true]

end

end

theorem exec_hsleepEdge {s : State} {h : Nat} {b : Bool} (hh : h < 4) :
    exec (.hsleepEdge h b) s = .next (kept s (s.modHost h (fun x => { x with pinAsleep := b }))) :=
  act_onlyIf (f := fun u => u.modHost h (fun x => { x with pinAsleep := b })) (decide_eq_true hh) rfl

theorem exec_legusWake {s : State} {l : Nat} (hl : l < 2) (hsolo : s.slt.state = 0) (hhold : s.onHold = false) (hen : bitAt (s.app .legCfg 0) 28 = true)
    (hlink : bitAt (s.app .legCfg 0) (31 - l) = true) : exec (.legusWake l) s = .next (kept s (s.wakeBy 4)) :=
  act_onlyIf (f := fun u => u.wakeBy 4) (by rw [decide_eq_true hl, decide_eq_true hsolo, hhold, hen, hlink]; rfl) rfl

/-- Settles O40: the rail, the floor that R38 gives, the comparator, the wakes by their source, the two lines. -/
theorem floorCommandsComplete : Obligations.FloorCommandsComplete := by
  intro s
  refine ⟨fun d r hd hon hslew => ⟨fun h => exec_railSlewDone_reached hd hon hslew h, fun c hc hlow hwait => exec_railSlewDone_waits hd hon hslew hc hlow hwait⟩,
    ?_, fun t ht => ⟨fun h => exec_wakeComparator_due ht h, fun h => exec_wakeComparator_early ht h⟩, ?_, fun h b hh => exec_hsleepEdge hh,
    fun l hl hsolo hhold hen hlink => exec_legusWake hl hsolo hhold hen hlink⟩
  · intro f hphase hfl hhold hwait
    have hnow := floorNow_up hphase hfl hhold hwait
    refine ⟨fun hf hok => ?_, fun hf hno hok => ?_⟩
    · subst hf
      exact exec_descent (by decide) (hnow.trans (if_pos hok))
    · subst hf
      exact exec_descent (by decide) (hnow.trans (by rw [hno, hok]; rfl))
  · intro k hphase hfl
    have hrun := exec_floorWake (k := k) hphase
    refine ⟨fun h => hrun.trans (next_kept (floorWake_own hfl h)), fun h2 h3 h5 hreq => hrun.trans (next_kept (floorWake_recorded hfl h2 h3 h5 hreq)),
      fun h2 h3 h5 hreq => ?_⟩
    exact act_id (f := onlyIf (s.pwr.phase = 2) (fun u => u.floorWake k)) ((if_pos (decide_eq_true hphase)).trans (floorWake_none h2 h3 h5 hreq))

end Sys2Proof.Machine
end

section
/-! The resets, and what each leaves. -/
namespace Sys2Proof.Machine

/-! ### SHUTDOWN_ENTRY and FENCE_TIMEOUT (R91, R482, R566) -/

theorem exec_shutdownEntry {s : State} {h k : Nat} {en falling : Bool} (harm : s.pwr.shutArm = some (h, k, en, falling)) (hphase : s.pwr.phase = 2)
    (hwrite : s.life.writing = none) : exec .shutdownEntry s = .next (keptClock s (s.shutdown (if en then some falling else none))) := by
  change execShutdownEntry s = _
  unfold execShutdownEntry
  rw [actClock_eq]
  simp only [harm, hphase, hwrite, Option.isNone_none, decide_true, Bool.and_self, if_true]

theorem exec_fenceTimeout {s : State} {kind idx : Nat} (hi : idx < 256) (hphase : s.pwr.phase = 2) (hsel : selectorOk kind idx = true) :
    exec (.fenceTimeout (256 * kind + idx)) s = .next (keptClock s (s.fenceTimeout kind idx)) := by
  have hkind : (256 * kind + idx) / 256 = kind := by omega
  have hidx : (256 * kind + idx) % 256 = idx := by omega
  change execFenceTimeout _ s = _
  unfold execFenceTimeout
  rw [actClock_eq, onlyIf, hkind, hidx, hphase, hsel, if_pos (by rfl)]

section
variable {s : State} {kind idx : Nat} (hf : s.isFenced kind idx = true)
include hf

theorem fenceTimeout_domain (hk : kind = 8) : s.fenceTimeout kind idx = s.resetTo 6 3 s.pwr.bootsel true true := by
  rw [State.fenceTimeout, hf, if_neg (by decide), if_pos hk]
  rfl

theorem fenceTimeout_function (hk : kind ≠ 8) (hd : funcDomain kind idx ≠ 0) : s.fenceTimeout kind idx = s.fenceDomain (funcDomain kind idx) 0x85 := by
  rw [State.fenceTimeout, hf, if_neg (by decide), if_neg hk, if_neg hd]

end

/-- Settles O41: each reset by its own rule; the entry of SHUTDOWN and the timeout of a fence. -/
theorem resetCommandsComplete : Obligations.ResetCommandsComplete := by
  intro s b
  refine ⟨exec_powerOn s b, exec_brownout s b, exec_pin_up b, exec_pin_shut b, exec_hostReset b, fun core hc => exec_watchdog b hc,
    fun code ok h1 h5 => exec_pd0Fault ok b h1 h5, fun h k en falling => exec_shutdownEntry, fun level => exec_shutdownWake b, ?_⟩
  intro kind idx hi hphase hsel hf
  have hrun := exec_fenceTimeout hi hphase hsel
  exact ⟨fun hk => hrun.trans (by rw [fenceTimeout_domain hf hk]), fun hk hd => hrun.trans (by rw [fenceTimeout_function hf hk hd])⟩

/-! ### What a reset leaves (R80, R98, R482, R483, R486) -/

section
variable (s : State) (cause fault : Nat) (b pd0 ok : Bool)

theorem resetTo_host (h : Nat) : (s.resetTo cause fault b pd0 ok).host h = { HostSt.reset with pinAsleep := (s.host h).pinAsleep } :=
  Tab.get_mapVals s.hosts (fun x => { HostSt.reset with pinAsleep := x.pinAsleep }) h rfl

theorem resetTo_pin (n : Nat) : (s.resetTo cause fault b pd0 ok).pin n = { Pin.reset with level := (s.pin n).level } :=
  Tab.get_mapVals s.pins (fun x => { Pin.reset with level := x.level }) n rfl

theorem storeKept_ring (h : s.life.writing = none) : s.storeKept.ring = s.store.ring := by simp only [State.storeKept, h]

theorem storeKept_images (h : s.store.save = none) : s.storeKept.images = s.store.images := by simp only [State.storeKept, h]

/-- Closing an entry leaves its two words. -/
theorem logKept_words : s.logKept.map LogEntry.words = s.log.map LogEntry.words := by
  rw [State.logKept, List.map_map]
  refine List.map_congr_left fun e _ => ?_
  rw [Function.comp_apply]
  split <;> rfl

end

/-- Settles O42: read off `resetTo`; the tables keep one field of each entry, the log its words. -/
theorem resetLeavesWhatItsCauseKeeps : Obligations.ResetLeavesWhatItsCauseKeeps := by
  intro s cause fault b pd0 ok t
  refine ⟨rfl, rfl, rfl, rfl, rfl, rfl, rfl, rfl, rfl, rfl, rfl, fun h => ?_, fun n => by rw [resetTo_pin], rfl, rfl, rfl, rfl,
    storeKept_ring s, storeKept_images s, ?_, ?_, ?_, ?_⟩
  · rw [resetTo_host]
    exact ⟨rfl, rfl, rfl, rfl, rfl⟩
  · intro hpd hok
    subst hpd hok
    exact ⟨logKept_words s, rfl⟩
  · intro hlost
    obtain h | h := hlost <;> subst h
    · exact ⟨rfl, rfl⟩
    · cases pd0 <;> exact ⟨rfl, rfl⟩
  · intro hpd
    subst hpd
    exact ⟨rfl, rfl, rfl⟩
  · intro hpd
    subst hpd
    rfl

end Sys2Proof.Machine
end

section
/-! The boot, the brownout warning and the crystal tick. -/
namespace Sys2Proof.Machine

/-! ### COLD_BOOT (R484, R490, R495, R498, R570) -/

theorem exec_coldBoot {s : State} (charges banks : List Nat) (h : s.pwr.phase = 1) : exec (.coldBoot charges banks) s = .next (kept s (s.coldBoot charges banks)) :=
  act_onlyIf (f := fun u => u.coldBoot charges banks) (decide_eq_true h) rfl

theorem exec_coldBoot_running {s : State} (charges banks : List Nat) (h : s.pwr.phase ≠ 1) : exec (.coldBoot charges banks) s = .next (kept s s) :=
  act_kept (f := onlyIf (s.pwr.phase = 1) (fun u => u.coldBoot charges banks)) (if_neg (by rw [decide_eq_false h]; exact Bool.false_ne_true))

theorem coldBoot_phase (s : State) (charges banks : List Nat) : (s.coldBoot charges banks).pwr.phase = 2 := by
  simp only [State.coldBoot, logErr_pwr']

section
variable {s : State}

theorem logCause_pd0 (h : s.pwr.cause = 6) : s.logCause = s.logWrite ⟨s.logTime, selOf 14 0, 0x8C, s.pwr.fault, 0, false⟩ := if_pos h

theorem logCause_watchdog (h : s.pwr.cause = 7) : s.logCause = s.logErr 14 0 0x8D := by
  rw [State.logCause, h]
  exact (if_neg (by decide)).trans (if_pos rfl)

theorem logCause_other (h6 : s.pwr.cause ≠ 6) (h7 : s.pwr.cause ≠ 7) : s.logCause = s := (if_neg h6).trans (if_neg h7)

/-- The slot that a normal boot wants: a pending one, else the one that ran last. -/
def State.wantedPatch (s : State) : Option Nat :=
  if (s.patch 0).pend then some 0 else if (s.patch 1).pend then some 1
  else if (s.patch 0).ranLast then some 0 else if (s.patch 1).ranLast then some 1 else none

/-- The boot falls back from a slot whose content is not sound. -/
def State.patchFailed (s : State) : State := ({ s with pwr := { s.pwr with fallback := true } } : State).logErr 14 2 0x89

theorem choosePatch_none (h : s.wantedPatch = none) : s.choosePatch = s := by
  rw [State.wantedPatch] at h
  simp only [State.choosePatch, h]

section
variable {k : Nat} (h : s.wantedPatch = some k)
include h

theorem choosePatch_sound (hs : (s.patch k).sound = true) : s.choosePatch = s.runPatch k := by
  rw [State.wantedPatch] at h
  simp only [State.choosePatch, h, hs, if_true]

theorem choosePatch_other (hs : (s.patch k).sound = false) :
    s.choosePatch = if (s.patch (1 - k)).sound then s.patchFailed.runPatch (1 - k) else s.patchFailed := by
  rw [State.wantedPatch] at h
  simp only [State.choosePatch, h, hs, Bool.false_eq_true, if_false]
  rfl

end

theorem wantedPatch_eq {k : Nat} (h : (k = 0 ∧ (s.patch 0).pend = true) ∨ (k = 1 ∧ (s.patch 0).pend = false ∧ (s.patch 1).pend = true) ∨
    ((s.patch 0).pend = false ∧ (s.patch 1).pend = false ∧ ((k = 0 ∧ (s.patch 0).ranLast = true) ∨ (k = 1 ∧ (s.patch 0).ranLast = false ∧ (s.patch 1).ranLast = true)))) :
    s.wantedPatch = some k := by
  obtain ⟨rfl, hp⟩ | ⟨rfl, hp, hq⟩ | ⟨hp, hq, ⟨rfl, hr⟩ | ⟨rfl, hr, hl⟩⟩ := h
  · simp only [State.wantedPatch, hp, if_true]
  · simp only [State.wantedPatch, hp, hq, Bool.false_eq_true, if_false, if_true]
  · simp only [State.wantedPatch, hp, hq, hr, Bool.false_eq_true, if_false, if_true]
  · simp only [State.wantedPatch, hp, hq, hr, hl, Bool.false_eq_true, if_false, if_true]

theorem wantedPatch_none (hp : (s.patch 0).pend = false) (hq : (s.patch 1).pend = false) (hr : (s.patch 0).ranLast = false) (hl : (s.patch 1).ranLast = false) :
    s.wantedPatch = none := by simp only [State.wantedPatch, hp, hq, hr, hl, Bool.false_eq_true, if_false]

/-- The autostart failed. -/
def State.startFailed (s : State) : State := ({ s with pwr := { s.pwr with autostart := 3 } } : State).logErr 14 2 0x8A

theorem autostart_none (h : 2 ≤ s.store.selected) : s.autostart = s := if_pos h

section
variable (h : s.store.selected < 2)
include h

theorem autostart_empty (hi : s.store.images.get (fun _ => none) s.store.selected = none) : s.autostart = s.startFailed := by
  simp only [State.autostart, Nat.not_le_of_lt h, hi, if_false]
  rfl

section
variable {img : CfgImage} (hi : s.store.images.get (fun _ => none) s.store.selected = some img)
include hi

theorem autostart_intact (hok : img.intact = true) : s.autostart = s.applyImage img := by
  simp only [State.autostart, Nat.not_le_of_lt h, hi, hok, if_false, if_true]

theorem autostart_corrupt (hbad : img.intact = false) : s.autostart = s.startFailed := by
  simp only [State.autostart, Nat.not_le_of_lt h, hi, hbad, Bool.false_eq_true, if_false]
  rfl

end

end

end

/-! What the copy brings besides the counts leaves them alone. -/

theorem loadWear_life (s : State) (c : Option LifeCopy) : (s.loadWear c).life = s.life :=
  foldl_same (fun u : State => u.life) (fun (u : State) k => u.setWear k
    { Wear.reset with hours := copyWord c (136 + 3 * k), range := copyWord c (137 + 3 * k), shocks := copyWord c (138 + 3 * k) }) (fun _ _ => rfl) _ _

theorem keyExhausted_life (s : State) : s.keyExhausted.life = s.life := by simp only [State.keyExhausted, logErr_life', evt_life']

theorem modRf_life (s : State) (f : RfBlk → RfBlk) : (s.modRf f).life = s.life := rfl

theorem loadCounters_life (s : State) (c : Option LifeCopy) : (s.loadCounters c).life = s.life := by
  simp only [State.loadCounters]
  split
  · rw [keyExhausted_life, modRf_life]
  · rw [modRf_life]

theorem loadTrend_life (s : State) (c : Option LifeCopy) : (s.loadTrend c).life = s.life := rfl

theorem loadLife_life (s : State) :
    s.loadLife.life =
      let c := s.newestCopy
      let l := if s.life.kept then { s.life with seq := copyWord c 2, kept := false } else copyLife c
      ({ l with fresh := c.isNone, copyFail := c.isSome && (s.store.ring.takeWhile (fun x => !x.intact)).length ≠ 0 } : Life).booted s.pwr.cause := by
  simp only [State.loadLife]
  have hload : ∀ (u v : State) (c : Option LifeCopy) (b : Bool), u.life = v.life →
      ((((if b then u else v.loadWear c).loadTrend c).loadCounters c)).life = v.life := by
    intro u v c b huv
    rw [loadCounters_life, loadTrend_life]
    cases b
    · exact loadWear_life v c
    · exact huv
  split
  · rw [logErr_life', hload _ _ _ _ rfl]
  · rw [hload _ _ _ _ rfl]

/-! ### The brownout warning and its end (R48, R499, R500) -/

section
variable {s : State}

/-- The hub under a brownout warning, its channels suspended, its front end and its radio down, before it writes its record. -/
def State.browned (s : State) : State :=
  let s1 := ({ s with pwr := { s.pwr with brownHold := true, brownWait := false } } : State).suspendChans.wakeBy 8
  (({ s1 with afe := AfeBlk.reset } : State).powerAfe).rfFloor

/-- The hub's record is written, at once or as soon as it may be. -/
def State.brownWrite (off : State) : State :=
  if off.life.writing.isSome then off
  else if off.storeOff then ({ off with pwr := { off.pwr with brownWait := true } } : State).sinkNow
  else off.lifeStart 1

theorem brownWarn_up (hphase : s.pwr.phase = 2) (hno : s.pwr.brownHold = false) : s.brownWarn = s.browned.brownWrite := by
  have hgo : ¬ (decide (s.pwr.phase ≠ 2) || s.pwr.brownHold) = true := by
    rw [hphase, hno]
    decide
  unfold State.brownWarn
  rw [if_neg hgo]
  extract_lets power asleep off offPower
  have hoff : s.browned = off := rfl
  rw [hoff]
  clear_value off
  rfl

theorem brownWrite_eq (off : State) : off.brownWrite =
    if off.life.writing ≠ none then off
    else if off.isFenced 8 2 then ({ off with pwr := { off.pwr with brownWait := true } } : State).sinkNow
    else off.lifeStart 1 := if_congr Option.isSome_iff_ne_none rfl rfl

theorem brownWarn_none (h : s.pwr.phase ≠ 2 ∨ s.pwr.brownHold = true) : s.brownWarn = s :=
  if_pos (by rw [Bool.or_eq_true, decide_eq_true_eq]; exact h)

theorem exec_brownoutRecovery (hphase : s.pwr.phase = 2) (hwait : s.pwr.brownWait = true) : exec .brownoutRecovery s = .next (kept s s.brownResume) :=
  act_onlyIf (f := State.brownResume) (by rw [hphase, hwait]; rfl) rfl

theorem exec_brownoutRecovery_none (h : s.pwr.phase ≠ 2 ∨ s.pwr.brownWait = false) : exec .brownoutRecovery s = .next (kept s s) := by
  refine act_kept (f := onlyIf (s.pwr.phase = 2 && s.pwr.brownWait) State.brownResume) (if_neg ?_)
  obtain h | h := h
  · rw [decide_eq_false h, Bool.false_and]
    exact Bool.false_ne_true
  · rw [h, Bool.and_false]
    exact Bool.false_ne_true

theorem endHold_held {lost : Bool} (h : s.pwr.reserveHold = true ∨ s.pwr.brownHold = true) : s.endHold lost = s :=
  if_pos (by rw [State.onHold, Bool.or_eq_true]; exact h)

/-- The hub as a hold has ended, before its view is judged. -/
def State.holdEnded (s : State) : State :=
  let back := (s.runningChans.filter (fun c => (s.chan c).suspended)).foldl (fun u c => (u.modChan c (fun x => { x with suspended := false })).restartChan c false) s
  let late := (back.tideAll 2).launchesWake.timersWake
  let gaps := late.enabledStreams.foldl (fun u n => u.modStream n (fun x => { x with gaps := if x.gaps.contains 192 then x.gaps else x.gaps ++ [192] })) late
  let up := (gaps.afeWake.powerRf.rfWake).rfKick
  { up with pwr := { up.pwr with linksLost := false } }

theorem endHold_free {lost : Bool} (hres : s.pwr.reserveHold = false) (hbrown : s.pwr.brownHold = false) :
    s.endHold lost = if (lost = true ∨ s.pwr.linksLost = true) ∧ s.holdEnded.slt.state ≠ 0 then s.holdEnded.loseView else s.holdEnded := by
  have hhold : s.onHold = false := by rw [State.onHold, hres, hbrown]; rfl
  simp only [State.endHold, hhold, Bool.false_eq_true, if_false, Bool.and_eq_true, Bool.or_eq_true, decide_eq_true_eq]
  rfl

end

/-! ### The crystal tick (R339, R452, R496) -/

section
variable {s : State}

theorem lifeTick_within (h : s.life.ticks.getD s.pwr.floor 0 + 1 < 32768) :
    s.lifeTick = { s with life := { s.life with ticks := s.life.ticks.set s.pwr.floor (s.life.ticks.getD s.pwr.floor 0 + 1) } } := if_pos h

theorem lifeTick_second (h : 32768 ≤ s.life.ticks.getD s.pwr.floor 0 + 1) :
    s.lifeTick = { s with life := { s.life with ticks := s.life.ticks.set s.pwr.floor 0,
                                                secs := s.life.secs.set s.pwr.floor (s.life.secs.getD s.pwr.floor 0 + 1) } } := if_neg (Nat.not_lt.mpr h)

theorem wearTick_off (h : s.wearOn = false) : s.wearTick = s := by simp only [State.wearTick, h, Bool.not_false, if_true]

theorem wearTick_on (h : s.wearOn = true) :
    s.wearTick = s.runningChans.foldl (fun u c =>
      if bitAt (u.desc c 13) 30 then
        u.modWear c (fun x => if 32767 ≤ x.ticks then { x with ticks := 0, hours := min (2 ^ 32 - 1) (x.hours + 1) } else { x with ticks := x.ticks + 1 })
      else u) s := by simp only [State.wearTick, h, Bool.not_true, Bool.false_eq_true, if_false]

theorem afeTick_off (h : (s.dom 5).rail = 0) : s.afeTick = s := if_pos h

theorem afeTick_on (h : (s.dom 5).rail ≠ 0) :
    s.afeTick = (List.range 16).foldl (fun u i =>
      if bitAt (u.afeCfg i) 31 then u.tallyAdd ((u.preChan i).getD 192) 8 5 (if bitAt (u.afeCfg i) 30 then 3125000 else tickUnits) else u) s := if_neg h

theorem exec_crystalTick_counts (a b : Int) (h : s.pwr.phase ≠ 3) :
    exec (.crystalTick a b) s = .next (keptClock s (
      ((((({ s with tick := s.tick + 1, sub := 0 } : State).tbTick 1).tbTick 2).tbTick 3).lifeTick.wearTick.afeTick).senseTick a b)) := exec_crystalTick_up a b h

end

/-- Settles O43: the boot's steps with the choice of the patch and of the image, the warning and the end of a hold, and the parts of a tick. -/
theorem bootAndTickCommandsComplete : Obligations.BootAndTickCommandsComplete := by
  intro s
  refine ⟨fun charges banks hphase => ⟨exec_coldBoot charges banks hphase, coldBoot_phase s charges banks⟩, fun charges banks hphase => exec_coldBoot_running charges banks hphase,
    ⟨logCause_pd0, logCause_watchdog, logCause_other⟩, ?_, loadLife_life s, ?_, ?_, fun hphase hwait => ?_, exec_brownoutRecovery_none,
    fun lost => ⟨endHold_held, endHold_free⟩, fun a b hphase => ⟨exec_crystalTick_counts a b hphase, crystalTick_tick s a b⟩, ⟨lifeTick_within, lifeTick_second⟩,
    ⟨wearTick_off, wearTick_on⟩, ⟨afeTick_off, afeTick_on⟩, fun a b hphase => exec_crystalTick_shut a b hphase⟩
  · intro failed second
    exact ⟨fun k h => ⟨choosePatch_sound (wantedPatch_eq h), choosePatch_other (wantedPatch_eq h)⟩,
      fun hp hq hr hl => choosePatch_none (wantedPatch_none hp hq hr hl)⟩
  · intro failed
    exact ⟨autostart_none, fun hsel => ⟨autostart_empty hsel, fun img hi => ⟨autostart_intact hsel hi, autostart_corrupt hsel hi⟩⟩⟩
  · intro held marked idle asleep off
    have hoff : s.browned = off := rfl
    refine ⟨fun hphase hno => act_kept (f := State.brownWarn) ((brownWarn_up hphase hno).trans ?_), fun h => act_kept (f := State.brownWarn) (brownWarn_none h)⟩
    rw [hoff]
    exact brownWrite_eq off
  · have hresume : s.brownResume = ((({ s.wakeUp with pwr := { s.wakeUp.pwr with brownHold := false, brownWait := false } } : State).endHold true).settle) := by
      rw [State.brownResume, hwait]
    exact (exec_brownoutRecovery hphase hwait).trans (next_kept hresume)

end Sys2Proof.Machine
end

section
/-! The completions of the store's operations, and the pass of the configuration check. -/
namespace Sys2Proof.Machine

/-! ### The lifetime record (R497, R499) -/

section
variable {s : State}

theorem exec_lifetimeWrite (hphase : s.pwr.phase = 2) (hfl : s.pwr.floor = 0) (hf : s.isFenced 8 2 = false) (hw : s.life.writing = none)
    (hdue : s.life.lastAt / s.lifeInterval < s.tb0u / s.lifeInterval) : exec .lifetimeWrite s = .next (kept s (s.lifeStart 0)) := by
  refine act_kept (f := State.lifetimeWrite) ?_
  rw [State.lifetimeWrite, State.storeOff, hphase, hfl, hf, hw, decide_eq_false (Nat.not_le.mpr hdue)]
  rfl

/-- The store holds the copy that was being written. -/
def State.copyWritten (s : State) (c : LifeCopy) : State :=
  { s with life := { s.life with writing := none, seq := c.seq }, store := { s.store with ring := c :: s.store.ring } }

theorem exec_lifetimeWriteDone {c : LifeCopy} (h : s.life.writing = some c) :
    exec .lifetimeWriteDone s = .next (kept s (
      if !s.pwr.brownHold then s.copyWritten c
      else if s.resumeLevel < s.ldg.vbat then (s.copyWritten c).brownResume
      else ({ s.copyWritten c with pwr := { s.pwr with brownWait := true } } : State).sinkNow)) := by
  have hdone : s.lifeDone = s.copyWritten c := by
    simp only [State.lifeDone, h]
    rfl
  have hsome : ¬ s.life.writing.isNone = true := by
    rw [h]
    exact Bool.false_ne_true
  refine act_kept (f := State.lifetimeWriteDone) ?_
  unfold State.lifetimeWriteDone
  rw [if_neg hsome, hdone]
  rfl

/-! ### NVS_CFG_SAVE and FW_VERIFY (R485, R489, R494) -/

theorem saveDone_stored {k h tag : Nat} {img : CfgImage} {want : Bool} (hs : s.store.save = some (k, img, h, tag, want)) :
    s.saveDone = ((s.modStore (fun x => { x with save := none, images := x.images.set (fun _ => none) k (some img) })).countSectors (imageSectors k)).complete
      h 0x81 tag want 0 [w32 img.bytes] false := by
  simp only [State.saveDone, hs]
  rfl

section
variable {x : FwXfer} {h tag : Nat} {want : Bool} (hx : s.store.xfer = some x) (hv : x.verify = some (h, tag, want))
include hx hv

theorem verifyDone_refused (hr : s.verifyResult x ≠ 0) :
    s.verifyDone = (s.modStore (fun y => { y with xfer := some { x with verify := none } })).complete h 0x85 tag want
      (if s.verifyResult x = 4 || s.verifyResult x = 5 then 0x19 else 0x13) [w32 (s.verifyResult x)] false := by
  simp only [State.verifyDone, hx, hv, if_neg hr]
  rfl

theorem verifyDone_valid (hr : s.verifyResult x = 0) :
    s.verifyDone = ((s.setPatch x.slot { words := x.words, length := x.length, crc := x.crc, verified := true, pend := true, ranLast := (s.patch x.slot).ranLast }).modStore
      (fun y => { y with xfer := none })).complete h 0x85 tag want 0 [w32 0] false := by
  simp only [State.verifyDone, hx, hv, hr, if_true]
  rfl

end

/-- The content of a slot as R489 checks it in its order: what is wrong with the header. -/
def FwXfer.headerBad (x : FwXfer) : Bool :=
  x.words.getD 0 0 ≠ 0x54525A50#32 || (x.words.getD 2 0).toNat ≠ x.length || (((wordsBytes x.words).drop 14).take 50).any (fun b => b ≠ 0)

theorem headerBad_iff (x : FwXfer) : x.headerBad = true ↔
    x.words.getD 0 0 ≠ 0x54525A50#32 ∨ (x.words.getD 2 0).toNat ≠ x.length ∨ (((wordsBytes x.words).drop 14).take 50).any (fun b => b ≠ 0) = true := by
  rw [FwXfer.headerBad, Bool.or_eq_true, Bool.or_eq_true, decide_eq_true_eq, decide_eq_true_eq, or_assoc]

section
variable {x : FwXfer}

theorem verifyResult_short (h : 4 * x.words.length < x.length) : s.verifyResult x = 1 := by
  rw [State.verifyResult, firstStatus, if_pos (decide_eq_true h)]

variable (h1 : ¬ 4 * x.words.length < x.length)
include h1

theorem verifyResult_wrong (h : crc32c (wordsBytes x.words) ≠ x.crc) : s.verifyResult x = 2 := by
  simp only [State.verifyResult, firstStatus, h1, h, ne_eq, not_false_eq_true, decide_false, decide_true, Bool.false_eq_true, if_false, if_true]

variable (h2 : ¬ crc32c (wordsBytes x.words) ≠ x.crc)
include h2

/-- Past its length and its CRC, the result is that of the header, the versions and the signature. -/
theorem verifyResult_whole : s.verifyResult x =
    if x.headerBad then 3 else if bits (x.words.getD 1 0) 31 16 ≠ 3 then 4 else if bits (x.words.getD 1 0) 15 0 < s.store.minMinor then 5
    else if Config.signatureValid (wordsBytes x.words) = false then 6 else 0 := by
  simp only [State.verifyResult, firstStatus, h1, h2, decide_false, Bool.false_eq_true, if_false, decide_eq_true_eq, Bool.not_eq_true']
  rfl

end

end

section
variable {s : State} {x : FwXfer} {h tag r : Nat} {want : Bool} (hx : s.store.xfer = some x) (hv : x.verify = some (h, tag, want))
include hx hv

theorem exec_fwVerify_refused {st : Nat} (hr : s.verifyResult x = r) (h0 : r ≠ 0) (hst : (if r = 4 || r = 5 then 0x19 else 0x13) = st) :
    exec .fwVerifyCompletion s =
      .next (kept s ((s.modStore (fun y => { y with xfer := some { x with verify := none } })).complete h 0x85 tag want st [w32 r] false)) := by
  subst hr hst
  exact act_kept (f := State.verifyDone) (verifyDone_refused hx hv h0)

theorem exec_fwVerify_valid (hr : s.verifyResult x = 0) :
    exec .fwVerifyCompletion s = .next (kept s (((s.setPatch x.slot
      { words := x.words, length := x.length, crc := x.crc, verified := true, pend := true, ranLast := (s.patch x.slot).ranLast }).modStore
        (fun y => { y with xfer := none })).complete h 0x85 tag want 0 [w32 0] false)) :=
  act_kept (f := State.verifyDone) (verifyDone_valid hx hv hr)

end

/-- Settles O44: the record by the level of VBAT, the image in its slot, and FW_VERIFY by the first check that fails. -/
theorem storeCompletionsComplete : Obligations.StoreCompletionsComplete := by
  intro s
  refine ⟨exec_lifetimeWrite, ?_, fun k img h tag want hs => act_kept (f := State.saveDone) (saveDone_stored hs), ?_⟩
  · intro c hw u
    have hrun := exec_lifetimeWriteDone hw
    refine ⟨fun hno => hrun.trans (by rw [hno]; rfl), fun hb hup => hrun.trans (by rw [hb, if_pos hup]; rfl),
      fun hb hlow => hrun.trans (by rw [hb, if_neg (Nat.not_lt.mpr hlow)]; rfl)⟩
  · intro x h tag want hx hv l short wrong header done left
    refine ⟨fun h1 => exec_fwVerify_refused hx hv (verifyResult_short h1) (by decide) rfl,
      fun h1 h2 => exec_fwVerify_refused hx hv (verifyResult_wrong h1 h2) (by decide) rfl, ?_, ?_, ?_, ?_, ?_⟩
    · intro h1 h2 h3
      have hr := verifyResult_whole (s := s) h1 h2
      rw [if_pos ((headerBad_iff x).mpr h3)] at hr
      exact exec_fwVerify_refused hx hv hr (by decide) rfl
    all_goals
      intro h1 h2 h3
      have hr := verifyResult_whole (s := s) h1 h2
      rw [if_neg (fun hb => h3 ((headerBad_iff x).mp hb))] at hr
    · intro h4
      rw [if_pos h4] at hr
      exact exec_fwVerify_refused hx hv hr (by decide) rfl
    · intro h4 h5
      rw [if_neg (not_not_intro h4), if_pos h5] at hr
      exact exec_fwVerify_refused hx hv hr (by decide) rfl
    · intro h4 h5 h6
      rw [if_neg (not_not_intro h4), if_neg (Nat.not_lt.mpr h5), if_pos h6] at hr
      exact exec_fwVerify_refused hx hv hr (by decide) rfl
    · intro h4 h5 h6
      rw [if_neg (not_not_intro h4), if_neg (Nat.not_lt.mpr h5), if_neg (by rw [h6]; decide)] at hr
      exact exec_fwVerify_valid hx hv hr

/-! ### CHECK_PASS (R556 to R560) -/

section
variable {s : State} {u : Nat}

/-- The CRC that a pass gives a unit: an earlier result stands while its domain is off. -/
def State.unitCrc (s : State) (u : Nat) : Word :=
  if (s.unit u).last = none ∨ (s.dom (unitDomain u)).rail ≠ 0 then crc32c (wordsBytes (s.unitWords u)) else (s.unit u).last.getD 0

theorem checkUnit_take : s.checkUnit true u = s.setUnit u { s.unit u with ref := some (s.unitCrc u), last := some (s.unitCrc u), drift := false } := by
  unfold State.checkUnit
  extract_lets x crc s1
  have hcrc : crc = s.unitCrc u := by
    simp only [crc, x, State.unitCrc]
    cases (s.unit u).last <;> simp
  rw [if_pos rfl, hcrc]

/-- A unit without a reference. -/
theorem checkUnit_none (h : (s.unit u).ref = none) : s.checkUnit false u = s.setUnit u { s.unit u with last := some (s.unitCrc u) } := by
  unfold State.checkUnit
  extract_lets x crc s1
  have hcrc : crc = s.unitCrc u := by
    simp only [crc, x, State.unitCrc]
    cases (s.unit u).last <;> simp
  simp only [s1, x, h, hcrc, Bool.false_eq_true, if_false]

/-- A unit with a reference is compared with it, once, and not while a host's write waits for it. -/
theorem checkUnit_some {r : Word} (h : (s.unit u).ref = some r) :
    s.checkUnit false u =
      if r = s.unitCrc u || (s.unit u).dirty || (s.unit u).drift then s.setUnit u { s.unit u with last := some (s.unitCrc u) }
      else (s.setUnit u { s.unit u with last := some (s.unitCrc u) }).driftOf u := by
  unfold State.checkUnit
  extract_lets x crc s1
  have hcrc : crc = s.unitCrc u := by
    simp only [crc, x, State.unitCrc]
    cases (s.unit u).last <;> simp
  simp only [s1, x, h, hcrc, Bool.false_eq_true, if_false]

/-- A unit that has no reference, or of which there is nothing to report. -/
theorem checkUnit_quiet (h : (s.unit u).ref = some (s.unitCrc u) ∨ (s.unit u).ref = none ∨ (s.unit u).dirty = true ∨ (s.unit u).drift = true) :
    s.checkUnit false u = s.setUnit u { s.unit u with last := some (s.unitCrc u) } := by
  cases hr : (s.unit u).ref with
  | none => exact checkUnit_none hr
  | some r =>
    rw [hr] at h
    refine (checkUnit_some hr).trans (if_pos ?_)
    rw [Bool.or_eq_true, Bool.or_eq_true, decide_eq_true_eq, or_assoc]
    exact h.imp Option.some.inj (fun h => h.resolve_left (Option.some_ne_none r))

theorem checkUnit_drifts {r : Word} (hr : (s.unit u).ref = some r) (hne : r ≠ s.unitCrc u) (hclean : (s.unit u).dirty = false) (hold : (s.unit u).drift = false) :
    s.checkUnit false u = (s.setUnit u { s.unit u with last := some (s.unitCrc u) }).driftOf u :=
  (checkUnit_some hr).trans (if_neg (by rw [decide_eq_false hne, hclean, hold]; decide))

theorem unitCrc_powered (h : (s.dom (unitDomain u)).rail ≠ 0) : s.unitCrc u = crc32c (wordsBytes (s.unitWords u)) := if_pos (.inr h)

end

section
variable {s : State} (hphase : s.pwr.phase = 2) (hfl : s.pwr.floor = 0)
include hphase hfl

theorem exec_checkPass (h : bitAt (s.reg .chkCtl 0) 31 = true ∨ s.check.commit ≠ none) : exec .checkPass s = .next (kept s s.checkPass) := by
  refine act_onlyIf (f := State.checkPass) ?_ rfl
  rw [hphase, hfl, Bool.and_eq_true, Bool.or_eq_true, Option.isSome_iff_ne_none]
  exact ⟨rfl, h⟩

theorem exec_checkPass_off (hno : s.check.commit = none) (hrun : bitAt (s.reg .chkCtl 0) 31 = false) : exec .checkPass s = .next s := by
  refine act_id (f := onlyIf (s.pwr.phase = 2 && s.pwr.floor = 0 && (bitAt (s.reg .chkCtl 0) 31 || s.check.commit.isSome)) State.checkPass) (if_neg ?_)
  rw [hno, hrun, hphase, hfl]
  decide

end

section
variable {s : State}

/-- A pass that does not follow an autostart. -/
theorem checkPass_plain (h : (s.check.commit.isNone && s.check.units.all (fun p => p.2.ref.isNone)) = false) :
    s.checkPass = ((List.range 277).foldl (fun u k => u.checkUnit s.check.commit.isSome k) s).endPass false (crc32c (wordsBytes ((List.range 277).flatMap s.unitWords))) := by
  simp only [State.checkPass, h, Bool.false_and, Bool.false_or]

theorem checkPass_commit (h : s.check.commit ≠ none) :
    s.checkPass = ((List.range 277).foldl (fun u k => u.checkUnit true k) s).endPass false (crc32c (wordsBytes ((List.range 277).flatMap s.unitWords))) := by
  have hsome : s.check.commit.isSome = true := Option.isSome_iff_ne_none.mpr h
  have hnone : s.check.commit.isNone = false := Option.isNone_eq_false_iff.mpr hsome
  rw [checkPass_plain (by rw [hnone, Bool.false_and]), hsome]

theorem checkPass_compares (hno : s.check.commit = none) (href : ∃ p ∈ s.check.units, p.2.ref ≠ none) :
    s.checkPass = ((List.range 277).foldl (fun u k => u.checkUnit false k) s).endPass false (crc32c (wordsBytes ((List.range 277).flatMap s.unitWords))) := by
  obtain ⟨p, hp, hr⟩ := href
  have hall : s.check.units.all (fun p => p.2.ref.isNone) = false :=
    List.all_eq_false.mpr ⟨p, hp, by rw [Option.isNone_iff_eq_none]; exact hr⟩
  rw [checkPass_plain (by rw [hall, Bool.and_false]), hno]
  rfl

end

/-- Settles O45: which pass it is, and what it does with one unit. -/
theorem checkPassCompletes : Obligations.CheckPassCompletes := by
  intro s hphase hfl crc
  refine ⟨fun hc => (exec_checkPass hphase hfl (.inr hc)).trans (next_kept (checkPass_commit hc)),
    fun hno hrun href => (exec_checkPass hphase hfl (.inl hrun)).trans (next_kept (checkPass_compares hno href)), exec_checkPass_off hphase hfl, ?_⟩
  intro u x now
  refine ⟨checkUnit_take, fun hon h => ?_, fun hon r hr hne hclean hold => ?_⟩
  · have hnow : s.unitCrc u = now := unitCrc_powered hon
    rw [← hnow] at h ⊢
    exact checkUnit_quiet h
  · have hnow : s.unitCrc u = now := unitCrc_powered hon
    rw [← hnow] at hne ⊢
    exact checkUnit_drifts hr hne hclean hold

end Sys2Proof.Machine
end

section
/-! Frames of the saltern. -/
namespace Sys2Proof.Machine

/-! ### What an accepted header depends on (R399, R400) -/

section
variable {s t : State}

theorem syncDup_congr {l : Nat} {m : TimeMsg} (happ : t.applied = s.applied) (htime : t.time = s.time) : t.syncDup l m = s.syncDup l m := by
  have hpath : t.pathTb l = s.pathTb l := by simp only [State.pathTb, State.tbSource, State.afld, State.app, happ]
  simp only [State.syncDup, hpath, State.tb, htime]

theorem blocked_congr (hslt : t.slt = s.slt) (happ : t.applied = s.applied) : t.blocked = s.blocked := by
  simp only [State.blocked, State.isLeader, hslt, State.app, happ]

theorem linkRuns_congr {l : Nat} (hslt : t.slt = s.slt) (happ : t.applied = s.applied) (hf : t.fenced = s.fenced) (hp : t.pwr = s.pwr) :
    t.linkRuns l = s.linkRuns l := by
  simp only [State.linkRuns, State.app, happ, State.legLink, hslt, State.isFenced, hf, hp]

theorem forwards_congr {l : Nat} {f : LegFrame} (hslt : t.slt = s.slt) (happ : t.applied = s.applied) (htime : t.time = s.time) :
    t.forwards l f = s.forwards l f := by
  simp only [State.forwards, State.ownIndex, State.peer, hslt, blocked_congr hslt happ, syncDup_congr happ htime]
  rfl

end

/-! ### A copy whose forwarding has begun (R396, R400) -/

/-- The header of what has come is one that the hub begins to forward onto its other link. -/
def State.copyBegun (s : State) (l : Nat) (body : List Byte) : Bool :=
  legHeaderOk body && s.forwards l (LegFrame.ofBytes body) && s.linkRuns (1 - l)

/-- The copy ends with ABORT. -/
def State.copyAborted (s : State) (l : Nat) (body : List Byte) : State :=
  { s with slt := { s.slt with aborted := [(1 - l, { LegFrame.ofBytes body with hops := (LegFrame.ofBytes body).hops + 1 })] } }

/-- A SYNC is forwarded when its message is one that goes on; other frames are in any case. -/
def State.contentForwards (s : State) (l : Nat) (f : LegFrame) : Prop :=
  f.type ≠ 1 ∨ ∃ m, TimeMsg.parse f.payload = some m ∧ m.type = 1 ∧ m.hops ≠ 31 ∧ s.syncDup l m = false

section
variable {s : State} {l : Nat} {f : LegFrame} {body : List Byte}

theorem forwards_iff : s.forwards l f = true ↔
    ¬ (f.src = s.ownIndex ∧ s.slt.state ≠ 0) ∧ (s.peer f.src).lastSeq ≠ some f.seq ∧ f.hops ≠ 31 ∧ s.blocked = false ∧ s.contentForwards l f := by
  unfold State.forwards State.contentForwards
  cases TimeMsg.parse f.payload <;> simp [and_assoc, imp_iff_not_or]

theorem copyBegun_iff : s.copyBegun l body = true ↔
    legHeaderOk body = true ∧ ¬ ((LegFrame.ofBytes body).src = s.ownIndex ∧ s.slt.state ≠ 0) ∧
      (s.peer (LegFrame.ofBytes body).src).lastSeq ≠ some (LegFrame.ofBytes body).seq ∧ (LegFrame.ofBytes body).hops ≠ 31 ∧ s.blocked = false ∧
      s.linkRuns (1 - l) = true ∧ s.contentForwards l (LegFrame.ofBytes body) := by
  rw [State.copyBegun, Bool.and_eq_true, Bool.and_eq_true, forwards_iff]
  tauto

/-- What a counter and a log entry change is not what the header is judged by. -/
theorem abortCopy_eq {t : State} (hslt : t.slt = s.slt) (happ : t.applied = s.applied) (htime : t.time = s.time) (hf : t.fenced = s.fenced) (hp : t.pwr = s.pwr) :
    t.abortCopy l body = if s.copyBegun l body then t.copyAborted l body else t := by
  simp only [State.abortCopy, State.copyBegun, forwards_congr hslt happ htime, linkRuns_congr hslt happ hf hp]
  rfl

end

/-! ### LEGUS_FRAME (R393, R396 to R400) -/

theorem legDiscard_abortCopy (s : State) (l : Nat) (body : List Byte) :
    ((s.logEnd 6 l 0x31).legDiscard l).abortCopy l body =
      if s.copyBegun l body then ((s.logEnd 6 l 0x31).legDiscard l).copyAborted l body else (s.logEnd 6 l 0x31).legDiscard l := by
  refine abortCopy_eq ?_ ?_ ?_ ?_ ?_ <;> simp [State.legDiscard]

section
variable {s : State} {l : Nat} {line : List Byte} {abort : Bool} (hrun : s.linkRuns l = true)
include hrun

theorem legusFrame_crc (hcrc : legCrcOk line = false) :
    s.legusFrame l line abort =
      let u := (s.countFault .legLinkcnt l 31 24 1).logErr 6 l 0x31
      if s.copyBegun l (legBody line) then u.copyAborted l (legBody line) else u := by
  simp only [State.legusFrame, hrun, hcrc, Bool.not_true, Bool.not_false, Bool.false_eq_true, if_false, if_true]
  refine abortCopy_eq ?_ ?_ ?_ ?_ ?_ <;> simp

variable (hcrc : legCrcOk line = true)
include hcrc

theorem legusFrame_invalid (hp : LegFrame.parse (legBody line) = none) :
    s.legusFrame l line abort =
      if s.copyBegun l (legBody line) then ((s.logEnd 6 l 0x31).legDiscard l).copyAborted l (legBody line) else (s.logEnd 6 l 0x31).legDiscard l := by
  simp only [State.legusFrame, hrun, hcrc, hp, Bool.not_true, Bool.false_eq_true, if_false]
  exact legDiscard_abortCopy s l _

section
variable {g : LegFrame} (hp : LegFrame.parse (legBody line) = some g)
include hp

theorem legusFrame_aborted :
    s.legusFrame l line true =
      if s.copyBegun l (legBody line) then ((s.logEnd 6 l 0x31).legDiscard l).copyAborted l (legBody line) else (s.logEnd 6 l 0x31).legDiscard l := by
  simp only [State.legusFrame, hrun, hcrc, hp, Bool.not_true, Bool.false_eq_true, if_false, if_true]
  exact legDiscard_abortCopy s l _

theorem legusFrame_own (hown : g.src = s.ownIndex ∧ s.slt.state ≠ 0) :
    s.legusFrame l line false =
      let u := (s.logEnd 6 l 0x31).legDiscard l
      if s.clashFrame g then u.ownClash ((u.peer g.src).announced g.payload) else u := by
  obtain ⟨hidx, hrole⟩ := hown
  simp only [State.legusFrame, hrun, hcrc, hp, hidx, hrole, ne_eq, not_false_eq_true, decide_true, Bool.and_self, Bool.not_true, Bool.false_eq_true, if_false,
    if_true]

section
variable (hother : ¬ (g.src = s.ownIndex ∧ s.slt.state ≠ 0))
include hother

theorem legusFrame_other :
    s.legusFrame l line false = if (s.peer g.src).lastSeq = some g.seq then (s.logEnd 6 l 0x31).legDiscard l else (s.logEnd 6 l 0x31).acceptFrame l g := by
  have hno : (decide (g.src = s.ownIndex) && decide (s.slt.state ≠ 0)) = false := by
    rw [Bool.eq_false_iff, ne_eq, Bool.and_eq_true, decide_eq_true_eq, decide_eq_true_eq]
    exact hother
  simp only [State.legusFrame, hrun, hcrc, hp, hno, Bool.not_true, Bool.false_eq_true, if_false]

end

end

end

/-- The hub with a frame of another hub received. -/
def State.frameReceived (s : State) (l : Nat) (g : LegFrame) : State :=
  (s.modPeer g.src (fun p => { p with lastSeq := some g.seq })).modLegLink l
    (fun x => { x with received := (x.received + 1) % 2 ^ 32, nb := if g.hops = 0 then some g.src else x.nb })

section
variable {s : State} {l : Nat} {g : LegFrame}

theorem acceptFrame_sync (h : g.type = 1) : s.acceptFrame l g = (s.frameReceived l g).saltFrame l g := by
  simp only [State.acceptFrame, h, if_true]
  rfl

theorem acceptFrame_ends (ht : g.type ≠ 1) (h : g.hops = 31 ∨ (s.frameReceived l g).blocked = true) : s.acceptFrame l g = (s.frameReceived l g).saltFrame l g := by
  have hstay : (s.frameReceived l g).forward l g = s.frameReceived l g := if_pos (by rw [Bool.or_eq_true, decide_eq_true_eq]; exact h)
  rw [State.frameReceived] at hstay
  simp only [State.acceptFrame, State.frameReceived, ht, if_false, hstay]

theorem acceptFrame_goesOn (ht : g.type ≠ 1) (hh : g.hops ≠ 31) (hb : (s.frameReceived l g).blocked = false) :
    s.acceptFrame l g = ((s.frameReceived l g).putFrame (1 - l) { g with hops := g.hops + 1 }).saltFrame l g := by
  have hgo : (s.frameReceived l g).forward l g = (s.frameReceived l g).putFrame (1 - l) { g with hops := g.hops + 1 } :=
    if_neg (by rw [decide_eq_false hh, hb]; decide)
  rw [State.frameReceived] at hgo
  simp only [State.acceptFrame, State.frameReceived, ht, if_false, hgo]

end

theorem exec_legusFrame {s : State} {l f : Nat} {bytes crc : List Nat} {abort : Bool} (hl : l < 2) :
    exec (.legusFrame l f bytes crc abort) s = .next (kept s ((s.atF f).clearSent.legusFrame l ((bytes ++ crc).map (BitVec.ofNat 8)) abort)) :=
  act_onlyIf (f := fun u => (u.atF f).clearSent.legusFrame l ((bytes ++ crc).map (BitVec.ofNat 8)) abort) (decide_eq_true hl) rfl

theorem legCrcOk_iff (line : List Byte) :
    legCrcOk line = true ↔ 4 ≤ line.length ∧ crc32c (line.take (line.length - 4)) = bytesWord (line.drop (line.length - 4)) := by
  rw [legCrcOk, Bool.and_eq_true, decide_eq_true_eq, beq_iff_eq, legBody]

/-- Settles O46: by the CRC, the header, the end of the frame and its source; the copy by `copyBegun_iff`. -/
theorem legusFramesComplete : Obligations.LegusFramesComplete := by
  intro s l f bytes crc hl hlink u line body crcOk next rejected h begun copied crcFailed v
  have hrun : u.linkRuns l = true := hlink
  have hexec : ∀ ab, next ab = .next (kept s (u.legusFrame l line ab)) := fun ab => exec_legusFrame hl
  have hbegun : u.copyBegun l body = true ↔ begun := copyBegun_iff (s := u)
  have hok : legCrcOk line = true ↔ crcOk := legCrcOk_iff line
  refine ⟨fun hbad ab => ?_, fun hgood hp ab => ?_, fun g hgood hp => ?_⟩
  · have hframe := legusFrame_crc (abort := ab) hrun (Bool.eq_false_iff.mpr (fun hc => hbad (hok.mp hc)))
    exact ⟨fun hb => (hexec ab).trans (next_kept (hframe.trans (if_pos (hbegun.mpr hb)))),
      fun hb => (hexec ab).trans (next_kept (hframe.trans (if_neg (fun hc => hb (hbegun.mp hc)))))⟩
  · have hframe := legusFrame_invalid (abort := ab) hrun (hok.mpr hgood) hp
    exact ⟨fun hb => (hexec ab).trans (next_kept (hframe.trans (if_pos (hbegun.mpr hb)))),
      fun hb => (hexec ab).trans (next_kept (hframe.trans (if_neg (fun hc => hb (hbegun.mp hc)))))⟩
  · intro own w
    have haborted := legusFrame_aborted hrun (hok.mpr hgood) hp
    have hown := legusFrame_own (s := u) hrun (hok.mpr hgood) hp
    have hother := legusFrame_other (s := u) hrun (hok.mpr hgood) hp
    have hnew : ¬ own → (s.peer g.src).lastSeq ≠ some g.seq → u.legusFrame l line false = v.acceptFrame l g := fun hno hseq => (hother hno).trans (if_neg hseq)
    refine ⟨fun hb => (hexec true).trans (next_kept (haborted.trans (if_pos (hbegun.mpr hb)))),
      fun hb => (hexec true).trans (next_kept (haborted.trans (if_neg (fun hc => hb (hbegun.mp hc))))),
      fun ho hc => (hexec false).trans (next_kept ((hown ho).trans (if_neg (Bool.eq_false_iff.mp hc)))),
      fun ho hc => (hexec false).trans (next_kept ((hown ho).trans (if_pos hc))),
      fun hno hseq => (hexec false).trans (next_kept ((hother hno).trans (if_pos hseq))),
      fun hno hseq ht => (hexec false).trans (next_kept ((hnew hno hseq).trans (acceptFrame_sync ht))), fun hno hseq ht => ⟨fun hends => ?_, fun hh hb => ?_⟩⟩
    · exact (hexec false).trans (next_kept ((hnew hno hseq).trans (acceptFrame_ends ht hends)))
    · exact (hexec false).trans (next_kept ((hnew hno hseq).trans (acceptFrame_goesOn ht hh hb)))

end Sys2Proof.Machine
end

section
/-! The saltern's messages, its timeouts and its links. -/
namespace Sys2Proof.Machine

/-! ### ANNOUNCE, VIEW and SAMPLES (R393, R405, R407, R410) -/

section
variable {s : State} {p src view : Nat} {words : List Word} (hsrc : src < 32) (hp : s.pathRuns p = true)
include hsrc hp

theorem path_guard : (decide (src < 32) && s.pathRuns p) = true := by rw [decide_eq_true hsrc, hp]; rfl

theorem exec_announce : exec (.announce p (src, view) words) s = .next (kept s (
    if p < 2 then (s.clearSent.hearEpoch view).recvAnnounce src (some view) words else s.clearSent.recvAnnounce src none words)) :=
  act_onlyIf (f := fun u => if p < 2 then (u.clearSent.hearEpoch view).recvAnnounce src (some view) words else u.clearSent.recvAnnounce src none words)
    (path_guard hsrc hp) rfl

theorem exec_view : exec (.view p src words) s = .next (kept s (s.clearSent.recvView src words)) :=
  act_onlyIf (f := fun u => u.clearSent.recvView src words) (path_guard hsrc hp) rfl

theorem exec_samples : exec (.samples p src words) s = .next (kept s ((s.clearSent.recvSamples p words).relaySamples p src words)) :=
  act_onlyIf (f := fun u => (u.clearSent.recvSamples p words).relaySamples p src words) (path_guard hsrc hp) rfl

end

/-- The hub that has heard a VIEW: its epoch, and whether its index is still another's. -/
def State.viewHeard (s : State) (words : List Word) : State :=
  { s with slt := { s.slt with highest := max s.slt.highest (bits (words.getD 0 0) 15 0), clash := s.slt.clash && bitAt (words.getD 1 0) s.ownIndex } }

/-- A VIEW lists the hub where no other holds its index. -/
def State.viewLists (s : State) (words : List Word) : Bool := bitAt (words.getD 1 0) s.ownIndex && !s.slt.clash

theorem viewLists_heard (s : State) (words : List Word) :
    (bitAt (words.getD 1 0) s.ownIndex && !(s.slt.clash && bitAt (words.getD 1 0) s.ownIndex)) = s.viewLists words := by
  rw [State.viewLists]
  cases bitAt (words.getD 1 0) s.ownIndex <;> cases s.slt.clash <;> rfl

/-- The rank of the LEADER that sends a VIEW is above the hub's. -/
def State.viewOutranks (s : State) (words : List Word) : Bool :=
  (s.viewHeard words).outranked (bits (words.getD 5 0) 7 0) ((words.getD 6 0).toNat + 2 ^ 32 * (words.getD 7 0).toNat)

section
variable {s : State} {src : Nat} {words : List Word}

theorem recvView_solo (h : s.slt.state = 0) : s.recvView src words = s := by simp only [State.recvView, h]

theorem recvView_listen (h : s.slt.state = 1) :
    s.recvView src words =
      if s.viewLists words && !bitAt (words.getD 3 0) s.ownIndex then (((s.viewHeard words).sltEnter 3).takeView src words true).rejoinView words
      else (((s.viewHeard words).takeView src words false).rejoinView words).announce (((s.viewHeard words).takeView src words false).rejoinView words).annReq := by
  rw [← viewLists_heard]
  unfold State.recvView
  extract_lets w uid
  rw [h]
  rfl

theorem recvView_elect (h : s.slt.state = 2) :
    s.recvView src words = if s.viewOutranks words then (s.viewHeard words).sltEnter 1 else s.viewHeard words := by
  unfold State.recvView
  extract_lets w uid
  rw [h]
  rfl

theorem recvView_member (h : s.slt.state = 3) :
    s.recvView src words =
      if s.viewLists words then
        let same := ((s.viewHeard words).takeView src words true).rejoinView words
        if same.slt.state = 3 && same.slt.stale && same.slt.role.autoRejoin then same.announce 3 else same
      else ((s.viewHeard words).takeView src words false).loseView.rejoinView words := by
  rw [← viewLists_heard]
  unfold State.recvView
  extract_lets w uid
  rw [h]
  rfl

theorem recvView_leader (h : s.slt.state = 4) :
    s.recvView src words = if s.viewOutranks words then (s.viewHeard words).loseView else s.viewHeard words := by
  unfold State.recvView
  extract_lets w uid
  rw [h]
  rfl

end

/-! ### The timeouts (R405, R406) -/

section
variable {s : State} (hfl : s.pwr.floor = 0) (hf : s.isFenced 8 10 = false)
include hfl hf

theorem exec_viewTimeout : exec .viewTimeout s = .next (kept s s.clearSent.viewTimeout) :=
  act_onlyIf (f := fun u => u.clearSent.viewTimeout) (by rw [hfl, hf]; rfl) rfl

theorem exec_memberTimeout {i : Nat} (hi : i < 32) : exec (.memberTimeout i) s = .next (kept s (s.clearSent.memberLost i)) :=
  act_onlyIf (f := fun u => u.clearSent.memberLost i) (by rw [hfl, hf, decide_eq_true hi]; rfl) rfl

theorem exec_announceInterval {f : Nat} : exec (.announceInterval f) s = .next (kept s (s.atF f).clearSent.annInterval) :=
  act_onlyIf (f := fun u => (u.atF f).clearSent.annInterval) (by rw [hfl, hf]; rfl) rfl

end

section
variable {s : State}

theorem viewTimeout_candidate (h : s.slt.state = 1) (hrole : s.slt.role.role = 2) : s.viewTimeout = s.sltEnter 2 := by
  simp only [State.viewTimeout, h, hrole, if_true]

theorem viewTimeout_listens (h : s.slt.state = 1) (hrole : s.slt.role.role ≠ 2) : s.viewTimeout = s := by
  simp only [State.viewTimeout, h, hrole, if_false]

theorem viewTimeout_elect (h : s.slt.state = 2) : s.viewTimeout = s.becomeLeader := by simp only [State.viewTimeout, h]

theorem viewTimeout_member (h : s.slt.state = 3) : s.viewTimeout = s.loseView := by simp only [State.viewTimeout, h]

section
variable {i : Nat} (hlead : s.isLeader = true) (hi : i ≠ s.ownIndex)
include hlead hi

theorem memberLost_member (hm : bitAt s.slt.members i = true) :
    s.memberLost i = ((s.modPeer i (fun x => { x with wasMember := true, heard := false })).putSets i false false false false).viewChanged s := by
  simp only [State.memberLost, hlead, hi, hm, ne_eq, not_false_eq_true, decide_true, Bool.and_self, if_true]

theorem memberLost_other (hm : bitAt s.slt.members i = false) : s.memberLost i = s.modPeer i (fun x => { x with heard := false }) := by
  simp only [State.memberLost, hlead, hi, hm, ne_eq, not_false_eq_true, decide_true, Bool.and_self, Bool.false_eq_true, if_false, if_true]

end

/-! ### ANNOUNCE_INTERVAL (R398, R403, R408) -/

/-- A new interval: no hub admitted in it yet, and the block of a ring lifted while one is broken. -/
def State.newInterval (s : State) (lifted : Bool) : State := { s with slt := { s.slt with admitted := [], lifted := lifted } }

/-- The LEADER's own bits in its sets, by its own CFG and its own time. -/
def State.ownJudged (v : State) : State :=
  if v.isLeader && (v.cfgWrong v.ownIndex (v.reg .cfgRef 0) || v.slt.outlier ≠ bitAt v.slt.outliers v.ownIndex) then
    (v.putSets v.ownIndex true (bitAt v.slt.divergent v.ownIndex || v.cfgWrong v.ownIndex (v.reg .cfgRef 0)) (bitAt v.slt.staleSet v.ownIndex) v.slt.outlier).viewChanged v
  else v

/-- What an interval sends. -/
def State.intervalSent (z : State) : State :=
  if z.slt.state = 0 then z
  else
    let y := z.announce z.annReq
    if z.isLeader then y.saltSend 3 y.viewWords else y

theorem annInterval_solo (h : s.slt.state = 0) : s.annInterval = s := if_pos h

theorem annInterval_eq (h : s.slt.state ≠ 0) : s.annInterval = (s.newInterval (s.isLeader && s.ringBroken)).ownJudged.intervalSent := if_neg h

theorem annInterval_member (h : s.slt.state ≠ 0) (hlead : s.isLeader = false) :
    s.annInterval = (s.newInterval false).announce (s.newInterval false).annReq := by
  have hlead' : (s.newInterval false).isLeader = false := hlead
  have h' : (s.newInterval false).slt.state ≠ 0 := h
  have hjudged : (s.newInterval false).ownJudged = s.newInterval false :=
    if_neg (by rw [hlead', Bool.false_and]; exact Bool.false_ne_true)
  rw [annInterval_eq h, hlead, Bool.false_and, hjudged, State.intervalSent, if_neg h', hlead', if_neg Bool.false_ne_true]

theorem annInterval_leader (hlead : s.isLeader = true) : s.annInterval = (s.newInterval s.ringBroken).ownJudged.intervalSent := by
  have h : s.slt.state ≠ 0 := by
    rw [State.isLeader, decide_eq_true_eq] at hlead
    omega
  rw [annInterval_eq h, hlead, Bool.true_and]

theorem ownJudged_leader (hlead : s.isLeader = true) :
    s.ownJudged =
      if s.cfgWrong s.ownIndex (s.reg .cfgRef 0) || s.slt.outlier ≠ bitAt s.slt.outliers s.ownIndex then
        (s.putSets s.ownIndex true (bitAt s.slt.divergent s.ownIndex || s.cfgWrong s.ownIndex (s.reg .cfgRef 0)) (bitAt s.slt.staleSet s.ownIndex) s.slt.outlier).viewChanged s
      else s := by rw [State.ownJudged, hlead, Bool.true_and]

end

/-! ### Batches, remote channels, rejoins and links (R395, R412, R415, R416, R419) -/

section
variable {s : State}

theorem exec_samplesBatch (hfl : s.pwr.floor = 0) : exec .samplesBatch s = .next (kept s s.clearSent.sendBatch) :=
  act_onlyIf (f := fun u => u.clearSent.sendBatch) (decide_eq_true hfl) rfl

theorem sendBatch_none (h : s.slt.batch = []) : s.sendBatch = s := if_pos (by rw [h]; rfl)

theorem sendBatch_some (h : s.slt.batch ≠ []) : s.sendBatch = ({ s with slt := { s.slt with batch := [] } } : State).saltSend 4 s.slt.batch.flatten :=
  if_neg (by rw [List.isEmpty_iff]; exact h)

theorem exec_remotePeriodEnd {c : Nat} (hfl : s.pwr.floor = 0) (hc : c < 192) (hacq : s.acquiring c = true) (hkind : (s.ad c).kind = 21) :
    exec (.remotePeriodEnd c) s = .next (kept s (s.remotePeriod c)) :=
  act_onlyIf (f := fun u => u.remotePeriod c) (by rw [decide_eq_true hc, hfl, hacq, hkind]; rfl) rfl

theorem remotePeriod_eq (c : Nat) :
    s.remotePeriod c =
      let r := s.remote c
      let n := if r.accepted then 0 else r.failed + 1
      let u := s.setRemote c { r with failed := n, accepted := false, sourceOk := s.standing (s.remoteHub c) }
      if 4 ≤ n then u.failAcq c (u.stampNow c) none else u := by
  have hn : (if (s.remote c).accepted then 0 else if !(s.remote c).accepted || !(s.remote c).sourceOk then (s.remote c).failed + 1 else 0) =
      if (s.remote c).accepted then 0 else (s.remote c).failed + 1 := by
    cases (s.remote c).accepted <;> rfl
  simp only [State.remotePeriod, hn]

theorem exec_sltRejoinCompletion : exec .sltRejoinCompletion s = .next (kept s (s.rejoinDone 3)) := act_kept (f := fun u => u.rejoinDone 3) rfl

theorem exec_linkUp {l : Nat} (hl : l < 2) (hen : bitAt (s.app .legCfg 0) (31 - l) = true) (hf : s.isFenced 8 10 = false) (hfl : s.pwr.floor = 0)
    (hdown : (s.legLink l).up = false) : exec (.linkUp l) s = .next (kept s (s.linkChange l true)) :=
  act_onlyIf (f := fun u => u.linkChange l true) (by rw [decide_eq_true hl, hen, hf, hfl, hdown]; rfl) rfl

theorem exec_linkDown {l : Nat} (hl : l < 2) : exec (.linkDown l) s = .next (kept s (s.linkDown l)) :=
  act_onlyIf (f := fun u => u.linkDown l) (decide_eq_true hl) rfl

end

/-- Settles O47: each message by the hub's state, the timeouts, the interval by who leads, then batches, remote channels, rejoins and links. -/
theorem salternCommandsComplete : Obligations.SalternCommandsComplete := by
  intro s
  refine ⟨?_, ?_, ?_, exec_sltRejoinCompletion, ?_⟩
  · intro p src view words hsrc hp u i w rank uid listed v left same
    have hview := exec_view (words := words) hsrc hp
    have hann := exec_announce (view := view) (words := words) hsrc hp
    refine ⟨fun hlink => hann.trans (next_kept (if_pos hlink)), fun hradio => hann.trans (next_kept (if_neg (by omega))), exec_samples hsrc hp,
      fun h => hview.trans (next_kept (recvView_solo (s := u) h)), fun h hlist hstale => ?_, fun h hnot => ?_, fun h => hview.trans (next_kept (recvView_elect (s := u) h)),
      fun h hlist => hview.trans (next_kept ((recvView_member (s := u) h).trans (if_pos hlist))),
      fun h hlist => hview.trans (next_kept ((recvView_member (s := u) h).trans (if_neg (Bool.eq_false_iff.mp hlist)))),
      fun h => hview.trans (next_kept (recvView_leader (s := u) h))⟩
    · have hjoin : (u.viewLists words && !bitAt (words.getD 3 0) u.ownIndex) = true := Bool.and_eq_true_iff.mpr ⟨hlist, (Bool.not_eq_true' _).mpr hstale⟩
      exact hview.trans (next_kept ((recvView_listen (s := u) h).trans (if_pos hjoin)))
    · have hstay : (u.viewLists words && !bitAt (words.getD 3 0) u.ownIndex) = false :=
        Bool.and_eq_false_iff.mpr (hnot.imp id (fun hstale => (Bool.not_eq_false' _).mpr hstale))
      exact hview.trans (next_kept ((recvView_listen (s := u) h).trans (if_neg (Bool.eq_false_iff.mp hstay))))
  · intro hfl hf u
    have hview := exec_viewTimeout hfl hf
    refine ⟨fun h hrole => hview.trans (next_kept (viewTimeout_candidate (s := u) h hrole)), fun h hrole => hview.trans (next_kept (viewTimeout_listens (s := u) h hrole)),
      fun h => hview.trans (next_kept (viewTimeout_elect (s := u) h)), fun h => hview.trans (next_kept (viewTimeout_member (s := u) h)), ?_, ?_⟩
    · exact fun i hi hlead hother => ⟨fun hm => (exec_memberTimeout hfl hf hi).trans (next_kept (memberLost_member (s := u) hlead hother hm)),
        fun hm => (exec_memberTimeout hfl hf hi).trans (next_kept (memberLost_other (s := u) hlead hother hm))⟩
    · intro f t
      have hrun := exec_announceInterval (f := f) hfl hf
      refine ⟨fun h => hrun.trans (next_kept (annInterval_solo (s := t) h)), fun h hlead => hrun.trans (next_kept (annInterval_member (s := t) h hlead)), fun hlead => ?_⟩
      intro v i wrong z y
      have hz : v.ownJudged = z := ownJudged_leader (s := v) hlead
      have hsent : t.annInterval = z.intervalSent := by
        rw [← hz]
        exact annInterval_leader (s := t) hlead
      exact ⟨fun h => hrun.trans (next_kept (hsent.trans (if_pos h))), fun h => hrun.trans (next_kept (hsent.trans (if_neg h)))⟩
  · intro hfl
    refine ⟨fun h => (exec_samplesBatch hfl).trans (next_kept (sendBatch_none (s := s.clearSent) h)),
      fun h => (exec_samplesBatch hfl).trans (next_kept (sendBatch_some (s := s.clearSent) h)), ?_⟩
    intro c hc hacq hkind r n u
    have hrun := (exec_remotePeriodEnd hfl hc hacq hkind).trans (next_kept (remotePeriod_eq c))
    exact ⟨fun h => hrun.trans (next_kept (if_neg (Nat.not_le.mpr h))), fun h => hrun.trans (next_kept (if_pos h))⟩
  · intro l hl
    refine ⟨fun hen hf hfl hdown => exec_linkUp hl hen hf hfl hdown, fun hup => (exec_linkDown hl).trans (next_kept (if_pos hup)),
      fun hdown => (exec_linkDown hl).trans (next_kept (if_neg (Bool.eq_false_iff.mp hdown)))⟩

end Sys2Proof.Machine
end

section
/-! The transmit side of the radio. -/
namespace Sys2Proof.Machine

/-! ### XO_START and SYNTH_LOCK (R430, R433, R435 to R437) -/

section
variable {s : State} (hup : s.rfStopped = false)
include hup

theorem exec_xoStart (hst : s.rf.state = 1) : exec .xoStart s = .next (kept s s.xoStable) :=
  act_onlyIf (f := State.xoStable) (by rw [hup, hst]; rfl) rfl

theorem exec_synthLock (hst : s.rf.state = 3) (hlock : s.rf.locked = false) : exec .synthLock s = .next (kept s s.synthLock) :=
  act_onlyIf (f := State.synthLock) (by rw [hup, hst, hlock]; rfl) rfl

end

section
variable {s : State}

theorem xoStable_idle (h : s.rf.launch = none) : s.xoStable = (s.modRf (fun r => { r with xo := true })).rfIdle :=
  if_neg (by rw [h]; exact Bool.false_ne_true)

theorem xoStable_launched (h : s.rf.launch ≠ none) :
    s.xoStable = (s.modRf (fun r => { r with xo := true })).modRf (fun r => { r with state := if r.calDue ≠ 0 then 4 else 3, locked := false }) :=
  if_pos (Option.isSome_iff_ne_none.mpr h)

/-- The radio with its synthesiser locked. -/
def State.synthLocked (s : State) : State := s.modRf (fun r => { r with locked := true, calValid := r.calValid ||| 4 })

theorem synthLock_launched (h : s.rf.launch ≠ none) : s.synthLock = s.synthLocked := if_pos (Option.isSome_iff_ne_none.mpr h)

section
variable (h : s.rf.launch = none)
include h

theorem synthLock_inHand {tx : RfTx} (ht : s.rf.tx = some tx) : s.synthLock = s.synthLocked.lockedFor tx := by
  simp only [State.synthLock, h, ht, Option.isSome_none, Bool.false_eq_true, if_false]
  rfl

section
variable (ht : s.rf.tx = none)
include ht

theorem synthLock_waiting {tx : RfTx} {t : List RfTx} (hn : s.nextWaiting = some (tx, t)) :
    s.synthLock = (s.synthLocked.modRf (fun r => { r with tx := some tx, wait := t })).lockedFor tx := by
  simp only [State.synthLock, h, ht, hn, Option.isSome_none, Bool.false_eq_true, if_false]
  rfl

theorem synthLock_free (hn : s.nextWaiting = none) :
    s.synthLock = if s.rfReceives then s.synthLocked.modRf (fun r => { r with state := 5 }) else s.synthLocked.rfIdle := by
  simp only [State.synthLock, h, ht, hn, Option.isSome_none, Bool.false_eq_true, if_false]
  rfl

end

end

theorem nextWaiting_first {tx : RfTx} {t : List RfTx} (hw : s.rf.wait = tx :: t) (hm : s.mustWait tx = false) : s.nextWaiting = some (tx, t) := by
  simp only [State.nextWaiting, hw, hm, Bool.false_eq_true, if_false]

theorem nextWaiting_none (h : ∀ tx t, s.rf.wait = tx :: t → s.mustWait tx = true) : s.nextWaiting = none := by
  cases hw : s.rf.wait with
  | nil => simp only [State.nextWaiting, hw]
  | cons tx t => simp only [State.nextWaiting, hw, h tx t hw, if_true]

end

/-! ### TX_DONE (R423, R430) -/

theorem edgePush_applied (s : State) (l : Nat) : (s.edgePush l).1.applied = s.applied := by
  simp only [State.edgePush, State.latchPush]
  split
  · simp only [countFault_applied', evt_applied']
  · rfl

theorem radioStamp_applied (s : State) (content : List Byte) (u : Nat) : (s.radioStamp content u).1.applied = s.applied := by
  have hpush := edgePush_applied s 79
  unfold State.radioStamp
  split
  · rfl
  · dsimp only
    split
    · split <;> exact hpush
    · split
      · split <;> exact hpush
      · exact hpush
    · exact hpush

/-- The stamps of a time message leave the radio's mode. -/
theorem sentTime_rfMode (s : State) (tx : RfTx) : (if tx.kind = 1 then s.sentTime tx else (s, tx.content)).1.rfMode = s.rfMode := by
  split
  · simp only [State.sentTime, State.rfMode, State.afld, State.app, radioStamp_applied]
    rfl
  · rfl

theorem exec_txDone {s : State} {tx : RfTx} (hup : s.rfStopped = false) (ht : s.rf.tx = some tx) (hst : s.rf.state = 6) (hack : s.rf.ackWait = false) :
    exec .txDone s = .next (kept s (s.txDone tx)) := by
  change execTxDone s = _
  unfold execTxDone
  refine act_kept ?_
  simp only [ht, hup, hst, hack, ne_eq, not_true_eq_false, decide_false, Bool.or_self, Bool.false_eq_true, if_false]

/-! ### ACK_WAIT_EXPIRY, the CCA and TX_WAIT (R424, R430, R435, R436) -/

section
variable {s : State} {tx : RfTx}

theorem exec_ackWaitExpiry (hup : s.rfStopped = false) (ht : s.rf.tx = some tx) (hack : s.rf.ackWait = true) :
    exec .ackWaitExpiry s = .next (kept s (s.ackExpiry tx)) := by
  change execAckWaitExpiry s = _
  unfold execAckWaitExpiry
  refine act_kept ?_
  simp only [ht, hup, hack, Bool.not_true, Bool.or_self, Bool.false_eq_true, if_false]

theorem again_iff : (!tx.launched && decide (tx.tries ≤ s.afld .rfMac 0 26 24)) = true ↔ tx.launched = false ∧ tx.tries ≤ s.afld .rfMac 0 26 24 := by
  rw [Bool.and_eq_true, Bool.not_eq_true', decide_eq_true_eq]

section
variable (h : tx.launched = false ∧ tx.tries ≤ s.afld .rfMac 0 26 24)
include h

theorem ackExpiry_again (hb : s.rfBarred tx = false) : s.ackExpiry tx = s.modRf (fun r => { r with ackWait := false }) := by
  simp only [State.ackExpiry, again_iff.mpr h, hb, Bool.not_false, Bool.and_self, if_true]

theorem ackExpiry_barred (hb : s.rfBarred tx = true) :
    s.ackExpiry tx = ((if tx.auth && s.keyUsedUp tx.key then s.keyExhausted else s).evt .rfEvt 0 4).rfFinish tx 2 := by
  simp only [State.ackExpiry, again_iff.mpr h, hb, Bool.not_true, Bool.and_false, Bool.true_and, Bool.false_eq_true, if_false]

end

theorem ackExpiry_ends (h : ¬ (tx.launched = false ∧ tx.tries ≤ s.afld .rfMac 0 26 24)) : s.ackExpiry tx = (s.evt .rfEvt 0 4).rfFinish tx 2 := by
  have hno : (!tx.launched && decide (tx.tries ≤ s.afld .rfMac 0 26 24)) = false := Bool.eq_false_iff.mpr (fun hc => h (again_iff.mp hc))
  simp only [State.ackExpiry, hno, Bool.false_and, Bool.false_eq_true, if_false]

theorem ccaBusy_ends (hup : s.rfStopped = false) (ht : s.rf.tx = some tx) (hst : s.rf.state = 6) (htries : tx.tries = 0) (hl : tx.launched = false)
    (hcca : bitAt (s.app .rfMac 0) 31 = true) : s.ccaBusy = (s.evt .rfEvt 0 3).rfFinish tx 3 := by
  simp only [State.ccaBusy, ht, hup, hst, htries, hl, hcca, ne_eq, not_true_eq_false, decide_false, Bool.not_true, Bool.or_self, Bool.false_eq_true, if_false]

theorem exec_rfTxCompletion_cca : exec (.rfTxCompletion 3) s = .next (kept s s.ccaBusy.rfComplete) :=
  act_kept (f := fun u => (if 3 = 3 then u.ccaBusy else u).rfComplete) (by rw [if_pos rfl])

theorem exec_rfTxCompletion {r : Nat} (hr : r ≠ 3) : exec (.rfTxCompletion r) s = .next (kept s s.rfComplete) :=
  act_kept (f := fun u => (if r = 3 then u.ccaBusy else u).rfComplete) (by rw [if_neg hr])

theorem rfComplete_first {result tries h tag st : Nat} {want : Bool} {t : List (Nat × Nat × Nat × Nat × Bool)}
    (he : s.rf.ended = (result, tries, h, tag, want) :: t) (hst : (if result ≤ 1 then stOk else if result = 4 then stLate else stBusy) = st) :
    s.rfComplete = (s.modRf (fun x => { x with ended := t })).complete h 0x71 tag want st [w32 (result * 2 ^ 24 + min 15 tries * 2 ^ 20)] false := by
  simp only [State.rfComplete, he, hst]

theorem exec_txWait {t : List RfTx} (hup : s.rfStopped = false) (hw : s.rf.wait = tx :: t) :
    exec .txWait s = .next (kept s ((((s.modRf (fun r => { r with wait := t })).rfEnd tx 4).evt .rfEvt 0 2).rfBoundary.rfKick)) := by
  refine act_onlyIf (f := State.txWait) (by rw [hup]; rfl) ?_
  simp only [State.txWait, hw]

end

/-! ### LAUNCHED_TX_SYNTH and LATE_TX (R436, R437) -/

section
variable {s u : State} {n : Nat} {b : Bool} (hn : n < 128) (hst : (s.launch n).state = 2) (hact : (s.launch n).action = 6) (hpd : s.pd11Stopped = false)
  (hup : s.rfStopped = false) (hrf : s.rf.state ≠ 0) (hl : s.rf.launch = none) (hbuf : s.bufReady (s.launch n).arg = true) (htb : s.tbSet (s.launch n).tb = true)
  (hto : s.toTb (s.launch n).tb (((s.launch n).instant (s.launch n).k - 62000) * 2 ^ 32) = some u)
include hn hst hact hpd hup hrf hl hbuf htb hto

theorem exec_launchedTxSynth : exec (.launchedTxSynth n b) s = .next (kept s (u.launchSynth (s.launch n).arg b)) := by
  refine act_onlyIf (f := fun u => u.launchedTxSynth n b) (decide_eq_true hn) ?_
  simp only [State.launchedTxSynth, hst, hact, hpd, hup, hrf, hl, hbuf, htb, hto, ne_eq, not_true_eq_false, decide_false, Option.isSome_none, Bool.not_true,
    Bool.or_self, Bool.false_eq_true, if_false]

end

/-- Waiting for a timebase's instant leaves the radio. -/
theorem toTb_rf {s u : State} {k : Nat} {target : Int} (h : s.toTb k target = some u) : u.rf = s.rf := by
  unfold State.toTb at h
  dsimp only at h
  split at h
  · cases h
    rfl
  · split at h
    · cases h
      rfl
    · cases h

theorem launchSynth_eq (u : State) (b : Nat) (receiving : Bool) :
    u.launchSynth b receiving =
      let v := u.modRf (fun r => { r with launch := some (u.bufFrame b none true), tx := none, ackWait := false, wait := r.tx.toList ++ r.wait, locked := false,
                                          state := if r.state = 1 ∨ r.state = 4 then r.state else if r.state = 2 ∧ u.xoRuns = false then 1
                                                  else if r.state = 2 ∧ r.calDue ≠ 0 then 4 else 3 })
      if receiving && u.rf.state = 5 then v.evt .rfEvt 0 8 else v := by
  simp only [State.launchSynth, State.modRf, Bool.or_eq_true, Bool.and_eq_true, decide_eq_true_eq, Bool.not_eq_true']
  cases u.rf.tx <;> rfl

theorem exec_lateTx {s : State} {tx : RfTx} (hup : s.rfStopped = false) (hl : s.rf.launch = some tx) (hlock : s.rf.locked = false) (htries : tx.tries = 0) :
    exec .lateTx s = .next (kept s (s.modRf (fun r => { r with launch := some { tx with tries := 1 }, state := if r.state = 3 then 2 else r.state })).lateTx) := by
  change execLateTx s = _
  unfold execLateTx
  refine act_kept ?_
  simp only [hl, hup, hlock, htries, ne_eq, not_true_eq_false, decide_false, Bool.or_self, Bool.false_eq_true, if_false]

/-- Settles O48: the crystal and the lock by what is in hand, a sent frame by its acknowledgement, the waiting, the launched and the completed transmits. -/
theorem radioTransmitCommandsComplete : Obligations.RadioTransmitCommandsComplete := by
  intro s hup
  refine ⟨?_, ?_, ?_, fun tx t hw => exec_txWait hup hw, ?_, fun tx hl hlock htries => exec_lateTx hup hl hlock htries, ?_⟩
  · intro hst u
    have hrun := exec_xoStart hup hst
    exact ⟨fun hl => hrun.trans (next_kept (xoStable_idle hl)), fun hl => hrun.trans (next_kept (xoStable_launched hl))⟩
  · intro hst hlock u sent
    have hrun := exec_synthLock hup hst hlock
    refine ⟨fun hl => hrun.trans (next_kept (synthLock_launched hl)), fun tx hl ht => hrun.trans (next_kept (synthLock_inHand hl ht)),
      fun tx t hl ht hw hm => hrun.trans (next_kept (synthLock_waiting hl ht (nextWaiting_first hw hm))), fun hl ht hwait => ?_⟩
    have hfree := hrun.trans (next_kept (synthLock_free hl ht (nextWaiting_none hwait)))
    exact ⟨fun hr => hfree.trans (next_kept (if_pos hr)), fun hr => hfree.trans (next_kept (if_neg (Bool.eq_false_iff.mp hr)))⟩
  · intro tx ht
    refine ⟨fun hst hack => ⟨(Config.freeValue s.free).toNat % 122072, Nat.mod_lt _ (by decide), ?_⟩, fun hack => ⟨fun h hb => ?_, fun h hb => ?_, fun h => ?_⟩,
      fun hst htries hl hcca => exec_rfTxCompletion_cca.trans (next_kept (by rw [ccaBusy_ends hup ht hst htries hl hcca]))⟩
    · intro at' stamped v tx0 seq ctr tx1 sent air u w
      have hmode : v.rfMode = s.rfMode := sentTime_rfMode s tx
      have hdone : s.txDone tx = if tx.ackReq && v.rfMode = 1 && tx.dst ≠ 0xFFFF then w.modRf (fun r => { r with tx := some tx1, ackWait := true })
        else w.rfFinish tx1 0 := rfl
      have hrun := (exec_txDone hup ht hst hack).trans (next_kept hdone)
      refine ⟨fun hreq hoq hdst => hrun.trans (next_kept (if_pos ?_)), fun hno => hrun.trans (next_kept (if_neg ?_))⟩
      · rw [hmode, hreq, hoq, decide_eq_true hdst]
        rfl
      · rw [hmode, Bool.and_eq_true, Bool.and_eq_true, decide_eq_true_eq, decide_eq_true_eq]
        rintro ⟨⟨hreq, hoq⟩, hdst⟩
        obtain h | h | h := hno
        · exact Bool.false_ne_true (h.symm.trans hreq)
        · exact h hoq
        · exact hdst h
    · exact (exec_ackWaitExpiry hup ht hack).trans (next_kept (ackExpiry_again h hb))
    · exact (exec_ackWaitExpiry hup ht hack).trans (next_kept (ackExpiry_barred h hb))
    · exact (exec_ackWaitExpiry hup ht hack).trans (next_kept (ackExpiry_ends h))
  · intro n b u hn hst hact hpd hrf hl hbuf htb hto v
    have hrun := (exec_launchedTxSynth (b := b) hn hst hact hpd hup hrf hl hbuf htb hto).trans (next_kept (launchSynth_eq u (s.launch n).arg b))
    have hsame : u.rf = s.rf := toTb_rf hto
    refine ⟨fun hb h5 => hrun.trans (next_kept (if_pos ?_)), fun hno => hrun.trans (next_kept (if_neg ?_))⟩
    · rw [hsame, hb, decide_eq_true h5]
      rfl
    · rw [hsame, Bool.and_eq_true, decide_eq_true_eq]
      rintro ⟨hb, h5⟩
      obtain h | h := hno
      · exact Bool.false_ne_true (h.symm.trans hb)
      · exact h h5
  · intro r result tries h tag want t hr he u word
    have hrun := exec_rfTxCompletion (s := s) hr
    refine ⟨fun hres => hrun.trans (next_kept (rfComplete_first he (if_pos hres))), fun hres => hrun.trans (next_kept (rfComplete_first he ?_)),
      fun hres => hrun.trans (next_kept (rfComplete_first he ?_))⟩
    · rw [hres]
      rfl
    · obtain hres | hres := hres <;> rw [hres] <;> rfl

end Sys2Proof.Machine
end

section
/-! The receive side of the radio, and its calibrations. -/
namespace Sys2Proof.Machine

/-! ### RADIO_FRAME (R423, R425, R426, R433, R437) -/

section
variable {s : State} {rssi lqi : Nat}

theorem exec_radioFrame {f : Nat} {bytes crc : List Nat} (hup : s.rfStopped = false) (hmode : s.rfMode ≠ 0) :
    exec (.radioFrame f bytes crc rssi lqi) s =
      .next (kept s ((s.atF f).clearSent.radioFrame ((bytes ++ crc).map (BitVec.ofNat 8)) rssi lqi)) :=
  act_onlyIf (f := fun u => (u.atF f).clearSent.radioFrame ((bytes ++ crc).map (BitVec.ofNat 8)) rssi lqi)
    (by rw [hup, decide_eq_true hmode]; rfl) rfl

/-- The radio takes a frame now. -/
def State.rfTakes (s : State) : Prop := s.rf.state = 5 ∨ (s.rf.state = 3 ∧ s.rf.tx ≠ none) ∨ s.rf.ackWait = true

theorem rfTakes_iff : (decide (s.rf.state = 5) || (decide (s.rf.state = 3) && s.rf.tx.isSome) || s.rf.ackWait) = true ↔ s.rfTakes := by
  rw [State.rfTakes, Bool.or_eq_true, Bool.or_eq_true, Bool.and_eq_true, decide_eq_true_eq, decide_eq_true_eq, Option.isSome_iff_ne_none, or_assoc]

theorem radioFrame_ignored {l : List Byte} (h : ¬ s.rfTakes) : s.radioFrame l rssi lqi = s :=
  if_pos (by rw [Bool.not_eq_true', ← Bool.not_eq_true]; exact fun hc => h (rfTakes_iff.mp hc))

section
variable {l : List Byte} (h : s.rfTakes)
include h

theorem radioFrame_oqpsk (hm : s.rfMode = 1) : s.radioFrame l rssi lqi = s.oqpskFrame (l.take (l.length - 2)) (s.rfCrcOk l) rssi lqi := by
  simp only [State.radioFrame, rfTakes_iff.mpr h, hm, Bool.not_true, Bool.false_eq_true, if_false, if_true]

theorem radioFrame_la (hm : s.rfMode ≠ 1) : s.radioFrame l rssi lqi = s.laFrame (l.take (l.length - 2)) (s.rfCrcOk l) rssi lqi := by
  simp only [State.radioFrame, rfTakes_iff.mpr h, hm, Bool.not_true, Bool.false_eq_true, if_false]

end

theorem rfCrcOk_iff (l : List Byte) : s.rfCrcOk l = true ↔
    2 ≤ l.length ∧ l.drop (l.length - 2) = crcBytes (if s.rfMode = 1 then fcs16 (l.take (l.length - 2)) else crc16 (l.take (l.length - 2))) := by
  rw [State.rfCrcOk, Bool.and_eq_true, decide_eq_true_eq, beq_iff_eq]

theorem oqpskFrame_bad (b : List Byte) : s.oqpskFrame b false rssi lqi = s := rfl

section
variable {b : List Byte}

theorem oqpskFrame_invalid (h : macUnsupported b = true ∨ 125 < b.length) : s.oqpskFrame b true rssi lqi = s.rfDiscard := by
  have hbad : (macUnsupported b || decide (125 < b.length)) = true := by
    rw [Bool.or_eq_true, decide_eq_true_eq]
    exact h
  simp only [State.oqpskFrame, hbad, Bool.not_true, Bool.false_eq_true, if_false, if_true]

variable (hv : ¬ (macUnsupported b = true ∨ 125 < b.length))
include hv

theorem mac_guard : (macUnsupported b || decide (125 < b.length)) = false := by
  rw [Bool.eq_false_iff, ne_eq, Bool.or_eq_true, decide_eq_true_eq]
  exact hv

/-- An Imm-Ack ends the frame in hand that waits for it, by its sequence number. -/
theorem oqpskFrame_ack (ht : byteAt b 0 % 8 = 2) {tx : RfTx} (htx : s.rf.tx = some tx) :
    s.oqpskFrame b true rssi lqi = if s.rf.ackWait && byteAt b 2 = tx.seq then s.rfFinish tx 1 else s := by
  simp only [State.oqpskFrame, mac_guard hv, ht, htx, Bool.not_true, Bool.false_eq_true, if_false, if_true]

theorem oqpskFrame_acked (ht : byteAt b 0 % 8 = 2) {tx : RfTx} (htx : s.rf.tx = some tx) (hw : s.rf.ackWait = true) (hseq : byteAt b 2 = tx.seq) :
    s.oqpskFrame b true rssi lqi = s.rfFinish tx 1 :=
  (oqpskFrame_ack hv ht htx).trans (if_pos (by rw [hw, decide_eq_true hseq]; rfl))

theorem oqpskFrame_ackNone (ht : byteAt b 0 % 8 = 2) (htx : s.rf.tx = none) : s.oqpskFrame b true rssi lqi = s := by
  simp only [State.oqpskFrame, mac_guard hv, ht, htx, Bool.not_true, Bool.false_eq_true, if_false, if_true]

theorem oqpskFrame_ackOther (ht : byteAt b 0 % 8 = 2) (h : s.rf.tx = none ∨ s.rf.ackWait = false ∨ s.rf.tx.map (·.seq) ≠ some (byteAt b 2)) :
    s.oqpskFrame b true rssi lqi = s := by
  cases htx : s.rf.tx with
  | none => exact oqpskFrame_ackNone hv ht htx
  | some tx =>
    refine (oqpskFrame_ack hv ht htx).trans (if_neg ?_)
    rw [Bool.and_eq_true, decide_eq_true_eq]
    rintro ⟨hw, hseq⟩
    rw [htx, hw, hseq] at h
    simp at h

/-- The data frame is for this hub, by its PAN and its destination. -/
def State.macOurs (s : State) (b : List Byte) : Prop :=
  byteAt b 3 + 256 * byteAt b 4 = s.afld .rfAddr 0 31 16 ∧ (byteAt b 5 + 256 * byteAt b 6 = 0xFFFF ∨ byteAt b 5 + 256 * byteAt b 6 = s.afld .rfAddr 0 15 0)

omit hv in
theorem macOurs_iff : (decide (byteAt b 3 + 256 * byteAt b 4 ≠ s.afld .rfAddr 0 31 16) ||
    (decide (byteAt b 5 + 256 * byteAt b 6 ≠ 0xFFFF) && decide (byteAt b 5 + 256 * byteAt b 6 ≠ s.afld .rfAddr 0 15 0))) = false ↔ s.macOurs b := by
  rw [State.macOurs, Bool.or_eq_false_iff, Bool.and_eq_false_iff, decide_eq_false_iff_not, decide_eq_false_iff_not, decide_eq_false_iff_not,
    not_not, not_not, not_not]

section
variable (ht : byteAt b 0 % 8 ≠ 2)
include ht

theorem oqpskFrame_waits (hw : s.rf.ackWait = true) : s.oqpskFrame b true rssi lqi = s := by
  simp only [State.oqpskFrame, mac_guard hv, ht, hw, Bool.not_true, Bool.false_eq_true, if_false, if_true]

theorem oqpskFrame_elsewhere (h : ¬ s.macOurs b) : s.oqpskFrame b true rssi lqi = s := by
  have hno := Bool.eq_true_of_not_eq_false (fun hc => h (macOurs_iff.mp hc))
  simp only [State.oqpskFrame, mac_guard hv, ht, hno, Bool.not_true, Bool.false_eq_true, if_false, if_true, ite_self]

theorem oqpskFrame_ours (hw : s.rf.ackWait = false) (h : s.macOurs b) :
    s.oqpskFrame b true rssi lqi =
      s.rfBody ⟨byteAt b 7 + 256 * byteAt b 8, (byteAt b 7 + 256 * byteAt b 8) % 32, byteAt b 2,
        byteAt b 0 / 32 % 2 = 1 && byteAt b 5 + 256 * byteAt b 6 ≠ 0xFFFF, b.take 9, b.drop 9⟩ rssi lqi := by
  simp only [State.oqpskFrame, mac_guard hv, ht, hw, macOurs_iff.mpr h, Bool.not_true, Bool.false_eq_true, if_false]

end

end

/-- An LA-2M frame is for this hub: its CRC, its LEN and its destination. -/
def State.laOurs (s : State) (b : List Byte) (ok : Bool) : Prop :=
  ok = true ∧ 5 ≤ byteAt b 0 ∧ byteAt b 0 ≤ 127 ∧ b.length = byteAt b 0 + 1 ∧ (byteAt b 1 = 0xFF ∨ byteAt b 1 = s.rfOwn)

theorem laGuard_iff {b : List Byte} {ok : Bool} : (!ok || decide (byteAt b 0 < 5) || decide (127 < byteAt b 0) || decide (b.length ≠ byteAt b 0 + 1) ||
    (decide (byteAt b 1 ≠ 0xFF) && decide (byteAt b 1 ≠ s.rfOwn))) = true ↔ ¬ s.laOurs b ok := by
  cases ok
  · exact iff_of_true rfl (fun h => Bool.noConfusion h.1)
  · simp only [State.laOurs, Bool.not_true, Bool.false_or, Bool.or_eq_true, Bool.and_eq_true, decide_eq_true_eq, true_and]
    omega

section
variable {b : List Byte} {ok : Bool}

theorem laFrame_ours (h : s.laOurs b ok) :
    s.laFrame b ok rssi lqi = s.rfBody ⟨byteAt b 2, byteAt b 2, byteAt b 3, false, b.take 4, b.drop 4⟩ rssi lqi :=
  if_neg (fun hc => laGuard_iff.mp hc h)

theorem laFrame_other (h : ¬ s.laOurs b ok) : s.laFrame b ok rssi lqi = s.rfDiscard :=
  if_pos (laGuard_iff.mpr h)

end

end

/-! ### A received body (R427 to R432) -/

section
variable {s : State} {g : RxFrame} {rssi lqi : Nat}

/-- The two bytes before a body's content are of the format and of a kind that there is. -/
def RxFrame.valid (g : RxFrame) : Prop :=
  2 ≤ g.body.length ∧ byteAt g.body 0 / 16 = 3 ∧ 1 ≤ byteAt g.body 0 % 16 ∧ byteAt g.body 0 % 16 ≤ 5 ∧ byteAt g.body 1 / 4 % 32 = 0

/-- The content of a body takes effect. -/
def State.rfTook (v : State) (g : RxFrame) (rssi lqi : Nat) (content : List Byte) : State :=
  ((v.modRf (fun r => { r with rssi := rssi % 256, lqi := min 255 lqi, ackOwed := if g.ack then some g.seq else r.ackOwed })).logEnd 5 0 0x34).rfContent
    g (byteAt g.body 0 % 16) content

theorem invalid_iff : (decide (g.body.length < 2) || decide (byteAt g.body 0 / 16 ≠ 3) || decide (byteAt g.body 0 % 16 = 0) || decide (5 < byteAt g.body 0 % 16) ||
    decide (byteAt g.body 1 / 4 % 32 ≠ 0)) = true ↔ ¬ g.valid := by
  simp only [RxFrame.valid, Bool.or_eq_true, decide_eq_true_eq]
  omega

theorem rfBody_invalid (h : ¬ g.valid) : s.rfBody g rssi lqi = s.rfDiscard :=
  if_pos (invalid_iff.mpr h)

section
variable (h : g.valid)
include h

theorem rfBody_barred (hb : byteAt g.body 1 < 128) (hm : bitAt (s.app .rfMac 0) 29 = true) : s.rfBody g rssi lqi = s.authFail := by
  simp only [byteAt] at hb
  refine (if_neg (fun hc => invalid_iff.mp hc h)).trans ?_
  simp only [decide_eq_false (Nat.not_le.mpr hb), hm, Bool.not_false, Bool.and_true, Bool.false_eq_true, if_false, if_true]

theorem rfBody_plain (hb : byteAt g.body 1 < 128) (hm : bitAt (s.app .rfMac 0) 29 = false) :
    s.rfBody g rssi lqi = if !contentFits (byteAt g.body 0 % 16) (g.body.drop 2) then s.rfDiscard else s.rfTook g rssi lqi (g.body.drop 2) := by
  simp only [byteAt] at hb
  refine (if_neg (fun hc => invalid_iff.mp hc h)).trans ?_
  simp only [ State.rfTook, byteAt, decide_eq_false (Nat.not_le.mpr hb), hm, Bool.and_false, Bool.false_eq_true, if_false]
  rfl

theorem rfBody_unopened (hb : 128 ≤ byteAt g.body 1) (ho : s.openBody g = none) : s.rfBody g rssi lqi = s.authFail := by
  simp only [byteAt] at hb
  refine (if_neg (fun hc => invalid_iff.mp hc h)).trans ?_
  simp only [decide_eq_true hb, ho, Bool.not_true, Bool.false_and, Bool.false_eq_true, if_false, if_true]

theorem rfBody_opened (hb : 128 ≤ byteAt g.body 1) {content : List Byte} (ho : s.openBody g = some content) {v : State}
    (hn : v = s.noteCtr g.src (byteAt g.body 1 % 4) (leNat ((g.body.drop 2).take 4))) :
    s.rfBody g rssi lqi = if !contentFits (byteAt g.body 0 % 16) content then v.rfDiscard else v.rfTook g rssi lqi content := by
  subst hn
  simp only [byteAt] at hb
  refine (if_neg (fun hc => invalid_iff.mp hc h)).trans ?_
  simp only [ State.rfTook, byteAt, decide_eq_true hb, ho, Bool.not_true, Bool.false_and, Bool.false_eq_true, if_false, if_true]
  rfl

end

end

/-! ### IMM_ACK and RX_WINDOW (R424, R425, R435) -/

section
variable {s : State}

theorem exec_immAck {q : Nat} (hup : s.rfStopped = false) (hq : s.rf.ackOwed = some q) :
    exec .immAck s = .next (kept s (s.modRf (fun r => { r with ackOwed := none, lastSent := s.onAir [0x02#8, 0x10#8, BitVec.ofNat 8 q] }))) := by
  change execImmAck s = _
  unfold execImmAck
  refine act_kept ?_
  simp only [hup, hq, Bool.false_eq_true, if_false]

theorem exec_immAck_idle (h : s.rf.ackOwed = none ∨ s.rfStopped = true) : exec .immAck s = .next (kept s s) := by
  change execImmAck s = _
  unfold execImmAck
  refine act_kept ?_
  cases hq : s.rf.ackOwed with
  | none => rfl
  | some q =>
    rw [hq] at h
    obtain h | hup := h
    · cases h
    · exact if_pos hup

theorem exec_rxWindow {b : Bool} (hup : s.rfStopped = false) (hl : s.rf.listen = 0) :
    exec (.rxWindow b) s = .next (kept s (s.modRf (fun r => { r with window := b })).endReceive) :=
  act_onlyIf (f := fun u => u.rxWindow b) (by rw [hup, hl]; rfl) rfl

/-- Receiving, or on the way to it. -/
def State.rfReceiving (s : State) : Prop := s.rf.state = 5 ∨ (s.rf.state = 3 ∧ s.rf.tx = none ∧ s.rf.launch = none)

theorem endReceive_idle (hr : s.rfReceives = false) (h : s.rfReceiving) : s.endReceive = s.rfIdle :=
  (endReceive_eq s).trans (if_pos ⟨hr, h⟩)

theorem endReceive_kick (h : s.rfReceives = true ∨ ¬ s.rfReceiving) : s.endReceive = s.rfKick := by
  refine (endReceive_eq s).trans (if_neg ?_)
  rintro ⟨hr, hrec⟩
  rw [hr] at h
  exact h.elim Bool.false_ne_true (fun hno => hno hrec)

/-! ### What the radio takes up next, with no transmit in hand or waiting (R437) -/

theorem rfKick_busy (h : s.rf.launch ≠ none ∨ s.rf.tx ≠ none) : s.rfKick = s :=
  if_pos (by rw [Bool.or_eq_true, Bool.or_eq_true, Option.isSome_iff_ne_none, Option.isSome_iff_ne_none, or_assoc]; exact .inr h)

section
variable (hup : s.rfStopped = false) (hl : s.rf.launch = none) (ht : s.rf.tx = none)
include hup hl ht

theorem kick_free : ¬ ((s.rfStopped || s.rf.launch.isSome || s.rf.tx.isSome) = true) := by
  rw [hup, hl, ht]
  exact Bool.false_ne_true

variable (hw : s.rf.wait = [])
include hw

omit hup hl ht in
theorem nextWaiting_nil : s.nextWaiting = none :=
  nextWaiting_none (fun tx t h => by rw [hw] at h; cases h)

theorem rfKick_elsewhere (h2 : s.rf.state ≠ 2) : s.rfKick = s := by
  refine (if_neg (kick_free hup hl ht)).trans ((if_neg h2).trans ?_)
  rw [nextWaiting_nil hw]
  exact ite_id s

section
variable (h2 : s.rf.state = 2)
include h2

theorem rfKick_rests (hr : s.rfReceives = false) (hc : s.rfCalLeft = 0) : s.rfKick = s :=
  (if_neg (kick_free hup hl ht)).trans ((if_pos h2).trans (if_pos (by rw [hw, hr, hc]; rfl)))

variable (hr : s.rfReceives = true)
include hr

omit hup hl ht hw h2 in
theorem kick_asked : ¬ ((!(!s.rf.wait.isEmpty || s.rfReceives) && decide (s.rfCalLeft = 0)) = true) := by
  rw [hr, Bool.or_true, Bool.not_true, Bool.false_and]
  exact Bool.false_ne_true

omit hw in
theorem rfKick_starts (hx : s.xoRuns = false) : s.rfKick = s.modRf (fun r => { r with state := 1 }) :=
  (if_neg (kick_free hup hl ht)).trans ((if_pos h2).trans ((if_neg (kick_asked hr)).trans (if_pos (by rw [hx]; rfl))))

variable (hx : s.xoRuns = true)
include hx

omit hw in
theorem rfKick_calibrates (hd : s.rf.calDue ≠ 0) : s.rfKick = s.modRf (fun r => { r with state := 4, locked := false }) :=
  (if_neg (kick_free hup hl ht)).trans ((if_pos h2).trans ((if_neg (kick_asked hr)).trans ((if_neg (by rw [hx]; exact Bool.false_ne_true)).trans
    (if_pos (by rw [hr, decide_eq_true hd, Bool.or_true]; rfl)))))

theorem rfKick_receives (hd : s.rf.calDue = 0) (hc : s.rfCalLeft = 0) : s.rfKick = s.modRf (fun r => { r with state := 3, locked := false }) := by
  refine (if_neg (kick_free hup hl ht)).trans ((if_pos h2).trans ((if_neg (kick_asked hr)).trans ((if_neg (by rw [hx]; exact Bool.false_ne_true)).trans
    ((if_neg ?_).trans ?_))))
  · rw [hd, hc]
    simp
  · rw [nextWaiting_nil hw]
    exact if_pos hr

end

end

end

/-! ### Calibrations (R434, R439) -/

section
variable {s : State} {k v : Nat} {ok : Bool}

theorem exec_calibrationBegins (hup : s.rfStopped = false) (hk : k < 4) : exec (.radioCalibration k none v) s = .next (kept s (s.calStart k)) :=
  act_onlyIf (f := fun u => u.calStart k) (by rw [hup, decide_eq_true hk]; rfl) rfl

theorem exec_calibrationEnds (hup : s.rfStopped = false) (hk : k < 4) :
    exec (.radioCalibration k (some ok) v) s = .next (kept s (if s.calRuns k then s.calEnded k ok v else s)) :=
  act_onlyIf (f := fun u => if u.calRuns k then u.calEnded k ok v else u) (by rw [hup, decide_eq_true hk]; rfl) rfl

/-- A calibration of this kind may begin now. -/
def State.calMayBegin (s : State) (k : Nat) : Prop :=
  k < 2 ∧ s.rf.launch = none ∧ (s.rf.state = 2 ∨ (s.rf.state = 4 ∧ s.rf.calTemp ≠ 0)) ∧ s.launchWithin (calTime (2 ^ k) + 62) = false

theorem calMayBegin_iff : (decide (2 ≤ k) || s.rf.launch.isSome || !(decide (s.rf.state = 2) || (decide (s.rf.state = 4) && decide (s.rf.calTemp ≠ 0))) ||
    s.launchWithin (calTime (2 ^ k) + 62)) = false ↔ s.calMayBegin k := by
  rw [State.calMayBegin, Bool.or_eq_false_iff, Bool.or_eq_false_iff, Bool.or_eq_false_iff, decide_eq_false_iff_not, Nat.not_le, Option.isSome_eq_false_iff,
    Option.isNone_iff_eq_none, Bool.not_eq_false', Bool.or_eq_true, Bool.and_eq_true, decide_eq_true_eq, decide_eq_true_eq, decide_eq_true_eq, and_assoc, and_assoc]

theorem calStart_begins (h : s.calMayBegin k) :
    s.calStart k = s.modRf (fun r => { r with state := 4, locked := false, calTemp := r.calTemp ||| 2 ^ k }) :=
  if_neg (Bool.eq_false_iff.mp (calMayBegin_iff.mpr h))

theorem calStart_waits (h : ¬ s.calMayBegin k) : s.calStart k = s :=
  if_pos (Bool.eq_true_of_not_eq_false (fun hc => h (calMayBegin_iff.mp hc)))

theorem calRuns_iff : s.calRuns k = true ↔
    (s.rf.state = 4 ∧ (s.rf.calDue ||| s.rf.calTemp ||| s.rfCalLeft) &&& 2 ^ k ≠ 0) ∨ (k = 3 ∧ s.rf.state = 5) := by
  rw [State.calRuns, Bool.or_eq_true, Bool.and_eq_true, Bool.and_eq_true, beq_iff_eq, beq_iff_eq, beq_iff_eq, decide_eq_true_eq]

/-- Where the result of a calibration goes in RF_CAL's masks of those that passed and those that failed. -/
def State.calResult (s : State) (k : Nat) (ok : Bool) (p f : Nat) : Nat × Nat :=
  if s.rfCalLeft &&& 2 ^ k = 0 then (p, f) else if ok then (p ||| 2 ^ k, f) else (p, f ||| 2 ^ k)

/-- The radio's record after a calibration. -/
def State.calKept (s : State) (k : Nat) (ok : Bool) : State :=
  s.modRf (fun r => { r with
    calDue := r.calDue &&& (2 ^ k ^^^ 15), calTemp := r.calTemp &&& (2 ^ k ^^^ 15), calValid := if ok then r.calValid ||| 2 ^ k else r.calValid,
    cal := r.cal.map (fun c => (c.1, c.2.1, c.2.2.1, c.2.2.2.1, s.calResult k ok c.2.2.2.2.1 c.2.2.2.2.2)) })

/-- The event and the log entry of a calibration's end, and the trim that the crystal calibration found. -/
def State.calNoted (s : State) (k : Nat) (ok : Bool) (v : Nat) : State :=
  let t := if ok then s.calLogEnd k else (s.evt .rfEvt 0 6).logRun 5 0 0x35 k
  if ok && k = 2 then (t.setReg .rfCfg 0 (setBits (t.reg .rfCfg 0) 7 0 v)).setApp .rfCfg 0 (setBits (t.app .rfCfg 0) 7 0 v) else t

/-- Where the radio goes after a calibration. -/
def State.calNext (u : State) : State :=
  if u.rf.state ≠ 4 || u.rf.calDue ≠ 0 || u.rf.calTemp ≠ 0 then u
  else if u.rf.launch.isSome then u.modRf (fun r => { r with state := 3, locked := false })
  else if u.rfCalLeft = 0 then u.rfIdle
  else u

theorem calEnded_eq : s.calEnded k ok v = ((s.calKept k ok).calNoted k ok v).calNext := by
  have hcal : s.rf.cal.map (fun (h, t, w, mask, p, f) =>
        if s.rfCalLeft &&& 2 ^ k = 0 then (h, t, w, mask, p, f) else if ok then (h, t, w, mask, p ||| 2 ^ k, f) else (h, t, w, mask, p, f ||| 2 ^ k)) =
      s.rf.cal.map (fun c => (c.1, c.2.1, c.2.2.1, c.2.2.2.1, s.calResult k ok c.2.2.2.2.1 c.2.2.2.2.2)) := by
    refine congrArg (Option.map · s.rf.cal) (funext fun ⟨h, t, w, mask, p, f⟩ => ?_)
    simp only [State.calResult]
    split_ifs <;> rfl
  exact congrArg (fun c => ((s.modRf (fun r => { r with
    calDue := r.calDue &&& (2 ^ k ^^^ 15), calTemp := r.calTemp &&& (2 ^ k ^^^ 15), calValid := if ok then r.calValid ||| 2 ^ k else r.calValid,
    cal := c })).calNoted k ok v).calNext) hcal

theorem calNoted_eq : s.calNoted k ok v =
    (let t := if ok then s.calLogEnd k else (s.evt .rfEvt 0 6).logRun 5 0 0x35 k
     if ok ∧ k = 2 then (t.setReg .rfCfg 0 (setBits (t.reg .rfCfg 0) 7 0 v)).setApp .rfCfg 0 (setBits (t.app .rfCfg 0) 7 0 v) else t) := by
  simp only [State.calNoted, Bool.and_eq_true, decide_eq_true_eq]

section
variable {u : State}

theorem calNext_stays (h : u.rf.state ≠ 4 ∨ u.rf.calDue ≠ 0 ∨ u.rf.calTemp ≠ 0) : u.calNext = u :=
  if_pos (by rw [Bool.or_eq_true, Bool.or_eq_true, decide_eq_true_eq, decide_eq_true_eq, decide_eq_true_eq, or_assoc]; exact h)

variable (h4 : u.rf.state = 4) (hd : u.rf.calDue = 0) (ht : u.rf.calTemp = 0)
include h4 hd ht

theorem calNext_done : u.calNext = if u.rf.launch.isSome then u.modRf (fun r => { r with state := 3, locked := false }) else if u.rfCalLeft = 0 then u.rfIdle else u :=
  if_neg (by rw [h4, hd, ht]; decide)

theorem calNext_launch (hl : u.rf.launch ≠ none) : u.calNext = u.modRf (fun r => { r with state := 3, locked := false }) :=
  (calNext_done h4 hd ht).trans (if_pos (Option.isSome_iff_ne_none.mpr hl))

theorem calNext_idle (hl : u.rf.launch = none) (hc : u.rfCalLeft = 0) : u.calNext = u.rfIdle :=
  (calNext_done h4 hd ht).trans ((if_neg (by rw [hl]; exact Bool.false_ne_true)).trans (if_pos hc))

theorem calNext_left (hl : u.rf.launch = none) (hc : u.rfCalLeft ≠ 0) : u.calNext = u :=
  (calNext_done h4 hd ht).trans ((if_neg (by rw [hl]; exact Bool.false_ne_true)).trans (if_neg hc))

end

section
variable {h tag mask pass fail : Nat} {want : Bool} (hcal : s.rf.cal = some (h, tag, want, mask, pass, fail))
include hcal

theorem rfCalComplete_left (hc : s.rfCalLeft ≠ 0) : s.rfCalComplete = s := by
  simp only [State.rfCalComplete, hcal, hc, ne_eq, not_false_eq_true, if_true]

theorem rfCalComplete_done (hc : s.rfCalLeft = 0) : s.rfCalComplete =
    (s.modRf (fun r => { r with cal := none })).complete h 0x73 tag want (if fail = 0 then 0 else 0x1F)
      [w32 (s.afld .rfCfg 0 7 0 * 2 ^ 24 + fail * 2 ^ 8 + pass)] (fail ≠ 0) := by
  simp only [State.rfCalComplete, hcal, hc, ne_eq, not_true_eq_false, if_false]
  rfl

end

theorem rfCalComplete_none (hcal : s.rf.cal = none) : s.rfCalComplete = s := by
  simp only [State.rfCalComplete, hcal]

theorem exec_rfCalCompletion {t : State} (h : s.rfCalComplete = t) : exec .rfCalCompletion s = .next (kept s t) := act_kept h

end

/-- Settles O49: a frame by its check, header and address, a body by its content, and the acknowledgement, the windows and the calibrations by their branches. -/
theorem radioReceiveCommandsComplete : Obligations.RadioReceiveCommandsComplete := by
  intro s
  refine ⟨?_, ?_, fun q hup hq => exec_immAck hup hq, exec_immAck_idle, ?_, ?_, ?_, fun hcal => exec_rfCalCompletion (rfCalComplete_none hcal)⟩
  · intro f rssi lqi bytes crc hup hmode u l b ok taken next discard
    have hrun : next = .next (kept s (u.radioFrame l rssi lqi)) := exec_radioFrame hup hmode
    have hcrc : u.rfCrcOk l = true ↔ ok := rfCrcOk_iff (s := u) l
    refine ⟨fun hno => hrun.trans (next_kept (radioFrame_ignored (s := u) hno)), fun htaken h1 => ?_, fun htaken h1 => ?_⟩
    · intro dst src invalid ours
      have hmac : next = .next (kept s (u.oqpskFrame b (u.rfCrcOk l) rssi lqi)) := hrun.trans (next_kept (radioFrame_oqpsk (s := u) htaken h1))
      have hbad : ¬ ok → next = .next (kept s u) := fun hno => by
        rw [hmac, Bool.eq_false_iff.mpr (fun hc => hno (hcrc.mp hc))]
        rfl
      have hgood : ok → next = .next (kept s (u.oqpskFrame b true rssi lqi)) := fun hok => by rw [hmac, hcrc.mpr hok]
      refine ⟨hbad, fun hok hv => (hgood hok).trans (next_kept (oqpskFrame_invalid (s := u) hv)), fun hok hv ht => ⟨fun tx htx hw hseq => ?_, fun h => ?_⟩,
        fun hok hv ht => ⟨fun h => ?_, fun hw h => ?_⟩⟩
      · exact (hgood hok).trans (next_kept (oqpskFrame_acked (s := u) hv ht htx hw hseq))
      · exact (hgood hok).trans (next_kept (oqpskFrame_ackOther (s := u) hv ht h))
      · exact h.elim (fun hw => (hgood hok).trans (next_kept (oqpskFrame_waits (s := u) hv ht hw)))
          (fun hno => (hgood hok).trans (next_kept (oqpskFrame_elsewhere (s := u) hv ht hno)))
      · exact (hgood hok).trans (next_kept (oqpskFrame_ours (s := u) hv ht hw h))
    · intro ours
      have hla : next = .next (kept s (u.laFrame b (u.rfCrcOk l) rssi lqi)) := hrun.trans (next_kept (radioFrame_la (s := u) htaken h1))
      have hours : u.laOurs b (u.rfCrcOk l) ↔ ours := and_congr_left' hcrc
      exact ⟨fun hno => hla.trans (next_kept (laFrame_other (s := u) (fun hc => hno (hours.mp hc)))),
        fun h => hla.trans (next_kept (laFrame_ours (s := u) (hours.mpr h)))⟩
  · intro g rssi lqi b0 b1 kind valid failed took
    refine ⟨rfBody_invalid, fun h hb hm => rfBody_barred h hb hm, fun h hb hm hc => (rfBody_plain h hb hm).trans (if_pos (congrArg Bool.not hc)),
      fun h hb hm hc => (rfBody_plain h hb hm).trans (if_neg (Bool.eq_false_iff.mp (congrArg Bool.not hc))), fun h hb ho => rfBody_unopened h hb ho, fun content h hb ho => ?_⟩
    have hopen := rfBody_opened (rssi := rssi) (lqi := lqi) h hb ho rfl
    exact ⟨fun hc => hopen.trans (if_pos (congrArg Bool.not hc)), fun hc => hopen.trans (if_neg (Bool.eq_false_iff.mp (congrArg Bool.not hc)))⟩
  · intro b hup hl u receiving
    have hrun := exec_rxWindow (b := b) hup hl
    refine ⟨fun hr h => hrun.trans (next_kept (endReceive_idle (s := u) hr h)), fun h => hrun.trans (next_kept (endReceive_kick (s := u) h)),
      rfKick_busy (s := u), fun hln ht hw => ⟨rfKick_elsewhere (s := u) hup hln ht hw, rfKick_rests (s := u) hup hln ht hw,
        rfKick_starts (s := u) hup hln ht, rfKick_calibrates (s := u) hup hln ht, rfKick_receives (s := u) hup hln ht hw⟩⟩
  · intro k v ok hup hk begins runs result kept' told u
    have hu : (s.calKept k ok).calNoted k ok v = u := calNoted_eq
    have hend : runs → exec (.radioCalibration k (some ok) v) s = .next (kept s u.calNext) := fun h =>
      (exec_calibrationEnds hup hk).trans (next_kept ((if_pos (calRuns_iff.mpr h)).trans (calEnded_eq.trans (congrArg State.calNext hu))))
    refine ⟨fun h => (exec_calibrationBegins hup hk).trans (next_kept (calStart_begins h)), fun h => (exec_calibrationBegins hup hk).trans (next_kept (calStart_waits h)),
      fun h => (exec_calibrationEnds hup hk).trans (next_kept (if_neg (fun hc => h (calRuns_iff.mp hc)))), fun h hs => (hend h).trans (next_kept (calNext_stays hs)),
      fun h h4 hd ht => ⟨fun hl => (hend h).trans (next_kept (calNext_launch h4 hd ht hl)), fun hl hc => (hend h).trans (next_kept (calNext_idle h4 hd ht hl hc)),
        fun hl hc => (hend h).trans (next_kept (calNext_left h4 hd ht hl hc))⟩⟩
  · intro h tag mask pass fail want hcal u word
    refine ⟨fun hc hf => exec_rfCalCompletion ((rfCalComplete_done hcal hc).trans ?_), fun hc hf => exec_rfCalCompletion ((rfCalComplete_done hcal hc).trans ?_),
      fun hc => exec_rfCalCompletion (rfCalComplete_left hcal hc)⟩
    · rw [if_pos hf, decide_eq_false (not_not.mpr hf)]
    · rw [if_neg hf, decide_eq_true hf]

end Sys2Proof.Machine
end
